-- ==== Sys2Proof/Word.lean ====
section
/-! DEFINITION. The widths the manual gives (00_scope.md section 5, chapters 5, 6, 8, 10, 11): what it treats
as bits is a bit vector, every other quantity is a whole number. -/

namespace Sys2Proof

/-- A byte at the terminal port, on the Quayline or in the record store. -/
abbrev Byte := BitVec 8

/-- A count that passes from 255 to 0: call number, credential epoch, sequence, sale number, restart number,
press count (R6, R47, R144, R178; section 5.1). -/
abbrev Num8 := BitVec 8

/-- A meter counter of a post, passing from 65,535 to 0 (R105). -/
abbrev Count16 := BitVec 16

/-- A 32-bit credential number (00_scope.md section 5.2). -/
abbrev Tag := BitVec 32

/-- A pump's totaliser in centilitres, passing from 4,294,967,295 to 0 (section 8.1). -/
abbrev Totaliser := BitVec 32

/-- The highest value of every 32-bit count of the manual. -/
abbrev top32 : Nat := 4294967295

/-- The highest value of every 16-bit count of the manual. -/
abbrev top16 : Nat := 65535

end Sys2Proof
end

