-- ==== Sys2Proof/Records.lean ====
section
/-! DEFINITION. The records of the manual as plain data: names as inductive types, related fields as structures.
Syntax.lean (command operands, frames, replies) and Machine/State.lean are built from these. -/

namespace Sys2Proof

/-! ### Names -/

/-- The three roles (00_scope.md section 1.3). -/
inductive Role | pontoon | fuel | gate
deriving DecidableEq, Repr, Inhabited

/-- The two Quayline channels (ch. 10). -/
inductive Channel | a | b
deriving DecidableEq, Repr, Inhabited

/-- Booking kind (section 1.2). -/
inductive Kind | resident | visitor
deriving DecidableEq, Repr, Inhabited

/-- Power classes 16 A < 32 A < 63 A (R1); also an outlet's rating (R93). -/
inductive PowerClass | a16 | a32 | a63
deriving DecidableEq, Repr, Inhabited

/-- Which kind of boat a berth admits (R1, R50). -/
inductive Allowed | residentOnly | visitorOnly | any
deriving DecidableEq, Repr, Inhabited

/-- Booking state (section 1.2). -/
inductive BookingState | tentative | reserved | current
deriving DecidableEq, Repr, Inhabited

/-- Standing (R26). -/
inductive Standing | good | low | arrears | barred
deriving DecidableEq, Repr, Inhabited

/-- How a stay ended (R10). -/
inductive EndKind | checkedOut | endedAtRollover | forcedEnd
deriving DecidableEq, Repr, Inhabited

/-- State of a hold entry (R31). -/
inductive HoldState | active | expired | settled
deriving DecidableEq, Repr, Inhabited

/-- Reason of a refused hold (section 2.5). -/
inductive HoldRefusal | noBooking | standing | listFull
deriving DecidableEq, Repr, Inhabited

/-- The four kinds of debit (R29). -/
inductive Charge | power | water | fuel | fee
deriving DecidableEq, Repr, Inhabited

/-- Post state (R88). -/
inductive PostState | unknown | online | offline
deriving DecidableEq, Repr, Inhabited

/-- Outlet state (R93). -/
inductive OutletState | off | waiting | live | shed | suspended | tripped
deriving DecidableEq, Repr, Inhabited

/-- Tap state (R103). -/
inductive TapState | closed | opened | locked
deriving DecidableEq, Repr, Inhabited

/-- Lamp patterns of a Poll (section 5.1). -/
inductive Lamp | dark | steady | slow | fast | refused
deriving DecidableEq, Repr, Inhabited

/-- Why an outlet or tap request is refused (R95, R103). -/
inductive ServiceRefusal | noBooking | standing | leak
deriving DecidableEq, Repr, Inhabited

/-- Why an outlet trips (R97). -/
inductive TripCause | fault | overCurrent
deriving DecidableEq, Repr, Inhabited

/-- Credential class (R111). -/
inductive CredClass | resident | visitor | staff | contractor
deriving DecidableEq, Repr, Inhabited

/-- Source of a lookup result (R112). -/
inductive Source | localBooking | pinned | cache | query
deriving DecidableEq, Repr, Inhabited

/-- Phase of a lookup in flight (R116). -/
inductive LookupPhase | first | requery
deriving DecidableEq, Repr, Inhabited

/-- Gate kinds (R128). -/
inductive GateKind | main | service | pontoon
deriving DecidableEq, Repr, Inhabited

/-- Gate modes (R128). -/
inductive GateMode | opened | card | restricted | closed
deriving DecidableEq, Repr, Inhabited

/-- Gate states (R128). -/
inductive GateState | locked | released | opened | ajar | forced | unlocked
deriving DecidableEq, Repr, Inhabited

/-- A door as its sense line reports it (R128). -/
inductive Door | opened | closed
deriving DecidableEq, Repr, Inhabited

/-- A strike line (R128). -/
inductive Strike | released | held
deriving DecidableEq, Repr, Inhabited

/-- The two notices of a gate (R134). -/
inductive NoticeKind | escort | ajar
deriving DecidableEq, Repr, Inhabited

/-- Reasons of a DENY (R129, R130). -/
inductive DenyReason | window | mode | unknown | noAnswer | early | barred
deriving DecidableEq, Repr, Inhabited

/-- Which outcome asked for logging (R133). -/
inductive LogReason | arrears | barredOwnGate
deriving DecidableEq, Repr, Inhabited

/-- Pump states (R141). -/
inductive PumpState | idle | authorising | ready | delivering | settling | fault
deriving DecidableEq, Repr, Inhabited

/-- Stage of a sale record (R144). -/
inductive Stage | authorising | ready | delivering | settling | listed | closed
deriving DecidableEq, Repr, Inhabited

/-- Kind of a sale (R144). -/
inductive SaleKind | purse | direct
deriving DecidableEq, Repr, Inhabited

/-- Outcome of a closed sale (R144). -/
inductive SaleOutcome | settled | uncollected | refused | abandoned | directDone | writtenOff
deriving DecidableEq, Repr, Inhabited

/-- Why a presentation at a pump or a sale is refused (R145, R146). -/
inductive SaleRefusal
  | pumpBusy | pumpFault | unknown | noAnswer | notBooking | noBooking | standing | dockBusy | linkBusy | listFull
deriving DecidableEq, Repr, Inhabited

/-- A pump's stop cause (section 8.1). -/
inductive StopCause | preset | none
deriving DecidableEq, Repr, Inhabited

/-- Channel state (R170). -/
inductive LineState | up | down
deriving DecidableEq, Repr, Inhabited

/-- Why a channel went DOWN (R171). -/
inductive DownCause | faults | silence
deriving DecidableEq, Repr, Inhabited

/-- Peer state (R185). -/
inductive PeerState | unheard | present | stale
deriving DecidableEq, Repr, Inhabited

/-- Cause of a reset (R192). -/
inductive ResetCause | powerOn | command
deriving DecidableEq, Repr, Inhabited

/-- Why an image is rejected (R196). -/
inductive ConfigReason | store | format | length | check | range | cross
deriving DecidableEq, Repr, Inhabited

/-- Selector of READ_STATEMENTS (R12). -/
inductive StatementSelector | all | unread
deriving DecidableEq, Repr, Inhabited

/-- A reader of this station (R112). -/
inductive Reader | gate (n : Nat) | pump (n : Nat)
deriving DecidableEq, Repr, Inhabited

/-- A meter of a post (R105). -/
inductive Meter | outlet (n : Nat) | tap (n : Nat)
deriving DecidableEq, Repr, Inhabited

/-! ### Identities -/

/-- Hold ID: requesting station, pump, sale number (R31). -/
structure HoldId where
  station : Nat
  pump : Nat
  sale : Num8
deriving DecidableEq, Repr, Inhabited

/-- Call reference: asking station and call number (ch. 3). -/
structure CallRef where
  asker : Nat
  number : Num8
deriving DecidableEq, Repr, Inhabited

/-- The records of the record store after the image region (section 1.6, R144). -/
inductive RecordId | station | booking (slot : Nat) | statement (slot : Nat) | sale (slot : Nat)
deriving DecidableEq, Repr, Inhabited

/-- A boat name, 1 to 16 characters (section 1.2). -/
abbrev BoatName := List Byte

/-! ### Bookings and purses (chapters 1 and 2) -/

/-- A hold entry (R31); `settled` is present when SETTLED. -/
structure Hold where
  id : HoldId
  state : HoldState
  granted : Nat
  age : Nat
  settled : Option Nat := none
deriving DecidableEq, Repr, Inhabited

/-- The purse fields of a booking (R25). -/
structure Purse where
  balance : Int := 0
  remainder : Nat := 0
  holds : List Hold := []
  lowMark : Nat
  creditLimit : Nat
  barred : Bool := false
  standing : Standing := .good
  credits : Nat := 0
  power : Nat := 0
  water : Nat := 0
  fuel : Nat := 0
  fees : Nat := 0
deriving DecidableEq, Repr, Inhabited

/-- One half of the day usage pair (section 1.2). -/
structure DayUse where
  energy : Nat := 0
  water : Nat := 0
  charges : Nat := 0
deriving DecidableEq, Repr, Inhabited

/-- What a call asks for about the boat and its stay (R46, R49): the fields a Berth Call and a Berth Take share. -/
structure Stay where
  kind : Kind
  loa : Nat
  beam : Nat
  draught : Nat
  arrival : Nat
  departure : Nat
deriving DecidableEq, Repr, Inhabited

/-- The booking record (section 1.2). `wantedFirst`, `wantedSecond` are the wanted flags of the first and second
outlet of the berth's outlet list; `expiry` is a reading of the station's own timer (R52). -/
structure Booking where
  serial : Option Nat := none
  state : BookingState
  callRef : CallRef
  expiry : Option Nat := none
  slot : Option Nat := none
  stay : Stay
  name : Option BoatName := none
  tags : List Tag := []
  epoch : Num8 := 0
  purse : Purse
  energy : Nat := 0
  water : Nat := 0
  openDay : DayUse := {}
  closedDay : DayUse := {}
  closedNumber : Option Nat := none
  wantedFirst : Bool := false
  wantedSecond : Bool := false
deriving DecidableEq, Repr, Inhabited

/-- A departure statement (R10, R11); `slot` is its statement slot 1 to 8. -/
structure Statement where
  ending : Nat
  berth : Nat
  serial : Nat
  name : Option BoatName
  arrival : Nat
  departure : Nat
  credits : Nat
  power : Nat
  water : Nat
  fuel : Nat
  fees : Nat
  energyUsed : Nat
  waterUsed : Nat
  balance : Int
  endKind : EndKind
  read : Bool := false
  slot : Nat
deriving DecidableEq, Repr, Inhabited

/-! ### Calls (chapter 3) -/

/-- An ALLOCATE request (R46) once its values are in range. -/
structure CallRequest where
  stay : Stay
  power : PowerClass
  priority : Nat
  tags : List Tag
  name : Option BoatName
deriving DecidableEq, Repr, Inhabited

/-- What a Berth Call carries beyond its reference (R47): no tags and no name. -/
structure CallBody where
  stay : Stay
  power : PowerClass
  priority : Nat
deriving DecidableEq, Repr, Inhabited

/-- One offer (R53). -/
structure Offer where
  station : Nat
  berth : Nat
  cost : Nat
deriving DecidableEq, Repr, Inhabited

/-- Phase of a call table entry (R47). -/
inductive CallPhase | collecting | taking | finished
deriving DecidableEq, Repr, Inhabited

/-- Outcome of a finished call (R47). -/
inductive CallOutcome | allocated (station berth serial : Nat) | noBerth
deriving DecidableEq, Repr, Inhabited

/-- Answer to a Berth Take (R56, R57). -/
inductive TakeResult | accept (serial : Nat) | refuse | tagInUse (tag : Tag)
deriving DecidableEq, Repr, Inhabited

/-! ### Feeder (chapter 4) -/

/-- Kind of a participant (R86). -/
inductive PartKind | own | present | stale | virtual
deriving DecidableEq, Repr, Inhabited

/-- A participant of a computation (R68, R69) with its share (R74). -/
structure Participant where
  number : Nat
  kind : PartKind
  floor : Nat
  ceiling : Nat
  demand : Nat
  excess : Nat
  share : Nat
deriving DecidableEq, Repr, Inhabited

/-! ### Posts (chapter 5) -/

/-- What a Poll commands at one outlet position (section 5.1). -/
structure OutletCommand where
  outlet : Nat
  on : Bool
  lamp : Lamp
deriving DecidableEq, Repr, Inhabited

/-- What a Poll commands at one tap position (section 5.1). -/
structure TapCommand where
  tap : Nat
  opened : Bool
  lamp : Lamp
deriving DecidableEq, Repr, Inhabited

/-- A Poll to one post (section 5.1). -/
structure Poll where
  post : Nat
  outlets : List OutletCommand
  taps : List TapCommand
deriving DecidableEq, Repr, Inhabited

/-- What an Answer reports at one outlet position (section 5.1). -/
structure OutletReading where
  energy : Count16
  current : Nat
  fault : Bool
  presses : Num8
  resets : Num8
deriving DecidableEq, Repr, Inhabited

/-- What an Answer reports at one tap position (section 5.1). -/
structure TapReading where
  volume : Count16
  presses : Num8
deriving DecidableEq, Repr, Inhabited

/-- A good Answer of a post, its positions in ascending order from 1 (section 5.1). -/
structure PostAnswer where
  restart : Num8
  outlets : List OutletReading
  taps : List TapReading
deriving DecidableEq, Repr, Inhabited

/-! ### Credentials (chapter 6) -/

/-- The booking part of a credential record, present for RESIDENT and VISITOR (R111). -/
structure CredBooking where
  berth : Nat
  serial : Nat
  state : BookingState
  standing : Standing
  epoch : Num8
deriving DecidableEq, Repr, Inhabited

/-- A credential record (R111); `window` is the contractor window where one is given. -/
structure Credential where
  tag : Tag
  owner : Nat
  cls : CredClass
  booking : Option CredBooking := none
  window : Option (Nat × Nat) := none
deriving DecidableEq, Repr, Inhabited

/-- Result of a lookup (R112). -/
inductive LookupResult | found (record : Credential) (source : Source) | unknown | noAnswer
deriving DecidableEq, Repr, Inhabited

/-- A lookup in flight (R116); its request is the pending entry whose originator names the tag. -/
structure Lookup where
  tag : Tag
  waiting : List Reader
  phase : LookupPhase := .first
  marked : Bool := false
deriving DecidableEq, Repr, Inhabited

/-- A valid way of the access cache (R118); the set is the tag's low 6 bits. -/
structure CacheEntry where
  way : Nat
  record : Credential
  validUntil : Option Nat
  pinned : Bool
deriving DecidableEq, Repr, Inhabited

/-- The counts of CACHE_STATUS (R126). -/
structure CacheCounts where
  presentations : Nat := 0
  ignored : Nat := 0
  locals : Nat := 0
  pinnedHits : Nat := 0
  cacheHits : Nat := 0
  misses : Nat := 0
  queries : Nat := 0
  requeries : Nat := 0
  unknowns : Nat := 0
  noAnswers : Nat := 0
deriving DecidableEq, Repr, Inhabited

/-! ### Gates (chapter 7) -/

/-- A day and second of the clock, as a notice or a journal entry holds them. -/
structure DayTime where
  day : Nat
  second : Nat
deriving DecidableEq, Repr, Inhabited

/-- The escort notice (R134); `time` is absent while the clock is UNSET. -/
structure EscortNotice where
  tag : Tag
  owner : Nat
  berth : Nat
  serial : Nat
  time : Option DayTime
  count : Nat
deriving DecidableEq, Repr, Inhabited

/-- The ajar notice (R134): when the door opened, absent while the clock is UNSET. -/
structure AjarNotice where
  time : Option DayTime
deriving DecidableEq, Repr, Inhabited

/-! ### Fuel (chapter 8) -/

/-- The command to a pump (section 8.1). -/
inductive PumpCommand | disabled | enabled (preset : Nat)
deriving DecidableEq, Repr, Inhabited

/-- The display code of a pump (section 8.1). -/
inductive Display | idle | ready | delivering | settling | refused (reason : SaleRefusal)
deriving DecidableEq, Repr, Inhabited

/-- A good Answer of a pump (section 8.1). -/
structure PumpReading where
  nozzleUp : Bool
  running : Bool
  stop : StopCause
  totaliser : Totaliser
deriving DecidableEq, Repr, Inhabited

/-- The credential part of a PURSE sale (R144). -/
structure SaleParty where
  tag : Tag
  owner : Nat
  berth : Nat
  serial : Nat
  epoch : Num8
deriving DecidableEq, Repr, Inhabited

/-- A sale record (R144). -/
structure Sale where
  id : HoldId
  kind : SaleKind
  stage : Stage
  party : Option SaleParty
  price : Nat
  requested : Nat
  granted : Option Nat := none
  preset : Option Nat := none
  startTotal : Option Totaliser := none
  endTotal : Option Totaliser := none
  volume : Option Nat := none
  amount : Option Nat := none
  faultMark : Bool := false
  outcome : Option SaleOutcome := none
deriving DecidableEq, Repr, Inhabited

/-- An entry of the unsettled list (R152); `slot` is its list slot 5 to 20. -/
structure Unsettled where
  sale : Sale
  order : Nat
  attempts : Nat
  inFlight : Bool
  slot : Nat
deriving DecidableEq, Repr, Inhabited

/-! ### Tariffs (chapter 9) -/

/-- A tariff set (R163). -/
structure Tariff where
  energyRate : Nat
  waterRate : Nat
  fuel1 : Nat
  fuel2 : Nat
  nightRate : Nat
deriving DecidableEq, Repr, Inhabited

/-! ### The Quayline (chapter 10) -/

/-- The error summary (R184). -/
structure ErrorSummary where
  headerCheck : Nat := 0
  payloadCheck : Nat := 0
  length : Nat := 0
  unknownKind : Nat := 0
  lateAnswer : Nat := 0
  queueFull : Nat := 0
  channelADown : Nat := 0
  channelBDown : Nat := 0
deriving DecidableEq, Repr, Inhabited

/-- What an Announce carries (R183). -/
structure AnnounceBody where
  role : Role
  floor : Nat
  ceiling : Nat
  demand : Nat
  errors : ErrorSummary
deriving DecidableEq, Repr, Inhabited

/-- An entry of the peer table (R185). -/
structure Peer where
  number : Nat
  state : PeerState := .unheard
  role : Option Role := none
  floor : Option Nat := none
  ceiling : Option Nat := none
  demand : Option Nat := none
  errors : Option ErrorSummary := none
  lastChannel : Option Channel := none
  staleAt : Option Nat := none
deriving DecidableEq, Repr, Inhabited

/-- Who asked for a pending request (R178). -/
inductive Originator
  | call (number : Num8) | lookup (tag : Tag) | pumpSale (id : HoldId) | unsettled (id : HoldId) | terminal
deriving DecidableEq, Repr, Inhabited

/-- The five kinds of request (R178). -/
inductive RequestKind | hold | settle | tagQuery | take | office
deriving DecidableEq, Repr, Inhabited

/-! ### Configuration image (sections 1.1, 11.4) -/

/-- A berth of the berth table (R1). -/
structure BerthCfg where
  number : Nat
  length : Nat
  width : Nat
  depth : Nat
  power : PowerClass
  outlets : List Nat
  tap : Option Nat
  allowed : Allowed
  priority : Nat
deriving DecidableEq, Repr, Inhabited

/-- An outlet of the post map (R88, R93). -/
structure OutletCfg where
  number : Nat
  rating : PowerClass
deriving DecidableEq, Repr, Inhabited

/-- A post of the post map; positions in ascending order from 1 (R88). -/
structure PostCfg where
  number : Nat
  outlets : List OutletCfg
  taps : List Nat
deriving DecidableEq, Repr, Inhabited

/-- A gate of the gate table (R128). -/
structure GateCfg where
  number : Nat
  kind : GateKind
  startMode : GateMode
  releaseTime : Nat
  heldOpenLimit : Nat
deriving DecidableEq, Repr, Inhabited

/-- A pinned tag (R119): `contractor` tells CONTRACTOR from STAFF. -/
structure PinCfg where
  tag : Tag
  contractor : Bool
  window : Option (Nat × Nat)
deriving DecidableEq, Repr, Inhabited

/-- A pump of the pump table (R141). -/
structure PumpCfg where
  number : Nat
  grade : Nat
deriving DecidableEq, Repr, Inhabited

/-- The values of the configuration image, in body order (section 11.4). -/
structure Image where
  station : Nat
  role : Role
  feederLimit : Nat
  floor : Nat
  ceiling : Nat
  expected : Nat
  defaultCeiling : Nat
  hysteresis : Nat
  raiseTime : Nat
  tentativeTime : Nat
  responseTimeout : Nat
  stalenessTime : Nat
  holdTimeout : Nat
  cacheLife : Nat
  restTime : Nat
  runLimit : Nat
  readyTime : Nat
  closeSecond : Nat
  lengthMargin : Nat
  widthMargin : Nat
  depthMargin : Nat
  residentLow : Nat
  residentCredit : Nat
  visitorLow : Nat
  visitorCredit : Nat
  minimumSale : Nat
  saleLimit : Nat
  residentOverstay : Bool
  visitorOverstay : Bool
  berths : List BerthCfg
  posts : List PostCfg
  start16 : Nat
  start32 : Nat
  start63 : Nat
  tariffs : List Tariff
  startSet : Nat
  gates : List GateCfg
  pins : List PinCfg
  pumps : List PumpCfg
deriving DecidableEq, Repr, Inhabited

/-- The sections of the image body in order (section 11.4). -/
inductive Section
  | station | feeder | timers | fitting | purse | berths | posts | startClaims | tariffs | gates | pins | pumps
deriving DecidableEq, Repr, Inhabited

/-- A field of the image body: its section, the place of its record in the section, its place in the record. -/
structure Field where
  part : Section
  row : Nat := 0
  item : Nat
deriving DecidableEq, Repr, Inhabited

/-- The content of a stored record (section 1.6): its kind is STATION, BOOKING, STATEMENT, SALE or EMPTY. A list slot's
sale carries its order number and attempts (R152). -/
inductive Content
  | empty
  | station (nextSerial lastEnding : Nat)
  | booking (berth : Nat) (b : Booking)
  | statement (st : Statement)
  | sale (s : Sale) (entry : Option (Nat × Nat))
deriving DecidableEq, Repr, Inhabited

/-- A record as the store holds it (section 1.6): whether its CRC agrees, its own slot number, its content. -/
structure StoredRecord where
  good : Bool
  id : RecordId
  content : Content
deriving DecidableEq, Repr, Inhabited

end Sys2Proof
end

