-- ==== Sys2Proof/Report.lean ====
section
/-! DEFINITION. The journal: one constructor of Report per entry kind the chapters name (R192). The first field is the
subject the writing rule names, the others are its details in the order the rule gives them (log entry 8: how they
are packed into two 64-bit words is not in the spec). -/

namespace Sys2Proof

/-- The commands of section 11.2; a command's code is known by this name (log entry 5). -/
inductive CmdKind
  | checkOut | cancel | extend | setTags | readBooking | readStatements | credit | bar | unbar | setMarks | dropHold
  | allocate | callStatus | loadStatus | energise | off | resetOutlet | clearLeak | postStatus | tagStatus | cacheStatus
  | flushCache | setGateMode | gateStatus | gateAck | directAuthorise | cancelSale | writeOffSale | saleStatus | setTime
  | dayStatus | selectTariff | linkStatus | status | setReplyLimit | journalRead | journalAck | writeConfig | restart
deriving DecidableEq, Repr, Inhabited

/-- The command code of a frame: one of section 11.2, or another byte (R187). -/
inductive CmdCode | known (k : CmdKind) | other (code : Byte)
deriving DecidableEq, Repr, Inhabited

/-- What a gate decision's entry says of the credential (R133). -/
structure AccessDetail where
  gate : Nat
  cls : Option CredClass
  owner : Option Nat
  berth : Option Nat
  serial : Option Nat
  source : Option Source
  epoch : Option Num8
deriving DecidableEq, Repr, Inhabited

/-- What SALE_SETTLED and UNCOLLECTED say of a sale (R151, R154). -/
structure SaleDetail where
  sale : Num8
  volume : Nat
  amount : Nat
  owner : Nat
  berth : Nat
  serial : Nat
  epoch : Num8
  faultMark : Bool
deriving DecidableEq, Repr, Inhabited

/-- The journal entry kinds with their subject and details. -/
inductive Report
  -- chapter 1
  | bookingMade (berth serial arrival : Nat)
  | bookingCurrent (berth serial : Nat)
  | bookingEnded (berth serial : Nat) (kind : EndKind)
  | bookingCancelled (berth serial : Nat) (balance : Int)
  | statementLost (berth serial : Nat)
  | recordLost (record : RecordId) (berth : Option Nat)
  | endedRecovered (serial : Nat)
  | storeFault (record : RecordId)
  | storeOk (dirty : Nat)
  | tagClash (tag : Tag) (owner : Option (Nat × Nat)) (call : Option Num8)
  -- chapter 2
  | standingChanged (berth : Nat) (old new : Standing) (serial : Nat)
  | debitLost (berth serial lost : Nat)
  | holdExpired (berth : Nat) (id : HoldId) (granted : Nat)
  | holdRefused (berth : Nat) (id : HoldId) (reason : HoldRefusal)
  | holdGranted (berth : Nat) (id : HoldId) (granted : Nat)
  | lateSettle (berth : Nat) (id : HoldId) (amount : Nat)
  | unmatchedSettle (berth : Nat) (id : HoldId) (amount : Nat)
  | credit (berth amount : Nat) (balance : Int)
  | barSet (berth serial : Nat)
  | barCleared (berth serial : Nat)
  | marksSet (berth lowMark creditLimit : Nat)
  | holdDropped (berth : Nat) (id : HoldId)
  -- chapter 3
  | takeUncertain (station berth : Nat) (call : Num8)
  | callDone (call : Num8) (outcome : CallOutcome)
  -- chapter 4
  | floorsOver (sum limit : Nat)
  | floorsCleared (sum limit : Nat)
  | allotmentCut (station old new : Nat)
  -- chapter 5
  | postOnline (post : Nat) (seconds : Option Nat)
  | postRestarted (post : Nat) (old new : Num8)
  | postOffline (post : Nat)
  | outletRefused (outlet : Nat) (reason : ServiceRefusal) (berth : Option Nat)
  | outletTripped (outlet : Nat) (cause : TripCause) (current : Nat)
  | outletShed (outlet claim allotment : Nat)
  | tapRefused (tap : Nat) (reason : ServiceRefusal)
  | leak (tap count : Nat) (berth : Option Nat)
  | leakCleared (tap : Nat)
  | meterJump (meter : Meter) (old new : Count16)
  | usageUnassigned (meter : Meter) (units : Nat)
  -- chapter 6
  | pinSkipped (tag : Tag) (cacheSet : Nat)
  | revokeLost (tag : Tag) (count : Nat)
  | cacheFlushed (dropped : Nat)
  -- chapter 7
  | accessLogged (tag : Tag) (detail : AccessDetail) (reason : LogReason)
  | accessDenied (tag : Tag) (detail : AccessDetail) (reason : DenyReason)
  | escort (tag : Tag) (gate owner berth : Nat)
  | gateAjar (gate limit : Nat)
  | gateForced (gate : Nat)
  | doorClosed (gate seconds : Nat)
  | gateMode (gate : Nat) (old new : GateMode)
  | noticeAck (gate : Nat) (kind : NoticeKind)
  -- chapter 8
  | pumpFault (pump : Nat) (left : PumpState)
  | pumpOk (pump : Nat)
  | pumpFlow (pump difference : Nat)
  | saleRefused (pump : Nat) (reason : SaleRefusal) (tag : Tag) (faultMark : Bool)
  | saleAuthorised (pump : Nat) (sale : Num8) (granted preset : Nat) (faultMark : Bool)
  | volumeClamped (pump volume : Nat) (faultMark : Bool)
  | saleOverrun (pump preset volume : Nat) (faultMark : Bool)
  | saleSettled (pump : Nat) (detail : SaleDetail)
  | uncollected (pump : Nat) (detail : SaleDetail)
  | settleMismatch (id : HoldId) (amount answered : Nat) (faultMark : Bool)
  | saleWrittenOff (id : HoldId) (amount : Nat) (faultMark : Bool)
  | directSale (pump : Nat) (sale : Num8) (preset volume price amount : Nat) (faultMark : Bool)
  | saleCancelled (pump : Nat) (left : PumpState) (faultMark : Bool)
  | saleAbandoned (id : HoldId) (faultMark : Bool)
  | saleLost (id : HoldId) (amount : Nat) (faultMark : Bool)
  -- chapter 9
  | clockSet (station : Nat) (old : Option DayTime) (new : DayTime) (queued : Option Bool)
  | dayRollover (newDay closingSet inForce ended : Nat)
  | dayLimit
  | overstay (berth serial departure : Nat)
  | tariffStaged (staged inForce : Nat)
  -- chapter 10
  | channelDown (channel : Channel) (cause : DownCause)
  | channelUp (channel : Channel)
  | stationClash (channel : Channel)
  | peerHeard (peer : Nat) (former : PeerState)
  | peerErrors (peer : Nat) (errors : ErrorSummary)
  | peerStale (peer : Nat)
  -- chapter 11
  | officeUncertain (station : Nat) (command : CmdKind)
  | restart (cause : ResetCause)
  | configLoaded (length check : Nat)
  | configRejected (reason : ConfigReason) (offset : Option Nat)
  | configClamped (offset value : Nat)
  | configWritten (length check : Nat)
  | configWriteFailed
deriving DecidableEq, Repr, Inhabited

/-- A journal entry (R192); `time` is absent while the clock is UNSET. -/
structure JournalEntry where
  sequence : Nat
  time : Option DayTime
  report : Report
deriving DecidableEq, Repr, Inhabited

end Sys2Proof
end

