-- ==== Sys2Proof/Syntax.lean ====
section
/-! DEFINITION. The commands of the station: one constructor of Instr per row of spec/opcode_table.json, with the
operands its rule gives it. Also what commands carry: terminal commands (section 11.2), Quayline frames (R173) and
replies (section 11.1). The table gives no row any bits. -/

namespace Sys2Proof

/-! ### Terminal commands -/

/-- An ALLOCATE as the terminal sends it (R46): `none` stands for a code that names no kind or class. -/
structure AllocateForm where
  kind : Option Kind
  loa : Nat
  beam : Nat
  draught : Nat
  arrival : Nat
  departure : Nat
  power : Option PowerClass
  priority : Nat
  tags : List Tag
  name : Option BoatName
deriving DecidableEq, Repr, Inhabited

/-- A terminal command with its payload fields (section 11.2). `resume` is the resume field, 0 for the beginning;
`none` in a field of names stands for a code that names none of them. GATE_ACK and READ_STATEMENTS have no such form: what a
notice kind that is neither ESCORT nor AJAR, or a selector that is neither ALL nor UNREAD, is answered is left to
Config.readCommand (the model's choice, log entry 68). -/
inductive TermCmd
  | checkOut (station berth serial : Nat)
  | cancel (station berth serial : Nat)
  | extend (station berth serial departure : Nat)
  | setTags (station berth serial : Nat) (tags : List Tag)
  | readBooking (station berth serial resume : Nat)
  | readStatements (selector : StatementSelector) (resume : Nat)
  | credit (station berth serial amount : Nat)
  | bar (station berth serial : Nat)
  | unbar (station berth serial : Nat)
  | setMarks (station berth serial lowMark creditLimit : Nat)
  | dropHold (station berth serial : Nat) (id : HoldId)
  | allocate (form : AllocateForm)
  | callStatus (call : Option Num8) (resume : Nat)
  | loadStatus (resume : Nat)
  | energise (station berth place : Nat)
  | off (station berth place : Nat)
  | resetOutlet (station berth place : Nat)
  | clearLeak (station berth : Nat)
  | postStatus (resume : Nat)
  | tagStatus (tag : Tag)
  | cacheStatus
  | flushCache
  | setGateMode (station gate : Nat) (mode : Option GateMode)
  | gateStatus (station resume : Nat)
  | gateAck (station gate : Nat) (kind : NoticeKind)
  | directAuthorise (station pump amount : Nat)
  | cancelSale (station pump : Nat)
  | writeOffSale (station pump : Nat) (sale : Num8)
  | saleStatus (station resume : Nat)
  | setTime (day second : Nat)
  | dayStatus
  | selectTariff (station number : Nat)
  | linkStatus (resume : Nat)
  | status (station : Nat)
  | setReplyLimit (limit : Nat)
  | journalRead (start : Nat)
  | journalAck (sequence : Nat)
  | writeConfigBegin (length : Nat)
  | writeConfigData (offset : Nat) (bytes : List Byte)
  | writeConfigCommit
  | restart
deriving DecidableEq, Repr, Inhabited

/-- The command code of a terminal command (section 11.2); the three forms of WRITE_CONFIG share one (R197). -/
def TermCmd.kind : TermCmd → CmdKind
  | .checkOut _ _ _ => .checkOut
  | .cancel _ _ _ => .cancel
  | .extend _ _ _ _ => .extend
  | .setTags _ _ _ _ => .setTags
  | .readBooking _ _ _ _ => .readBooking
  | .readStatements _ _ => .readStatements
  | .credit _ _ _ _ => .credit
  | .bar _ _ _ => .bar
  | .unbar _ _ _ => .unbar
  | .setMarks _ _ _ _ _ => .setMarks
  | .dropHold _ _ _ _ => .dropHold
  | .allocate _ => .allocate
  | .callStatus _ _ => .callStatus
  | .loadStatus _ => .loadStatus
  | .energise _ _ _ => .energise
  | .off _ _ _ => .off
  | .resetOutlet _ _ _ => .resetOutlet
  | .clearLeak _ _ => .clearLeak
  | .postStatus _ => .postStatus
  | .tagStatus _ => .tagStatus
  | .cacheStatus => .cacheStatus
  | .flushCache => .flushCache
  | .setGateMode _ _ _ => .setGateMode
  | .gateStatus _ _ => .gateStatus
  | .gateAck _ _ _ => .gateAck
  | .directAuthorise _ _ _ => .directAuthorise
  | .cancelSale _ _ => .cancelSale
  | .writeOffSale _ _ _ => .writeOffSale
  | .saleStatus _ _ => .saleStatus
  | .setTime _ _ => .setTime
  | .dayStatus => .dayStatus
  | .selectTariff _ _ => .selectTariff
  | .linkStatus _ => .linkStatus
  | .status _ => .status
  | .setReplyLimit _ => .setReplyLimit
  | .journalRead _ => .journalRead
  | .journalAck _ => .journalAck
  | .writeConfigBegin _ => .writeConfig
  | .writeConfigData _ _ => .writeConfig
  | .writeConfigCommit => .writeConfig
  | .restart => .restart

/-- The station a command marked as forwarded names; `none` for a command that is not forwarded (section 11.2). -/
def TermCmd.names : TermCmd → Option Nat
  | .checkOut st _ _ | .cancel st _ _ | .extend st _ _ _ | .setTags st _ _ _ | .readBooking st _ _ _ => some st
  | .credit st _ _ _ | .bar st _ _ | .unbar st _ _ | .setMarks st _ _ _ _ | .dropHold st _ _ _ => some st
  | .energise st _ _ | .off st _ _ | .resetOutlet st _ _ | .clearLeak st _ => some st
  | .setGateMode st _ _ | .gateStatus st _ | .gateAck st _ _ => some st
  | .directAuthorise st _ _ | .cancelSale st _ | .writeOffSale st _ _ | .saleStatus st _ => some st
  | .selectTariff st _ | .status st => some st
  | .readStatements _ _ | .allocate _ | .callStatus _ _ | .loadStatus _ | .postStatus _ | .tagStatus _ => none
  | .cacheStatus | .flushCache | .setTime _ _ | .dayStatus | .linkStatus _ | .setReplyLimit _ => none
  | .journalRead _ | .journalAck _ | .writeConfigBegin _ | .writeConfigData _ _ | .writeConfigCommit | .restart => none

/-! ### Replies -/

/-- Result codes of replies, by the names the chapters give. -/
inductive Result
  | ok | badFrame | unknownCommand | configFault | badLength | starting | badValue | tooLong | linkBusy | noAnswer
  | noBerth | noBooking | wrongState | holdsOpen | badInterval | overlap | badTags | tagInUse | badAmount | overLimit
  | noHold | timeUnset | callsBusy | callOpen | collecting | taking | allocated | noCall | noOutlet | noTap | standing
  | faultPresent | noGate | noNotice | noPump | pumpBusy | pumpFault | settleInFlight | noSale | badOffset | incomplete
  | badConfig | storeFault
deriving DecidableEq, Repr, Inhabited

/-- The fixed part of a LOAD_STATUS reply (R86). -/
structure LoadFixed where
  limit : Nat
  floor : Nat
  ceiling : Nat
  expected : Nat
  defaultCeiling : Nat
  hysteresis : Nat
  demand : Nat
  declared : Nat
  computed : Nat
  applied : Nat
  committed : Option Nat
  raiseLeft : Option Nat
  floorsOver : Bool
  held : Bool
deriving DecidableEq, Repr, Inhabited

/-- An outlet line of POST_STATUS (R109). -/
structure OutletLine where
  outlet : Nat
  berth : Option Nat
  state : OutletState
  smoothed : Nat
  claim : Nat
  energise : Option Nat
  key : Option Nat
  restLeft : Option Nat
  overCurrent : Nat
  baseline : Option Count16
deriving DecidableEq, Repr, Inhabited

/-- A tap line of POST_STATUS (R109). -/
structure TapLine where
  tap : Nat
  berth : Option Nat
  state : TapState
  runLeft : Option Nat
  leakCount : Nat
  leakMark : Bool
  baseline : Option Count16
deriving DecidableEq, Repr, Inhabited

/-- A gate line of GATE_STATUS (R139). -/
structure GateLine where
  gate : Nat
  kind : GateKind
  mode : GateMode
  state : GateState
  door : Door
  strike : Strike
  releaseLeft : Option Nat
  heldOpenLeft : Option Nat
  openFor : Option Nat
  escort : Option EscortNotice
  ajar : Option AjarNotice
  grants : Nat
  logged : Nat
  denials : Nat
  exits : Nat
  forcings : Nat
deriving DecidableEq, Repr, Inhabited

/-- A pump line of SALE_STATUS (R156). -/
structure PumpLine where
  pump : Nat
  state : PumpState
  misses : Nat
  latest : Option PumpReading
  command : PumpCommand
  display : Display
  sale : Option Sale
deriving DecidableEq, Repr, Inhabited

/-- What LINK_STATUS says of a channel (R186). -/
structure ChannelLine where
  state : LineState
  faults : Nat
  silent : Bool
  sinceFrame : Option Nat
deriving DecidableEq, Repr, Inhabited

/-- The fixed part of a LINK_STATUS reply (R186); `queued` counts the transmit queue entries by priority, 1 to 6. -/
structure LinkFixed where
  lineA : ChannelLine
  lineB : ChannelLine
  response : Nat
  staleness : Nat
  errors : ErrorSummary
  queued : List Nat
deriving DecidableEq, Repr, Inhabited

/-- A pending line of LINK_STATUS (R186); `left` is `none` for "queued". -/
structure PendingLine where
  kind : RequestKind
  destination : Nat
  sequence : Num8
  attempt : Nat
  channel : Channel
  left : Option Nat
  originator : Originator
deriving DecidableEq, Repr, Inhabited

/-- One whole item of a reply's payload (R188). -/
inductive Item
  | number (n : Nat)
  | money (cents : Int)
  | tag (t : Tag)
  | standing (s : Standing)
  | outletState (s : OutletState)
  | gateState (s : GateState)
  | queued (b : Bool)
  | reason (r : ConfigReason) (offset : Option Nat)
  | statement (st : Statement)
  -- READ_BOOKING (R18, R25)
  | serial (n : Option Nat)
  | bookingState (s : BookingState)
  | callRef (r : CallRef)
  | kind (k : Kind)
  | boat (loa beam draught : Nat) (name : Option BoatName)
  | arrival (day : Nat)
  | departure (day : Nat)
  | tags (ts : List Tag)
  | epoch (e : Num8)
  | balance (cents : Int)
  | remainder (n : Nat)
  | available (cents : Int)
  | lowMark (n : Nat)
  | creditLimit (n : Nat)
  | barMark (b : Bool)
  | credits (n : Nat)
  | charged (kind : Charge) (n : Nat)
  | hold (h : Hold)
  | usage (energy water : Nat)
  | openDay (d : DayUse)
  | closedDay (d : DayUse) (number : Option Nat)
  | wanted (first second : Bool)
  | berthNumber (n : Nat)
  | berthLength (cm : Nat)
  | berthWidth (cm : Nat)
  | berthDepth (cm : Nat)
  | powerClass (c : PowerClass)
  | outletList (outlets : List Nat)
  | tapNumber (tap : Option Nat)
  | allowed (a : Allowed)
  | priority (n : Nat)
  | bookingLine (state : BookingState) (serial : Option Nat) (arrival departure : Nat) (ref : CallRef)
  -- CALL_STATUS (R61)
  | call (number : Num8) (phase : CallPhase) (offers : Nat) (inFlight : Option (Nat × Nat)) (outcome : Option CallOutcome)
  -- LOAD_STATUS (R86), POST_STATUS (R109)
  | load (f : LoadFixed)
  | participant (p : Participant)
  | firstRound (complete : Bool)
  | loadNow (committed applied : Nat)
  | unassigned (energy water : Nat)
  | post (number : Nat) (state : PostState) (misses : Nat) (restart : Option Num8) (sinceGood : Option Nat)
  | outlet (l : OutletLine)
  | tap (l : TapLine)
  | restoreQueue (outlets : List Nat)
  -- TAG_STATUS, CACHE_STATUS (R126)
  | localTag (found : Option (Nat × Nat × Num8))
  | cacheSet (n : Nat)
  | cacheWay (entry : CacheEntry) (expired : Bool) (left : Option Nat)
  | lookup (l : Lookup)
  | cacheCounts (c : CacheCounts) (valid pinned inFlight : Nat)
  -- GATE_STATUS, GATE_ACK (R139)
  | gate (l : GateLine)
  | escort (n : EscortNotice)
  | ajar (n : AjarNotice)
  -- SALE_STATUS (R156)
  | pump (l : PumpLine)
  | saleCounts (inProgress unsettled : Nat)
  | retryLeft (seconds : Option Nat)
  | unsettled (u : Unsettled)
  -- DAY_STATUS (R169), STATUS (R191)
  | clock (t : Option DayTime)
  | close (second : Nat) (left : Option Nat)
  | inForce (number : Nat)
  | staged (number : Option Nat)
  | tariff (number : Nat) (t : Tariff)
  | overstay (kind : Kind) (allowed : Bool)
  | identity (station : Option Nat) (role : Option Role)
  | accepted
  | rejected (r : ConfigReason) (offset : Option Nat)
  | store (fault : Bool) (dirty : Nat)
  | journal (held unread mark next overflow : Nat) (attention : Bool)
  | port (limit dropped discarded : Nat)
  | staging (filling : Bool) (filled : Nat)
  -- LINK_STATUS (R186)
  | link (f : LinkFixed)
  | pendingLine (l : PendingLine)
  | peer (p : Peer) (left : Option Nat)
  -- JOURNAL_READ (R194)
  | entry (e : JournalEntry)
deriving DecidableEq, Repr, Inhabited

/-- A reply (section 11.1, R188): `resume` is present when MORE is set; CUT says that the one item is cut at the
limit. -/
structure Reply where
  code : CmdCode
  result : Result
  resume : Option Nat := none
  cut : Bool := false
  gap : Bool := false
  items : List Item := []
deriving DecidableEq, Repr, Inhabited

/-! ### Quayline frames (R173) -/

/-- Answer to a Hold Request (section 2.5). -/
inductive HoldResult | granted (amount : Nat) | refused (reason : HoldRefusal)
deriving DecidableEq, Repr, Inhabited

/-- Answer to a Settle Request (section 2.6). -/
inductive SettleResult | settled (amount : Nat) | noBooking
deriving DecidableEq, Repr, Inhabited

/-- What an Office Request carries (R189): a command; the code of a command with a payload whose length that command does not allow
(`misfit`: R190 gives it no answer of its own, and what the model answers is its choice, log entry 96); or a code that is not one
of section 11.2 (R190). -/
inductive OfficeCommand | known (c : TermCmd) | misfit (kind : CmdKind) (payload : List Byte) | other (code : Byte)
deriving DecidableEq, Repr, Inhabited

/-- The command code of an Office Request. -/
def OfficeCommand.code : OfficeCommand → CmdCode
  | .known c => .known c.kind
  | .misfit k _ => .known k
  | .other b => .other b

/-- A frame's kind with its payload fields (R173). An Announce takes its values when its sending begins (R183), so a
waiting one holds none. -/
inductive FrameBody
  | holdRequest (id : HoldId) (tag : Tag) (serial amount : Nat)
  | holdAnswer (id : HoldId) (result : HoldResult)
  | settleRequest (id : HoldId) (serial amount : Nat)
  | settleAnswer (id : HoldId) (result : SettleResult)
  | tagQuery (tag : Tag)
  | tagAnswer (record : Credential) (departure : Nat)
  | tagRevoke (owner : Nat) (tags : List Tag)
  | berthCall (ref : CallRef) (body : CallBody)
  | berthOffer (ref : CallRef) (berth cost : Nat)
  | berthTake (ref : CallRef) (berth : Nat) (stay : Stay) (tags : List Tag) (name : Option BoatName)
  | takeAnswer (ref : CallRef) (berth : Nat) (result : TakeResult)
  | berthClose (ref : CallRef) (winner : Option (Nat × Nat))
  | officeRequest (command : OfficeCommand) (limit : Nat)
  | officeAnswer (reply : Reply)
  | announce (values : Option AnnounceBody)
  | timeNotice (day second : Nat)
deriving DecidableEq, Repr, Inhabited

/-- A frame without its source, which is the sending station (R172). -/
structure Frame where
  destination : Nat
  sequence : Num8
  body : FrameBody
deriving DecidableEq, Repr, Inhabited

/-! ### Commands -/

/-- The commands of the station, one per row of spec/opcode_table.json. A frame's row carries the channel of arrival
and the source station, and the sequence where its kind has one (R172). -/
inductive Instr
  -- resets and the terminal frame
  | powerOnReset (readsReady : Bool)
  | frameGapTimeout
  | replySent (readsReady : Bool)
  -- terminal commands
  | checkOut (station berth serial : Nat)
  | cancel (station berth serial : Nat)
  | extend (station berth serial departure : Nat)
  | setTags (station berth serial : Nat) (tags : List Tag)
  | readBooking (station berth serial resume : Nat)
  | readStatements (selector : StatementSelector) (resume : Nat)
  | credit (station berth serial amount : Nat)
  | bar (station berth serial : Nat)
  | unbar (station berth serial : Nat)
  | setMarks (station berth serial lowMark creditLimit : Nat)
  | dropHold (station berth serial : Nat) (id : HoldId)
  | allocate (form : AllocateForm)
  | callStatus (call : Option Num8) (resume : Nat)
  | loadStatus (resume : Nat)
  | energise (station berth place : Nat)
  | off (station berth place : Nat)
  | resetOutlet (station berth place : Nat)
  | clearLeak (station berth : Nat)
  | postStatus (resume : Nat)
  | tagStatus (tag : Tag)
  | cacheStatus
  | flushCache
  | setGateMode (station gate : Nat) (mode : Option GateMode)
  | gateStatus (station resume : Nat)
  | gateAck (station gate : Nat) (kind : NoticeKind)
  | directAuthorise (station pump amount : Nat)
  | cancelSale (station pump : Nat)
  | writeOffSale (station pump : Nat) (sale : Num8)
  | saleStatus (station resume : Nat)
  | setTime (day second : Nat)
  | dayStatus
  | selectTariff (station number : Nat)
  | linkStatus (resume : Nat)
  | status (station : Nat)
  | setReplyLimit (limit : Nat)
  | journalRead (start : Nat)
  | journalAck (sequence : Nat)
  | writeConfigBegin (length : Nat)
  | writeConfigData (offset : Nat) (bytes : List Byte)
  | writeConfigCommit
  | restart
  -- the record store
  | configWriteStart
  | configWriteEnd (complete : Bool)
  | storeWriteStart
  | storeWriteEnd (equal : Bool)
  | storeWriteTimeout
  | storeRetryTimer
  -- bookings, purses, calls
  | tentativeExpiry (berth : Nat) (ref : CallRef)
  | holdMinuteTimer
  | holdRequest (ch : Channel) (source : Nat) (sequence : Num8) (id : HoldId) (tag : Tag) (serial amount : Nat)
  | settleRequest (ch : Channel) (source : Nat) (sequence : Num8) (id : HoldId) (serial amount : Nat)
  | berthCall (ch : Channel) (source : Nat) (ref : CallRef) (body : CallBody)
  | berthOffer (ch : Channel) (source : Nat) (ref : CallRef) (berth cost : Nat)
  | windowExpiry (call : Num8)
  | berthTake (ch : Channel) (source : Nat) (sequence : Num8) (ref : CallRef) (berth : Nat) (stay : Stay) (tags : List Tag) (name : Option BoatName)
  | takeAnswer (ch : Channel) (source : Nat) (sequence : Num8) (ref : CallRef) (berth : Nat) (result : TakeResult)
  | berthClose (ch : Channel) (source : Nat) (ref : CallRef) (winner : Option (Nat × Nat))
  -- feeder and posts
  | computationTimer
  | raiseTimer
  | pollRoundTimer
  | postAnswer (post : Nat) (answer : PostAnswer)
  | postMiss
  | restTimer (outlet : Nat)
  | tapRunTimer (tap : Nat)
  | refusedLampExpiry (meter : Meter)
  -- tags and gates
  | presentation (reader : Reader) (tag : Tag)
  | tagQuery (ch : Channel) (source : Nat) (sequence : Num8) (tag : Tag)
  | tagAnswer (ch : Channel) (source : Nat) (sequence : Num8) (record : Credential) (departure : Nat)
  | tagRevoke (ch : Channel) (source : Nat) (owner : Nat) (tags : List Tag)
  | exitButton (gate : Nat)
  | doorSense (gate : Nat) (door : Door)
  | releaseTimer (gate : Nat)
  | heldOpenTimer (gate : Nat)
  | faultExitReleaseExpiry (gate : Nat)
  -- the fuel dock
  | pumpPollTimer (pump : Nat)
  | pumpAnswer (pump : Nat) (reading : PumpReading)
  | pumpMiss (pump : Nat)
  | pumpRefusedDisplayExpiry (pump : Nat)
  | holdAnswer (ch : Channel) (source : Nat) (sequence : Num8) (id : HoldId) (result : HoldResult)
  | readyTimer (pump : Nat)
  | settleAnswer (ch : Channel) (source : Nat) (sequence : Num8) (id : HoldId) (result : SettleResult)
  | saleRetryTimer
  -- the day
  | clockSecond
  | timeNotice (ch : Channel) (source day second : Nat)
  -- the Quayline
  | announce (ch : Channel) (source : Nat) (body : AnnounceBody)
  | officeRequest (ch : Channel) (source : Nat) (sequence : Num8) (command : OfficeCommand) (limit : Nat)
  | officeAnswer (ch : Channel) (source : Nat) (sequence : Num8) (reply : Reply)
  | silenceTimer (ch : Channel)
  | transmitStart (ch : Channel)
  | transmitComplete (ch : Channel)
  | arbitrationLost (ch : Channel)
  | transmitFault (ch : Channel)
  | mediumBusyTimeout (ch : Channel)
  | responseTimeout (sequence : Num8)
  | attemptDrop (sequence : Num8)
  | announceTimer
  | stalenessTimer (peer : Nat)
  -- bytes, dropped frames, the end of the load
  | terminalByte (byte : Byte)
  | quaylineFrameDropped (ch : Channel) (bytes : List Byte)
  | loadEnd
deriving DecidableEq, Repr, Inhabited

end Sys2Proof
end

