-- ==== Sys2Proof/Decode.lean ====
section
/-! DEFINITION. Reading a command from a word of spec/opcode_table.json. The table gives none of its 103 rows any bits
(every row's "fields" is empty and no row has "fixed"), so no word spells a command (log entry 3). The reading of
terminal and Quayline frames is Machine/Operands.lean. -/

namespace Sys2Proof

/-- The command the low `nbits` bits of `w` spell by the table: none, for every word. -/
def decodeTableWord (nbits w : Nat) : Option Instr :=
  match nbits, w with
  | _, _ => none

end Sys2Proof
end

