-- ==== Sys2Proof/Config.lean ====
section
/-! DEFINITION. What the spec leaves open, as constants without a body: nothing can be proved about a value of theirs
beyond what holds of every value. The layouts the spec does not give (00_scope.md section 4: "everything else is given
as named fields and values") and the values it does not state. -/

namespace Sys2Proof

/-- Which byte is the code of which command: the spec numbers no command (log entry 5). -/
opaque Config.commandKind : Byte → Option CmdKind

/-- The payload fields of a command, read from the payload bytes; `none` where the payload length is not one the
command allows (R187). The spec lays no payload out (log entry 5). -/
opaque Config.readCommand : CmdKind → List Byte → Option TermCmd

/-- How many payload bytes carry a command (R187, R189; log entry 5). -/
opaque Config.payloadBytes : TermCmd → Nat

/-- How many bytes an item of a reply takes (R188; log entry 6). -/
opaque Config.itemBytes : Item → Nat

/-- The payload fields of a Quayline frame of the given kind code (R173 gives the lengths and no layout; log entry 7). -/
opaque Config.readPayload : Nat → List Byte → FrameBody

/-- A payload byte of a Quayline frame by its place (R173 gives the lengths and no layout; log entry 7). -/
opaque Config.payloadByte : FrameBody → Nat → Byte

/-- How many bytes an Office Answer takes for its payload, of the 2 to 48 of R173 (log entry 7). -/
opaque Config.answerBytes : Reply → Nat

/-- The values of an image body, with the fields whose bytes name no value of their type; the spec gives the order of
the sections and no layout (section 11.4; log entry 9). -/
opaque Config.readBody : List Byte → Image × List Field

/-- The offset of a field of an image body within the region (R196; log entry 9). -/
opaque Config.fieldOffset : List Byte → Field → Nat

/-- A write that failed or was cut off has damaged its slot; otherwise the slot keeps its last completed content (R22; log
entry 10). Free value: applied to State.free. -/
opaque Config.slotDamaged : Nat → Bool

/-- What a damaged slot holds, but for its check, which does not agree (R22; log entry 10). Free value: applied to
State.free. -/
opaque Config.brokenRecord : Nat → StoredRecord

/-- What a byte the image write was to write holds after an image write that failed or was cut off (R197; log entry 10).
Free value: applied to State.free and to the place of the byte. -/
opaque Config.brokenByte : Nat → Nat → Byte

/-- The number that follows a 32-bit number at its top (journal sequences, ending, order, join and energise numbers;
R10, R93, R152, R192 state none; log entry 11). Free value: applied to the number. -/
opaque Config.pastTop : Nat → Nat

end Sys2Proof
end

