-- ==== Sys2Proof/Machine/State.lean ====
section
/-! DEFINITION. The state of the station as plain data: one structure per block that holds state (00_scope.md section
3), the record store beside them, and the queue of waiting commands. A deadline is a reading of `State.now`, the
milliseconds since the reset (log entry 2); "absent" is `none`. -/

namespace Sys2Proof.Machine

/-! ### Record store and BST (chapter 1) -/

/-- The record store (section 1.6): the bytes of the image region, listed where they are not 0, and the records after
it, listed where they are not a good EMPTY record. Keys rise strictly. -/
structure Store where
  region : List Host.Cell := []
  slots : List (Nat × StoredRecord) := []
deriving DecidableEq, Repr, Inhabited

/-- The write in flight (R21): the copy being written, whether the record changed after it was taken, when the store
must be ready, and whether this is the attempt of the retry timer (R22). -/
structure WriteInFlight where
  id : RecordId
  copy : StoredRecord
  changed : Bool := false
  deadline : Nat
  retry : Bool := false
deriving DecidableEq, Repr, Inhabited

/-- A berth: its configured fields and its booking list (R1, R2). -/
structure Berth where
  cfg : BerthCfg
  bookings : List Booking := []
deriving DecidableEq, Repr, Inhabited

/-- BST's state (R1, R2, R5, R10, R11, R20 to R22). -/
structure Bst where
  berths : List Berth := []
  nextSerial : Nat := 1
  lastEnding : Nat := 0
  statements : List Statement := []
  queue : List RecordId := []
  inFlight : Option WriteInFlight := none
  fault : Bool := false
  retryAt : Option Nat := none
deriving DecidableEq, Repr, Inhabited

/-! ### ALC (chapter 3) -/

/-- A call table entry (R47). -/
structure Call where
  number : Num8
  phase : CallPhase
  request : CallRequest
  windowAt : Option Nat
  offers : List Offer := []
  inFlight : Option (Nat × Nat) := none
  outcome : Option CallOutcome := none
  finishOrder : Option Nat := none
deriving DecidableEq, Repr, Inhabited

/-- ALC's state (R47, R48): the call counter, the entries that are not free, the finish count. -/
structure Alc where
  nextCall : Num8 := 0
  calls : List Call := []
  finished : Nat := 0
deriving DecidableEq, Repr, Inhabited

/-! ### LSU (chapter 4) -/

/-- LSU's state (R67). F, C, L and the other configured values are in `State.cfg`. -/
structure Lsu where
  demand : Nat := 0
  declared : Nat := 0
  computed : Nat := 0
  applied : Nat := 0
  raiseAt : Option Nat := none
  computationAt : Nat := 1000
  floorsOver : Bool := false
  held : Bool := false
  participants : List Participant := []
deriving DecidableEq, Repr, Inhabited

/-! ### PBC (chapter 5) -/

/-- A post record (R88). -/
structure Post where
  cfg : PostCfg
  state : PostState := .unknown
  misses : Nat := 0
  restart : Option Num8 := none
  lastGood : Option Nat := none
deriving DecidableEq, Repr, Inhabited

/-- An outlet record (R93). The claim follows from the state and the post and is not stored; `faultSeen` is what the
latest good Answer reported (R97); `refusedUntil` is the end of a REFUSED lamp (R90). -/
structure Outlet where
  number : Nat
  post : Nat
  position : Nat
  rating : PowerClass
  berth : Option Nat
  startClaim : Nat
  state : OutletState := .off
  smoothed : Nat := 0
  energyBase : Option Count16 := none
  pressBase : Option Num8 := none
  resetBase : Option Num8 := none
  energise : Option Nat := none
  join : Option Nat := none
  restAt : Option Nat := none
  overCurrent : Nat := 0
  faultSeen : Bool := false
  refusedUntil : Option Nat := none
deriving DecidableEq, Repr, Inhabited

/-- A tap record (R103). -/
structure Tap where
  number : Nat
  post : Nat
  position : Nat
  berth : Option Nat
  state : TapState := .closed
  runAt : Option Nat := none
  volumeBase : Option Count16 := none
  pressBase : Option Num8 := none
  leakCount : Nat := 0
  leakMark : Bool := false
  refusedUntil : Option Nat := none
deriving DecidableEq, Repr, Inhabited

/-- PBC's state (R88, R89, R93, R99, R103, R107): records in ascending number; the round timer, the post being polled
with those still to poll, the latest Poll sent, the first-round condition, the sequence counter of R99. -/
structure Pbc where
  posts : List Post := []
  outlets : List Outlet := []
  taps : List Tap := []
  roundAt : Nat := 1000
  polling : Option Nat := none
  toPoll : List Nat := []
  poll : Option Poll := none
  firstRound : Bool := false
  counter : Nat := 1
  unassignedEnergy : Nat := 0
  unassignedWater : Nat := 0
deriving DecidableEq, Repr, Inhabited

/-! ### ACU (chapter 6) -/

/-- ACU's state (R116, R118, R126). `cache` lists the ways that hold an entry, most recently used first; a set's recency
order is the order of its entries in the list. -/
structure Acu where
  cache : List CacheEntry := []
  lookups : List Lookup := []
  counts : CacheCounts := {}
deriving DecidableEq, Repr, Inhabited

/-! ### GTC (chapter 7) -/

/-- A gate record (R128); `openedTime` is the clock when the door opened, for the ajar notice (R134). -/
structure Gate where
  cfg : GateCfg
  mode : GateMode
  state : GateState := .locked
  door : Door := .closed
  strike : Strike := .held
  releaseAt : Option Nat := none
  heldOpenAt : Option Nat := none
  openedAt : Option Nat := none
  openedTime : Option DayTime := none
  escort : Option EscortNotice := none
  ajar : Option AjarNotice := none
  grants : Nat := 0
  logged : Nat := 0
  denials : Nat := 0
  exits : Nat := 0
  forcings : Nat := 0
deriving DecidableEq, Repr, Inhabited

/-- GTC's state (R128), and in CONFIG_FAULT the end of each strike position's exit release (R140). -/
structure Gtc where
  gates : List Gate := []
  faultRelease1 : Option Nat := none
  faultRelease2 : Option Nat := none
deriving DecidableEq, Repr, Inhabited

/-! ### FSC (chapter 8) -/

/-- A pump record (R141, R144): `last` is the sale of the pump's slot once it has left the pump, `awaiting` the Poll
not answered yet, `recovered` that the sale awaits its end reading from a reset (R158). -/
structure Pump where
  cfg : PumpCfg
  state : PumpState := .idle
  misses : Nat := 0
  latest : Option PumpReading := none
  command : PumpCommand := .disabled
  display : Display := .idle
  refusedUntil : Option Nat := none
  nextSale : Num8 := 0
  sale : Option Sale := none
  last : Option Sale := none
  readyAt : Option Nat := none
  pollAt : Nat := 500
  awaiting : Option (PumpCommand × Display) := none
  recovered : Bool := false
deriving DecidableEq, Repr, Inhabited

/-- FSC's state (R141, R152). -/
structure Fsc where
  pumps : List Pump := []
  unsettled : List Unsettled := []
  lastOrder : Nat := 0
  retryAt : Option Nat := none
deriving DecidableEq, Repr, Inhabited

/-! ### DCK (chapter 9) -/

/-- DCK's state (R159, R163): `clock` is absent while UNSET. -/
structure Dck where
  clock : Option DayTime := none
  tickAt : Nat := 1000
  inForce : Nat := 1
  staged : Option Nat := none
deriving DecidableEq, Repr, Inhabited

/-! ### QLC (chapter 10) -/

/-- What a transmitter is sending (R175): the queue entry and the frame with its values (R183). -/
structure Sending where
  entry : Nat
  frame : Frame
deriving DecidableEq, Repr, Inhabited

/-- A channel record (R170) with its transmitter (R175). -/
structure Line where
  state : LineState := .up
  faults : Nat := 0
  silenceAt : Nat := 5000
  silent : Bool := false
  lastFrame : Option Nat := none
  sending : Option Sending := none
deriving DecidableEq, Repr, Inhabited

/-- An entry of the transmit queue (R175): `onA`, `onB` are its set of channels. -/
structure Entry where
  id : Nat
  frame : Frame
  onA : Bool
  onB : Bool
deriving DecidableEq, Repr, Inhabited

/-- A pending request (R178). Its kind and key are those of `body`; `entry` is the queue entry of the current attempt
until it completes or is dropped, `dropAt` the end of its 200 ms (R179). -/
structure Pending where
  destination : Nat
  body : FrameBody
  sequence : Num8
  attempt : Nat
  channel : Channel
  deadline : Option Nat
  dropAt : Nat
  entry : Option Nat
  originator : Originator
deriving DecidableEq, Repr, Inhabited

/-- A frame of a request that an answer has closed while the frame was being sent: should that sending not complete, the
frame is tried again until its 200 ms are over (R179, R180). -/
structure Leftover where
  sequence : Num8
  entry : Nat
  dropAt : Nat
deriving DecidableEq, Repr, Inhabited

/-- QLC's state (R170, R175, R178, R183 to R185): the queue in joining order, the pending-request table, the peer table
in ascending number, the frames still being sent whose requests have been answered. -/
structure Qlc where
  lineA : Line := {}
  lineB : Line := {}
  queue : List Entry := []
  nextEntry : Nat := 0
  requests : List Pending := []
  sequence : Num8 := 0
  errors : ErrorSummary := {}
  peers : List Peer := []
  announceAt : Nat := 1000
  lastAnnounce : Option Channel := none
  leftovers : List Leftover := []
deriving DecidableEq, Repr, Inhabited

/-! ### TPC, EVJ, CFL (chapter 11) -/

/-- The states of TPC (R187). WORKING says what the reply waits for: an Office Answer (R189) or an image write (R197). -/
inductive TpcState | waiting | receiving | forwarding (command : CmdKind) (station : Nat) | committing | replying
deriving DecidableEq, Repr, Inhabited

/-- An entry of the repeat table (R190). -/
structure Repeat where
  station : Nat
  sequence : Num8
  command : OfficeCommand
  answer : Reply
deriving DecidableEq, Repr, Inhabited

/-- TPC's state (R187, R188, R190): `received` holds the bytes after the start byte, `reply` the reply being sent. -/
structure Tpc where
  state : TpcState := .waiting
  received : List Byte := []
  gapAt : Option Nat := none
  reply : Option Reply := none
  limit : Nat := 64
  dropped : Nat := 0
  discarded : Nat := 0
  repeats : List Repeat := []
deriving DecidableEq, Repr, Inhabited

/-- EVJ's state (R192, R193, R195): entries oldest first. -/
structure Evj where
  entries : List JournalEntry := []
  next : Nat := 1
  mark : Nat := 1
  overflow : Nat := 0
  attention : Bool := false
deriving DecidableEq, Repr, Inhabited

/-- Where a COMMIT stands (R197). -/
inductive CommitPhase | idle | waiting | writing
deriving DecidableEq, Repr, Inhabited

/-- The load state (R191, R196). -/
inductive LoadState | accepted | fault (reason : ConfigReason) (offset : Option Nat)
deriving DecidableEq, Repr, Inhabited

/-- CFL's state (R196, R197): `starting` until the load ends, `notices` the standing changes of the load that take effect
at its end (R45: berth, serial, old and new standing), then the staging buffer. -/
structure Cfl where
  load : LoadState
  starting : Bool := true
  notices : List (Nat × Nat × Standing × Standing) := []
  filling : Bool := false
  length : Nat := 0
  staged : List Byte := []
  phase : CommitPhase := .idle
deriving DecidableEq, Repr, Inhabited

/-! ### The station -/

/-- The values a station holds while no image is accepted: no number, no berths, no posts, no gates, no pumps (R197). -/
def blankImage : Image where
  station := 0
  role := .gate
  feederLimit := 0
  floor := 0
  ceiling := 0
  expected := 0
  defaultCeiling := 0
  hysteresis := 0
  raiseTime := 0
  tentativeTime := 0
  responseTimeout := 0
  stalenessTime := 0
  holdTimeout := 0
  cacheLife := 0
  restTime := 0
  runLimit := 0
  readyTime := 0
  closeSecond := 0
  lengthMargin := 0
  widthMargin := 0
  depthMargin := 0
  residentLow := 0
  residentCredit := 0
  visitorLow := 0
  visitorCredit := 0
  minimumSale := 0
  saleLimit := 0
  residentOverstay := false
  visitorOverstay := false
  berths := []
  posts := []
  start16 := 0
  start32 := 0
  start63 := 0
  tariffs := []
  startSet := 1
  gates := []
  pins := []
  pumps := []

/-- The state of the station. `pending` is the queue of waiting commands; `now` the milliseconds since the reset; `free`
the counter of free values taken (log entry 10); `cfg` the values of the accepted image after the clamps of R66; `doors`
the levels of the two door sense lines, `minuteAt` the powered-minute timer of PRS (R32). -/
structure State where
  pending : List Instr := []
  now : Nat := 0
  free : Nat := 0
  cfg : Image
  door1 : Door := .closed
  door2 : Door := .closed
  minuteAt : Nat := 60000
  store : Store := {}
  bst : Bst := {}
  alc : Alc := {}
  lsu : Lsu := {}
  pbc : Pbc := {}
  acu : Acu := {}
  gtc : Gtc := {}
  fsc : Fsc := {}
  dck : Dck := {}
  qlc : Qlc := {}
  tpc : Tpc := {}
  evj : Evj := {}
  cfl : Cfl
deriving DecidableEq, Repr, Inhabited

/-! ### One update per field; Laws/State.lean says what each field reads after each -/

def State.setPending (s : State) (v : List Instr) : State := { s with pending := v }
def State.setNow (s : State) (v : Nat) : State := { s with now := v }
def State.setFree (s : State) (v : Nat) : State := { s with free := v }
def State.setCfg (s : State) (v : Image) : State := { s with cfg := v }
def State.setDoor1 (s : State) (v : Door) : State := { s with door1 := v }
def State.setDoor2 (s : State) (v : Door) : State := { s with door2 := v }
def State.setMinuteAt (s : State) (v : Nat) : State := { s with minuteAt := v }
def State.setStore (s : State) (v : Store) : State := { s with store := v }
def State.setBst (s : State) (v : Bst) : State := { s with bst := v }
def State.setAlc (s : State) (v : Alc) : State := { s with alc := v }
def State.setLsu (s : State) (v : Lsu) : State := { s with lsu := v }
def State.setPbc (s : State) (v : Pbc) : State := { s with pbc := v }
def State.setAcu (s : State) (v : Acu) : State := { s with acu := v }
def State.setGtc (s : State) (v : Gtc) : State := { s with gtc := v }
def State.setFsc (s : State) (v : Fsc) : State := { s with fsc := v }
def State.setDck (s : State) (v : Dck) : State := { s with dck := v }
def State.setQlc (s : State) (v : Qlc) : State := { s with qlc := v }
def State.setTpc (s : State) (v : Tpc) : State := { s with tpc := v }
def State.setEvj (s : State) (v : Evj) : State := { s with evj := v }
def State.setCfl (s : State) (v : Cfl) : State := { s with cfl := v }

/-- No meaning of this model stops with a fault: the manual has the station go on after every event. -/
inductive Fault
deriving DecidableEq, Repr

/-- Why a command is refused. -/
inductive Refusal
  /-- Raised by `exec` for a command that has no meaning yet; safe (the model stops where the station goes on). No arm of
  `exec` answers it. -/
  | notModelled (mnemonic : String)
deriving DecidableEq, Repr

/-- The station right after a power-on reset with nothing in the record store (log entry 4): the journal holds RESTART,
the image region holds no image, so the load finds FORMAT (R196) and waits for its end. -/
def State.reset : State where
  cfg := blankImage
  evj := { entries := [⟨1, none, .restart .powerOn⟩], next := 2, mark := 1 }
  cfl := { load := .fault .format (none) }

end Sys2Proof.Machine
end

