-- ==== Sys2Proof/Machine/Flags.lean ====
section
/-! DEFINITION. Counts that stop at their top, the error summary of QLC (R184), the event journal (R192, R193) and the
attention line (R195). -/

namespace Sys2Proof

/-- A count that stops at its top. -/
def satAdd (top n k : Nat) : Nat := min top (n + k)

/-- One more than a 32-bit number; past its top the spec states no value (log entry 11). -/
def bump32 (n : Nat) : Nat := if n < top32 then n + 1 else Config.pastTop n

/-! ### Error summary (R184) -/

/-- One more of an error count, stopping at 255. -/
def bump255 (n : Nat) : Nat := satAdd 255 n 1

def ErrorSummary.header (e : ErrorSummary) : ErrorSummary := { e with headerCheck := bump255 e.headerCheck }
def ErrorSummary.payload (e : ErrorSummary) : ErrorSummary := { e with payloadCheck := bump255 e.payloadCheck }
def ErrorSummary.badLength (e : ErrorSummary) : ErrorSummary := { e with length := bump255 e.length }
def ErrorSummary.kindUnknown (e : ErrorSummary) : ErrorSummary := { e with unknownKind := bump255 e.unknownKind }
def ErrorSummary.late (e : ErrorSummary) : ErrorSummary := { e with lateAnswer := bump255 e.lateAnswer }
def ErrorSummary.full (e : ErrorSummary) : ErrorSummary := { e with queueFull := bump255 e.queueFull }
def ErrorSummary.down (c : Channel) (e : ErrorSummary) : ErrorSummary :=
  match c with
  | .a => { e with channelADown := bump255 e.channelADown }
  | .b => { e with channelBDown := bump255 e.channelBDown }

/-- Each count lowered by the value an Announce carried (R184). A count below that value becomes 0 (the model's choice, log
entry 89). -/
def ErrorSummary.less (e c : ErrorSummary) : ErrorSummary where
  headerCheck := e.headerCheck - c.headerCheck
  payloadCheck := e.payloadCheck - c.payloadCheck
  length := e.length - c.length
  unknownKind := e.unknownKind - c.unknownKind
  lateAnswer := e.lateAnswer - c.lateAnswer
  queueFull := e.queueFull - c.queueFull
  channelADown := e.channelADown - c.channelADown
  channelBDown := e.channelBDown - c.channelBDown

/-- A summary holds a count above 0 (R185). -/
def ErrorSummary.any (e : ErrorSummary) : Bool := e != {}

end Sys2Proof

namespace Sys2Proof.Machine

/-! ### Views of the whole state -/

/-- The station is in CONFIG_FAULT (R197). -/
def State.inFault (s : State) : Bool := s.cfl.load != .accepted

/-- The station runs: an image is accepted and the load has ended (R187, R196). -/
def State.up (s : State) : Bool := s.cfl.load == .accepted && !s.cfl.starting

/-- The running second count (R88). -/
def State.seconds (s : State) : Nat := s.now / 1000

/-- The marina day while the clock is RUNNING (R159). -/
def State.today (s : State) : Option Nat := s.dck.clock.map DayTime.day

/-- An effect that only a running station has (R170, R197). -/
def whenUp (f : State → State) (s : State) : State := if s.up then f s else s

/-- Time has reached a deadline (log entry 2). -/
def reach (deadline : Nat) (s : State) : State := s.setNow (max s.now deadline)

/-- Take the next free value: its index, and the state in which it is taken (log entry 10). -/
def takeFree (s : State) : Nat × State := (s.free, s.setFree (s.free + 1))

/-- Milliseconds left to a deadline. -/
def State.left (s : State) (deadline : Nat) : Nat := deadline - s.now

/-- Whole seconds left to a deadline, a part of a second counted as one (log entry 12). -/
def State.secondsLeft (s : State) (deadline : Nat) : Nat := (s.left deadline + 999) / 1000

/-! ### Error summary (R184) -/

/-- Change the error summary. -/
def onErrors (f : ErrorSummary → ErrorSummary) (s : State) : State := s.setQlc { s.qlc with errors := f s.qlc.errors }

/-! ### Journal (R192, R193) -/

/-- The unread entries: those at or above the read mark (R192). -/
def Evj.unread (e : Evj) : Nat := (e.entries.filter fun x => e.mark ≤ x.sequence).length

/-- Write an entry. A full journal gives up its oldest entry; when that was unread the overflow count rises and the read
mark moves to the oldest entry that remains (R193). -/
def Evj.write (time : Option DayTime) (r : Report) (e : Evj) : Evj :=
  let entry : JournalEntry := ⟨e.next, time, r⟩
  if e.entries.length < 256 then
    { e with entries := e.entries ++ [entry], next := bump32 e.next }
  else
    match e.entries with
    | [] => { e with entries := [entry], next := bump32 e.next }
    | oldest :: rest =>
      let kept := rest ++ [entry]
      if e.mark ≤ oldest.sequence then
        { e with entries := kept, next := bump32 e.next, overflow := satAdd top16 e.overflow 1,
                 mark := (kept.head?.map JournalEntry.sequence).getD e.mark }
      else
        { e with entries := kept, next := bump32 e.next }

/-! ### Attention line (R195) -/

/-- An escort or ajar notice is present on some gate. -/
def State.anyNotice (s : State) : Bool := s.gtc.gates.any fun g => g.escort.isSome || g.ajar.isSome

/-- The conditions of the attention line; it is released until the load ends. -/
def State.attentionDue (s : State) : Bool :=
  !s.cfl.starting && (decide (128 ≤ s.evj.unread) || s.anyNotice || s.inFault)

/-- EVJ looks again at the attention line. -/
def lookAgain (s : State) : State := s.setEvj { s.evj with attention := s.attentionDue }

/-- EVJ writes an entry at the clock's day and second, and looks again at the attention line. -/
def report (r : Report) (s : State) : State := lookAgain (s.setEvj (s.evj.write s.dck.clock r))

end Sys2Proof.Machine
end

