-- ==== Sys2Proof/Machine/Ops.lean ====
section
/-! DEFINITION. The named operations over the record store, the write queue, the berths and their booking lists
(chapter 1), and small list operations. -/

namespace Sys2Proof

/-- RESERVED or CURRENT. -/
def Booking.live (b : Booking) : Bool := b.state != .tentative

/-! ### Configured values by rating, grade, kind -/

/-- The place of a power class in 16 A < 32 A < 63 A (R1). -/
def PowerClass.step : PowerClass → Nat
  | .a16 => 0
  | .a32 => 1
  | .a63 => 2

/-- A rating in dA (R93). -/
def PowerClass.rating : PowerClass → Nat
  | .a16 => 160
  | .a32 => 320
  | .a63 => 630

/-- The start claim of a rating (R93). -/
def Image.startClaim (i : Image) : PowerClass → Nat
  | .a16 => i.start16
  | .a32 => i.start32
  | .a63 => i.start63

/-- The low mark a new booking takes (R25). -/
def Image.lowMark (i : Image) : Kind → Nat
  | .resident => i.residentLow
  | .visitor => i.visitorLow

/-- The credit limit a new booking takes (R25). -/
def Image.creditLimit (i : Image) : Kind → Nat
  | .resident => i.residentCredit
  | .visitor => i.visitorCredit

/-- Overstay allowed for a kind (R167). -/
def Image.overstay (i : Image) : Kind → Bool
  | .resident => i.residentOverstay
  | .visitor => i.visitorOverstay

/-- A tariff set by number (R163). -/
def Image.tariff (i : Image) (n : Nat) : Tariff := i.tariffs.getD (n - 1) ⟨0, 0, 0, 0, 0⟩

/-- The fuel price of a grade (R141). -/
def Tariff.fuel (t : Tariff) (grade : Nat) : Nat := if grade = 2 then t.fuel2 else t.fuel1

end Sys2Proof

namespace Sys2Proof.Machine

/-! ### Lists -/

/-- Change the elements that meet a test. -/
def updWhere {α : Type} (p : α → Bool) (f : α → α) (l : List α) : List α := l.map fun x => if p x then f x else x

/-- Change the first element that meets a test. -/
def updFirst {α : Type} (p : α → Bool) (f : α → α) : List α → List α
  | [] => []
  | x :: xs => if p x then f x :: xs else x :: updFirst p f xs

/-- Insert into a list sorted by `le`, behind its equals. -/
def insertBy {α : Type} (le : α → α → Bool) (x : α) : List α → List α
  | [] => [x]
  | y :: ys => if le y x then y :: insertBy le x ys else x :: y :: ys

/-- Sort by insertion; equals keep their order. -/
def sortBy {α : Type} (le : α → α → Bool) (l : List α) : List α := l.foldl (fun acc x => insertBy le x acc) []

/-- Apply a step n times. -/
def times (f : State → State) : Nat → State → State
  | 0, s => s
  | n + 1, s => times f n (f s)

/-- The lowest number from `lo` on, among `n` of them, that is not in use. -/
def lowestFree (used : List Nat) (lo : Nat) : Nat → Option Nat
  | 0 => none
  | n + 1 => if used.contains lo then lowestFree used (lo + 1) n else some lo

/-! ### Keyed lists in one canonical form (log entry 4) -/

/-- The value at a key: the listed one, else the default. -/
def mapGet {α : Type} (d : α) (k : Nat) : List (Nat × α) → α
  | [] => d
  | (j, v) :: rest => if j = k then v else mapGet d k rest

/-- Set the value at a key, keeping keys rising and listing no default. -/
def mapSet {α : Type} [DecidableEq α] (d : α) (k : Nat) (v : α) : List (Nat × α) → List (Nat × α)
  | [] => if v = d then [] else [(k, v)]
  | (j, w) :: rest =>
    if j < k then (j, w) :: mapSet d k v rest
    else
      let after := if j = k then rest else (j, w) :: rest
      if v = d then after else (k, v) :: after

/-- The canonical form: keys strictly rising, no default listed. -/
abbrev mapWf {α : Type} (d : α) (m : List (Nat × α)) : Prop :=
  (m.map Prod.fst).Pairwise (· < ·) ∧ ∀ p ∈ m, p.2 ≠ d

/-! ### Record store -/

/-- Where a record stands after the image region: the station record, 256 booking slots, 8 statement slots, 20 sale
slots (section 1.6, R144). -/
def placeOf : RecordId → Nat
  | .station => 0
  | .booking n => n
  | .statement n => 256 + n
  | .sale n => 264 + n

/-- A good EMPTY record of a slot. -/
def emptyRecord (id : RecordId) : StoredRecord := ⟨true, id, .empty⟩

/-- The default of the record map. -/
def blankRecord : StoredRecord := ⟨true, .station, .empty⟩

/-- The map holds a slot's good EMPTY record as the default, and the default as that: the two change places. -/
def swapBlank (id : RecordId) (r : StoredRecord) : StoredRecord :=
  if r = emptyRecord id then blankRecord else if r = blankRecord then emptyRecord id else r

/-- The record a slot of the store holds; a slot nothing was written to reads as a good EMPTY record (log entry 4). -/
def storedAt (id : RecordId) (st : Store) : StoredRecord := swapBlank id (mapGet blankRecord (placeOf id) st.slots)

/-- Write a record's slot; a good EMPTY record is not listed. -/
def storeRecord (id : RecordId) (r : StoredRecord) (st : Store) : Store :=
  { st with slots := mapSet blankRecord (placeOf id) (swapBlank id r) st.slots }

/-- A byte of the image region (R196). -/
def regionByte (st : Store) (i : Nat) : Byte := mapGet (0 : Byte) i st.region

/-- Bytes of the image region from an offset. -/
def regionBytes (st : Store) (start len : Nat) : List Byte := (List.range len).map fun i => regionByte st (start + i)

/-- Write bytes into a keyed list of bytes from an offset. -/
def writeBytes : Nat → List Byte → List (Nat × Byte) → List (Nat × Byte)
  | _, [], m => m
  | i, b :: bs, m => writeBytes (i + 1) bs (mapSet (0 : Byte) i b m)

/-- Write bytes into the image region from its start (R197). -/
def writeRegion (bytes : List Byte) (st : Store) : Store := { st with region := writeBytes 0 bytes st.region }

/-- The store's memory is in canonical form. -/
abbrev Store.wf (st : Store) : Prop := mapWf (0 : Byte) st.region ∧ mapWf blankRecord st.slots

/-! ### Berths and bookings (R1, R2) -/

/-- The berth of a number, if the table has it. -/
def State.berth? (s : State) (n : Nat) : Option Berth := s.bst.berths.find? fun b => b.cfg.number == n

/-- Every booking of the station with its berth number, in berth order and list order. -/
def State.bookings (s : State) : List (Nat × Booking) :=
  s.bst.berths.flatMap fun b => b.bookings.map fun k => (b.cfg.number, k)

/-- The live bookings of the station (R5). -/
def State.liveBookings (s : State) : List (Nat × Booking) := s.bookings.filter fun p => p.2.live

/-- The live booking of a serial on a berth's list (R13). -/
def Berth.live? (b : Berth) (serial : Nat) : Option Booking := b.bookings.find? fun k => k.live && k.serial == some serial

/-- The live booking of a serial on a berth (R13). -/
def State.booking? (s : State) (berth serial : Nat) : Option Booking := (s.berth? berth).bind fun b => b.live? serial

/-- The live booking of a serial, wherever it stands, with its berth (R33, R36). -/
def State.bySerial? (s : State) (serial : Nat) : Option (Nat × Booking) :=
  s.liveBookings.find? fun p => p.2.serial == some serial

/-- The live booking that holds a tag (R114). -/
def State.byTag? (s : State) (t : Tag) : Option (Nat × Booking) := s.liveBookings.find? fun p => p.2.tags.contains t

/-- The live booking of a booking slot (R19). -/
def State.bySlot? (s : State) (slot : Nat) : Option (Nat × Booking) :=
  s.liveBookings.find? fun p => p.2.slot == some slot

/-- The holding booking of a berth: the first CURRENT booking of its list (R94). -/
def Berth.holding? (b : Berth) : Option Booking := b.bookings.find? fun k => k.state == .current

/-- The holding booking of a berth number (R94). -/
def State.holding? (s : State) (berth : Nat) : Option Booking := (s.berth? berth).bind Berth.holding?

/-- Change a berth. -/
def onBerth (n : Nat) (f : Berth → Berth) (s : State) : State :=
  s.setBst { s.bst with berths := updWhere (fun b => b.cfg.number == n) f s.bst.berths }

/-- Change the live booking of a serial on a berth, without queuing its record. -/
def onBooking (berth serial : Nat) (f : Booking → Booking) : State → State :=
  onBerth berth fun b =>
    { b with bookings := updWhere (fun k => k.live && k.serial == some serial) f b.bookings }

/-- Two day intervals overlap (R2). -/
def overlaps (a1 d1 a2 d2 : Nat) : Bool := a1 < d2 && a2 < d1

/-- A booking list takes an insertion of an interval (R2). -/
def canInsert (bookings : List Booking) (arrival departure : Nat) : Bool :=
  bookings.length < 4 && bookings.all fun k => !overlaps arrival departure k.stay.arrival k.stay.departure

/-- Insert a booking at the place its arrival day gives it (R2). -/
def insertBooking (b : Booking) : List Booking → List Booking :=
  insertBy (fun x y => x.stay.arrival ≤ y.stay.arrival) b

/-- The booking list entry behind a serial (R16, R167). -/
def nextEntry (serial : Nat) : List Booking → Option Booking
  | [] => none
  | k :: rest => if k.live && k.serial == some serial then rest.head? else nextEntry serial rest

/-! ### The write queue (R20) -/

/-- Queue a record for writing: it keeps a place it has; a record whose write is in flight is marked changed and queued
when that write ends (R20, R21). -/
def queueRecord (id : RecordId) (s : State) : State :=
  match s.bst.inFlight with
  | some w =>
    if w.id = id then s.setBst { s.bst with inFlight := some { w with changed := true } }
    else if s.bst.queue.contains id then s else s.setBst { s.bst with queue := s.bst.queue ++ [id] }
  | none => if s.bst.queue.contains id then s else s.setBst { s.bst with queue := s.bst.queue ++ [id] }

/-- Queue the record of a booking by its slot; a TENTATIVE booking has none (R20). -/
def queueSlot (slot : Option Nat) (s : State) : State :=
  match slot with
  | some n => queueRecord (.booking n) s
  | none => s

/-- Change a live booking and queue its record (R20). -/
def changeBooking (berth serial : Nat) (f : Booking → Booking) (s : State) : State :=
  match s.booking? berth serial with
  | some b => queueSlot b.slot (onBooking berth serial f s)
  | none => s

/-- The dirty count (R22). -/
def State.dirty (s : State) : Nat := s.bst.queue.length + (if s.bst.inFlight.isSome then 1 else 0)

/-- Count of bookings of a state. -/
def State.tentatives (s : State) : Nat := (s.bookings.filter fun p => p.2.state == .tentative).length

end Sys2Proof.Machine
end

