-- ==== Sys2Proof/Machine/Operands.lean ====
section
/-! DEFINITION. Reading what arrives as bytes: the two CRCs, the terminal frame (section 11.1), the Quayline header (R172)
and its checks (R174), the kinds of frame (R173), the header of an image (section 11.4); and filling a reply (R188). -/

namespace Sys2Proof

/-! ### Cyclic redundancy checks -/

/-- One bit of the CRC-16 with polynomial 0x1021. -/
def crc16Bit (c : BitVec 16) : BitVec 16 := if c.msb then (c <<< 1) ^^^ 0x1021#16 else c <<< 1

/-- One byte of the CRC-16, most significant bit first. -/
def crc16Byte (c : BitVec 16) (b : Byte) : BitVec 16 :=
  let x := c ^^^ (b.zeroExtend 16 <<< 8)
  crc16Bit (crc16Bit (crc16Bit (crc16Bit (crc16Bit (crc16Bit (crc16Bit (crc16Bit x)))))))

/-- CRC-16, polynomial 0x1021, initial value all ones (sections 1.6, 11.1, 11.4, R172). -/
def crc16 (bytes : List Byte) : BitVec 16 := bytes.foldl crc16Byte 0xFFFF#16

/-- One bit of the CRC-8 with polynomial x⁸ + x² + x + 1. -/
def crc8Bit (c : Byte) : Byte := if c.msb then (c <<< 1) ^^^ 0x07#8 else c <<< 1

/-- One byte of the CRC-8. -/
def crc8Byte (c b : Byte) : Byte :=
  crc8Bit (crc8Bit (crc8Bit (crc8Bit (crc8Bit (crc8Bit (crc8Bit (crc8Bit (c ^^^ b))))))))

/-- CRC-8, polynomial x⁸ + x² + x + 1, initial value all ones (R172). -/
def crc8 (bytes : List Byte) : Byte := bytes.foldl crc8Byte 0xFF#8

/-- Two bytes as a number, high byte first (sections 11.1, 11.4, R172). -/
def word16 (hi lo : Byte) : BitVec 16 := hi ++ lo

/-- A 16-bit number as two bytes, high byte first. -/
def highLow (w : BitVec 16) : List Byte := [(w >>> 8).setWidth 8, w.setWidth 8]

/-! ### Kinds of frame (R173) -/

/-- The kind code of a frame. -/
def FrameBody.code : FrameBody → Nat
  | .holdRequest _ _ _ _ => 1
  | .holdAnswer _ _ => 2
  | .settleRequest _ _ _ => 3
  | .settleAnswer _ _ => 4
  | .tagQuery _ => 5
  | .tagAnswer _ _ => 6
  | .tagRevoke _ _ => 7
  | .berthCall _ _ => 8
  | .berthOffer _ _ _ => 9
  | .berthTake _ _ _ _ _ => 10
  | .takeAnswer _ _ _ => 11
  | .berthClose _ _ => 12
  | .officeRequest _ _ => 13
  | .officeAnswer _ => 14
  | .announce _ => 15
  | .timeNotice _ _ => 16

/-- The priority of a kind code, 1 the highest. -/
def kindPriority : Nat → Option Nat
  | 2 | 4 => some 1
  | 1 | 3 => some 2
  | 5 | 6 | 7 => some 3
  | 8 | 9 | 10 | 11 | 12 => some 4
  | 13 | 14 => some 5
  | 15 | 16 => some 6
  | _ => none

/-- The payload lengths a kind code allows. -/
def kindLengthOk (code n : Nat) : Bool :=
  match code with
  | 1 => n == 13
  | 2 | 4 | 11 => n == 8
  | 3 => n == 9
  | 5 | 12 => n == 4
  | 6 => n == 20
  | 7 => n == 4 || n == 8 || n == 12 || n == 16
  | 8 | 15 => n == 15
  | 9 | 16 => n == 5
  | 10 => 20 ≤ n && n ≤ 48
  | 13 | 14 => 2 ≤ n && n ≤ 48
  | _ => false

/-- A length held to the range a kind allows. -/
def heldTo (low high n : Nat) : Nat := max low (min high n)

/-- The payload length of a frame this station sends (R173). A Tag Revoke has 4 bytes for each tag; that a Berth Take has
4 bytes for each tag, one for each of the name and 16 besides, and an Office Request its command's payload and 2 besides, is
read from the ranges of R173 and R189 (log entry 7). -/
def FrameBody.payloadLength : FrameBody → Nat
  | .holdRequest _ _ _ _ => 13
  | .holdAnswer _ _ | .settleAnswer _ _ | .takeAnswer _ _ _ => 8
  | .settleRequest _ _ _ => 9
  | .tagQuery _ | .berthClose _ _ => 4
  | .tagAnswer _ _ => 20
  | .tagRevoke _ tags => 4 * heldTo 1 4 tags.length
  | .berthCall _ _ | .announce _ => 15
  | .berthOffer _ _ _ | .timeNotice _ _ => 5
  | .berthTake _ _ _ tags name => heldTo 20 48 (16 + 4 * tags.length + (name.getD []).length)
  | .officeRequest (.known c) _ => heldTo 2 48 (2 + Config.payloadBytes c)
  | .officeRequest (.misfit _ payload) _ => heldTo 2 48 (2 + payload.length)
  | .officeRequest (.other _) _ => 2
  | .officeAnswer reply => heldTo 2 48 (Config.answerBytes reply)

/-- The payload of a frame this station sends (R173). -/
def FrameBody.payload (b : FrameBody) : List Byte := (List.range b.payloadLength).map (Config.payloadByte b)

/-- The priority of a frame. -/
def FrameBody.priority (b : FrameBody) : Nat := (kindPriority b.code).getD 6

/-- The frame is an Announce. -/
def FrameBody.announces : FrameBody → Bool
  | .announce _ => true
  | _ => false

/-- The kind of a request, if the frame is one (R178). -/
def FrameBody.request? : FrameBody → Option RequestKind
  | .holdRequest _ _ _ _ => some .hold
  | .settleRequest _ _ _ => some .settle
  | .tagQuery _ => some .tagQuery
  | .berthTake _ _ _ _ _ => some .take
  | .officeRequest _ _ => some .office
  | _ => none

/-- The answer is of the kind that answers the request and repeats its key (R173, R180). -/
def FrameBody.answers : (answer request : FrameBody) → Bool
  | .holdAnswer id _, .holdRequest id' _ _ _ => id == id'
  | .settleAnswer id _, .settleRequest id' _ _ => id == id'
  | .tagAnswer record _, .tagQuery tag => record.tag == tag
  | .takeAnswer ref berth _, .berthTake ref' berth' _ _ _ => ref == ref' && berth == berth'
  | .officeAnswer reply, .officeRequest command _ => reply.code == command.code
  | _, _ => false

/-! ### The Quayline header and its checks (R172, R174) -/

/-- Why a frame is dropped (R174). -/
inductive FrameError | headerCheck | length | payloadCheck | unknownKind
deriving DecidableEq, Repr

/-- A frame as read from a channel. -/
structure WireFrame where
  source : Nat
  code : Nat
  destination : Nat
  sequence : Num8
  payload : List Byte
deriving DecidableEq, Repr

/-- Byte i of a frame; a byte that did not arrive reads as 0. -/
def byteAt (bytes : List Byte) (i : Nat) : Byte := bytes.getD i 0

/-- The header check of R172: CRC-8 over bytes 0 to 4 in byte 5. -/
def headerGood (bytes : List Byte) : Bool := 6 ≤ bytes.length && crc8 (bytes.take 5) == byteAt bytes 5

/-- The payload check of R172: all n payload bytes and their CRC-16 have arrived and agree. -/
def payloadGood (bytes : List Byte) : Bool :=
  let n := (byteAt bytes 4).toNat
  n == 0 || (n + 8 ≤ bytes.length &&
    crc16 ((bytes.drop 6).take n) == word16 (byteAt bytes (6 + n)) (byteAt bytes (7 + n)))

/-- The checks of R174 in their order. The kind code is the whole of byte 1, so one with bits 7 to 5 set is an unknown kind (the
model's choice, log entry 88). -/
def checkFrame (bytes : List Byte) : Except FrameError WireFrame :=
  let prio := (byteAt bytes 0).toNat / 32
  let code := (byteAt bytes 1).toNat
  let n := (byteAt bytes 4).toNat
  if !headerGood bytes then .error .headerCheck
  else if 48 < n then .error .length
  else if !payloadGood bytes then .error .payloadCheck
  else if kindPriority code != some prio then .error .unknownKind
  else if !kindLengthOk code n then .error .length
  else .ok ⟨(byteAt bytes 0).toNat % 32, code, (byteAt bytes 2).toNat, byteAt bytes 3, (bytes.drop 6).take n⟩

/-! ### The terminal frame (section 11.1) -/

/-- The start byte of a terminal frame. -/
def startByte : Byte := 0xC3

/-- The bytes after the start byte are a complete frame: length, code, payload and two CRC bytes. -/
def frameComplete (received : List Byte) : Bool := received.length == (byteAt received 0).toNat + 3

/-- The CRC of a complete frame agrees: over bytes 1 to 1 + n. -/
def frameGood (received : List Byte) : Bool :=
  let n := (byteAt received 0).toNat
  crc16 (received.take (n + 1)) == word16 (byteAt received (n + 1)) (byteAt received (n + 2))

/-- The command code byte of a complete frame. -/
def frameCode (received : List Byte) : Byte := byteAt received 1

/-- The payload of a complete frame. -/
def framePayload (received : List Byte) : List Byte := (received.drop 2).take ((byteAt received 0).toNat - 1)

/-- The code of a frame as a reply repeats it. -/
def codeOf (b : Byte) : CmdCode :=
  match Config.commandKind b with
  | some k => .known k
  | none => .other b

/-! ### The header of an image (section 11.4) -/

/-- The format field. -/
def imageFormat (bytes : List Byte) : BitVec 16 := word16 (byteAt bytes 0) (byteAt bytes 1)

/-- The body length field. -/
def imageLength (bytes : List Byte) : Nat := (word16 (byteAt bytes 2) (byteAt bytes 3)).toNat

/-- The body check field. -/
def imageCheck (bytes : List Byte) : BitVec 16 := word16 (byteAt bytes 4) (byteAt bytes 5)

/-- The body: body length bytes from byte 6 on. -/
def imageBody (bytes : List Byte) : List Byte := (bytes.drop 6).take (imageLength bytes)

/-! ### Filling a reply (R188) -/

/-- Whole items in their order while the next one fits, and the name of the next item when some are left over. -/
def fillItems (room : Nat) : List (Nat × Item) → List Item × Option Nat
  | [] => ([], none)
  | (name, i) :: rest =>
    if Config.itemBytes i ≤ room then
      let (items, next) := fillItems (room - Config.itemBytes i) rest
      (i :: items, next)
    else ([], some name)

/-- Fill a reply of a listing: a first item longer than the limit goes alone and cut. -/
def packReply (code : CmdKind) (limit : Nat) (gap : Bool) (items : List (Nat × Item)) : Reply :=
  match items with
  | [] => { code := .known code, result := .ok, gap := gap }
  | (_, first) :: rest =>
    if Config.itemBytes first ≤ limit then
      { code := .known code, result := .ok, gap := gap, resume := (fillItems limit items).2,
        items := (fillItems limit items).1 }
    else
      { code := .known code, result := .ok, gap := gap, cut := true, resume := rest.head?.map Prod.fst, items := [first] }

/-- The items from a resume point on; 0 asks for the beginning (R188). -/
def fromResume (resume : Nat) (items : List (Nat × Item)) : List (Nat × Item) :=
  if resume = 0 then items else items.dropWhile fun p => p.1 < resume

/-- Items named by their place, the first 0 (log entry 6). -/
def numberItems (items : List Item) : List (Nat × Item) := items.zipIdx.map fun p => (p.2, p.1)

/-- The items of a payload up to and with the one that reaches past the room left. -/
def cutItems (room : Nat) : List Item → List Item
  | [] => []
  | i :: rest => if Config.itemBytes i < room then i :: cutItems (room - Config.itemBytes i) rest else [i]

/-- A reply held to its limit, the largest payload that it may carry (R188). A listing is filled within it. A reply that is no
listing and longer than the limit is cut at it like a first item: it sets CUT, the last of its items is the one it is cut in or
behind, and nothing continues it (the model's choice, log entry 60). -/
def Reply.within (limit : Nat) (r : Reply) : Reply :=
  if (r.items.map Config.itemBytes).sum ≤ limit then r else { r with cut := true, items := cutItems limit r.items }

/-- A reply that is no listing. -/
def answer (code : CmdKind) (result : Result) (items : List Item := []) : Reply :=
  { code := .known code, result := result, items := items }

end Sys2Proof
end

