-- ==== Sys2Proof/Machine/Quayline.lean ====
section
/-! DEFINITION. QLC (chapter 10): channels, the transmit queue, the pending-request table, the Announce. The commands of
the transmitters and of the silence, announce and drop timers are at the end; the commands that deliver a frame are in
the files of the blocks that take it. -/

namespace Sys2Proof

/-- The other channel. -/
def Channel.other : Channel → Channel
  | .a => .b
  | .b => .a

end Sys2Proof

namespace Sys2Proof.Machine

/-! ### Channels (R170, R171) -/

/-- A channel's record. -/
def Qlc.line (q : Qlc) : Channel → Line
  | .a => q.lineA
  | .b => q.lineB

/-- Replace a channel's record. -/
def Qlc.withLine (q : Qlc) (c : Channel) (l : Line) : Qlc :=
  match c with
  | .a => { q with lineA := l }
  | .b => { q with lineB := l }

/-- A channel is usable when it is UP, and both are when neither is UP (R170). -/
def Qlc.usable (q : Qlc) (c : Channel) : Bool := (q.line c).state == .up || (q.line c.other).state == .down

/-- Change a channel's record. -/
def onLine (c : Channel) (f : Line → Line) (s : State) : State := s.setQlc (s.qlc.withLine c (f (s.qlc.line c)))

/-- The channel to use when one is preferred: it if usable, otherwise the other (R177). -/
def Qlc.prefer (q : Qlc) (c : Channel) : Channel := if q.usable c then c else c.other

/-! ### Transmit queue (R175, R177) -/

/-- An entry's set holds a channel. -/
def Entry.on (e : Entry) : Channel → Bool
  | .a => e.onA
  | .b => e.onB

/-- An entry with a channel taken out of its set. -/
def Entry.without (e : Entry) : Channel → Entry
  | .a => { e with onA := false }
  | .b => { e with onB := false }

/-- An entry with a channel put into its set. -/
def Entry.also (e : Entry) : Channel → Entry
  | .a => { e with onA := true }
  | .b => { e with onB := true }

/-- A transmitter is sending the entry. -/
def Qlc.beingSent (q : Qlc) (id : Nat) (c : Channel) : Bool := (q.line c).sending.any fun x => x.entry == id

/-- The entry waits: no transmitter is sending it. -/
def Qlc.waits (q : Qlc) (id : Nat) : Bool := !q.beingSent id .a && !q.beingSent id .b

/-- Take a frame into the queue, which has room for 16; otherwise QUEUE_FULL rises by one (R175). -/
def enqueue (frame : Frame) (onA onB : Bool) (s : State) : State × Option Nat :=
  if s.qlc.queue.length < 16 then
    (s.setQlc { s.qlc with queue := s.qlc.queue ++ [⟨s.qlc.nextEntry, frame, onA, onB⟩], nextEntry := s.qlc.nextEntry + 1 },
      some s.qlc.nextEntry)
  else (onErrors ErrorSummary.full s, none)

/-- Queue a frame on one channel. -/
def enqueueOn (c : Channel) (frame : Frame) (s : State) : State × Option Nat := enqueue frame (c == .a) (c == .b) s

/-- Queue a notice to all stations on every usable channel (R177, R182); whether it was taken. -/
def broadcast (body : FrameBody) (s : State) : State × Bool :=
  let r := enqueue ⟨0, 0, body⟩ (s.qlc.usable .a) (s.qlc.usable .b) s
  (r.1, r.2.isSome)

/-- Queue an answer on the channel of its request; a full queue drops it (R181). -/
def sendAnswer (c : Channel) (destination : Nat) (sequence : Num8) (body : FrameBody) (s : State) : State :=
  (enqueueOn (s.qlc.prefer c) ⟨destination, sequence, body⟩ s).1

/-- The waiting copy of an entry for a channel that is no longer usable: both channels lose the DOWN one, the DOWN one
alone moves to the other (R177). -/
def Entry.moved (e : Entry) (c : Channel) : Entry :=
  if !e.on c then e else if e.on c.other then e.without c else (e.without c).also c.other

/-- Adjust the waiting entries that meet a test when a channel is DOWN while the other is UP; a request whose frame moves
takes the new channel (R177, R178). -/
def adjust (c : Channel) (p : Entry → Bool) (s : State) : State :=
  if s.qlc.usable c then s
  else
    let touched := fun e : Entry => p e && !s.qlc.beingSent e.id c
    let moves := fun e : Entry => touched e && e.on c && !e.on c.other
    s.setQlc { s.qlc with
      queue := updWhere touched (fun e => e.moved c) s.qlc.queue
      requests := updWhere (fun r => s.qlc.queue.any fun e => moves e && r.entry == some e.id)
        (fun r => { r with channel := c.other }) s.qlc.requests }

/-- An UP channel becomes DOWN (R171). -/
def channelDown (c : Channel) (cause : DownCause) (s : State) : State :=
  if (s.qlc.line c).state == .up then
    adjust c (fun _ => true)
      (report (.channelDown c cause) (onErrors (ErrorSummary.down c) (onLine c (fun l => { l with state := .down }) s)))
  else s

/-- A frame is received on a channel: its silence timer starts again, a DOWN channel becomes UP, and the other channel
goes DOWN if its silent mark is set (R170, R171). Where one frame does both, its own channel is UP first (the model's
choice, log entry 66). -/
def heardOn (c : Channel) (s : State) : State :=
  let wasDown := (s.qlc.line c).state == .down
  let s1 := onLine c (fun l =>
    { l with lastFrame := some s.now, silenceAt := s.now + 5000, silent := false, state := .up,
             faults := if wasDown then 0 else l.faults }) s
  let s2 := if wasDown then report (.channelUp c) s1 else s1
  if (s2.qlc.line c.other).silent then channelDown c.other .silence s2 else s2

/-- A frame that passed the checks of R174 is taken: received for R170, dropped as a clash when its source is this
station's own number, otherwise delivered. -/
def receive (c : Channel) (source : Nat) (deliver : State → State) : State → State :=
  whenUp fun s =>
    let s1 := heardOn c s
    if source = s1.cfg.station then report (.stationClash c) s1 else deliver s1

/-! ### Pending requests (R178 to R180) -/

/-- The kind of a pending request. -/
def Pending.kind (p : Pending) : RequestKind := (p.body.request?).getD .office

/-- The counter's value, or the first one after it that no entry of the table uses (R178). -/
def freeSequence (used : List Num8) (from' : Num8) : Nat → Num8
  | 0 => from'
  | n + 1 => if used.contains from' then freeSequence used (from' + 1) n else from'

/-- Send a request as a pending request: LINK_BUSY (`false`) when the table holds 8 entries or the queue cannot take the
first attempt (R178). The table is looked at first, so QUEUE_FULL does not rise where both are full (the model's choice, log
entry 74). -/
def ask (destination : Nat) (body : FrameBody) (originator : Originator) (s : State) : State × Bool :=
  if 8 ≤ s.qlc.requests.length then (s, false)
  else
    let seq := freeSequence (s.qlc.requests.map Pending.sequence) s.qlc.sequence 9
    let c := s.qlc.prefer .a
    let r := enqueueOn c ⟨destination, seq, body⟩ s
    match r.2 with
    | none => (r.1, false)
    | some id =>
      (r.1.setQlc { r.1.qlc with
          sequence := seq + 1
          requests := r.1.qlc.requests ++ [⟨destination, body, seq, 1, c, none, s.now + 200, some id, originator⟩] }, true)

/-- Change the pending request of a sequence. -/
def onRequest (sequence : Num8) (f : Pending → Pending) (s : State) : State :=
  s.setQlc { s.qlc with requests := updWhere (fun p => p.sequence == sequence) f s.qlc.requests }

/-- The pending request of a sequence. -/
def State.request? (s : State) (sequence : Num8) : Option Pending :=
  s.qlc.requests.find? fun p => p.sequence == sequence

/-- The pending request an answer matches (R180). -/
def State.matching? (s : State) (source : Nat) (sequence : Num8) (body : FrameBody) : Option Pending :=
  s.qlc.requests.find? fun p =>
    body.answers p.body && p.sequence == sequence && (p.destination == source || p.kind == .tagQuery)

/-- The frame of a request that is being sent, which outlives the request (R179, R180). -/
def Qlc.leftover? (q : Qlc) (p : Pending) : Option Leftover :=
  p.entry.bind fun id => if q.waits id then none else some ⟨p.sequence, id, p.dropAt⟩

/-- Take a request off the table and withdraw its frame if it still waits; one being sent ends as any other, and keeps its
200 ms (R179, R180). -/
def closeRequest (p : Pending) (s : State) : State :=
  s.setQlc { s.qlc with
    requests := s.qlc.requests.filter fun x => x.sequence != p.sequence
    queue := s.qlc.queue.filter fun e => !(p.entry == some e.id && s.qlc.waits e.id)
    leftovers := s.qlc.leftovers ++ (s.qlc.leftover? p).toList }

/-- An answer arrives: it closes the request it matches and goes to the originator, or it is LATE (R180). -/
def takeAnswer (source : Nat) (sequence : Num8) (body : FrameBody) (hand : Pending → State → State) (s : State) : State :=
  match s.matching? source sequence body with
  | some p => hand p (closeRequest p s)
  | none => onErrors ErrorSummary.late s

/-- Make the next attempt of a request, on the other channel if it is usable (R177, R179). An attempt that finds the queue full
counts as made on the channel it would have used (the model's choice, log entry 71). -/
def nextAttempt (p : Pending) (s : State) : State :=
  let c := s.qlc.prefer p.channel.other
  let r := enqueueOn c ⟨p.destination, p.sequence, p.body⟩ s
  onRequest p.sequence (fun x =>
    { x with attempt := p.attempt + 1, channel := c, entry := r.2, dropAt := s.now + 200,
             deadline := if r.2.isSome then none else some (s.now + s.cfg.responseTimeout) }) r.1

/-- The deadline of a request comes: the next attempt, or after the third TIMED_OUT to the originator (R179). -/
def deadlineCome (p : Pending) (timedOut : Pending → State → State) (s : State) : State :=
  if p.attempt < 3 then nextAttempt p s else timedOut p (closeRequest p s)

/-! ### The Announce (R183, R184) -/

/-- An entry is a waiting Announce of this station. -/
def Qlc.announceAt? (q : Qlc) (e : Entry) : Bool := e.frame.body.announces && q.waits e.id

/-- An Announce of this station waits in the queue. -/
def Qlc.announceWaits (q : Qlc) : Bool := q.queue.any q.announceAt?

/-- The Announce a transmitter is sending is about to wait again: one that waits meanwhile gives way to it, since at most one
waits (R183). That the one that waits gives way, whichever of the two was generated first, is the model's choice (log entries 42
and 80). -/
def yieldAnnounce (c : Channel) (s : State) : State :=
  match (s.qlc.line c).sending with
  | some x =>
    if x.frame.body.announces then s.setQlc { s.qlc with queue := s.qlc.queue.filter fun e => !s.qlc.announceAt? e } else s
  | none => s

/-- The channel of the next Announce (R183). -/
def Qlc.announceChannel (q : Qlc) : Channel :=
  match q.lastAnnounce with
  | none => q.prefer .a
  | some c => q.prefer c.other

/-- Generate an Announce, unless announcing is held or one waits already (R183). -/
def generateAnnounce (s : State) : State :=
  if s.lsu.held || s.qlc.announceWaits then s
  else
    let c := s.qlc.announceChannel
    let r := enqueueOn c ⟨0, 0, .announce none⟩ s
    if r.2.isSome then r.1.setQlc { r.1.qlc with lastAnnounce := some c } else r.1

/-- The values an Announce takes when its sending begins (R183). -/
def State.announceValues (s : State) : AnnounceBody where
  role := s.cfg.role
  floor := s.cfg.floor
  ceiling := s.cfg.ceiling
  demand := s.lsu.declared
  errors := s.qlc.errors

/-! ### The transmitters (R175, R176) -/

/-- The highest-ranked entry for a channel: by priority, then by joining (R175). -/
def bestEntry (c : Channel) (queue : List Entry) : Option Entry :=
  queue.foldl (fun best e =>
    if e.on c then
      match best with
      | some b => if e.frame.body.priority < b.frame.body.priority then some e else some b
      | none => some e
    else best) none

/-- A frame laid out as bytes (R172): priority and source, kind, destination, sequence, payload length, header check, and
the payload with its check where there is one. -/
def wireBytes (priority : Nat) (w : WireFrame) : List Byte :=
  let head : List Byte := [BitVec.ofNat 8 (32 * priority + w.source), BitVec.ofNat 8 w.code,
    BitVec.ofNat 8 w.destination, w.sequence, BitVec.ofNat 8 w.payload.length]
  head ++ [crc8 head] ++ (if w.payload.isEmpty then [] else w.payload ++ highLow (crc16 w.payload))

/-- A frame as a station of a number sends it (R172, R173). -/
def Frame.onWire (source : Nat) (f : Frame) : WireFrame :=
  ⟨source, f.body.code, f.destination, f.sequence, f.body.payload⟩

/-- The bytes a transmitter is sending (R172, R175). -/
def State.sentBytes (s : State) (c : Channel) : Option (List Byte) :=
  (s.qlc.line c).sending.map fun x => wireBytes x.frame.body.priority (Frame.onWire s.cfg.station x.frame)

/-- A frame as it is sent: an Announce takes its values now. -/
def Frame.withValues (f : Frame) (v : AnnounceBody) : Frame :=
  match f.body with
  | .announce _ => { f with body := .announce (some v) }
  | _ => f

/-- An idle channel's free transmitter takes the highest-ranked entry and begins to send it (R175). -/
def beginSending (c : Channel) (s : State) : State :=
  if (s.qlc.line c).sending.isSome then s
  else
    match bestEntry c s.qlc.queue with
    | none => s
    | some e => onLine c (fun l => { l with sending := some ⟨e.id, Frame.withValues e.frame s.announceValues⟩ }) s

/-- A transmission completes: the channel leaves the entry's set, the fault count clears, a request's deadline is set, an
Announce's counts are lowered (R176, R179, R184). -/
def endSending (c : Channel) (s : State) : State :=
  match (s.qlc.line c).sending with
  | none => s
  | some x =>
    let s1 := onLine c (fun l => { l with sending := none, faults := 0 }) s
    let s2 := s1.setQlc { s1.qlc with
      queue := (updWhere (fun e => e.id == x.entry) (fun e => e.without c) s1.qlc.queue).filter fun e => e.onA || e.onB
      requests := updWhere (fun p => p.entry == some x.entry)
        (fun p => { p with deadline := some (s.now + s.cfg.responseTimeout), entry := none }) s1.qlc.requests
      leftovers := s1.qlc.leftovers.filter fun l => l.entry != x.entry }
    match x.frame.body with
    | .announce (some v) => onErrors (fun e => e.less v.errors) s2
    | _ => s2

/-- A transmit fault: the count rises, at 3 an UP channel goes DOWN, and the entry is moved when the channel is no longer
usable (R176, R177). -/
def sendingFault (c : Channel) (entry : Nat) (s : State) : State :=
  let s1 := onLine c (fun l => { l with sending := none, faults := min 3 (l.faults + 1) }) s
  let s2 := if 3 ≤ (s1.qlc.line c).faults then channelDown c .faults s1 else s1
  adjust c (fun e => e.id == entry) s2

/-! ### Commands -/

/-- TRANSMIT_START (R175, R183, R184). -/
def execTransmitStart (c : Channel) (s : State) : Host.Outcome State Fault Refusal := .next (whenUp (beginSending c) s)

/-- TRANSMIT_COMPLETE (R176, R179, R184). -/
def execTransmitComplete (c : Channel) (s : State) : Host.Outcome State Fault Refusal := .next (whenUp (endSending c) s)

/-- ARBITRATION_LOST: the transmitter stops; the entry keeps its place and its set (R175, R183). -/
def execArbitrationLost (c : Channel) (s : State) : Host.Outcome State Fault Refusal :=
  .next (whenUp (fun s => onLine c (fun l => { l with sending := none }) (yieldAnnounce c s)) s)

/-- TRANSMIT_FAULT: a bit after the arbitration field reads back wrong (R176, R183). -/
def execTransmitFault (c : Channel) (s : State) : Host.Outcome State Fault Refusal :=
  .next (whenUp (fun s =>
    match (s.qlc.line c).sending with
    | some x => sendingFault c x.entry (yieldAnnounce c s)
    | none => s) s)

/-- MEDIUM_BUSY_TIMEOUT: the medium has not fallen idle within 20 ms of the transmitter being ready with an entry, which
is a fault (R176). -/
def execMediumBusyTimeout (c : Channel) (s : State) : Host.Outcome State Fault Refusal :=
  .next (whenUp (fun s =>
    if (s.qlc.line c).sending.isSome then s
    else
      match bestEntry c s.qlc.queue with
      | some e => sendingFault c e.id s
      | none => s) s)

/-- SILENCE_TIMER: the silent mark is set, and an UP channel goes DOWN when a frame was received on the other channel
within the last 5 s (R170, R171); one received exactly 5 s ago counts (the model's choice, log entry 79). -/
def execSilenceTimer (c : Channel) (s : State) : Host.Outcome State Fault Refusal :=
  .next (whenUp (fun s =>
    if (s.qlc.line c).silent then s
    else
      let s1 := onLine c (fun l => { l with silent := true }) (reach (s.qlc.line c).silenceAt s)
      if (s1.qlc.line c.other).lastFrame.any fun t => s1.now ≤ t + 5000 then channelDown c .silence s1 else s1) s)

/-- The frame of a sequence whose request has been closed while it was being sent is dropped, if there is one: it is withdrawn,
and a transmission of it is not tried again (R179). -/
def dropLeftover (sequence : Num8) (s : State) : State :=
  match s.qlc.leftovers.find? fun l => l.sequence == sequence with
  | some l =>
    let s1 := reach l.dropAt s
    s1.setQlc { s1.qlc with
      queue := s1.qlc.queue.filter fun e => e.id != l.entry
      leftovers := s1.qlc.leftovers.filter fun x => x.entry != l.entry }
  | none => s

/-- ATTEMPT_DROP: an attempt not completed within 200 ms is withdrawn and its deadline set; so is the frame of a closed
request (R179). -/
def execAttemptDrop (sequence : Num8) (s : State) : Host.Outcome State Fault Refusal :=
  .next (whenUp (fun s =>
    match (s.request? sequence).filter fun p => p.deadline.isNone with
    | some p =>
      let s1 := reach p.dropAt s
      onRequest sequence (fun x => { x with deadline := some (s1.now + s1.cfg.responseTimeout), entry := none })
        (s1.setQlc { s1.qlc with queue := s1.qlc.queue.filter fun e => p.entry != some e.id })
    | none => dropLeftover sequence s) s)

end Sys2Proof.Machine
end

