-- ==== Sys2Proof/Machine/Cache.lean ====
section
/-! DEFINITION. The access cache and the revoking of copies (chapter 6): R111, R115, R118, R120 to R123. Lookups are in
Lookups.lean. -/

namespace Sys2Proof.Machine

/-- The cache set of a tag: its low 6 bits (R118). -/
def cacheSetOf (t : Tag) : Nat := t.toNat % 64

/-- The entry of the cache for a tag (R115). -/
def Acu.entry? (a : Acu) (t : Tag) : Option CacheEntry := a.cache.find? fun e => e.record.tag == t

/-- An unpinned entry is valid while the running second count is below its valid-until (R115). -/
def entryValid (seconds : Nat) (e : CacheEntry) : Bool := e.pinned || e.validUntil.any fun v => seconds < v

/-- The entry of a way of a set. -/
def Acu.wayOf (a : Acu) (set way : Nat) : Option CacheEntry :=
  a.cache.find? fun e => cacheSetOf e.record.tag == set && e.way == way

/-- Make the entry of a tag the most recently used of its set (R115). -/
def touchEntry (e : CacheEntry) (s : State) : State :=
  s.setAcu { s.acu with cache := e :: s.acu.cache.filter fun x => x.record.tag != e.record.tag }

/-- Make the unpinned entries of some tags invalid (R122, R123). -/
def dropTags (tags : List Tag) (s : State) : State :=
  s.setAcu { s.acu with cache := s.acu.cache.filter fun e => e.pinned || !tags.contains e.record.tag }

/-- Set the revoke mark of any lookup in flight for one of some tags (R122, R123). -/
def markLookups (tags : List Tag) (s : State) : State :=
  s.setAcu { s.acu with lookups := updWhere (fun l => tags.contains l.tag) (fun l => { l with marked := true }) s.acu.lookups }

/-- Revoke a list of tags: local copies dropped, lookups marked, a Tag Revoke queued on both channels; REVOKE_LOST when
QLC cannot take it (R122, R182). -/
def revoke (tags : List Tag) (s : State) : State :=
  match tags with
  | [] => s
  | first :: _ =>
    let r := broadcast (.tagRevoke s.cfg.station tags) (markLookups tags (dropTags tags s))
    if r.2 then r.1 else report (.revokeLost first tags.length) r.1

/-- The credential record of a booking as it stands (R111, R114, R121). -/
def credentialOf (station : Nat) (tag : Tag) (berth : Nat) (b : Booking) : Credential where
  tag := tag
  owner := station
  cls := match b.stay.kind with
    | .resident => .resident
    | .visitor => .visitor
  booking := some ⟨berth, b.serial.getD 0, b.state, b.purse.standing, b.epoch⟩

/-- The local booking that holds a tag, on a PONTOON station, as a credential record with its departure day (R114). -/
def State.localCredential? (s : State) (t : Tag) : Option (Credential × Nat) :=
  if s.cfg.role = .pontoon then
    (s.byTag? t).map fun p => (credentialOf s.cfg.station t p.1 p.2, p.2.stay.departure)
  else none

/-- Seconds to the next close second of the day clock (R120, R169). -/
def secondsToClose (close second : Nat) : Nat := if second < close then close - second else close + 86400 - second

/-- The valid-until of a fill (R120): the cache life, and while the clock is RUNNING no longer than to the rollover that
ends the departure day. -/
def State.fillUntil (s : State) (departure : Nat) : Nat :=
  let life := s.cfg.cacheLife * 60
  match s.dck.clock with
  | none => s.seconds + life
  | some t => s.seconds + min life (secondsToClose s.cfg.closeSecond t.second + 86400 * (departure - t.day))

/-- The lowest-numbered way of a set that is invalid or holds an expired unpinned entry (R120). -/
def State.openWay? (s : State) (set : Nat) : Option Nat :=
  [0, 1, 2, 3].find? fun w =>
    match s.acu.wayOf set w with
    | none => true
    | some e => !entryValid s.seconds e

/-- The least recently used unpinned entry of a set (R120). -/
def Acu.oldestUnpinned? (a : Acu) (set : Nat) : Option CacheEntry :=
  (a.cache.reverse).find? fun e => cacheSetOf e.record.tag == set && !e.pinned

/-- The way a fill uses (R120). -/
def State.fillWay? (s : State) (t : Tag) : Option Nat :=
  match s.acu.entry? t with
  | some e => if e.pinned then none else some e.way
  | none => (s.openWay? (cacheSetOf t)).or ((s.acu.oldestUnpinned? (cacheSetOf t)).map CacheEntry.way)

/-- Fill the cache with the record of a Tag Answer; a pinned entry for the tag stands (R120). -/
def fillCache (record : Credential) (departure : Nat) (s : State) : State :=
  match s.fillWay? record.tag with
  | none => s
  | some w =>
    let kept := s.acu.cache.filter fun e => !(cacheSetOf e.record.tag == cacheSetOf record.tag && e.way == w)
    s.setAcu { s.acu with cache := ⟨w, record, some (s.fillUntil departure), false⟩ :: kept }

/-- Pin one tag of the image, or write PIN_SKIPPED (R119). -/
def pinTag (p : PinCfg) (s : State) : State :=
  let set := cacheSetOf p.tag
  let mine := s.acu.cache.filter fun e => cacheSetOf e.record.tag == set && e.pinned
  if 3 ≤ mine.length || mine.any fun e => e.record.tag == p.tag then report (.pinSkipped p.tag set) s
  else
    match [0, 1, 2, 3].find? fun w => (s.acu.wayOf set w).isNone with
    | none => report (.pinSkipped p.tag set) s
    | some w =>
      let record : Credential :=
        { tag := p.tag, owner := s.cfg.station, cls := if p.contractor then .contractor else .staff,
          window := if p.contractor then p.window else none }
      s.setAcu { s.acu with cache := ⟨w, record, none, true⟩ :: s.acu.cache }

/-! ### Frames delivered -/

/-- A Tag Query delivered: answered by a PONTOON station whose booking holds the tag, and by no other (R121). -/
def onTagQuery (c : Channel) (source : Nat) (sequence : Num8) (tag : Tag) (s : State) : State :=
  match s.localCredential? tag with
  | some (record, departure) => sendAnswer c source sequence (.tagAnswer record departure) s
  | none => s

/-- A Tag Revoke delivered: unpinned copies are dropped, whatever owner they name, and lookups are marked (R123). -/
def onTagRevoke (tags : List Tag) (s : State) : State := markLookups tags (dropTags tags s)

end Sys2Proof.Machine
end

