-- ==== Sys2Proof/Machine/LoadShare.lean ====
section
/-! DEFINITION. LSU (chapter 4): participants, the computation, the applied allotment, demand and declaration. The
committed load and the restore queue it reads are views over PBC's records (R93, R99), given here. -/

namespace Sys2Proof.Machine

/-! ### Committed load and restore queue (R93, R99) -/

/-- The post of a number is OFFLINE. -/
def Pbc.postOffline (p : Pbc) (n : Nat) : Bool := p.posts.any fun x => x.cfg.number == n && x.state == .offline

/-- Rounded up to a multiple of 10. -/
def roundUp10 (n : Nat) : Nat := (n + 9) / 10 * 10

/-- The claim of an outlet (R93). -/
def Pbc.claim (p : Pbc) (o : Outlet) : Nat :=
  if o.state = .live then
    if p.postOffline o.post then o.rating.rating else max o.startClaim (roundUp10 o.smoothed)
  else 0

/-- The committed load K: the sum of the claims of LIVE outlets (R93). -/
def Pbc.committed (p : Pbc) : Nat := (p.outlets.map p.claim).sum

/-- In the restore queue: WAITING or SHED (R99). -/
def Outlet.queued (o : Outlet) : Bool := o.state == .waiting || o.state == .shed

/-- The key of an outlet in the queue (R99). -/
def Outlet.key (o : Outlet) : Nat := if o.state = .waiting then o.join.getD 0 else o.energise.getD 0

/-- The priority class of an outlet's berth (R99). -/
def State.classOf (s : State) (o : Outlet) : Nat := ((o.berth.bind s.berth?).map fun b => b.cfg.priority).getD 0

/-- Before in the restore queue: higher class, then lower key (R99). -/
def State.aheadOf (s : State) (x y : Outlet) : Bool :=
  s.classOf y < s.classOf x || (s.classOf x == s.classOf y && x.key ≤ y.key)

/-- The restore queue in order (R99). -/
def State.restoreQueue (s : State) : List Outlet := sortBy s.aheadOf (s.pbc.outlets.filter Outlet.queued)

/-! ### Participants (R68, R69) -/

/-- A participant with its limited demand and excess (R68, R69): reported values above 60,000 are taken as 60,000 and a
floor above its ceiling as that ceiling. -/
def participant (number : Nat) (kind : PartKind) (floor ceiling demand : Nat) : Participant :=
  let c := min ceiling 60000
  let f := min (min floor 60000) c
  let d := min (min demand 60000) c
  { number := number, kind := kind, floor := f, ceiling := c, demand := d, excess := d - f, share := 0 }

/-- The participant a peer brings: PRESENT at its declared demand, STALE at its ceiling, UNHEARD none (R68). -/
def peerParticipant (p : Peer) : Option Participant :=
  match p.state with
  | .unheard => none
  | .present => some (participant p.number .present (p.floor.getD 0) (p.ceiling.getD 0) (p.demand.getD 0))
  | .stale => some (participant p.number .stale (p.floor.getD 0) (p.ceiling.getD 0) (p.ceiling.getD 0))

/-- The number of virtual participants (R68). -/
def State.virtuals (s : State) : Nat := s.cfg.expected - 1 - (s.qlc.peers.filter fun p => p.state != .unheard).length

/-- The participants of a computation, in ascending number (R68). -/
def State.participants (s : State) : List Participant :=
  sortBy (fun x y => x.number ≤ y.number)
      (participant s.cfg.station .own s.cfg.floor s.cfg.ceiling s.lsu.declared :: s.qlc.peers.filterMap peerParticipant) ++
    (List.range s.virtuals).map fun i => participant (31 + i) .virtual 0 s.cfg.defaultCeiling s.cfg.defaultCeiling

/-! ### The computation (R70, R72, R73) -/

/-- The sum of the floors. -/
def floorSum (ps : List Participant) : Nat := (ps.map Participant.floor).sum

/-- The sum over the participants of the smaller of the excess and w (R73). -/
def cappedSum (ps : List Participant) (w : Nat) : Nat := (ps.map fun p => min p.excess w).sum

/-- The largest w below 2 ^ n that fits the spare, found bit by bit from `w` on. -/
def levelFrom (ps : List Participant) (spare : Nat) : Nat → Nat → Nat
  | 0, w => w
  | n + 1, w => levelFrom ps spare n (if cappedSum ps (w + 2 ^ n) ≤ spare then w + 2 ^ n else w)

/-- The water level: the largest whole number for which the capped excesses fit the spare (R73). Excesses are at most
60,000, below 2 ^ 17. -/
def waterLevel (ps : List Participant) (spare : Nat) : Nat := levelFrom ps spare 17 0

/-- Give each participant above the level its share, the leftover going to the first of them (R73). -/
def giveShares (w : Nat) : Nat → List Participant → List Participant
  | _, [] => []
  | left, p :: rest =>
    if w < p.excess then
      { p with share := p.floor + w + (if 0 < left then 1 else 0) } :: giveShares w (left - 1) rest
    else { p with share := p.floor + p.excess } :: giveShares w left rest

/-- The participants with their shares: floors scaled down, whole excesses, or the water level (R70, R72, R73). -/
def computeShares (limit : Nat) (ps : List Participant) : List Participant :=
  let floors := floorSum ps
  if limit < floors then ps.map fun p => { p with share := p.floor * limit / floors }
  else
    let spare := limit - floors
    if (ps.map Participant.excess).sum ≤ spare then ps.map fun p => { p with share := p.floor + p.excess }
    else
      let w := waterLevel ps spare
      giveShares w (spare - cappedSum ps w) ps

/-- The share of a number. -/
def shareOf (number : Nat) (ps : List Participant) : Nat := ((ps.find? fun p => p.number == number).map Participant.share).getD 0

/-! ### The applied allotment (R71, R74, R76, R77, R87) -/

/-- Keep the FLOORS_OVER condition by the outcome of a computation (R71). -/
def noteFloors (floors : Nat) (s : State) : State :=
  let exceeded := decide (s.cfg.feederLimit < floors)
  if exceeded && !s.lsu.floorsOver then
    report (.floorsOver floors s.cfg.feederLimit) (s.setLsu { s.lsu with floorsOver := true })
  else if !exceeded && s.lsu.floorsOver then
    report (.floorsCleared floors s.cfg.feederLimit) (s.setLsu { s.lsu with floorsOver := false })
  else s

/-- Bring a computed allotment to A: a fall at once, with ALLOTMENT_CUT when it is more than H; an equal value stops the
raise timer; a rise starts it if it is stopped (R76, R77, R87). -/
def applyComputed (cause : Nat) (s : State) : State :=
  let c := s.lsu.computed
  let a := s.lsu.applied
  if c < a then
    let s1 := s.setLsu { s.lsu with applied := c, raiseAt := none }
    if s.cfg.hysteresis < a - c then report (.allotmentCut cause a c) s1 else s1
  else if c = a then s.setLsu { s.lsu with raiseAt := none }
  else
    match s.lsu.raiseAt with
    | some _ => s
    | none => s.setLsu { s.lsu with raiseAt := some (s.now + s.cfg.raiseTime * 1000) }

/-- Run the computation (R70 to R77); `cause` is the subject of an ALLOTMENT_CUT (R87). -/
def compute (cause : Nat) (s : State) : State :=
  let ps := computeShares s.cfg.feederLimit s.participants
  let s1 := noteFloors (floorSum ps) s
  applyComputed cause
    (s1.setLsu { s1.lsu with computed := shareOf s.cfg.station ps, participants := ps })

/-! ### Demand and declaration (R81 to R83) -/

/-- The demand: committed load plus the start claims of the queued outlets, at most C (R81). -/
def State.demandNow (s : State) : Nat :=
  min s.cfg.ceiling (s.pbc.committed + ((s.pbc.outlets.filter Outlet.queued).map Outlet.startClaim).sum)

/-- Declare a demand and run the computation (R75, R82). -/
def declare (d : Nat) (s : State) : State := compute s.cfg.station (s.setLsu { s.lsu with declared := d })

/-- LSU works the demand out again after a change of the committed load or the queue (R81), and compares it with the
declared demand (R82). -/
def noteLoad (s : State) : State :=
  if s.cfg.role = .pontoon && s.pbc.firstRound then
    let d := s.demandNow
    let s1 := s.setLsu { s.lsu with demand := d }
    if s1.lsu.declared = d then s1
    else if s1.lsu.declared + s1.cfg.hysteresis ≤ d then
      compute s1.cfg.station (generateAnnounce (s1.setLsu { s1.lsu with declared := d }))
    else if d + s1.cfg.hysteresis ≤ s1.lsu.declared then declare d s1
    else s1
  else s

end Sys2Proof.Machine
end

