-- ==== Sys2Proof/Machine/Posts.lean ====
section
/-! DEFINITION. PBC (chapter 5) but for metering: outlets, taps, the restore queue, shedding and restoring, the Polls,
and the effect of standing changes and endings at the posts. An event that changes the applied allotment, the committed
load or the restore queue ends with `settled` (R100, R101). -/

namespace Sys2Proof

/-- A wanted flag of a booking by the outlet's place in the berth's outlet list (section 1.2). -/
def Booking.wantedAt (b : Booking) : Nat → Bool
  | 0 => b.wantedFirst
  | _ => b.wantedSecond

/-- A booking with one wanted flag changed. -/
def Booking.setWanted (place : Nat) (v : Bool) (b : Booking) : Booking :=
  match place with
  | 0 => { b with wantedFirst := v }
  | _ => { b with wantedSecond := v }

/-- The over-current limit of a rating, 110 % of it (R97). -/
def PowerClass.limit : PowerClass → Nat
  | .a16 => 176
  | .a32 => 352
  | .a63 => 693

end Sys2Proof

namespace Sys2Proof.Machine

/-! ### Records -/

/-- The outlet of a number. -/
def State.outlet? (s : State) (n : Nat) : Option Outlet := s.pbc.outlets.find? fun o => o.number == n

/-- The tap of a number. -/
def State.tap? (s : State) (n : Nat) : Option Tap := s.pbc.taps.find? fun t => t.number == n

/-- The post of a number. -/
def State.post? (s : State) (n : Nat) : Option Post := s.pbc.posts.find? fun p => p.cfg.number == n

/-- Change an outlet's record where neither the committed load nor the restore queue can change. -/
def patchOutlet (n : Nat) (f : Outlet → Outlet) (s : State) : State :=
  s.setPbc { s.pbc with outlets := updWhere (fun o => o.number == n) f s.pbc.outlets }

/-- Change an outlet's state or claim; LSU is told of it in the same event (R81, R93). -/
def changeOutlet (n : Nat) (f : Outlet → Outlet) (s : State) : State := noteLoad (patchOutlet n f s)

/-- Change a tap's record. -/
def changeTap (n : Nat) (f : Tap → Tap) (s : State) : State :=
  s.setPbc { s.pbc with taps := updWhere (fun t => t.number == n) f s.pbc.taps }

/-- Change a post's record. -/
def changePost (n : Nat) (f : Post → Post) (s : State) : State :=
  s.setPbc { s.pbc with posts := updWhere (fun p => p.cfg.number == n) f s.pbc.posts }

/-- Take a number from the sequence counter (R99). -/
def takeNumber (s : State) : Nat × State := (s.pbc.counter, s.setPbc { s.pbc with counter := bump32 s.pbc.counter })

/-- The berth and the holding booking an outlet or tap acts for (R94). -/
def State.holder? (s : State) (berth : Option Nat) : Option (Nat × Booking) :=
  berth.bind fun n => (s.holding? n).map fun b => (n, b)

/-- The place of an outlet in its berth's outlet list. -/
def State.placeIn (s : State) (berth outlet : Nat) : Nat :=
  ((s.berth? berth).map fun b => b.cfg.outlets.findIdx (· == outlet)).getD 0

/-- Set or clear an outlet's wanted flag in its holding booking; a change queues the record (R20, R95 to R97). -/
def setWanted (o : Outlet) (v : Bool) (s : State) : State :=
  match s.holder? o.berth with
  | some (n, b) =>
    let place := s.placeIn n o.number
    if b.wantedAt place == v then s else changeBooking n (b.serial.getD 0) (Booking.setWanted place v) s
  | none => s

/-! ### Outlet transitions (R93, R96, R97, R99, R102) -/

/-- Become WAITING with a join number and no rest timer. -/
def outletWaits (n : Nat) (s : State) : State :=
  let r := takeNumber s
  changeOutlet n (fun o => { o with state := .waiting, join := some r.1, restAt := none }) r.2

/-- Become OFF, leaving the restore queue, the rest timer stopped. -/
def outletOff (n : Nat) : State → State :=
  changeOutlet n fun o => { o with state := .off, join := none, restAt := none }

/-- Become SUSPENDED, leaving the restore queue, the rest timer stopped. -/
def outletSuspended (n : Nat) : State → State :=
  changeOutlet n fun o => { o with state := .suspended, join := none, restAt := none }

/-- Become LIVE with an energise number, s at the start claim. -/
def outletLive (n : Nat) (s : State) : State :=
  let r := takeNumber s
  changeOutlet n (fun o =>
    { o with state := .live, smoothed := o.startClaim, overCurrent := 0, energise := some r.1, join := none,
             restAt := none }) r.2

/-- Become SHED at the energise number, with the rest timer started. -/
def outletShed (n : Nat) (s : State) : State :=
  changeOutlet n (fun o => { o with state := .shed, join := none, restAt := some (s.now + s.cfg.restTime * 1000) }) s

/-- Trip (R97). LSU hears of the claim as it leaves K, before OUTLET_TRIPPED is written (the model's reading, log entry 95). -/
def outletTrips (o : Outlet) (cause : TripCause) (current : Nat) (s : State) : State :=
  report (.outletTripped o.number cause current)
    (setWanted o false
      (changeOutlet o.number (fun x => { x with state := .tripped, join := none, restAt := none, overCurrent := 0 }) s))

/-- Switched off by a press or the terminal (R96). -/
def switchOff (o : Outlet) (s : State) : State := outletOff o.number (setWanted o false s)

/-- The end of a REFUSED lamp pattern shown from now on: the first time of a Poll without it (R90; log entry 84). -/
def State.refusedEnd (s : State) : Nat := s.now + 5000

/-- Why a request to energise is refused, if it is (R95). -/
def State.energiseRefusal (s : State) (o : Outlet) : Option ServiceRefusal :=
  match s.holder? o.berth with
  | none => some .noBooking
  | some (_, b) => if b.purse.standing == .arrears || b.purse.standing == .barred then some .standing else none

/-- A request to energise an OFF outlet (R95). -/
def requestOutlet (o : Outlet) (s : State) : State × Option ServiceRefusal :=
  match s.energiseRefusal o with
  | some r =>
    (report (.outletRefused o.number r o.berth)
      (patchOutlet o.number (fun x => { x with refusedUntil := some s.refusedEnd }) s), some r)
  | none => (outletWaits o.number (setWanted o true s), none)

/-- A press of an outlet's button (R94 to R97). -/
def pressOutlet (n : Nat) (s : State) : State :=
  match s.outlet? n with
  | none => s
  | some o =>
    match o.state with
    | .off => (requestOutlet o s).1
    | .waiting | .shed | .live | .suspended => switchOff o s
    | .tripped => s

/-- A press of an outlet's reset key (R97). -/
def pressReset (n : Nat) (s : State) : State :=
  match s.outlet? n with
  | none => s
  | some o => if o.state == .tripped && !o.faultSeen then outletOff n s else s

/-! ### Taps (R103, R104) -/

/-- Move a tap to a state; leaving OPEN stops its run timer and clears its leak count. -/
def moveTap (n : Nat) (target : TapState) (runAt : Option Nat) : State → State :=
  changeTap n fun t =>
    { t with state := target, runAt := runAt, leakCount := if t.state == .opened && target != .opened then 0 else t.leakCount }

/-- A press of a tap's button (R103). -/
def pressTap (n : Nat) (s : State) : State :=
  let refuse (r : ServiceRefusal) : State :=
    report (.tapRefused n r) (changeTap n (fun t => { t with refusedUntil := some s.refusedEnd }) s)
  match s.tap? n with
  | none => s
  | some t =>
    match t.state with
    | .opened => moveTap n .closed none s
    | .locked => refuse .standing
    | .closed =>
      if t.leakMark then refuse .leak
      else
        match s.holder? t.berth with
        | none => refuse .noBooking
        | some (_, b) =>
          if b.purse.standing == .barred then refuse .standing
          else moveTap n .opened (some (s.now + s.cfg.runLimit * 60000)) s

/-! ### A berth's outlets and tap (R28, R94, R98) -/

/-- Turn a berth's outlets OFF and its tap CLOSED (R94, R98). The outlets become OFF one after the other in the order of the
berth's outlet list, and LSU hears of each (R81, R82). R9, R94 and R98 give no order of the two, and Ddec and an ALLOTMENT_CUT can
depend on it: the order is the model's choice (log entry 97). -/
def berthOff (berth : Nat) (s : State) : State :=
  match s.berth? berth with
  | none => s
  | some b =>
    let s1 := b.cfg.outlets.foldl (fun x n => outletOff n x) s
    match b.cfg.tap with
    | some t => moveTap t .closed none s1
    | none => s1

/-- The holding booking `former` is displaced: the berth's outlets OFF, its wanted flags cleared and its record queued,
the tap CLOSED (R94). -/
def displaced (berth : Nat) (former : Booking) (s : State) : State :=
  berthOff berth
    (changeBooking berth (former.serial.getD 0) (fun k => { k with wantedFirst := false, wantedSecond := false }) s)

/-- After a change of a berth's booking list that makes a booking CURRENT: another booking may have become the holding
booking ahead of the former one (R94). -/
def afterCurrent (berth : Nat) (before : State) (s : State) : State :=
  match before.holding? berth, s.holding? berth with
  | some old, some new => if old.serial == new.serial then s else displaced berth old s
  | _, _ => s

/-- An outlet's part of a standing change (R28). -/
def noticeOutlet (old new : Standing) (n : Nat) (s : State) : State :=
  match s.outlet? n with
  | none => s
  | some o =>
    if new == .barred then
      if o.state == .live || o.queued then outletSuspended n s else s
    else if old == .barred && o.state == .suspended then outletWaits n s
    else s

/-- A tap's part of a standing change (R28, R103). -/
def noticeTap (old new : Standing) (n : Nat) (s : State) : State :=
  match s.tap? n with
  | none => s
  | some t =>
    if new == .barred then moveTap n .locked none s
    else if old == .barred && t.state == .locked then moveTap n .closed none s
    else s

/-- PBC receives a standing-change notice for the outlets and the tap a booking holds (R28, R94). The outlets are taken in
the order of the berth's outlet list, which decides their join numbers and what LSU hears first (the model's choice, log entries 49
and 97). -/
def postsNotice (berth serial : Nat) (old new : Standing) (s : State) : State :=
  match s.berth? berth with
  | none => s
  | some b =>
    if b.holding?.any fun k => k.serial == some serial then
      let s1 := b.cfg.outlets.foldl (fun x n => noticeOutlet old new n x) s
      match b.cfg.tap with
      | some t => noticeTap old new t s1
      | none => s1
    else s

/-! ### Shedding and restoring (R100, R101) -/

/-- Shed before another: lower class, then higher energise number (R100). -/
def State.shedBefore (s : State) (x y : Outlet) : Bool :=
  s.classOf x < s.classOf y || (s.classOf x == s.classOf y && (y.energise.getD 0) < (x.energise.getD 0))

/-- The LIVE outlet that is shed next (R100). -/
def State.victim? (s : State) : Option Outlet :=
  (s.pbc.outlets.filter fun o => o.state == .live).foldl (fun best o =>
    match best with
    | none => some o
    | some b => if s.shedBefore o b then some o else some b) none

/-- Shed LIVE outlets until K is no greater than A (R100). LSU hears of a claim as it leaves K, before OUTLET_SHED is written
(the model's reading, log entry 95); the entry gives the claim and A as they stood before the shed (log entry 27). -/
def shedLoop : Nat → State → State
  | 0, s => s
  | n + 1, s =>
    if s.pbc.committed ≤ s.lsu.applied then s
    else
      match s.victim? with
      | none => s
      | some o => shedLoop n (report (.outletShed o.number (s.pbc.claim o) s.lsu.applied) (outletShed o.number s))

/-- The claim an outlet would have on energising (R101): the start claim as it is, also where R93 then rounds the claim up (log
entry 82). -/
def Pbc.energiseClaim (p : Pbc) (o : Outlet) : Nat := if p.postOffline o.post then o.rating.rating else o.startClaim

/-- A restore pass over the queue (R101). -/
def restoreWalk : List Nat → State → State
  | [], s => s
  | n :: rest, s =>
    match s.outlet? n with
    | none => restoreWalk rest s
    | some o =>
      if !o.queued || o.restAt.isSome then restoreWalk rest s
      else if s.pbc.committed + s.pbc.energiseClaim o ≤ s.lsu.applied then restoreWalk rest (outletLive n s)
      else s

/-- Shed as far as R100 asks. -/
def shedAll (s : State) : State := shedLoop s.pbc.outlets.length s

/-- A restore pass (R101). -/
def restorePass (s : State) : State := restoreWalk (s.restoreQueue.map Outlet.number) s

/-- Shed, then run a restore pass; where the pass leaves K above A, be it that LSU lowered A meanwhile (R76) or that a start claim
joined K rounded up (log entry 82), shed again and run a pass again, since R101 runs one after any shedding of the event. -/
def settleRounds : Nat → State → State
  | 0, s => shedAll s
  | n + 1, s =>
    let passed := restorePass (shedAll s)
    if passed.pbc.committed ≤ passed.lsu.applied then passed else settleRounds n passed

/-- Shed and restore until K is within A and no queued outlet is left that a pass would switch LIVE (R100, R101). Each round but the
first sheds an outlet, which rests from then on, so one round more than there are outlets is enough (`settlePosts_ends`). -/
def settlePosts (s : State) : State := settleRounds (s.pbc.outlets.length + 1) s

/-- The end of an event (R100, R101): PBC sheds and restores when the event changed A, K or the restore queue, or has left
K above A. -/
def settled (before after : State) : State :=
  if after.pbc.committed ≤ after.lsu.applied && after.lsu.applied == before.lsu.applied &&
      after.pbc.committed == before.pbc.committed &&
      after.restoreQueue.map Outlet.number == before.restoreQueue.map Outlet.number then after
  else settlePosts after

/-- An event whose effects reach the posts: its changes, then shedding and restoring. -/
def event (f : State → State) (s : State) : State := settled s (f s)

/-! ### Polls (R89, R90) -/

/-- The lamp pattern and contactor command of an outlet (R90). A Poll sent exactly 5 s after a refusal carries the outlet's own
pattern again (the model's choice, log entry 84). -/
def Outlet.command (now : Nat) (o : Outlet) : OutletCommand :=
  { outlet := o.number
    on := o.state == .live
    lamp :=
      if o.refusedUntil.any fun t => now < t then .refused
      else
        match o.state with
        | .live => .steady
        | .waiting | .shed => .slow
        | .off => .dark
        | .suspended => .refused
        | .tripped => .fast }

/-- The lamp pattern and valve command of a tap (R90, R104); 5 s after a refusal as for an outlet (log entry 84). -/
def Tap.command (now : Nat) (t : Tap) : TapCommand :=
  { tap := t.number
    opened := t.state == .opened && !t.leakMark
    lamp :=
      if t.refusedUntil.any fun u => now < u then .refused
      else if t.leakMark then .fast
      else
        match t.state with
        | .opened => .steady
        | .closed => .dark
        | .locked => .refused }

/-- The Poll of a post as its records stand (R90). -/
def State.pollOf (s : State) (p : Post) : Poll where
  post := p.cfg.number
  outlets := p.cfg.outlets.filterMap fun c => (s.outlet? c.number).map (Outlet.command s.now)
  taps := p.cfg.taps.filterMap fun n => (s.tap? n).map (Tap.command s.now)

/-- The first poll round after a reset is complete: LSU takes D as Ddec, announcing is released, and an Announce is asked
for (R85, R89). -/
def firstRoundDone (s : State) : State :=
  if s.pbc.firstRound then s
  else
    let s1 := s.setPbc { s.pbc with firstRound := true }
    let d := s1.demandNow
    event (fun x => compute x.cfg.station
      (generateAnnounce (x.setLsu { x.lsu with demand := d, declared := d, held := false }))) s1

/-- Poll the next post of the round, or end the round (R89). -/
def nextPoll (s : State) : State :=
  match s.pbc.toPoll with
  | [] => firstRoundDone (s.setPbc { s.pbc with polling := none })
  | n :: rest =>
    match s.post? n with
    | some p => s.setPbc { s.pbc with polling := some n, toPoll := rest, poll := some (s.pollOf p) }
    | none => s.setPbc { s.pbc with polling := some n, toPoll := rest }

/-! ### Commands -/

/-- COMPUTATION_TIMER (R75, R87). -/
def execComputationTimer (s : State) : Host.Outcome State Fault Refusal :=
  .next (whenUp (event fun s =>
    let s1 := reach s.lsu.computationAt s
    compute 0 (s1.setLsu { s1.lsu with computationAt := s.lsu.computationAt + 1000 })) s)

/-- RAISE_TIMER (R78). -/
def execRaiseTimer (s : State) : Host.Outcome State Fault Refusal :=
  .next (whenUp (event fun s =>
    match s.lsu.raiseAt with
    | none => s
    | some t =>
      let s1 := reach t s
      s1.setLsu { s1.lsu with raiseAt := none, applied := max s1.lsu.applied s1.lsu.computed }) s)

/-- POLL_ROUND_TIMER: every post is polled once, in ascending number (R89). -/
def execPollRoundTimer (s : State) : Host.Outcome State Fault Refusal :=
  .next (whenUp (fun s =>
    let s1 := reach s.pbc.roundAt s
    let s2 := s1.setPbc { s1.pbc with roundAt := s.pbc.roundAt + 1000, toPoll := s1.pbc.posts.map fun p => p.cfg.number }
    if s2.pbc.posts.isEmpty then s2 else nextPoll s2) s)

/-- A miss of a post (R92). The claims of its LIVE outlets become their ratings with the third miss. A claim may fall by that,
where its smoothed current stood above the rating, and LSU may cut A (R82, R87): LSU hears of the load before POST_OFFLINE is
written, so that the ALLOTMENT_CUT comes first (the model's choice, log entry 94). -/
def missPost (n : Nat) (s : State) : State :=
  match s.post? n with
  | none => s
  | some p =>
    if p.state == .offline then s
    else if 2 ≤ p.misses then
      report (.postOffline n) (noteLoad (changePost n (fun x => { x with misses := 3, state := .offline }) s))
    else changePost n (fun x => { x with misses := x.misses + 1 }) s

/-- POST_MISS: no good Answer within 20 ms (R89, R92). -/
def execPostMiss (s : State) : Host.Outcome State Fault Refusal :=
  .next (whenUp (fun s =>
    match s.pbc.polling with
    | none => s
    | some n => nextPoll (event (missPost n) s)) s)

/-- REST_TIMER: the rest expiry is removed and a restore pass runs (R101, R102). -/
def execRestTimer (outlet : Nat) (s : State) : Host.Outcome State Fault Refusal :=
  .next (whenUp (fun s =>
    match (s.outlet? outlet).bind Outlet.restAt with
    | none => s
    | some t => settlePosts (patchOutlet outlet (fun o => { o with restAt := none }) (reach t s))) s)

/-- TAP_RUN_TIMER: an OPEN tap becomes CLOSED (R103). -/
def execTapRunTimer (tap : Nat) (s : State) : Host.Outcome State Fault Refusal :=
  .next (whenUp (fun s =>
    match (s.tap? tap).bind Tap.runAt with
    | none => s
    | some t => moveTap tap .closed none (reach t s)) s)

/-- REFUSED_LAMP_EXPIRY: the REFUSED pattern of a refusal ends (R90). -/
def execRefusedLampExpiry (meter : Meter) (s : State) : Host.Outcome State Fault Refusal :=
  .next (whenUp (fun s =>
    match meter with
    | .outlet n =>
      match (s.outlet? n).bind Outlet.refusedUntil with
      | none => s
      | some t => patchOutlet n (fun o => { o with refusedUntil := none }) (reach t s)
    | .tap n =>
      match (s.tap? n).bind Tap.refusedUntil with
      | none => s
      | some t => changeTap n (fun x => { x with refusedUntil := none }) (reach t s)) s)

end Sys2Proof.Machine
end

