-- ==== Sys2Proof/Machine/Purse.lean ====
section
/-! DEFINITION. PRS (chapter 2): debits, standing and its notices, holds and settlements at the owner, the purse
operations of an office, the powered-minute timer. -/

namespace Sys2Proof

/-- The lowest balance, the floor of R29, as a positive number. -/
abbrev floorCents : Nat := 99999999

/-- The granted amounts of the ACTIVE entries of a hold list (R26). -/
def heldBy (holds : List Hold) : Nat := ((holds.filter fun h => h.state == .active).map Hold.granted).sum

/-- The available amount: the balance less the granted amounts of the ACTIVE holds (R26). -/
def Purse.available (p : Purse) : Int := p.balance - heldBy p.holds

/-- The standing the purse gives (R26). -/
def Purse.standingNow (p : Purse) : Standing :=
  if p.barred || decide (p.available < -(p.creditLimit : Int)) then .barred
  else if p.available < 0 then .arrears
  else if p.available < p.lowMark then .low
  else .good

/-- The part of a debit that is applied (R29). -/
def Purse.applies (d : Nat) (p : Purse) : Nat :=
  if -(floorCents : Int) ≤ p.balance - d then d else (p.balance + floorCents).toNat

/-- A debit's applied part taken off the balance and added to its kind's total (R29). -/
def Purse.take (k : Charge) (a : Nat) (p : Purse) : Purse :=
  let q := { p with balance := p.balance - a }
  match k with
  | .power => { q with power := p.power + a }
  | .water => { q with water := p.water + a }
  | .fuel => { q with fuel := p.fuel + a }
  | .fee => { q with fees := p.fees + a }

/-- A debit of a booking: balance, total and the open day's charges in one change (R29). -/
def Booking.debit (k : Charge) (d : Nat) (b : Booking) : Booking :=
  let a := b.purse.applies d
  { b with purse := b.purse.take k a, openDay := { b.openDay with charges := b.openDay.charges + a } }

/-- Change the purse of a booking. -/
def Booking.onPurse (f : Purse → Purse) (b : Booking) : Booking := { b with purse := f b.purse }

/-- The entry of a hold list with an ID. -/
def holdOf? (id : HoldId) (holds : List Hold) : Option Hold := holds.find? fun h => h.id == id

/-- The list without the entry of an ID. -/
def dropHold (id : HoldId) (holds : List Hold) : List Hold := holds.filter fun h => h.id != id

/-- The list without its oldest SETTLED entry (R31). -/
def evictOldest : List Hold → List Hold
  | [] => []
  | h :: rest => if h.state == .settled then rest else h :: evictOldest rest

/-- Entries that are ACTIVE or EXPIRED (R34). -/
def openHolds (holds : List Hold) : Nat := (holds.filter fun h => h.state != .settled).length

/-- Add an entry at the end, evicting the oldest SETTLED one from a full list (R35, R39). -/
def addHold (h : Hold) (holds : List Hold) : List Hold :=
  (if 4 ≤ holds.length then evictOldest holds else holds) ++ [h]

/-- The amount a grant gives: the smaller of the requested amount and available (R35). -/
def Purse.grant (amount : Nat) (p : Purse) : Nat := (min (amount : Int) p.available).toNat

end Sys2Proof

namespace Sys2Proof.Machine

/-! ### Standing (R27, R28) -/

/-- A standing-change notice: the epoch advances, the tags are revoked, the posts act, STANDING_CHANGED (R6, R28). -/
def notice (berth serial : Nat) (old new : Standing) (s : State) : State :=
  match s.booking? berth serial with
  | none => s
  | some b =>
    let s1 := changeBooking berth serial (fun k => { k with epoch := k.epoch + 1 }) s
    let s2 := revoke b.tags s1
    report (.standingChanged berth old new serial) (postsNotice berth serial old new s2)

/-- Work the standing out again; where it differs, store it and raise one notice (R27). -/
def restand (berth serial : Nat) (s : State) : State :=
  match s.booking? berth serial with
  | none => s
  | some b =>
    let new := b.purse.standingNow
    if b.purse.standing == new then s
    else
      notice berth serial b.purse.standing new
        (changeBooking berth serial (Booking.onPurse fun p => { p with standing := new }) s)

/-! ### Debits (R29, R30) -/

/-- Debit a booking and record what is lost; a debit of 0 changes no field (R29). -/
def debit (berth serial : Nat) (k : Charge) (d : Nat) (s : State) : State :=
  if d = 0 then s
  else
    match s.booking? berth serial with
    | none => s
    | some b =>
      let a := b.purse.applies d
      let s1 := changeBooking berth serial (Booking.debit k d) s
      if a < d then report (.debitLost berth serial (d - a)) s1 else s1

/-- A metered charge: milli-cents gather in the remainder, whole cents are debited (R30). The standing is compared after
each charge, so one Answer may raise two notices of one booking (the model's choice, log entry 50). -/
def meterCharge (berth serial : Nat) (k : Charge) (units rate : Nat) (s : State) : State :=
  match s.booking? berth serial with
  | none => s
  | some b =>
    let gathered := b.purse.remainder + units * rate
    let s1 := changeBooking berth serial (Booking.onPurse fun p => { p with remainder := gathered % 1000 }) s
    if gathered / 1000 = 0 then s1 else restand berth serial (debit berth serial k (gathered / 1000) s1)

/-! ### Hold Requests at the owner (R33 to R35) -/

/-- Change a booking's hold list and queue its record. -/
def changeHolds (berth serial : Nat) (f : List Hold → List Hold) : State → State :=
  changeBooking berth serial (Booking.onPurse fun p => { p with holds := f p.holds })

/-- The CURRENT booking a Hold Request is for: it has the serial and the tag (R33). -/
def State.holdBooking? (s : State) (serial : Nat) (tag : Tag) : Option (Nat × Booking) :=
  if s.cfg.role = .pontoon then
    match s.bySerial? serial with
    | some (n, b) => if b.state == .current && b.tags.contains tag then some (n, b) else none
    | none => none
  else none

/-- The first check of R34 that a new request fails. -/
def holdCheck (minimum amount : Nat) (p : Purse) : Option HoldRefusal :=
  if p.standing == .arrears || p.standing == .barred then some .standing
  else if p.available < minimum || amount < minimum then some .standing
  else if 4 ≤ openHolds p.holds then some .listFull
  else none

/-- A new request, an earlier entry of its ID gone: refused, or granted (R34, R35). -/
def newHold (berth serial : Nat) (id : HoldId) (amount : Nat) (s : State) : State × HoldResult :=
  match s.booking? berth serial with
  | none => (s, .refused .noBooking)
  | some b =>
    match holdCheck s.cfg.minimumSale amount b.purse with
    | some r => (report (.holdRefused berth id r) s, .refused r)
    | none =>
      let g := b.purse.grant amount
      let s1 := changeHolds berth serial (addHold { id := id, state := .active, granted := g, age := 0 }) s
      (report (.holdGranted berth id g) (restand berth serial s1), .granted g)

/-- A Hold Request taken by the owner, with its answer (R33, R34). -/
def ownerHold (id : HoldId) (tag : Tag) (serial amount : Nat) (s : State) : State × HoldResult :=
  match s.holdBooking? serial tag with
  | none => (s, .refused .noBooking)
  | some (berth, b) =>
    match holdOf? id b.purse.holds with
    | some h =>
      if h.state == .active then (s, .granted h.granted)
      else newHold berth serial id amount (changeHolds berth serial (dropHold id) s)
    | none => newHold berth serial id amount s

/-! ### Settle Requests at the owner (R36 to R39) -/

/-- The live booking a Settle Request is for (R36). -/
def State.settleBooking? (s : State) (serial : Nat) : Option (Nat × Booking) :=
  if s.cfg.role = .pontoon then s.bySerial? serial else none

/-- Mark an entry SETTLED with the settled amount (R37). -/
def settleEntry (id : HoldId) (amount : Nat) : List Hold → List Hold :=
  updWhere (fun h => h.id == id) fun h => { h with state := .settled, settled := some amount }

/-- A list with a tombstone, where room can be made (R39). -/
def addTombstone (id : HoldId) (amount : Nat) (holds : List Hold) : List Hold :=
  if 4 ≤ openHolds holds then holds
  else addHold { id := id, state := .settled, granted := 0, age := 0, settled := some amount } holds

/-- A Settle Request taken by the owner, with its answer (R36 to R39). -/
def ownerSettle (id : HoldId) (serial amount : Nat) (s : State) : State × SettleResult :=
  match s.settleBooking? serial with
  | none => (s, .noBooking)
  | some (berth, b) =>
    match holdOf? id b.purse.holds with
    | some h =>
      match h.state with
      | .settled => (s, .settled (h.settled.getD 0))
      | .active =>
        (restand berth serial (changeHolds berth serial (settleEntry id amount) (debit berth serial .fuel amount s)),
          .settled amount)
      | .expired =>
        (restand berth serial (report (.lateSettle berth id amount)
          (changeHolds berth serial (settleEntry id amount) (debit berth serial .fuel amount s))), .settled amount)
    | none =>
      (restand berth serial (changeHolds berth serial (addTombstone id amount)
        (report (.unmatchedSettle berth id amount) (debit berth serial .fuel amount s))), .settled amount)

/-! ### Ageing of holds (R32) -/

/-- An ACTIVE entry one powered minute older, EXPIRED when its age reaches the hold timeout. -/
def ageHold (timeout : Nat) (h : Hold) : Hold :=
  if h.state == .active then
    { h with age := h.age + 1, state := if timeout ≤ h.age + 1 then .expired else .active }
  else h

/-- Write HOLD_EXPIRED for each entry of a list, in its order: that of the hold list (R32, R45; the order is the model's
choice, log entry 57). -/
def reportExpired (berth : Nat) (holds : List Hold) (s : State) : State :=
  holds.foldl (fun x h => report (.holdExpired berth h.id h.granted) x) s

/-- The entries that the next powered minute expires. -/
def expiring (timeout : Nat) (holds : List Hold) : List Hold :=
  holds.filter fun h => h.state == .active && timeout ≤ h.age + 1

/-- Age the holds of one booking; its standing is worked out once where a hold expired (R27, R32). -/
def ageBooking (berth : Nat) (b : Booking) (s : State) : State :=
  let serial := b.serial.getD 0
  if b.purse.holds.any fun h => h.state == .active then
    let gone := expiring s.cfg.holdTimeout b.purse.holds
    let s1 := reportExpired berth gone (changeHolds berth serial (List.map (ageHold s.cfg.holdTimeout)) s)
    if gone.isEmpty then s1 else restand berth serial s1
  else s

/-! ### Purse operations of an office (R13, R40 to R43) -/

/-- The addressing check of a berth operation that needs a booking (R13). -/
def State.addressed (s : State) (berth serial : Nat) : Except Result Booking :=
  if s.cfg.role != .pontoon then .error .noBerth
  else
    match s.berth? berth with
    | none => .error .noBerth
    | some b =>
      if serial = 0 then .error .noBooking
      else
        match b.live? serial with
        | none => .error .noBooking
        | some k => .ok k

/-- Perform a berth operation on the booking its addressing finds, or answer the check's result (R13). -/
def onAddressed (kind : CmdKind) (berth serial : Nat) (f : Booking → State → State × Reply) (s : State) : State × Reply :=
  match s.addressed berth serial with
  | .error r => (s, answer kind r)
  | .ok b => f b s

/-- The standing of a booking as it now stands. -/
def State.standingOf (s : State) (berth serial : Nat) : Standing :=
  ((s.booking? berth serial).map fun b => b.purse.standing).getD .good

/-- CREDIT (R40). -/
def doCredit (berth serial amount : Nat) : State → State × Reply :=
  onAddressed .credit berth serial fun b s =>
    if amount = 0 || 99999999 < amount then (s, answer .credit .badAmount)
    else if 99999999 < b.purse.balance + amount || 281474876710655 < b.purse.credits + amount then
      (s, answer .credit .overLimit)
    else
      let s1 := restand berth serial (changeBooking berth serial
        (Booking.onPurse fun p => { p with balance := p.balance + amount, credits := p.credits + amount }) s)
      let s2 := report (.credit berth amount (b.purse.balance + amount)) s1
      (s2, answer .credit .ok [.balance (b.purse.balance + amount), .available (b.purse.available + amount),
        .standing (s2.standingOf berth serial)])

/-- BAR and UNBAR (R41). -/
def doBarMark (kind : CmdKind) (mark : Bool) (berth serial : Nat) : State → State × Reply :=
  onAddressed kind berth serial fun b s =>
    if b.purse.barred == mark then (s, answer kind .ok [.standing b.purse.standing])
    else
      let s1 := restand berth serial (changeBooking berth serial (Booking.onPurse fun p => { p with barred := mark }) s)
      let s2 := report (if mark then .barSet berth serial else .barCleared berth serial) s1
      (s2, answer kind .ok [.standing (s2.standingOf berth serial)])

/-- SET_MARKS (R42). -/
def doSetMarks (berth serial lowMark creditLimit : Nat) : State → State × Reply :=
  onAddressed .setMarks berth serial fun _ s =>
    if 99999999 < lowMark || 99999999 < creditLimit then (s, answer .setMarks .badAmount)
    else
      let s1 := restand berth serial (changeBooking berth serial
        (Booking.onPurse fun p => { p with lowMark := lowMark, creditLimit := creditLimit }) s)
      let s2 := report (.marksSet berth lowMark creditLimit) s1
      (s2, answer .setMarks .ok [.standing (s2.standingOf berth serial)])

/-- DROP_HOLD (R43). -/
def doDropHold (berth serial : Nat) (id : HoldId) : State → State × Reply :=
  onAddressed .dropHold berth serial fun b s =>
    match holdOf? id b.purse.holds with
    | none => (s, answer .dropHold .noHold)
    | some h =>
      if h.state == .active then (s, answer .dropHold .wrongState)
      else
        (report (.holdDropped berth id) (restand berth serial (changeHolds berth serial (dropHold id) s)),
          answer .dropHold .ok)

/-! ### Requests delivered (R33, R36, R181) -/

/-- A Hold Request delivered: the owner answers in the event of its arrival (R33, R181). -/
def onHoldRequest (c : Channel) (source : Nat) (sequence : Num8) (id : HoldId) (tag : Tag) (serial amount : Nat)
    (s : State) : State :=
  let r := ownerHold id tag serial amount s
  sendAnswer c source sequence (.holdAnswer id r.2) r.1

/-- A Settle Request delivered: the owner answers in the event of its arrival (R36, R181). -/
def onSettleRequest (c : Channel) (source : Nat) (sequence : Num8) (id : HoldId) (serial amount : Nat) (s : State) :
    State :=
  let r := ownerSettle id serial amount s
  sendAnswer c source sequence (.settleAnswer id r.2) r.1

/-! ### Commands -/

/-- HOLD_REQUEST (R33 to R35). -/
def execHoldRequest (c : Channel) (source : Nat) (sequence : Num8) (id : HoldId) (tag : Tag) (serial amount : Nat)
    (s : State) : Host.Outcome State Fault Refusal :=
  .next (event (receive c source (onHoldRequest c source sequence id tag serial amount)) s)

/-- SETTLE_REQUEST (R36 to R39). -/
def execSettleRequest (c : Channel) (source : Nat) (sequence : Num8) (id : HoldId) (serial amount : Nat)
    (s : State) : Host.Outcome State Fault Refusal :=
  .next (event (receive c source (onSettleRequest c source sequence id serial amount)) s)

/-- HOLD_MINUTE_TIMER: every booking's ACTIVE holds age, each booking's expiries one event (R32). -/
def execHoldMinuteTimer (s : State) : Host.Outcome State Fault Refusal :=
  .next (whenUp (fun s =>
    let s1 := (reach s.minuteAt s).setMinuteAt (s.minuteAt + 60000)
    s1.liveBookings.foldl (fun x p => event (ageBooking p.1 p.2) x) s1) s)

end Sys2Proof.Machine
end

