-- ==== Sys2Proof/Machine/Bookings.lean ====
section
/-! DEFINITION. BST but for the record store (chapter 1): conversion, endings, statements, the examination after a clock
setting, the berth operations, the tentative expiry. -/

namespace Sys2Proof.Machine

/-! ### Becoming CURRENT (R7, R94, R168) -/

/-- A RESERVED booking becomes CURRENT: queued, journalled, and the holding booking looked at again (R7, R94). BOOKING_CURRENT
carries the berth and the serial (the model's choice, log entry 83). It comes before an ALLOTMENT_CUT that a displacement causes
(the model's reading, log entry 95). -/
def makeCurrent (berth serial : Nat) (s : State) : State :=
  afterCurrent berth s
    (report (.bookingCurrent berth serial) (changeBooking berth serial (fun b => { b with state := .current }) s))

/-- Each RESERVED booking of a berth whose arrival is the day or earlier becomes CURRENT (R7, R168). -/
def arrivals (berth day : Nat) (s : State) : State :=
  match s.berth? berth with
  | none => s
  | some b =>
    (b.bookings.filter fun k => k.state == .reserved && k.stay.arrival ≤ day).foldl
      (fun x k => makeCurrent berth (k.serial.getD 0) x) s

/-- BST examines every booking after a clock setting: berth by berth in table order, each list in its order (R7; the order
is the model's choice, log entry 48). -/
def examine (day : Nat) (s : State) : State :=
  (s.bst.berths.map fun b => b.cfg.number).foldl (fun x n => arrivals n day x) s

/-! ### Conversion (R4, R5, R19) -/

/-- The serial after another, 65,535 passing to 1 (R5). -/
def serialAfter (n : Nat) : Nat := if n < 65535 then n + 1 else 1

/-- The first serial from a value on that no live booking has (R5). -/
def freeSerial (used : List Nat) (n : Nat) : Nat → Nat
  | 0 => n
  | k + 1 => if used.contains n then freeSerial used (serialAfter n) k else n

/-- The serials of the live bookings. -/
def State.serials (s : State) : List Nat := s.liveBookings.filterMap fun p => p.2.serial

/-- The booking slots in use (R19). -/
def State.slotsUsed (s : State) : List Nat := s.liveBookings.filterMap fun p => p.2.slot

/-- The serial the next conversion gives (R5). -/
def State.nextSerialGiven (s : State) : Nat := freeSerial s.serials s.bst.nextSerial 257

/-- The state a conversion gives, by the clock (R4). -/
def State.conversionState (s : State) (arrival : Nat) : BookingState :=
  match s.today with
  | some day => if arrival ≤ day then .current else .reserved
  | none => .reserved

/-- A TENTATIVE booking of a call reference. -/
def tentativeOf (ref : CallRef) (b : Booking) : Bool := b.state == .tentative && b.callRef == ref

/-- A TENTATIVE booking converted (R4). -/
def convertedBooking (b : Booking) (serial slot : Nat) (target : BookingState) (tags : List Tag) (name : Option BoatName) :
    Booking :=
  { b with serial := some serial, slot := some slot, state := target, expiry := none, tags := tags, name := name }

/-- Convert the TENTATIVE booking of a call reference and stay on a berth (R4, R56); the serial given. BOOKING_MADE comes before
an ALLOTMENT_CUT that a displacement causes (the model's reading, log entry 95). -/
def convert (berth : Nat) (ref : CallRef) (stay : Stay) (tags : List Tag) (name : Option BoatName) (s : State) :
    State × Nat :=
  let serial := s.nextSerialGiven
  let slot := (lowestFree s.slotsUsed 1 256).getD 0
  let s1 := queueRecord .station (s.setBst { s.bst with nextSerial := serialAfter serial })
  let filled := fun b : Booking => convertedBooking b serial slot (s.conversionState stay.arrival) tags name
  let s2 := onBerth berth (fun x => { x with bookings := updFirst (fun b => tentativeOf ref b && b.stay == stay) filled x.bookings }) s1
  let s3 := report (.bookingMade berth serial stay.arrival) (queueRecord (.booking slot) s2)
  (afterCurrent berth s s3, serial)

/-- Remove the TENTATIVE bookings of a call reference that meet a test from a berth (R8, R52, R60). -/
def dropTentative (berth : Nat) (ref : CallRef) (p : Booking → Bool) : State → State :=
  onBerth berth fun x => { x with bookings := x.bookings.filter fun b => !(tentativeOf ref b && p b) }

/-! ### Statements and endings (R9 to R11) -/

/-- The statement of a booking (R10). -/
def statementOf (ending slot berth : Nat) (kind : EndKind) (b : Booking) : Statement where
  ending := ending
  berth := berth
  serial := b.serial.getD 0
  name := b.name
  arrival := b.stay.arrival
  departure := b.stay.departure
  credits := b.purse.credits
  power := b.purse.power
  water := b.purse.water
  fuel := b.purse.fuel
  fees := b.purse.fees
  energyUsed := b.energy
  waterUsed := b.water
  balance := b.purse.balance
  endKind := kind
  slot := slot

/-- Place a statement in the list: in a free slot, or over the one with the lowest ending number, with STATEMENT_LOST when
that was UNREAD; its slot, then the station record, are queued (R10, R11). Of two with the same ending number the one placed earlier
stands first, and goes first (the model's choice, log entry 75). -/
def addStatement (berth : Nat) (kind : EndKind) (b : Booking) (s : State) : State :=
  let ending := bump32 s.bst.lastEnding
  let place := lowestFree (s.bst.statements.map Statement.slot) 1 8
  let slot := place.getD ((s.bst.statements.head?.map Statement.slot).getD 1)
  let kept := if place.isSome then s.bst.statements else s.bst.statements.tail
  let s1 := if place.isSome then s else
    match s.bst.statements.head? with
    | some old => if old.read then s else report (.statementLost old.berth old.serial) s
    | none => s
  let s2 := s1.setBst { s1.bst with
    lastEnding := ending
    statements := insertBy (fun x y => x.ending ≤ y.ending) (statementOf ending slot berth kind b) kept }
  queueRecord .station (queueRecord (.statement slot) s2)

/-- End a live booking: with a statement of its end kind, or as a CANCEL (R9). -/
def endBooking (berth : Nat) (b : Booking) (kind : Option EndKind) (s : State) : State :=
  let serial := b.serial.getD 0
  let held := (s.holding? berth).any fun k => k.serial == b.serial
  let s1 := match kind with
    | some k => addStatement berth k b s
    | none => s
  let s2 := queueSlot b.slot (onBerth berth (fun x =>
    { x with bookings := x.bookings.filter fun k => !(k.live && k.serial == b.serial) }) s1)
  let s3 := revoke b.tags s2
  let s4 := if held then berthOff berth s3 else s3
  match kind with
  | some k => report (.bookingEnded berth serial k) s4
  | none => report (.bookingCancelled berth serial b.purse.balance) s4

/-! ### Berth operations (R13 to R18) -/

/-- CHECK_OUT (R14). -/
def doCheckOut (berth serial : Nat) : State → State × Reply :=
  onAddressed .checkOut berth serial fun b s =>
    if b.state != .current then (s, answer .checkOut .wrongState)
    else if b.purse.holds.any fun h => h.state == .active then (s, answer .checkOut .holdsOpen)
    else
      (endBooking berth b (some .checkedOut) s,
        answer .checkOut .ok [.balance b.purse.balance, .number (bump32 s.bst.lastEnding)])

/-- CANCEL (R15). -/
def doCancel (berth serial : Nat) : State → State × Reply :=
  onAddressed .cancel berth serial fun b s =>
    if b.state != .reserved then (s, answer .cancel .wrongState)
    else (endBooking berth b none s, answer .cancel .ok [.balance b.purse.balance])

/-- The entry behind a booking in its berth's list (R16). -/
def State.behind? (s : State) (berth serial : Nat) : Option Booking :=
  (s.berth? berth).bind fun x => nextEntry serial x.bookings

/-- EXTEND (R16). -/
def doExtend (berth serial departure : Nat) : State → State × Reply :=
  onAddressed .extend berth serial fun b s =>
    if departure ≤ b.stay.arrival || s.today.any fun day => departure ≤ day then (s, answer .extend .badInterval)
    else if (s.behind? berth serial).any fun k => overlaps b.stay.arrival departure k.stay.arrival k.stay.departure then
      (s, answer .extend .overlap)
    else
      (changeBooking berth serial (fun k => { k with stay := { k.stay with departure := departure } }) s,
        answer .extend .ok [.departure departure])

/-- A tag list is empty, longer than 4, or holds a tag twice (R17, R46). -/
def badTags (tags : List Tag) : Bool := tags.isEmpty || 4 < tags.length || !decide tags.Nodup

/-- The first tag of a list that another live booking holds: of several, the one first in list order is the one reported
(R17; which of them is the model's choice, log entry 47). -/
def State.clash? (s : State) (serial : Nat) (tags : List Tag) : Option Tag :=
  tags.find? fun t => s.liveBookings.any fun p => p.2.serial != some serial && p.2.tags.contains t

/-- SET_TAGS (R17). -/
def doSetTags (berth serial : Nat) (tags : List Tag) : State → State × Reply :=
  onAddressed .setTags berth serial fun b s =>
    if badTags tags then (s, answer .setTags .badTags)
    else
      match s.clash? serial tags with
      | some t => (report (.tagClash t none none) s, answer .setTags .tagInUse)
      | none =>
        (revoke b.tags (changeBooking berth serial (fun k => { k with tags := tags, epoch := k.epoch + 1 }) s),
          answer .setTags .ok)

/-- The fields of a booking in the order of R18 and R25, each with the name a resume point gives it. The day usage pair goes as two
items; the boat with its name, the usage totals, the wanted flags and the tags go as one each (the model's choice, log entry
92). -/
def bookingItems (b : Booking) : List (Nat × Item) :=
  let p := b.purse
  numberItems [.serial b.serial, .bookingState b.state, .callRef b.callRef, .kind b.stay.kind,
    .boat b.stay.loa b.stay.beam b.stay.draught b.name, .arrival b.stay.arrival, .departure b.stay.departure,
    .tags b.tags, .epoch b.epoch, .balance p.balance, .remainder p.remainder, .available p.available,
    .standing p.standing, .lowMark p.lowMark, .creditLimit p.creditLimit, .barMark p.barred, .credits p.credits,
    .charged .power p.power, .charged .water p.water, .charged .fuel p.fuel, .charged .fee p.fees] ++
  p.holds.zipIdx.map (fun h => (21 + h.2, .hold h.1)) ++
  [(25, .usage b.energy b.water), (26, .openDay b.openDay), (27, .closedDay b.closedDay b.closedNumber),
    (28, .wanted b.wantedFirst b.wantedSecond)]

/-- The berth summary: the configured fields of R1, then one line for each entry (R18). -/
def summaryItems (b : Berth) : List (Nat × Item) :=
  numberItems ([.berthNumber b.cfg.number, .berthLength b.cfg.length, .berthWidth b.cfg.width, .berthDepth b.cfg.depth,
      .powerClass b.cfg.power, .outletList b.cfg.outlets, .tapNumber b.cfg.tap, .allowed b.cfg.allowed,
      .priority b.cfg.priority] ++
    b.bookings.map fun k => .bookingLine k.state k.serial k.stay.arrival k.stay.departure k.callRef)

/-- READ_BOOKING (R13, R18). -/
def doReadBooking (berth serial resume limit : Nat) (s : State) : State × Reply :=
  if serial = 0 then
    if s.cfg.role != .pontoon then (s, answer .readBooking .noBerth)
    else
      match s.berth? berth with
      | none => (s, answer .readBooking .noBerth)
      | some b => (s, packReply .readBooking limit false (fromResume resume (summaryItems b)))
  else
    onAddressed .readBooking berth serial (fun b s =>
      (s, packReply .readBooking limit false (fromResume resume (bookingItems b)))) s

/-- The ending number of a statement item. -/
def itemEnding : Item → Nat
  | .statement st => st.ending
  | _ => 0

/-- The statement slot of a statement item. -/
def itemSlot : Item → Nat
  | .statement st => st.slot
  | _ => 0

/-- Mark the statement of a slot READ and queue that slot (R12, R20). -/
def markRead (slot : Nat) (s : State) : State :=
  if s.bst.statements.any fun x => x.slot == slot then
    queueRecord (.statement slot) (s.setBst { s.bst with
      statements := updWhere (fun x => x.slot == slot) (fun x => { x with read := true }) s.bst.statements })
  else s

/-- The statements a READ_STATEMENTS asks for, in ascending ending number; none on a FUEL or GATE station (R12). -/
def State.askedStatements (s : State) (selector : StatementSelector) (resume : Nat) : List Statement :=
  if s.cfg.role = .pontoon then
    s.bst.statements.filter fun st => resume < st.ending && (selector == .all || !st.read)
  else []

/-- READ_STATEMENTS; the resume point is the ending number of the last statement carried (R12). -/
def doReadStatements (selector : StatementSelector) (resume limit : Nat) (s : State) : State × Reply :=
  let asked := s.askedStatements selector resume
  let r := packReply .readStatements limit false (asked.map fun st => (st.ending, .statement st))
  let reply := { r with resume := r.resume.bind fun _ => (r.items.map itemEnding).getLast? }
  match selector with
  | .all => (s, reply)
  | .unread => ((r.items.map itemSlot).foldl (fun x n => markRead n x) s, reply)

/-! ### Commands -/

/-- The earliest tentative expiry of a call reference on a berth. -/
def State.tentativeEnd? (s : State) (berth : Nat) (ref : CallRef) : Option Nat :=
  (s.berth? berth).bind fun x => ((x.bookings.filter (tentativeOf ref)).filterMap Booking.expiry).min?

/-- TENTATIVE_EXPIRY: a booking still TENTATIVE is removed (R8). -/
def execTentativeExpiry (berth : Nat) (ref : CallRef) (s : State) : Host.Outcome State Fault Refusal :=
  .next (whenUp (fun s =>
    match s.tentativeEnd? berth ref with
    | none => s
    | some t => dropTentative berth ref (fun b => b.expiry == some t) (reach t s)) s)

end Sys2Proof.Machine
end

