-- ==== Sys2Proof/Machine/Allocation.lean ====
section
/-! DEFINITION. ALC (chapter 3): calls, offers, Takes and Closes, at the asking station and at the owner. -/

namespace Sys2Proof

/-- A berth's allowed kind admits a kind (R50). -/
def Allowed.admits : Allowed → Kind → Bool
  | .any, _ => true
  | .residentOnly, k => k == .resident
  | .visitorOnly, k => k == .visitor

/-- Offers stand by cost, then station, then berth (R53). -/
def Offer.le (x y : Offer) : Bool :=
  x.cost < y.cost || (x.cost == y.cost &&
    (x.station < y.station || (x.station == y.station && x.berth ≤ y.berth)))

/-- The body of the Berth Call of a request: no tags and no name (R47). -/
def CallRequest.body (r : CallRequest) : CallBody := ⟨r.stay, r.power, r.priority⟩

/-- An ALLOCATE whose values are in their ranges (R46). -/
def AllocateForm.request? (f : AllocateForm) : Option CallRequest :=
  match f.kind, f.power with
  | some k, some p =>
    if (1 ≤ f.loa && f.loa ≤ 9999) && (1 ≤ f.beam && f.beam ≤ 9999) && (1 ≤ f.draught && f.draught ≤ 9999) &&
        f.priority ≤ 3 && (match f.name with
          | some n => decide (1 ≤ n.length) && decide (n.length ≤ 16)
          | none => true) then
      some ⟨⟨k, f.loa, f.beam, f.draught, f.arrival, f.departure⟩, p, f.priority, f.tags, f.name⟩
    else none
  | _, _ => none

end Sys2Proof

namespace Sys2Proof.Machine

/-! ### Answering a Berth Call (R49 to R52) -/

/-- A berth is a candidate for a call (R50). -/
def candidate (cfg : Image) (call : CallBody) (b : Berth) : Bool :=
  call.priority ≤ b.cfg.priority && call.stay.loa + cfg.lengthMargin ≤ b.cfg.length &&
    call.stay.beam + cfg.widthMargin ≤ b.cfg.width && call.stay.draught + cfg.depthMargin ≤ b.cfg.depth &&
    call.power.step ≤ b.cfg.power.step && b.cfg.allowed.admits call.stay.kind &&
    canInsert b.bookings call.stay.arrival call.stay.departure

/-- The cost of a candidate (R51). -/
def costOf (cfg : Image) (call : CallBody) (b : Berth) : Nat :=
  min 65535 ((b.cfg.length - call.stay.loa - cfg.lengthMargin) + 2 * (b.cfg.width - call.stay.beam - cfg.widthMargin) +
    1000 * (b.cfg.power.step - call.power.step))

/-- The candidate of lowest cost, the lower number of equals (R51). -/
def State.bestBerth? (s : State) (call : CallBody) : Option Berth :=
  (s.bst.berths.filter (candidate s.cfg call)).foldl (fun best b =>
    match best with
    | none => some b
    | some x =>
      let cx := costOf s.cfg call x
      let cb := costOf s.cfg call b
      if cb < cx || (cb == cx && b.cfg.number < x.cfg.number) then some b else some x) none

/-- A Berth Call already answered: a booking with its call reference and days (R49). -/
def State.answered (s : State) (ref : CallRef) (stay : Stay) : Bool :=
  s.bookings.any fun p =>
    p.2.callRef == ref && p.2.stay.arrival == stay.arrival && p.2.stay.departure == stay.departure

/-- A new TENTATIVE booking (R3, R25). -/
def tentativeBooking (cfg : Image) (ref : CallRef) (stay : Stay) (expiry : Nat) : Booking :=
  let purse : Purse := { lowMark := cfg.lowMark stay.kind, creditLimit := cfg.creditLimit stay.kind }
  { state := .tentative, callRef := ref, expiry := some expiry, stay := stay,
    purse := { purse with standing := purse.standingNow } }

/-- Decide whether this station offers; the TENTATIVE booking is placed and the offer given (R49, R52). -/
def evaluate (ref : CallRef) (call : CallBody) (s : State) : State × Option Offer :=
  if s.cfg.role != .pontoon || s.answered ref call.stay || 4 ≤ s.tentatives then (s, none)
  else
    match s.bestBerth? call with
    | none => (s, none)
    | some b =>
      let t := tentativeBooking s.cfg ref call.stay (s.now + s.cfg.tentativeTime * 1000)
      (onBerth b.cfg.number (fun x => { x with bookings := insertBooking t x.bookings }) s,
        some ⟨s.cfg.station, b.cfg.number, costOf s.cfg call b⟩)

/-- Remove the TENTATIVE bookings a Close names no winner for (R60). -/
def applyClose (ref : CallRef) (winner : Option (Nat × Nat)) (s : State) : State :=
  (s.bst.berths.map fun b => b.cfg.number).foldl (fun x n =>
    if winner == some (s.cfg.station, n) then x else dropTentative n ref (fun _ => true) x) s

/-! ### The owner's answer to a Take (R56, R57) -/

/-- The first tag of a Take that a live booking of this station holds (R57). -/
def State.takenTag? (s : State) (tags : List Tag) : Option Tag :=
  tags.find? fun t => s.liveBookings.any fun p => p.2.tags.contains t

/-- The live booking a repeated Take finds (R56). -/
def takeRepeat? (ref : CallRef) (stay : Stay) (b : Berth) : Option Booking :=
  b.bookings.find? fun k =>
    k.live && k.callRef == ref && k.stay.arrival == stay.arrival && k.stay.departure == stay.departure

/-- A Take answered by the owner (R56). -/
def ownerTake (ref : CallRef) (berth : Nat) (stay : Stay) (tags : List Tag) (name : Option BoatName) (s : State) :
    State × TakeResult :=
  if s.cfg.role != .pontoon then (s, .refuse)
  else
    match s.berth? berth with
    | none => (s, .refuse)
    | some b =>
      match takeRepeat? ref stay b with
      | some k => (s, .accept (k.serial.getD 0))
      | none =>
        if b.bookings.any fun k => tentativeOf ref k && k.stay == stay then
          match s.takenTag? tags with
          | some t => (s, .tagInUse t)
          | none =>
            let r := convert berth ref stay tags name s
            (r.1, .accept r.2)
        else (s, .refuse)

/-! ### The call table (R47, R48) -/

/-- The entry of a call number; of two that share it, the earlier one (the model's choice, log entry 51). -/
def State.call? (s : State) (n : Num8) : Option Call := s.alc.calls.find? fun c => c.number == n

/-- Change the entry of a call number, or both that share it (the model's choice, log entry 51). -/
def changeCall (n : Num8) (f : Call → Call) (s : State) : State :=
  s.setAlc { s.alc with calls := updWhere (fun c => c.number == n) f s.alc.calls }

/-- The open calls of the table (R48). -/
def Alc.openCalls (a : Alc) : Nat := (a.calls.filter fun c => c.phase != .finished).length

/-- The FINISHED entry with the lowest finish order (R48). -/
def Alc.oldest? (a : Alc) : Option Call :=
  (a.calls.filter fun c => c.phase == .finished).foldl (fun best c =>
    match best with
    | none => some c
    | some b => if c.finishOrder.getD 0 < b.finishOrder.getD 0 then some c else some b) none

/-- The table with room for a new entry of a number: a FINISHED entry of the number freed, then of a full table the one
finished first (R48). An open entry of the number stays (the model's choice, log entry 51). -/
def Alc.makeRoom (n : Num8) (a : Alc) : Alc :=
  let a1 := { a with calls := a.calls.filter fun c => !(c.phase == .finished && c.number == n) }
  if a1.calls.length < 4 then a1
  else
    match a1.oldest? with
    | some o => { a1 with calls := a1.calls.filter fun c => c.number != o.number }
    | none => a1

/-- Finish a call (R59). -/
def finishCall (n : Num8) (outcome : CallOutcome) (s : State) : State :=
  let ref : CallRef := ⟨s.cfg.station, n⟩
  let winner := match outcome with
    | .allocated st berth _ => some (st, berth)
    | .noBerth => none
  let order := s.alc.finished + 1
  let s1 := changeCall n (fun c =>
    { c with phase := .finished, windowAt := none, offers := [], inFlight := none, outcome := some outcome,
             finishOrder := some order }) (s.setAlc { s.alc with finished := order })
  let s2 := (broadcast (.berthClose ref winner) s1).1
  report (.callDone n outcome) (applyClose ref winner s2)

/-- Remove the head offer of a call (R58). -/
def dropHead (n : Num8) : State → State := changeCall n fun c => { c with offers := c.offers.tail, inFlight := none }

/-- Take the head offer, going on to the next while a Take is refused at once; an empty list finishes the call (R55,
R58). Its first argument is at least the number of offers. -/
def takeHead : Nat → Num8 → State → State
  | 0, n, s => finishCall n .noBerth s
  | k + 1, n, s =>
    match s.call? n with
    | none => s
    | some c =>
      match c.offers with
      | [] => finishCall n .noBerth s
      | o :: _ =>
        let ref : CallRef := ⟨s.cfg.station, n⟩
        let s1 := changeCall n (fun x => { x with phase := .taking, windowAt := none, inFlight := some (o.station, o.berth) }) s
        if o.station = s.cfg.station then
          let r := ownerTake ref o.berth c.request.stay c.request.tags c.request.name s1
          match r.2 with
          | .accept serial => finishCall n (.allocated o.station o.berth serial) r.1
          | .refuse => takeHead k n (dropHead n r.1)
          | .tagInUse t =>
            takeHead k n (dropHead n (report (.tagClash t (some (o.station, o.berth)) (some n)) r.1))
        else
          let r := ask o.station (.berthTake ref o.berth c.request.stay c.request.tags c.request.name) (.call n) s1
          if r.2 then r.1 else takeHead k n (dropHead n r.1)

/-- Take the new head offer of a call (R55). -/
def takeNext (n : Num8) (s : State) : State := takeHead (((s.call? n).map fun c => c.offers.length).getD 0 + 1) n s

/-- A Take Answer handed to a call in TAKING (R58). -/
def takeResult (n : Num8) (result : TakeResult) (s : State) : State :=
  match s.call? n with
  | none => s
  | some c =>
    match c.inFlight with
    | none => s
    | some (st, berth) =>
      match result with
      | .accept serial => finishCall n (.allocated st berth serial) s
      | .refuse => takeNext n (dropHead n s)
      | .tagInUse t => takeNext n (dropHead n (report (.tagClash t (some (st, berth)) (some n)) s))

/-- A Take TIMED_OUT (R58). -/
def takeTimedOut (n : Num8) (s : State) : State :=
  match s.call? n with
  | none => s
  | some c =>
    match c.inFlight with
    | none => s
    | some (st, berth) => takeNext n (dropHead n (report (.takeUncertain st berth n) s))

/-! ### ALLOCATE and CALL_STATUS (R46, R47, R61) -/

/-- Insert an offer into a call's list of at most 30 (R53). -/
def addOffer (o : Offer) (offers : List Offer) : List Offer := (insertBy Offer.le o offers).take 30

/-- Open a call once its Berth Call is queued (R47, R48). -/
def openCall (n : Num8) (request : CallRequest) (s : State) : State :=
  let a := s.alc.makeRoom n
  let entry : Call := { number := n, phase := .collecting, request := request, windowAt := some (s.now + 250) }
  let s1 := s.setAlc { a with nextCall := n + 1, calls := a.calls ++ [entry] }
  let r := evaluate ⟨s.cfg.station, n⟩ request.body s1
  match r.2 with
  | some o => changeCall n (fun c => { c with offers := addOffer o c.offers }) r.1
  | none => r.1

/-- ALLOCATE (R46, R47). -/
def doAllocate (form : AllocateForm) (s : State) : State × Reply :=
  match s.today with
  | none => (s, answer .allocate .timeUnset)
  | some day =>
    match form.request? with
    | none => (s, answer .allocate .badValue)
    | some request =>
      if form.arrival < day || form.departure ≤ form.arrival then (s, answer .allocate .badInterval)
      else if badTags form.tags then (s, answer .allocate .badTags)
      else if 4 ≤ s.alc.openCalls then (s, answer .allocate .callsBusy)
      else
        let n := s.alc.nextCall
        let r := broadcast (.berthCall ⟨s.cfg.station, n⟩ request.body) s
        if r.2 then (openCall n request r.1, answer .allocate .callOpen [.number n.toNat])
        else (r.1, answer .allocate .linkBusy)

/-- The line of a call table entry (R61). -/
def Call.line (c : Call) : Item := .call c.number c.phase c.offers.length c.inFlight c.outcome

/-- The result code of a call table entry (R61). -/
def Call.result (c : Call) : Result :=
  match c.phase with
  | .collecting => .collecting
  | .taking => .taking
  | .finished =>
    match c.outcome with
    | some (.allocated _ _ _) => .allocated
    | _ => .noBerth

/-- CALL_STATUS (R61). With ALL the answer is OK, on an empty table with no items (the model's choice, log entry 52). -/
def doCallStatus (call : Option Num8) (resume limit : Nat) (s : State) : State × Reply :=
  match call with
  | some n =>
    match s.call? n with
    | some c => (s, answer .callStatus c.result [c.line])
    | none => (s, answer .callStatus .noCall)
  | none =>
    let lines := (sortBy (fun x y : Call => x.number.toNat ≤ y.number.toNat) s.alc.calls).map Call.line
    (s, packReply .callStatus limit false (fromResume resume (numberItems lines)))

/-! ### Frames delivered -/

/-- A Berth Call delivered (R47, R49, R52). -/
def onBerthCall (c : Channel) (ref : CallRef) (body : CallBody) (s : State) : State :=
  if ref.asker = s.cfg.station then s
  else
    let r := evaluate ref body s
    match r.2 with
    | none => r.1
    | some o =>
      let q := enqueueOn (s.qlc.prefer c) ⟨ref.asker, 0, .berthOffer ref o.berth o.cost⟩ r.1
      if q.2.isSome then q.1 else dropTentative o.berth ref (fun b => b.stay == body.stay) q.1

/-- A Berth Offer delivered (R53). -/
def onBerthOffer (source : Nat) (ref : CallRef) (berth cost : Nat) (s : State) : State :=
  if ref.asker != s.cfg.station then s
  else
    match s.call? ref.number with
    | none => s
    | some e =>
      if e.phase != .collecting || e.offers.any fun o => o.station == source && o.berth == berth then s
      else changeCall ref.number (fun x => { x with offers := addOffer ⟨source, berth, cost⟩ x.offers }) s

/-- A Berth Take delivered: the owner answers in the event of its arrival (R56, R57, R181). -/
def onBerthTake (c : Channel) (source : Nat) (sequence : Num8) (ref : CallRef) (berth : Nat) (stay : Stay)
    (tags : List Tag) (name : Option BoatName) (s : State) : State :=
  let r := ownerTake ref berth stay tags name s
  sendAnswer c source sequence (.takeAnswer ref berth r.2) r.1

/-- A Take Answer delivered (R58, R180). -/
def onTakeAnswer (source : Nat) (sequence : Num8) (ref : CallRef) (berth : Nat) (result : TakeResult) : State → State :=
  takeAnswer source sequence (.takeAnswer ref berth result) fun p =>
    match p.originator with
    | .call n => takeResult n result
    | _ => id

/-! ### Commands -/

/-- BERTH_CALL (R49). -/
def execBerthCall (c : Channel) (source : Nat) (ref : CallRef) (body : CallBody) (s : State) :
    Host.Outcome State Fault Refusal :=
  .next (event (receive c source (onBerthCall c ref body)) s)

/-- BERTH_OFFER (R53). -/
def execBerthOffer (c : Channel) (source : Nat) (ref : CallRef) (berth cost : Nat) (s : State) :
    Host.Outcome State Fault Refusal :=
  .next (event (receive c source (onBerthOffer source ref berth cost)) s)

/-- WINDOW_EXPIRY: the offer window of a COLLECTING entry closes (R54). -/
def execWindowExpiry (call : Num8) (s : State) : Host.Outcome State Fault Refusal :=
  .next (event (whenUp fun s =>
    match s.call? call with
    | none => s
    | some e =>
      if e.phase == .collecting then takeNext call (reach (e.windowAt.getD s.now) s) else s) s)

/-- BERTH_TAKE (R56). -/
def execBerthTake (c : Channel) (source : Nat) (sequence : Num8) (ref : CallRef) (berth : Nat) (stay : Stay)
    (tags : List Tag) (name : Option BoatName) (s : State) : Host.Outcome State Fault Refusal :=
  .next (event (receive c source (onBerthTake c source sequence ref berth stay tags name)) s)

/-- TAKE_ANSWER (R58). -/
def execTakeAnswer (c : Channel) (source : Nat) (sequence : Num8) (ref : CallRef) (berth : Nat) (result : TakeResult)
    (s : State) : Host.Outcome State Fault Refusal :=
  .next (event (receive c source (onTakeAnswer source sequence ref berth result)) s)

/-- BERTH_CLOSE (R60). -/
def execBerthClose (c : Channel) (source : Nat) (ref : CallRef) (winner : Option (Nat × Nat)) (s : State) :
    Host.Outcome State Fault Refusal :=
  .next (event (receive c source (applyClose ref winner)) s)

end Sys2Proof.Machine
end

