-- ==== Sys2Proof/Machine/Day.lean ====
section
/-! DEFINITION. DCK and the work of the rollover (chapter 9). -/

namespace Sys2Proof.Machine

/-! ### Clock settings (R160, R161) -/

/-- Set the clock RUNNING; its second starts afresh. -/
def setClock (day second : Nat) (s : State) : State :=
  s.setDck { s.dck with clock := some ⟨day, second⟩, tickAt := s.now + 1000 }

/-- SET_TIME (R160). -/
def doSetTime (day second : Nat) (s : State) : State × Reply :=
  if 65535 < day || 86399 < second then (s, answer .setTime .badValue)
  else
    let r := broadcast (.timeNotice day second) (setClock day second s)
    (report (.clockSet s.cfg.station s.dck.clock ⟨day, second⟩ (some r.2)) (examine day r.1),
      answer .setTime .ok [.clock (some ⟨day, second⟩), .queued r.2])

/-- A peer's Time Notice is adopted (R161). -/
def adoptTime (source day second : Nat) (s : State) : State :=
  report (.clockSet source s.dck.clock ⟨day, second⟩ none) (examine day (setClock day second s))

/-! ### Tariffs (R163) -/

/-- SELECT_TARIFF (R163). -/
def doSelectTariff (number : Nat) (s : State) : State × Reply :=
  if 4 < number then (s, answer .selectTariff .badValue)
  else
    let staged := if number = 0 then none else some number
    (report (.tariffStaged number s.dck.inForce) (s.setDck { s.dck with staged := staged }),
      answer .selectTariff .ok [.inForce s.dck.inForce, .staged staged])

/-- DAY_STATUS (R169). -/
def doDayStatus (s : State) : State × Reply :=
  let left := s.dck.clock.map fun t => secondsToClose s.cfg.closeSecond t.second
  (s, answer .dayStatus .ok ([.clock s.dck.clock, .close s.cfg.closeSecond left, .inForce s.dck.inForce,
    .staged s.dck.staged] ++ s.cfg.tariffs.zipIdx.map (fun p => .tariff (p.2 + 1) p.1) ++
    [.overstay .resident s.cfg.residentOverstay, .overstay .visitor s.cfg.visitorOverstay]))

/-! ### The bookings at rollover (R165 to R168) -/

/-- What a rollover carries (R162). -/
structure Rollover where
  closing : Nat
  newDay : Nat
  closingSet : Nat
deriving DecidableEq, Repr

/-- The night fee of a visitor: whole metres of LOA, rounded up, at the night rate (R165). -/
def nightFee (rate : Nat) (b : Booking) : Nat := if b.stay.kind = .visitor then (b.stay.loa + 99) / 100 * rate else 0

/-- Charge the night fee of a booking; the standing is worked out at its end (R165). -/
def chargeNight (r : Rollover) (berth : Nat) (b : Booking) (s : State) : State :=
  let fee := nightFee (s.cfg.tariff r.closingSet).nightRate b
  let serial := b.serial.getD 0
  if fee = 0 then s else restand berth serial (debit berth serial .fee fee s)

/-- The day usage pair flips (R166). -/
def flipDay (closing : Nat) (b : Booking) : Booking :=
  { b with closedDay := b.openDay, closedNumber := some closing, openDay := {} }

/-- How the departure rule deals with a booking (R167). -/
inductive DepartureCase | goesOn | ends (kind : EndKind) | overstays
deriving DecidableEq, Repr

/-- The case of the departure rule that matches (R167). -/
def departureCase (s : State) (newDay berth : Nat) (b : Booking) : DepartureCase :=
  if newDay < b.stay.departure then .goesOn
  else if !s.cfg.overstay b.stay.kind then .ends .endedAtRollover
  else if (s.behind? berth (b.serial.getD 0)).any fun k => k.stay.arrival ≤ newDay then .ends .forcedEnd
  else if newDay = 65535 then .ends .endedAtRollover
  else .overstays

/-- The departure rule (R167); the count of bookings ended. -/
def depart (r : Rollover) (berth serial : Nat) (p : State × Nat) : State × Nat :=
  let s := p.1
  match s.booking? berth serial with
  | none => p
  | some b =>
    match departureCase s r.newDay berth b with
    | .goesOn => p
    | .ends k => (endBooking berth b (some k) s, p.2 + 1)
    | .overstays =>
      (report (.overstay berth serial (r.newDay + 1))
        (changeBooking berth serial (fun k => { k with stay := { k.stay with departure := r.newDay + 1 } }) s), p.2)

/-- One booking that was CURRENT on the closing day: fee, flip, departure (section 9.4). -/
def rollBooking (r : Rollover) (berth : Nat) (b : Booking) (p : State × Nat) : State × Nat :=
  let serial := b.serial.getD 0
  depart r berth serial
    (changeBooking berth serial (flipDay r.closing) (chargeNight r berth b p.1), p.2)

/-- One berth: its CURRENT bookings in list order, then its arrivals (section 9.4, R168). -/
def rollBerth (r : Rollover) (berth : Nat) (p : State × Nat) : State × Nat :=
  match p.1.berth? berth with
  | none => p
  | some b =>
    let q := (b.bookings.filter fun k => k.state == .current).foldl (fun x k => rollBooking r berth k x) p
    (arrivals berth r.newDay q.1, q.2)

/-- The staged set comes into force (R164). -/
def installTariff (s : State) : State :=
  s.setDck { s.dck with inForce := s.dck.staged.getD s.dck.inForce, staged := none }

/-- The rollover from one day to the next (R162). -/
def rollover (closing second : Nat) (s : State) : State :=
  let r : Rollover := ⟨closing, closing + 1, s.dck.inForce⟩
  let s1 := s.setDck { s.dck with clock := some ⟨r.newDay, second⟩ }
  let numbers := sortBy (fun x y : Nat => x ≤ y) (s1.bst.berths.map fun b => b.cfg.number)
  let q := numbers.foldl (fun x n => rollBerth r n x) (s1, 0)
  let s2 := installTariff q.1
  report (.dayRollover r.newDay r.closingSet s2.dck.inForce q.2) s2

/-! ### Commands -/

/-- The clock advances one second, rolling over onto the close second (R159, R162). -/
def advance (t : DayTime) (s : State) : State :=
  let second := if t.second = 86399 then 0 else t.second + 1
  let s1 := (reach s.dck.tickAt s).setDck { s.dck with clock := some ⟨t.day, second⟩, tickAt := s.dck.tickAt + 1000 }
  if second = s.cfg.closeSecond then
    if t.day = 65535 then report .dayLimit s1 else rollover t.day second s1
  else s1

/-- CLOCK_SECOND, while the clock is RUNNING (R159, R162). -/
def execClockSecond (s : State) : Host.Outcome State Fault Refusal :=
  .next (event (whenUp fun s =>
    match s.dck.clock with
    | none => s
    | some t => advance t s) s)

/-- TIME_NOTICE (R161). -/
def execTimeNotice (c : Channel) (source day second : Nat) (s : State) : Host.Outcome State Fault Refusal :=
  .next (event (receive c source (adoptTime source day second)) s)

end Sys2Proof.Machine
end

