-- ==== Sys2Proof/Machine/Fuel.lean ====
section
/-! DEFINITION. FSC (chapter 8): pumps, sales, the unsettled list. A pump's `sale` is the sale on it, `last` the sale its
slot keeps once it has left the pump. -/

namespace Sys2Proof

/-- The amount of a volume at a price, a half cent rounded up (R147). -/
def saleAmount (volume price : Nat) : Nat := (volume * price + 500) / 1000

/-- The preset volume of a granted amount at a price (R147). -/
def presetVolume (granted price : Nat) : Nat := min 999999 ((1000 * granted + 499) / price)

/-- What SALE_SETTLED and UNCOLLECTED say of a sale (R151, R154). -/
def Sale.detail (x : Sale) : SaleDetail :=
  let p := x.party.getD ⟨0, 0, 0, 0, 0⟩
  ⟨x.id.sale, x.volume.getD 0, x.amount.getD 0, p.owner, p.berth, p.serial, p.epoch, x.faultMark⟩

/-- The sale closed with an outcome (R144). -/
def Sale.closed (x : Sale) (o : SaleOutcome) : Sale := { x with stage := .closed, outcome := some o }

/-- The Settle Request of a sale (R151). -/
def Sale.settleBody (x : Sale) : FrameBody :=
  .settleRequest x.id ((x.party.map SaleParty.serial).getD 0) (x.amount.getD 0)

/-- The owner station of a purse sale. -/
def Sale.owner (x : Sale) : Nat := (x.party.map SaleParty.owner).getD 0

end Sys2Proof

namespace Sys2Proof.Machine

/-! ### Records -/

/-- The pump of a number. -/
def State.pump? (s : State) (n : Nat) : Option Pump := s.fsc.pumps.find? fun p => p.cfg.number == n

/-- The command on a pump's line: by its record, DISABLED where the station has none (R141, R197). -/
def State.pumpLine (s : State) (n : Nat) : PumpCommand :=
  match s.pump? n with
  | some p => p.command
  | none => .disabled

/-- Change a pump's record. -/
def changePump (n : Nat) (f : Pump → Pump) (s : State) : State :=
  s.setFsc { s.fsc with pumps := updWhere (fun p => p.cfg.number == n) f s.fsc.pumps }

/-- Change the sale on a pump and queue its slot (R144). -/
def changeSale (n : Nat) (f : Sale → Sale) (s : State) : State :=
  queueRecord (.sale n) (changePump n (fun p => { p with sale := p.sale.map f }) s)

/-- The fuel price now in force for a grade (R144, R163). -/
def State.fuelPrice (s : State) (grade : Nat) : Nat := (s.cfg.tariff s.dck.inForce).fuel grade

/-- The sale numbers a pump's sales hold in the unsettled list (R144). -/
def Fsc.numbersListed (f : Fsc) (pump : Nat) : List Num8 :=
  (f.unsettled.filter fun u => u.sale.id.pump == pump).map fun u => u.sale.id.sale

/-- The first sale number from a value on that none of a list has (R144). -/
def freeNumber (used : List Num8) (n : Num8) : Nat → Num8
  | 0 => n
  | k + 1 => if used.contains n then freeNumber used (n + 1) k else n

/-- Take a pump's next sale number, advancing the counter past the numbers in the list (R144). -/
def takeSaleNumber (p : Pump) (s : State) : State :=
  changePump p.cfg.number (fun x => { x with nextSale := freeNumber (s.fsc.numbersListed p.cfg.number) (p.nextSale + 1) 16 }) s

/-- The purse sales on the pumps other than one (R145). -/
def Fsc.purseSales (f : Fsc) (except : Nat) : Nat :=
  (f.pumps.filter fun p => p.cfg.number != except && p.sale.any fun x => x.kind == .purse).length

/-! ### Refusals and closing (R145, R146, R150) -/

/-- The display of a pump's state, a sale kept in FAULT counting by its stage (R142). State FAULT has no display of its own:
without a sale it is IDLE (the model's choice, log entry 77). -/
def Pump.stateDisplay (p : Pump) : Display :=
  match p.sale with
  | none => .idle
  | some x =>
    match x.stage with
    | .authorising => .ready
    | .ready => .ready
    | .delivering => .delivering
    | .settling | .listed | .closed => .settling

/-- The REFUSED display of a pump for 5 s (R145). -/
def showRefused (n : Nat) (r : SaleRefusal) (s : State) : State :=
  changePump n (fun p => { p with display := .refused r, refusedUntil := some (s.now + 5000) }) s

/-- The sale leaves the pump as the pump's last sale; the pump becomes IDLE, or stays FAULT (R146, R151, R154). The display is
IDLE, also in FAULT (the model's choice, log entry 77). -/
def leavePump (n : Nat) (f : Sale → Sale) (s : State) : State :=
  queueRecord (.sale n) (changePump n (fun p =>
    { p with sale := none, last := p.sale.map f, state := if p.state == .fault then .fault else .idle,
             command := .disabled, display := .idle, refusedUntil := none, readyAt := none, recovered := false }) s)

/-- A sale in AUTHORISING is closed as REFUSED (R146). -/
def refuseSale (n : Nat) (x : Sale) (r : SaleRefusal) (s : State) : State :=
  report (.saleRefused n r ((x.party.map SaleParty.tag).getD 0) x.faultMark)
    (showRefused n r (leavePump n (fun y => y.closed .refused) s))

/-- A sale begins to close: DISABLED, display SETTLING, state SETTLING unless the pump is in FAULT (R150). -/
def closeSale (n : Nat) (s : State) : State :=
  changeSale n (fun x => { x with stage := .settling })
    (changePump n (fun p =>
      { p with command := .disabled, display := .settling, refusedUntil := none, readyAt := none,
               state := if p.state == .fault then .fault else .settling }) s)

/-! ### READY (R148, R154) -/

/-- A pump enters READY with a granted amount and its preset: start totaliser, ENABLED, ready timer, SALE_AUTHORISED. A
sale whose fault mark is set is closed at once, its command DISABLED throughout (R148, R154). -/
def enterReady (n granted : Nat) (s : State) : State :=
  match s.pump? n with
  | none => s
  | some p =>
    match p.sale with
    | none => s
    | some x =>
      let preset := presetVolume granted x.price
      let s1 := changeSale n (fun y =>
        { y with stage := .ready, granted := some granted, preset := some preset,
                 startTotal := p.latest.map PumpReading.totaliser }) s
      let s2 := report (.saleAuthorised n x.id.sale granted preset x.faultMark)
        (if x.faultMark then s1
        else changePump n (fun q =>
          { q with state := .ready, command := .enabled preset, display := .ready, refusedUntil := none,
                   readyAt := some (s.now + s.cfg.readyTime * 1000) }) s1)
      if x.faultMark then closeSale n s2 else s2

/-! ### The unsettled list (R151 to R153, R158) -/

/-- The list slots in use. -/
def Fsc.slotsUsed (f : Fsc) : List Nat := f.unsettled.map Unsettled.slot

/-- The sale on a pump moves to the unsettled list; where no slot is free it is UNCOLLECTED with SALE_LOST (R151, R152,
R158). It takes the lowest-numbered free slot (the model's choice, log entry 55). The pump's slot is queued before the list slot
(the model's choice, log entry 87). -/
def toList (n : Nat) (s : State) : State :=
  match (s.pump? n).bind Pump.sale with
  | none => s
  | some x =>
    match lowestFree s.fsc.slotsUsed 5 16 with
    | none => report (.saleLost x.id (x.amount.getD 0) x.faultMark) (leavePump n (fun y => y.closed .uncollected) s)
    | some slot =>
      let listed := { x with stage := .listed }
      let order := bump32 s.fsc.lastOrder
      let s1 := leavePump n (fun _ => listed) s
      queueRecord (.sale slot) (s1.setFsc { s1.fsc with
        unsettled := s1.fsc.unsettled ++ [⟨listed, order, 0, false, slot⟩]
        lastOrder := order
        retryAt := if s1.fsc.unsettled.isEmpty then some (s1.now + 30000) else s1.fsc.retryAt })

/-- Change the list entry of a hold ID. -/
def changeListed (id : HoldId) (f : Unsettled → Unsettled) (s : State) : State :=
  s.setFsc { s.fsc with unsettled := updWhere (fun u => u.sale.id == id) f s.fsc.unsettled }

/-- The list entry of a hold ID. -/
def State.listed? (s : State) (id : HoldId) : Option Unsettled := s.fsc.unsettled.find? fun u => u.sale.id == id

/-- Queue sale slots for writing (R144, R153). -/
def queueSlots (slots : List Nat) (s : State) : State := slots.foldl (fun x n => queueRecord (.sale n) x) s

/-- The entries of a hold ID leave the list with an outcome: the slot of each is queued as empty, the pump's slot takes the
outcome, and the timer stops with an empty list (R144, R152, R153). A list holds one entry of a hold ID but after the reset of
log entry 78. The list slot is queued first, and the pump's slot also while a newer sale stands on the pump (the model's
choices, log entry 69). -/
def leaveList (id : HoldId) (outcome : SaleOutcome) (s : State) : State :=
  let rest := s.fsc.unsettled.filter fun x => x.sale.id != id
  let freed := (s.fsc.unsettled.filter fun x => x.sale.id == id).map Unsettled.slot
  let s1 := queueSlots freed
    (s.setFsc { s.fsc with unsettled := rest, retryAt := if rest.isEmpty then none else s.fsc.retryAt })
  if (s1.pump? id.pump).any fun p => p.last.any fun x => x.id == id then
    queueRecord (.sale id.pump) (changePump id.pump (fun p => { p with last := p.last.map fun x => x.closed outcome }) s1)
  else s1

/-- The journal entries of a settlement's answer (R151). -/
def reportSettled (x : Sale) (result : SettleResult) (s : State) : State :=
  match result with
  | .settled answered =>
    let s1 := report (.saleSettled x.id.pump x.detail) s
    if answered = x.amount.getD 0 then s1 else report (.settleMismatch x.id (x.amount.getD 0) answered x.faultMark) s1
  | .noBooking => report (.uncollected x.id.pump x.detail) s

/-- The outcome a settlement's answer gives (R151, R153). -/
def settleOutcome : SettleResult → SaleOutcome
  | .settled _ => .settled
  | .noBooking => .uncollected

/-! ### The end reading (R150, R151, R155, R158) -/

/-- The sale with its end reading, the volume cut to 999,999 cl (R150). -/
def Sale.atEnd (x : Sale) (total : Totaliser) : Sale :=
  let volume := min 999999 (total - x.startTotal.getD total).toNat
  { x with endTotal := some total, volume := some volume, amount := some (saleAmount volume x.price) }

/-- The end reading of the sale on a pump, and what follows: a direct sale is done, a purse sale settles, one recovered
at a reset joins the list (R150, R151, R155, R158). -/
def endReading (n : Nat) (total : Totaliser) (s : State) : State :=
  match s.pump? n with
  | none => s
  | some p =>
    match p.sale with
    | none => s
    | some x =>
      let measured := (total - x.startTotal.getD total).toNat
      let y := Sale.atEnd x total
      let volume := y.volume.getD 0
      let preset := x.preset.getD 0
      let s1 := changeSale n (fun _ => y) s
      let s2 := if 999999 < measured then report (.volumeClamped n measured x.faultMark) s1 else s1
      let s3 := if preset < volume then report (.saleOverrun n preset volume x.faultMark) s2 else s2
      match x.kind with
      | .direct =>
        report (.directSale n x.id.sale preset volume x.price (y.amount.getD 0) x.faultMark)
          (leavePump n (fun z => z.closed .directDone) s3)
      | .purse =>
        if p.recovered then toList n s3
        else
          let r := ask y.owner y.settleBody (.pumpSale x.id) s3
          if r.2 then r.1 else toList n r.1

/-! ### Results from the owner (R146, R151, R153) -/

/-- The sale on a pump with a hold ID. -/
def State.onPump? (s : State) (id : HoldId) : Option Sale :=
  ((s.pump? id.pump).bind Pump.sale).bind fun x => if x.id == id then some x else none

/-- Why an owner's refusal refuses a sale (R146). -/
def refusalOf : HoldRefusal → SaleRefusal
  | .noBooking => .noBooking
  | .standing => .standing
  | .listFull => .listFull

/-- A Hold Answer reaches the sale it is for (R146). -/
def holdResult (id : HoldId) (result : HoldResult) (s : State) : State :=
  match s.onPump? id with
  | none => s
  | some x =>
    match result with
    | .granted g => enterReady id.pump g s
    | .refused r => refuseSale id.pump x (refusalOf r) s

/-- A Settle Answer reaches the sale on its pump (R151). -/
def pumpSettled (id : HoldId) (result : SettleResult) (s : State) : State :=
  match s.onPump? id with
  | none => s
  | some x => reportSettled x result (leavePump id.pump (fun y => y.closed (settleOutcome result)) s)

/-- A Settle Answer reaches an entry of the list (R153). -/
def listSettled (id : HoldId) (result : SettleResult) (s : State) : State :=
  match s.listed? id with
  | none => s
  | some u => reportSettled u.sale result (leaveList id (settleOutcome result) s)

/-- A request of the sale on a pump is TIMED_OUT: a hold refuses it, a settlement moves it to the list (R146, R151). -/
def pumpTimedOut (id : HoldId) (s : State) : State :=
  match s.onPump? id with
  | none => s
  | some x => if x.stage == .authorising then refuseSale id.pump x .noAnswer s else toList id.pump s

/-- A request of a list entry is TIMED_OUT (R153). -/
def listTimedOut (id : HoldId) : State → State := changeListed id fun u => { u with inFlight := false }

/-! ### Presentations at a pump (R145, R146) -/

/-- Why a lookup result begins no sale at an IDLE pump (R145). -/
def presentRefusal (p : Pump) (others : Nat) (r : LookupResult) : Option SaleRefusal :=
  if p.latest.isNone then some .pumpFault
  else
    match r with
    | .unknown => some .unknown
    | .noAnswer => some .noAnswer
    | .found c _ =>
      if c.cls == .staff || c.cls == .contractor then some .notBooking
      else
        match c.booking with
        | none => some .notBooking
        | some b =>
          if b.state == .reserved then some .noBooking
          else if b.standing == .arrears || b.standing == .barred then some .standing
          else if 16 ≤ others then some .dockBusy
          else none

/-- The record of a purse sale that begins (R146). -/
def State.newPurseSale (s : State) (p : Pump) (tag : Tag) (c : Credential) : Sale where
  id := ⟨s.cfg.station, p.cfg.number, p.nextSale⟩
  kind := .purse
  stage := .authorising
  party := some ⟨tag, c.owner, (c.booking.map CredBooking.berth).getD 0, (c.booking.map CredBooking.serial).getD 0,
    (c.booking.map CredBooking.epoch).getD 0⟩
  price := s.fuelPrice p.cfg.grade
  requested := s.cfg.saleLimit

/-- A purse sale begins (R146). -/
def beginSale (p : Pump) (tag : Tag) (c : Credential) (s : State) : State :=
  let n := p.cfg.number
  let x := s.newPurseSale p tag c
  let s1 := takeSaleNumber p s
  let r := ask x.owner (.holdRequest x.id tag ((x.party.map SaleParty.serial).getD 0) x.requested) (.pumpSale x.id) s1
  if r.2 then
    queueRecord (.sale n) (changePump n (fun q =>
      { q with state := .authorising, display := .ready, refusedUntil := none, sale := some x }) r.1)
  else report (.saleRefused n .linkBusy tag false) (showRefused n .linkBusy r.1)

/-- A lookup result is delivered for a pump's reader (R145). -/
def deliverPump (n : Nat) (tag : Tag) (r : LookupResult) (s : State) : State :=
  match s.pump? n with
  | none => s
  | some p =>
    if p.state != .idle then report (.saleRefused n .pumpBusy tag false) s
    else
      match presentRefusal p (s.fsc.unsettled.length + s.fsc.purseSales n) r with
      | some why => report (.saleRefused n why tag false) (showRefused n why s)
      | none =>
        match r with
        | .found c _ => beginSale p tag c s
        | _ => s

/-! ### Answers and misses of a pump (R142, R143, R148, R149, R154) -/

/-- PUMP_FLOW when a pump without a sale has delivered (R143). -/
def noteFlow (n : Nat) (before : Option PumpReading) (now : PumpReading) (s : State) : State :=
  match before with
  | none => s
  | some b =>
    if b.totaliser = now.totaliser then s else report (.pumpFlow n (now.totaliser - b.totaliser).toNat) s

/-- The first good Answer of a pump in FAULT; a sale without an end reading is closed by R150 and takes it (R154). -/
def leaveFault (p : Pump) (reading : PumpReading) (s : State) : State :=
  let n := p.cfg.number
  let s1 := report (.pumpOk n) s
  match p.sale with
  | none => noteFlow n p.latest reading (changePump n (fun q => { q with state := .idle }) s1)
  | some x =>
    if x.stage == .authorising then changePump n (fun q => { q with state := .authorising }) s1
    else if x.endTotal.isSome then changePump n (fun q => { q with state := .settling }) s1
    else endReading n reading.totaliser (closeSale n (changePump n (fun q => { q with state := .settling }) s1))

/-- A good Answer is taken by the pump's state (R142); `sent` is the command of the Poll it answers. -/
def pumpState (p : Pump) (sent : PumpCommand) (reading : PumpReading) (s : State) : State :=
  let n := p.cfg.number
  match p.state with
  | .fault => leaveFault p reading s
  | .idle => noteFlow n p.latest reading s
  | .authorising => s
  | .ready =>
    if reading.nozzleUp then
      changeSale n (fun x => { x with stage := .delivering })
        (changePump n (fun q => { q with state := .delivering, display := .delivering, readyAt := none }) s)
    else s
  | .delivering =>
    if !reading.nozzleUp || (!reading.running && reading.stop == .preset) then closeSale n s else s
  | .settling =>
    if sent == .disabled && p.sale.any (fun x => x.endTotal.isNone) then endReading n reading.totaliser s else s

/-- A pump enters FAULT (R142, R154). -/
def enterFault (p : Pump) (s : State) : State :=
  let n := p.cfg.number
  let s1 := report (.pumpFault n p.state) (changePump n (fun q =>
    { q with state := .fault, misses := 3, readyAt := none, recovered := false }) s)
  match p.sale with
  | none => s1
  | some x =>
    let s2 := changeSale n (fun y => { y with faultMark := true }) s1
    if x.stage == .ready || x.stage == .delivering then
      changePump n (fun q => { q with command := .disabled, display := .settling, refusedUntil := none }) s2
    else s2

/-! ### Answers delivered (R146, R151, R153, R180) -/

/-- A Hold Answer delivered (R146, R180). -/
def onHoldAnswer (source : Nat) (sequence : Num8) (id : HoldId) (result : HoldResult) : State → State :=
  takeAnswer source sequence (.holdAnswer id result) fun _ => holdResult id result

/-- A Settle Answer delivered, for a sale on its pump or an entry of the list (R151, R153, R180). -/
def onSettleAnswer (source : Nat) (sequence : Num8) (id : HoldId) (result : SettleResult) : State → State :=
  takeAnswer source sequence (.settleAnswer id result) fun p =>
    match p.originator with
    | .unsettled _ => listSettled id result
    | _ => pumpSettled id result

/-! ### Terminal operations (R153, R155, R156) -/

/-- DIRECT_AUTHORISE (R155). -/
def doDirectAuthorise (pump amount : Nat) (s : State) : State × Reply :=
  match s.pump? pump with
  | none => (s, answer .directAuthorise .noPump)
  | some p =>
    if amount < s.cfg.minimumSale || 99999999 < amount then (s, answer .directAuthorise .badAmount)
    else if p.state != .idle then (s, answer .directAuthorise .pumpBusy)
    else if p.latest.isNone then (s, answer .directAuthorise .pumpFault)
    else
      let price := s.fuelPrice p.cfg.grade
      let x : Sale := { id := ⟨s.cfg.station, pump, p.nextSale⟩, kind := .direct, stage := .ready, party := none, price := price,
                        requested := amount }
      let s1 := changePump pump (fun q => { q with sale := some x }) (takeSaleNumber p s)
      (enterReady pump amount s1,
        answer .directAuthorise .ok [.number p.nextSale.toNat, .number (presetVolume amount price)])

/-- CANCEL_SALE (R156). -/
def doCancelSale (pump : Nat) (s : State) : State × Reply :=
  match s.pump? pump with
  | none => (s, answer .cancelSale .noPump)
  | some p =>
    if p.state == .ready || p.state == .delivering then
      (report (.saleCancelled pump p.state (p.sale.any Sale.faultMark)) (closeSale pump s), answer .cancelSale .ok)
    else (s, answer .cancelSale .wrongState)

/-- The list entry of a pump and sale number, under whatever station number its hold ID was made (R153). -/
def State.listedSale? (s : State) (pump : Nat) (sale : Num8) : Option Unsettled :=
  s.fsc.unsettled.find? fun u => u.sale.id.pump == pump && u.sale.id.sale == sale

/-- WRITE_OFF_SALE (R153). -/
def doWriteOffSale (pump : Nat) (sale : Num8) (s : State) : State × Reply :=
  match s.pump? pump with
  | none => (s, answer .writeOffSale .noPump)
  | some _ =>
    match s.listedSale? pump sale with
    | none => (s, answer .writeOffSale .noSale)
    | some u =>
      if u.inFlight then (s, answer .writeOffSale .settleInFlight)
      else
        (report (.saleWrittenOff u.sale.id (u.sale.amount.getD 0) u.sale.faultMark) (leaveList u.sale.id .writtenOff s),
          answer .writeOffSale .ok)

/-- A pump's line of SALE_STATUS (R156). -/
def Pump.line (p : Pump) : PumpLine := ⟨p.cfg.number, p.state, p.misses, p.latest, p.command, p.display, p.sale⟩

/-- SALE_STATUS: the pump lines in ascending pump number (R156; the order is the model's choice, log entry 65). The sales in
progress are all that stand on a pump, direct sales too (the model's choice, log entry 70). A stopped retry timer has no seconds
left to give (the model's choice, log entry 86). -/
def doSaleStatus (resume limit : Nat) (s : State) : State × Reply :=
  if s.fsc.pumps.isEmpty then (s, answer .saleStatus .noPump)
  else
    let items := s.fsc.pumps.map (fun p => Item.pump (Pump.line p)) ++
      [.saleCounts (s.fsc.pumps.filter fun p => p.sale.isSome).length s.fsc.unsettled.length,
        .retryLeft (s.fsc.retryAt.map s.secondsLeft)] ++ s.fsc.unsettled.map Item.unsettled
    (s, packReply .saleStatus limit false (fromResume resume (numberItems items)))

/-! ### Commands -/

/-- PUMP_POLL_TIMER: the Poll carries the command and display as they stand (R142). -/
def execPumpPollTimer (pump : Nat) (s : State) : Host.Outcome State Fault Refusal :=
  .next (whenUp (fun s =>
    match s.pump? pump with
    | none => s
    | some p =>
      changePump pump (fun q => { q with pollAt := p.pollAt + 500, awaiting := some (p.command, p.display) })
        (reach p.pollAt s)) s)

/-- PUMP_ANSWER: a good Answer to the Poll that waits for one (R142). -/
def execPumpAnswer (pump : Nat) (reading : PumpReading) (s : State) : Host.Outcome State Fault Refusal :=
  .next (whenUp (fun s =>
    match s.pump? pump with
    | none => s
    | some p =>
      match p.awaiting with
      | none => s
      | some (sent, _) =>
        pumpState p sent reading
          (changePump pump (fun q => { q with misses := 0, latest := some reading, awaiting := none }) s)) s)

/-- PUMP_MISS: no good Answer in 100 ms; the third in a row is a FAULT (R142). -/
def execPumpMiss (pump : Nat) (s : State) : Host.Outcome State Fault Refusal :=
  .next (whenUp (fun s =>
    match s.pump? pump with
    | none => s
    | some p =>
      if p.awaiting.isNone then s
      else
        let s1 := changePump pump (fun q => { q with awaiting := none, misses := min 3 (q.misses + 1) }) s
        if p.state != .fault && 2 ≤ p.misses then enterFault p s1 else s1) s)

/-- PUMP_REFUSED_DISPLAY_EXPIRY: the display of the pump's state returns (R142). -/
def execPumpRefusedDisplayExpiry (pump : Nat) (s : State) : Host.Outcome State Fault Refusal :=
  .next (whenUp (fun s =>
    match (s.pump? pump).bind Pump.refusedUntil with
    | none => s
    | some t =>
      changePump pump (fun q => { q with display := Pump.stateDisplay q, refusedUntil := none }) (reach t s)) s)

/-- HOLD_ANSWER (R146, R180). -/
def execHoldAnswer (c : Channel) (source : Nat) (sequence : Num8) (id : HoldId) (result : HoldResult) (s : State) :
    Host.Outcome State Fault Refusal :=
  .next (event (receive c source (onHoldAnswer source sequence id result)) s)

/-- READY_TIMER: a sale not begun is closed (R148). -/
def execReadyTimer (pump : Nat) (s : State) : Host.Outcome State Fault Refusal :=
  .next (whenUp (fun s =>
    match (s.pump? pump).bind Pump.readyAt with
    | none => s
    | some t => closeSale pump (reach t s)) s)

/-- SETTLE_ANSWER, for a sale on its pump or an entry of the list (R151, R153, R180). -/
def execSettleAnswer (c : Channel) (source : Nat) (sequence : Num8) (id : HoldId) (result : SettleResult) (s : State) :
    Host.Outcome State Fault Refusal :=
  .next (event (receive c source (onSettleAnswer source sequence id result)) s)

/-- The retry walk: each entry not in flight is sent, until one is refused LINK_BUSY (R152). -/
def retryWalk : List HoldId → State → State
  | [], s => s
  | id :: rest, s =>
    match s.listed? id with
    | none => retryWalk rest s
    | some u =>
      if u.inFlight then retryWalk rest s
      else
        let r := ask u.sale.owner u.sale.settleBody (.unsettled id) s
        if r.2 then
          retryWalk rest (queueRecord (.sale u.slot)
            (changeListed id (fun x => { x with inFlight := true, attempts := satAdd top16 x.attempts 1 }) r.1))
        else r.1

/-- SALE_RETRY_TIMER: the list is walked from the oldest entry, and the timer starts again (R152). -/
def execSaleRetryTimer (s : State) : Host.Outcome State Fault Refusal :=
  .next (whenUp (fun s =>
    match s.fsc.retryAt with
    | none => s
    | some t =>
      let s1 := reach t s
      let s2 := retryWalk (s1.fsc.unsettled.map fun u => u.sale.id) s1
      s2.setFsc { s2.fsc with retryAt := some (s1.now + 30000) }) s)

end Sys2Proof.Machine
end

