-- ==== Sys2Proof/Machine/Gates.lean ====
section
/-! DEFINITION. GTC (chapter 7): the decision on a lookup result, the gate state machine, modes and notices. -/

namespace Sys2Proof.Machine

/-! ### Records -/

/-- The gate of a number. -/
def State.gate? (s : State) (n : Nat) : Option Gate := s.gtc.gates.find? fun g => g.cfg.number == n

/-- Change a gate's record. -/
def changeGate (n : Nat) (f : Gate → Gate) (s : State) : State :=
  s.setGtc { s.gtc with gates := updWhere (fun g => g.cfg.number == n) f s.gtc.gates }

/-- A 32-bit counter of a gate record, stopping at the top (R128). -/
def bumpTop (n : Nat) : Nat := satAdd top32 n 1

/-! ### Deciding an entry (R129 to R131) -/

/-- What GTC decides. -/
inductive Decision | grant | logged (reason : LogReason) | deny (reason : DenyReason)
deriving DecidableEq, Repr

/-- A second of day lies in a window, which may span midnight (R129). -/
def inWindow (first last second : Nat) : Bool :=
  if first ≤ last then first ≤ second && second ≤ last else first ≤ second || second ≤ last

/-- A contractor record is inside its window (R129). -/
def insideWindow (window : Option (Nat × Nat)) (clock : Option DayTime) : Bool :=
  match window, clock with
  | none, _ => true
  | some _, none => false
  | some (first, last), some t => inWindow first last t.second

/-- The gate is the record's own pontoon gate (R129). -/
def ownGate (station : Nat) (kind : GateKind) (c : Credential) : Bool := kind == .pontoon && c.owner == station

/-- Why the mode turns a credential away, if it does (R129); a gate in mode OPEN decides nothing. -/
def modeDenies (station : Nat) (kind : GateKind) (clock : Option DayTime) (mode : GateMode) (c : Credential) :
    Option DenyReason :=
  match mode, c.cls with
  | .opened, _ => none
  | .card, .contractor => if insideWindow c.window clock then none else some .window
  | .card, _ => none
  | .restricted, .resident => none
  | .restricted, .visitor => if kind == .main || ownGate station kind c then none else some .mode
  | .restricted, .staff => none
  | .restricted, .contractor => some .mode
  | .closed, .staff => none
  | .closed, _ => some .mode

/-- The state outcome of a credential (R130). -/
def stateOutcome (station : Nat) (kind : GateKind) (c : Credential) : Decision :=
  match c.cls, c.booking with
  | .staff, _ => .grant
  | .contractor, _ => .grant
  | _, none => .grant
  | _, some b =>
    if b.state == .reserved then .deny .early
    else
      match b.standing with
      | .barred => if ownGate station kind c then .logged .barredOwnGate else .deny .barred
      | .arrears => .logged .arrears
      | .good => .grant
      | .low => .grant

/-- The decision: the more restrictive of the two outcomes, the state outcome's reason when both deny (R130, R131). -/
def decision (station : Nat) (g : Gate) (clock : Option DayTime) (r : LookupResult) : Decision :=
  match r with
  | .unknown => .deny .unknown
  | .noAnswer => .deny .noAnswer
  | .found c _ =>
    match stateOutcome station g.cfg.kind c with
    | .deny why => .deny why
    | d =>
      match modeDenies station g.cfg.kind clock g.mode c with
      | some why => .deny why
      | none => d

/-! ### Recording (R133, R134) -/

/-- What a decision's entry says of the credential. -/
def accessDetail (gate : Nat) (r : LookupResult) : AccessDetail :=
  match r with
  | .found c source =>
    ⟨gate, some c.cls, some c.owner, c.booking.map CredBooking.berth, c.booking.map CredBooking.serial, some source,
      c.booking.map CredBooking.epoch⟩
  | _ => ⟨gate, none, none, none, none, none, none⟩

/-- Raise the escort notice of a gate, or add to it (R134). -/
def raiseEscort (n : Nat) (c : Credential) (s : State) : State :=
  let berth := (c.booking.map CredBooking.berth).getD 0
  let fresh := fun count : Nat =>
    (⟨c.tag, c.owner, berth, (c.booking.map CredBooking.serial).getD 0, s.dck.clock, count⟩ : EscortNotice)
  match (s.gate? n).bind Gate.escort with
  | none => report (.escort c.tag n c.owner berth) (changeGate n (fun g => { g with escort := some (fresh 1) }) s)
  | some old => lookAgain (changeGate n (fun g => { g with escort := some (fresh (min 255 (old.count + 1))) }) s)

/-- Raise the ajar notice of a gate (R134). -/
def raiseAjar (g : Gate) (s : State) : State :=
  report (.gateAjar g.cfg.number g.cfg.heldOpenLimit)
    (changeGate g.cfg.number (fun x => { x with ajar := some ⟨g.openedTime⟩ }) s)

/-- Count and record a decision; a DENY BARRED raises or adds to the escort notice (R133, R134). -/
def record (n : Nat) (tag : Tag) (r : LookupResult) (d : Decision) (s : State) : State :=
  match d with
  | .grant => changeGate n (fun g => { g with grants := bumpTop g.grants }) s
  | .logged why =>
    report (.accessLogged tag (accessDetail n r) why) (changeGate n (fun g => { g with logged := bumpTop g.logged }) s)
  | .deny why =>
    let s1 := report (.accessDenied tag (accessDetail n r) why)
      (changeGate n (fun g => { g with denials := bumpTop g.denials }) s)
    match why, r with
    | .barred, .found c _ => raiseEscort n c s1
    | _, _ => s1

/-! ### The gate state machine (R132, R135 to R138) -/

/-- The strike is RELEASED with a full release time (R132, R135). -/
def releaseGate (n : Nat) (s : State) : State :=
  changeGate n (fun g =>
    { g with state := .released, strike := .released, releaseAt := some (s.now + g.cfg.releaseTime * 1000) }) s

/-- A lookup result is delivered for a gate's reader (R132). -/
def deliverGate (n : Nat) (tag : Tag) (r : LookupResult) (s : State) : State :=
  match s.gate? n with
  | none => s
  | some g =>
    if g.state == .unlocked then s
    else
      let d := decision s.cfg.station g s.dck.clock r
      let s1 := match d with
        | .deny _ => s
        | _ => if g.state == .locked || g.state == .released then releaseGate n s else s
      record n tag r d s1

/-- The door opens (R136). -/
def doorOpens (g : Gate) (s : State) : State :=
  let n := g.cfg.number
  let s1 := changeGate n (fun x =>
    { x with door := .opened, openedAt := some s.seconds, openedTime := s.dck.clock }) s
  match g.state with
  | .locked =>
    report (.gateForced n) (changeGate n (fun x => { x with state := .forced, forcings := bumpTop x.forcings }) s1)
  | .released =>
    changeGate n (fun x =>
      { x with state := .opened, strike := .held, releaseAt := none,
               heldOpenAt := some (s.now + x.cfg.heldOpenLimit * 1000) }) s1
  | .opened | .ajar | .forced | .unlocked => s1

/-- The door closes (R136). -/
def doorCloses (g : Gate) (s : State) : State :=
  let n := g.cfg.number
  let s1 := changeGate n (fun x => { x with door := .closed, openedAt := none, openedTime := none }) s
  let seconds := s.seconds - g.openedAt.getD s.seconds
  match g.state with
  | .opened => changeGate n (fun x => { x with state := .locked, heldOpenAt := none }) s1
  | .ajar | .forced => report (.doorClosed n seconds) (changeGate n (fun x => { x with state := .locked }) s1)
  | .locked | .released | .unlocked => s1

/-- The mode of a gate changes (R138). -/
def moveMode (g : Gate) (mode : GateMode) (s : State) : State :=
  let n := g.cfg.number
  let limit := s.now + g.cfg.heldOpenLimit * 1000
  let s1 :=
    if mode == .opened then
      changeGate n (fun x =>
        { x with mode := mode, state := .unlocked, strike := .released, releaseAt := none, heldOpenAt := none }) s
    else if g.mode == .opened then
      if g.door == .closed then changeGate n (fun x => { x with mode := mode, state := .locked, strike := .held }) s
      else changeGate n (fun x => { x with mode := mode, state := .opened, strike := .held, heldOpenAt := some limit }) s
    else changeGate n (fun x => { x with mode := mode }) s
  report (.gateMode n g.mode mode) s1

/-- A gate after a reset: LOCKED, then by its start mode and door line (R128, R140). -/
def startGate (c : GateCfg) (line : Door) : Gate :=
  let g : Gate := { cfg := c, mode := c.startMode, door := line, openedAt := if line == .opened then some 0 else none }
  if c.startMode == .opened then { g with state := .unlocked, strike := .released }
  else if line == .opened then { g with state := .ajar }
  else g

/-- The strike line of a gate position: by its record, or in CONFIG_FAULT by the exit release (R128, R140). -/
def State.strikeLine (s : State) (n : Nat) : Strike :=
  match s.gate? n with
  | some g => g.strike
  | none => if (if n = 1 then s.gtc.faultRelease1 else s.gtc.faultRelease2).isSome then .released else .held

/-! ### Terminal operations (R138, R139) -/

/-- SET_GATE_MODE (R138). The OK to the mode already set carries the gate's state too (the model's choice, log entry 53). -/
def doSetGateMode (gate : Nat) (mode : Option GateMode) (s : State) : State × Reply :=
  match s.gate? gate with
  | none => (s, answer .setGateMode .noGate)
  | some g =>
    match mode with
    | none => (s, answer .setGateMode .badValue)
    | some m =>
      if g.mode == m then (s, answer .setGateMode .ok [.gateState g.state])
      else
        let s1 := moveMode g m s
        (s1, answer .setGateMode .ok [.gateState (((s1.gate? gate).map Gate.state).getD g.state)])

/-- A gate's line of GATE_STATUS (R139). -/
def State.gateLine (s : State) (g : Gate) : GateLine where
  gate := g.cfg.number
  kind := g.cfg.kind
  mode := g.mode
  state := g.state
  door := g.door
  strike := g.strike
  releaseLeft := g.releaseAt.map s.secondsLeft
  heldOpenLeft := g.heldOpenAt.map s.secondsLeft
  openFor := g.openedAt.map fun t => s.seconds - t
  escort := g.escort
  ajar := g.ajar
  grants := g.grants
  logged := g.logged
  denials := g.denials
  exits := g.exits
  forcings := g.forcings

/-- GATE_STATUS (R139). -/
def doGateStatus (resume limit : Nat) (s : State) : State × Reply :=
  if s.gtc.gates.isEmpty then (s, answer .gateStatus .noGate)
  else
    (s, packReply .gateStatus limit false
      (fromResume resume (s.gtc.gates.map fun g => (g.cfg.number, .gate (s.gateLine g)))))

/-- GATE_ACK (R139). An unknown gate is NO_GATE on every role (the model's choice where a station has gates, log entry
53); no other notice kind comes here (log entry 68). -/
def doGateAck (gate : Nat) (kind : NoticeKind) (s : State) : State × Reply :=
  match s.gate? gate with
  | none => (s, answer .gateAck .noGate)
  | some g =>
    match kind with
    | .escort =>
      match g.escort with
      | none => (s, answer .gateAck .noNotice)
      | some e =>
        (report (.noticeAck gate kind) (changeGate gate (fun x => { x with escort := none }) s),
          answer .gateAck .ok [.escort e])
    | .ajar =>
      match g.ajar with
      | none => (s, answer .gateAck .noNotice)
      | some a =>
        (report (.noticeAck gate kind) (changeGate gate (fun x => { x with ajar := none }) s),
          answer .gateAck .ok [.ajar a])

/-! ### Commands -/

/-- A press of an exit button at a gate that has a record (R135). -/
def pressExit (g : Gate) (s : State) : State :=
  let n := g.cfg.number
  match g.state with
  | .locked => releaseGate n (changeGate n (fun x => { x with exits := bumpTop x.exits }) s)
  | .released => releaseGate n s
  | .opened | .ajar | .forced | .unlocked => s

/-- A press of an exit button in CONFIG_FAULT: the strike is released for 5 s (R140). -/
def pressFaultExit (n : Nat) (s : State) : State :=
  if n = 1 then s.setGtc { s.gtc with faultRelease1 := some (s.now + 5000) }
  else if n = 2 then s.setGtc { s.gtc with faultRelease2 := some (s.now + 5000) }
  else s

/-- EXIT_BUTTON (R135, R140). -/
def execExitButton (gate : Nat) (s : State) : Host.Outcome State Fault Refusal :=
  .next (match s.gate? gate with
    | some g => pressExit g s
    | none => if s.inFault then pressFaultExit gate s else s)

/-- The level of a door sense line. -/
def setDoorLine (gate : Nat) (d : Door) (s : State) : State :=
  if gate = 1 then s.setDoor1 d else if gate = 2 then s.setDoor2 d else s

/-- DOOR_SENSE: a report that repeats the door's value changes nothing (R136). -/
def execDoorSense (gate : Nat) (door : Door) (s : State) : Host.Outcome State Fault Refusal :=
  let s1 := setDoorLine gate door s
  .next (match s1.gate? gate with
    | none => s1
    | some g =>
      if g.door == door then s1
      else
        match door with
        | .opened => doorOpens g s1
        | .closed => doorCloses g s1)

/-- RELEASE_TIMER: a RELEASED gate becomes LOCKED (R137). -/
def execReleaseTimer (gate : Nat) (s : State) : Host.Outcome State Fault Refusal :=
  .next (match (s.gate? gate).bind Gate.releaseAt with
    | none => s
    | some t => changeGate gate (fun x => { x with state := .locked, strike := .held, releaseAt := none }) (reach t s))

/-- HELD_OPEN_TIMER: an OPEN gate becomes AJAR and raises the ajar notice (R137). -/
def execHeldOpenTimer (gate : Nat) (s : State) : Host.Outcome State Fault Refusal :=
  .next (match s.gate? gate with
    | none => s
    | some g =>
      match g.heldOpenAt with
      | none => s
      | some t =>
        raiseAjar g (changeGate gate (fun x => { x with state := .ajar, heldOpenAt := none }) (reach t s)))

/-- FAULT_EXIT_RELEASE_EXPIRY: in CONFIG_FAULT the strike is held again (R140). -/
def execFaultExitReleaseExpiry (gate : Nat) (s : State) : Host.Outcome State Fault Refusal :=
  .next (if gate = 1 then
      match s.gtc.faultRelease1 with
      | none => s
      | some t => (reach t s).setGtc { s.gtc with faultRelease1 := none }
    else if gate = 2 then
      match s.gtc.faultRelease2 with
      | none => s
      | some t => (reach t s).setGtc { s.gtc with faultRelease2 := none }
    else s)

end Sys2Proof.Machine
end

