-- ==== Sys2Proof/Machine/ImageCheck.lean ====
section
/-! DEFINITION. The checks of a configuration image (R196): header, ranges in body order, cross checks, clamps. Where a
value stands in the body is not in the spec: a field is named by section, row and item, and its offset is
Config.fieldOffset (log entry 9). Row 0 of a table is its count, rows from 1 on its records. -/

namespace Sys2Proof

/-- The place of a section in the body (section 11.4). -/
def Section.step : Section → Nat
  | .station => 0
  | .feeder => 1
  | .timers => 2
  | .fitting => 3
  | .purse => 4
  | .berths => 5
  | .posts => 6
  | .startClaims => 7
  | .tariffs => 8
  | .gates => 9
  | .pins => 10
  | .pumps => 11

/-- Fields stand in body order. -/
def Field.le (x y : Field) : Bool :=
  x.part.step < y.part.step || (x.part.step == y.part.step &&
    (x.row < y.row || (x.row == y.row && x.item ≤ y.item)))

/-- A field with whether its value is in its range. -/
abbrev Checked := Field × Bool

/-- A value lies between two bounds. -/
def within (lo hi n : Nat) : Bool := lo ≤ n && n ≤ hi

/-- The values of one record, numbered as items. -/
def recordFields (part : Section) (row : Nat) (oks : List Bool) : List Checked :=
  oks.zipIdx.map fun p => (⟨part, row, p.2⟩, p.1)

/-- The records of a table, its count first. -/
def tableFields {α : Type} (part : Section) (lo hi : Nat) (f : α → List Bool) (rows : List α) : List Checked :=
  (⟨part, 0, 0⟩, within lo hi rows.length) :: rows.zipIdx.flatMap fun p => recordFields part (p.2 + 1) (f p.1)

/-- A money value of the purse section (R25). -/
def centsOk (n : Nat) : Bool := n ≤ 99999999

/-- A second of day. -/
def secondOk (n : Nat) : Bool := n ≤ 86399

/-- A berth's values (R1). -/
def berthOks (b : BerthCfg) : List Bool :=
  [within 1 64 b.number, within 1 9999 b.length, within 1 9999 b.width, within 1 9999 b.depth, true,
    b.outlets.length ≤ 2 && b.outlets.all (within 1 64), b.tap.all (within 1 32), true, b.priority ≤ 3]

/-- A post's values (R88). -/
def postOks (p : PostCfg) : List Bool :=
  [within 1 16 p.number, p.outlets.length ≤ 4 && p.outlets.all (fun o => within 1 64 o.number),
    p.taps.length ≤ 2 && p.taps.all (within 1 32)]

/-- A tariff set's values (R163). -/
def tariffOks (t : Tariff) : List Bool :=
  [t.energyRate ≤ 9999, t.waterRate ≤ 99999, within 1 99999 t.fuel1, within 1 99999 t.fuel2, t.nightRate ≤ 99999]

/-- A gate's values (R128). -/
def gateOks (g : GateCfg) : List Bool :=
  [within 1 2 g.number, true, true, within 1 30 g.releaseTime, within 10 600 g.heldOpenLimit]

/-- A pinned tag's values (R119). -/
def pinOks (p : PinCfg) : List Bool := [true, true, p.window.all fun w => secondOk w.1 && secondOk w.2]

/-- A pump's values (R141). -/
def pumpOks (p : PumpCfg) : List Bool := [within 1 4 p.number, within 1 2 p.grade]

/-- Every value with its range, in body order (R196, check 5). -/
def Image.ranges (i : Image) : List Checked :=
  recordFields .station 0 [within 1 30 i.station, true] ++
  recordFields .feeder 0 [within 100 60000 i.feederLimit, i.floor ≤ 60000, i.ceiling ≤ 60000, within 1 30 i.expected,
    i.defaultCeiling ≤ 60000, i.hysteresis ≤ 500, within 1 5 i.raiseTime] ++
  recordFields .timers 0 [within 1 5 i.tentativeTime, [20, 40, 80, 160].contains i.responseTimeout,
    within 3 10 i.stalenessTime, within 5 120 i.holdTimeout, within 1 60 i.cacheLife, within 10 600 i.restTime,
    within 1 120 i.runLimit, within 30 600 i.readyTime, secondOk i.closeSecond] ++
  recordFields .fitting 0 [i.lengthMargin ≤ 999, i.widthMargin ≤ 999, i.depthMargin ≤ 999] ++
  recordFields .purse 0 [centsOk i.residentLow, centsOk i.residentCredit, centsOk i.visitorLow, centsOk i.visitorCredit,
    500 ≤ i.minimumSale && centsOk i.minimumSale, 500 ≤ i.saleLimit && centsOk i.saleLimit, true, true] ++
  tableFields .berths 0 64 berthOks i.berths ++ tableFields .posts 0 16 postOks i.posts ++
  tableFields .tariffs 4 4 tariffOks i.tariffs ++ [(⟨.tariffs, 5, 0⟩, within 1 4 i.startSet)] ++
  tableFields .gates 0 2 gateOks i.gates ++ tableFields .pins 0 48 pinOks i.pins ++
  tableFields .pumps 0 4 pumpOks i.pumps

/-- The first field in body order that is out of its range, or whose bytes name no value of its type. -/
def Image.outOfRange? (i : Image) (unread : List Field) : Option Field :=
  (unread ++ (i.ranges.filter fun c => !c.2).map Prod.fst).foldl (fun best f =>
    match best with
    | none => some f
    | some b => if Field.le b f then some b else some f) none

/-! ### Cross checks -/

/-- The outlets of the post map, in post order. -/
def Image.outlets (i : Image) : List OutletCfg := i.posts.flatMap PostCfg.outlets

/-- The taps of the post map. -/
def Image.taps (i : Image) : List Nat := i.posts.flatMap PostCfg.taps

/-- The role agrees with the counts (R196). A PONTOON image's one gate may have number 2 (the model's choice, log entry
54). -/
def Image.roleAgrees (i : Image) : Bool :=
  match i.role with
  | .pontoon => i.gates.length == 1 && i.gates.all (fun g => g.kind == .pontoon) && i.pumps.isEmpty
  | .fuel => i.berths.isEmpty && i.posts.isEmpty && i.gates.isEmpty && within 1 4 i.pumps.length
  | .gate =>
    i.berths.isEmpty && i.posts.isEmpty && i.pumps.isEmpty &&
      (i.gates.map GateCfg.number == [1, 2] || i.gates.map GateCfg.number == [2, 1]) &&
      i.gates.all fun g => g.kind == .main || g.kind == .service

/-- The row, from 1, of the first list that repeats a number of an earlier one. -/
def firstClash : List (List Nat) → List Nat → Nat → Option Nat
  | [], _, _ => none
  | x :: rest, seen, row => if x.any seen.contains then some row else firstClash rest (x ++ seen) (row + 1)

/-- A table's numbers are unique, across rows and within one. -/
def uniqueRows (part : Section) (item : Nat) (rows : List (List Nat)) : Option Field :=
  match firstClash rows [] 1 with
  | some r => some ⟨part, r, item⟩
  | none => (rows.findIdx? fun x => !decide x.Nodup).map fun r => ⟨part, r + 1, item⟩

/-- Berths whose record fails a test, as a field. -/
def Image.berthFails (i : Image) (item : Nat) (ok : BerthCfg → Bool) : Option Field :=
  (i.berths.findIdx? fun b => !ok b).map fun r => ⟨.berths, r + 1, item⟩

/-- The start claims lie from 10 to their ratings; which one does not. -/
def Image.startClaimFails (i : Image) : Option Field :=
  ([within 10 160 i.start16, within 10 320 i.start32, within 10 630 i.start63].findIdx? fun ok => !ok).map fun n =>
    ⟨.startClaims, 0, n⟩

/-- The first cross check that fails, in the order of R196, check 6, and its offending field: the role where it disagrees with
the counts, the later of two equal numbers, the outlet or tap field of a berth that names one missing or named before, the
power class of a berth whose outlet has another rating, the start claim (the model's choice, log entry 81). Where one check
fails in several ways, which of them comes first is the model's choice too (log entry 90). -/
def Image.crossFails? (i : Image) : Option Field :=
  (if i.roleAgrees then none else some ⟨.station, 0, 1⟩ : Option Field)
  |>.or (uniqueRows .berths 0 (i.berths.map fun b => [b.number]))
  |>.or (uniqueRows .posts 0 (i.posts.map fun p => [p.number]))
  |>.or (uniqueRows .posts 1 (i.posts.map fun p => p.outlets.map OutletCfg.number))
  |>.or (uniqueRows .posts 2 (i.posts.map PostCfg.taps))
  |>.or (uniqueRows .gates 0 (i.gates.map fun g => [g.number]))
  |>.or (uniqueRows .pumps 0 (i.pumps.map fun p => [p.number]))
  |>.or (i.berthFails 5 fun b => b.outlets.all fun n => i.outlets.any fun o => o.number == n)
  |>.or ((firstClash (i.berths.map BerthCfg.outlets) [] 1).map fun r => ⟨.berths, r, 5⟩)
  |>.or (i.berthFails 6 fun b => b.tap.all fun n => i.taps.contains n)
  |>.or ((firstClash (i.berths.map fun b => b.tap.toList) [] 1).map fun r => ⟨.berths, r, 6⟩)
  |>.or (i.berthFails 4 fun b => b.outlets.all fun n => i.outlets.all fun o => o.number != n || o.rating == b.power)
  |>.or i.startClaimFails

/-! ### The whole check (R196) -/

/-- Checks 2 to 6 of R196 on the bytes of an image from its start: its values, or the reason and the offset. Every value is
read from the body: the defaults the chapters give (R66 among them) stand for no value left out (log entry 9). -/
def checkImage (bytes : List Byte) : Except (ConfigReason × Option Nat) Image :=
  let body := imageBody bytes
  if imageFormat bytes != 0x5C21#16 then .error (.format, none)
  else if !within 16 8184 (imageLength bytes) then .error (.length, none)
  else if body.length != imageLength bytes || crc16 body != imageCheck bytes then .error (.check, none)
  else
    let (image, unread) := Config.readBody body
    match image.outOfRange? unread with
    | some f => .error (.range, some (Config.fieldOffset body f))
    | none =>
      match image.crossFails? with
      | some f => .error (.cross, some (Config.fieldOffset body f))
      | none => .ok image

/-- The clamps of R66: C to L, F to C; on FUEL and GATE stations C equal to F (R84). -/
def Image.clamped (i : Image) : Image :=
  let c := min i.ceiling i.feederLimit
  let f := min i.floor c
  { i with floor := f, ceiling := if i.role = .pontoon then c else f }

/-- The field of C and the field of F in the feeder section. -/
def ceilingField : Field := ⟨.feeder, 0, 2⟩
def floorField : Field := ⟨.feeder, 0, 1⟩

end Sys2Proof
end

