-- ==== Sys2Proof/Machine/RecordStore.lean ====
section
/-! DEFINITION. The record store write-through of BST (R20 to R22) and CFL's image writing (R197). -/

namespace Sys2Proof.Machine

/-! ### What a record holds now (section 1.6, R144) -/

/-- The sale a pump's slot holds: the sale on the pump, or its last one (R144). -/
def Pump.slotSale (p : Pump) : Option Sale := p.sale.or p.last

/-- The content of a record as the blocks hold it. -/
def State.contentOf (s : State) : RecordId → Content
  | .station => .station s.bst.nextSerial s.bst.lastEnding
  | .booking n =>
    match s.bySlot? n with
    | some (berth, b) => .booking berth b
    | none => .empty
  | .statement n =>
    match s.bst.statements.find? fun x => x.slot == n with
    | some st => .statement st
    | none => .empty
  | .sale n =>
    if n ≤ 4 then
      match (s.fsc.pumps.find? fun p => p.cfg.number == n).bind Pump.slotSale with
      | some x => .sale x none
      | none => .empty
    else
      match s.fsc.unsettled.find? fun u => u.slot == n with
      | some u => .sale u.sale (some (u.order, u.attempts))
      | none => .empty

/-- The copy a write takes of a record (R21). -/
def State.copyOf (s : State) (id : RecordId) : StoredRecord := ⟨true, id, s.contentOf id⟩

/-! ### One write at a time (R21, R22) -/

/-- Start writing the record at the head of the queue (R21). -/
def startWrite (retry : Bool) (s : State) : State :=
  match s.bst.queue with
  | [] => s
  | id :: rest =>
    s.setBst { s.bst with
      queue := rest, inFlight := some { id := id, copy := s.copyOf id, deadline := s.now + 50, retry := retry } }

/-- A write completes: the store holds the copy; a record changed meanwhile is queued at the tail; a retry that completes
ends STORE_FAULT (R21, R22). -/
def writeDone (w : WriteInFlight) (s : State) : State :=
  let s1 := (s.setStore (storeRecord w.id w.copy s.store)).setBst { s.bst with
    inFlight := none, queue := if w.changed then s.bst.queue ++ [w.id] else s.bst.queue }
  if w.retry then
    report (.storeOk s1.dirty) (s1.setBst { s1.bst with fault := false, retryAt := none })
  else s1

/-- What a slot holds after a write that failed or was cut off: the last completed content or a damaged record (R22), which
of them and how damaged being free values (log entry 10). -/
def afterBrokenWrite (free : Nat) (old : StoredRecord) : StoredRecord :=
  if Config.slotDamaged free then { Config.brokenRecord free with good := false } else old

/-- The slot of a record after a write that failed or was cut off (R22). -/
def breakSlot (id : RecordId) (s : State) : State :=
  let f := takeFree s
  f.2.setStore (storeRecord id (afterBrokenWrite f.1 (storedAt id s.store)) s.store)

/-- A write fails: the record is queued again at the head, and STORE_FAULT is entered, or its timer starts again (R21,
R22). -/
def writeFailed (w : WriteInFlight) (s : State) : State :=
  let s1 := (breakSlot w.id s).setBst { s.bst with
    inFlight := none, queue := w.id :: s.bst.queue, fault := true, retryAt := some (s.now + 10000) }
  if s.bst.fault then s1 else report (.storeFault w.id) s1

/-! ### The image write (R197) -/

/-- Send a reply at the terminal: TPC is REPLYING until its last byte has been sent (R187). -/
def sendReply (r : Reply) (s : State) : State :=
  s.setTpc { s.tpc with state := .replying, reply := some r, received := [], gapAt := none }

/-- An image write completes (R197). -/
def imageDone (s : State) : State :=
  let bytes := s.cfl.staged
  sendReply (answer .writeConfig .ok)
    (report (.configWritten s.cfl.length (imageCheck bytes).toNat)
      ((s.setStore (writeRegion bytes s.store)).setCfl
        { s.cfl with phase := .idle, filling := false, length := 0, staged := [] }))

/-- The image as it stands in the region: its header, and a body of the length the header gives, where that is one an
image may have (section 11.4). -/
def imageBytes (st : Store) : List Byte := regionBytes st 0 (6 + min 8184 (imageLength (regionBytes st 0 6)))

/-- What the bytes of a failed or cut-off image write hold: free values (R197, log entry 10). -/
def brokenBytes (free length : Nat) : List Byte := (List.range length).map (Config.brokenByte free)

/-- Bytes with the first one inverted. -/
def invertFirst : List Byte → List Byte
  | [] => []
  | b :: rest => ~~~b :: rest

/-- The region after an image write that failed or was cut off holds free values over the length written, but never an image
that is accepted: bytes that would make one have their first one inverted, so that the format field fails (R197, log
entry 10). -/
def breakRegion (free length : Nat) (st : Store) : Store :=
  let bytes := brokenBytes free length
  let st1 := writeRegion bytes st
  match checkImage (imageBytes st1) with
  | .ok _ => writeRegion (invertFirst bytes) st
  | .error _ => st1

/-- The image region after an image write that failed or was cut off (R197). -/
def breakImage (s : State) : State :=
  let f := takeFree s
  f.2.setStore (breakRegion f.1 s.cfl.staged.length s.store)

/-- An image write fails (R197). -/
def imageFailed (s : State) : State :=
  sendReply (answer .writeConfig .storeFault)
    (report .configWriteFailed ((breakImage s).setCfl { s.cfl with phase := .idle }))

/-! ### Commands -/

/-- STORE_WRITE_START: unless in STORE_FAULT, writing, or held by an image write (R21, R197). -/
def execStoreWriteStart (s : State) : Host.Outcome State Fault Refusal :=
  .next (if s.bst.fault || s.bst.inFlight.isSome || s.cfl.phase != .idle then s else startWrite false s)

/-- STORE_WRITE_END: the store is ready in time; `equal` says that the read-back equals the copy (R21). -/
def execStoreWriteEnd (equal : Bool) (s : State) : Host.Outcome State Fault Refusal :=
  .next (match s.bst.inFlight with
    | none => s
    | some w => if equal then writeDone w s else writeFailed w s)

/-- STORE_WRITE_TIMEOUT: the store is not ready within 50 ms (R21). -/
def execStoreWriteTimeout (s : State) : Host.Outcome State Fault Refusal :=
  .next (match s.bst.inFlight with
    | none => s
    | some w => writeFailed w (reach w.deadline s))

/-- STORE_RETRY_TIMER: the write of the head record is attempted once; while an image write holds the queue, the timer
starts again (R22, R197). -/
def execStoreRetryTimer (s : State) : Host.Outcome State Fault Refusal :=
  .next (match s.bst.retryAt with
    | none => s
    | some t =>
      let s1 := reach t s
      if s1.bst.inFlight.isSome || s1.cfl.phase != .idle || s1.bst.queue.isEmpty then
        s1.setBst { s1.bst with retryAt := some (s1.now + 10000) }
      else startWrite true (s1.setBst { s1.bst with retryAt := none }))

/-- CONFIG_WRITE_START: the image write begins once no record write is in flight (R197). -/
def execConfigWriteStart (s : State) : Host.Outcome State Fault Refusal :=
  .next (if s.cfl.phase == .waiting && s.bst.inFlight.isNone then s.setCfl { s.cfl with phase := .writing } else s)

/-- CONFIG_WRITE_END: every part read back equal, or a part failed (R197). -/
def execConfigWriteEnd (complete : Bool) (s : State) : Host.Outcome State Fault Refusal :=
  .next (if s.cfl.phase == .writing then (if complete then imageDone s else imageFailed s) else s)

end Sys2Proof.Machine
end

