-- ==== Sys2Proof/Machine/Load.lean ====
section
/-! DEFINITION. A reset and the load that follows it (section 5.4, R23, R45, R110, R119, R140, R158, R192, R196, R198).
POWER_ON_RESET and the end of a RESTART's reply run the reset and steps 1 to 6 of R196; LOAD_END is its end. -/

namespace Sys2Proof

/-- A boat name of 1 to 16 characters, if one is held. -/
def storedNameOk (name : Option BoatName) : Bool :=
  match name with
  | some n => within 1 16 n.length
  | none => true

/-- A hold entry's fields are in their ranges (R31). -/
def Hold.fieldsOk (h : Hold) : Bool :=
  within 1 30 h.id.station && within 1 4 h.id.pump && centsOk h.granted && h.age ≤ 120 &&
    (match h.state, h.settled with
      | .settled, some a => centsOk a
      | .settled, none => false
      | _, none => true
      | _, some _ => false)

/-- The top of a purse total (R25). -/
abbrev topTotal : Nat := 281474976710655

/-- A purse's fields are in their ranges (R25, R31). -/
def Purse.fieldsOk (p : Purse) : Bool :=
  decide (-99999999 ≤ p.balance) && decide (p.balance ≤ 99999999) && p.remainder ≤ 999 && p.holds.length ≤ 4 &&
    decide (p.holds.map Hold.id).Nodup && p.holds.all Hold.fieldsOk && centsOk p.lowMark && centsOk p.creditLimit &&
    p.credits ≤ topTotal && p.power ≤ topTotal && p.water ≤ topTotal && p.fuel ≤ topTotal && p.fees ≤ topTotal

/-- A stored booking's fields are in their ranges, its departure after its arrival, its state RESERVED or CURRENT (R23). -/
def Booking.fieldsOk (b : Booking) : Bool :=
  (b.serial.any fun n => within 1 65535 n) && b.state != .tentative && within 1 30 b.callRef.asker &&
    within 1 9999 b.stay.loa && within 1 9999 b.stay.beam && within 1 9999 b.stay.draught &&
    b.stay.arrival < b.stay.departure && b.stay.departure ≤ 65535 && storedNameOk b.name && within 1 4 b.tags.length &&
    decide b.tags.Nodup && b.purse.fieldsOk && b.energy ≤ top32 && b.water ≤ top32 && b.openDay.energy ≤ top32 &&
    b.openDay.water ≤ top32 && b.closedDay.energy ≤ top32 && b.closedDay.water ≤ top32 &&
    (b.closedNumber.all fun n => n ≤ 65535)

end Sys2Proof

namespace Sys2Proof.Machine

/-! ### BST (R23, R24) -/

/-- A slot's record is sound: its check agrees and its slot number is its place (R23). -/
def soundRecord (id : RecordId) (r : StoredRecord) : Bool := r.good && r.id == id

/-- A record is lost: its slot is left free and queued for writing as empty (R23). -/
def loseRecord (id : RecordId) (berth : Option Nat) (s : State) : State :=
  queueRecord id (report (.recordLost id berth) s)

/-- Load a statement slot (R23). -/
def loadStatement (n : Nat) (s : State) : State :=
  let r := storedAt (.statement n) s.store
  if soundRecord (.statement n) r then
    match r.content with
    | .statement st =>
      s.setBst { s.bst with
        statements := insertBy (fun x y => x.ending ≤ y.ending) { st with slot := n } s.bst.statements }
    | .empty => s
    | _ => loseRecord (.statement n) none s
  else loseRecord (.statement n) none s

/-- The station record's two values, if it is valid (R23). -/
def stationRecord? (r : StoredRecord) : Option (Nat × Nat) :=
  match r.content with
  | .station next last => if soundRecord .station r && within 1 65535 next && last ≤ top32 then some (next, last) else none
  | _ => none

/-- Load the station record; whether it was good (R23). Its last ending number stands even below that of a statement that was
written just before a reset, so the next statement takes that number again (the model's choice, log entry 67). -/
def loadStation (s : State) : State × Bool :=
  match stationRecord? (storedAt .station s.store) with
  | some (next, last) => (s.setBst { s.bst with nextSerial := next, lastEnding := last }, true)
  | none => (report (.recordLost .station none) s, false)

/-- Rebuild the station record's two values from what was loaded, and queue it (R23). -/
def rebuildStation (s : State) : State :=
  let last := (s.bst.statements.map Statement.ending).foldl max 0
  let high := s.serials.foldl max 0
  queueRecord .station (s.setBst { s.bst with lastEnding := last, nextSerial := serialAfter high })

/-- The tags of a stored booking that no booking loaded earlier holds (R23). -/
def State.freeTags (s : State) (tags : List Tag) : List Tag :=
  tags.filter fun t => !s.liveBookings.any fun p => p.2.tags.contains t

/-- A stored booking's interval and serial find room among the loaded ones (R23). -/
def State.roomFor (s : State) (berth : Nat) (b : Booking) : Bool :=
  match s.berth? berth with
  | none => false
  | some x =>
    canInsert x.bookings b.stay.arrival b.stay.departure && !s.serials.contains (b.serial.getD 0)

/-- A loaded statement shows that a stored booking has ended (R23). -/
def State.hasEnded (s : State) (berth : Nat) (b : Booking) : Bool :=
  s.bst.statements.any fun st =>
    st.berth == berth && some st.serial == b.serial && st.arrival == b.stay.arrival

/-- Enter a stored booking in its berth's list (R23). Where no tag of it remains, TAG_CLASH for each tag comes before RECORD_LOST
(the model's choice, log entry 76). -/
def enterBooking (n berth : Nat) (b : Booking) (s : State) : State :=
  let kept := s.freeTags b.tags
  let s1 := (b.tags.filter fun t => !kept.contains t).foldl (fun x t => report (.tagClash t none none) x) s
  if kept.isEmpty then loseRecord (.booking n) (some berth) s1
  else if s1.hasEnded berth b then
    queueRecord (.booking n) (report (.endedRecovered (b.serial.getD 0)) s1)
  else
    onBerth berth (fun x => { x with
      bookings := insertBooking { b with tags := kept, slot := some n, expiry := none } x.bookings }) s1

/-- Load a booking slot (R23). RECORD_LOST names the berth of a BOOKING record whose CRC agrees; one of a sound record of another
kind in the slot, a STATEMENT with its berth or a SALE, names none (the model's choice, log entry 91). -/
def loadBooking (n : Nat) (s : State) : State :=
  let r := storedAt (.booking n) s.store
  match r.content with
  | .empty => if soundRecord (.booking n) r then s else loseRecord (.booking n) none s
  | .booking berth b =>
    if !soundRecord (.booking n) r then loseRecord (.booking n) (if r.good then some berth else none) s
    else if !b.fieldsOk || !s.roomFor berth b then loseRecord (.booking n) (some berth) s
    else enterBooking n berth b s
  | _ => loseRecord (.booking n) none s

/-- The statement list stays empty on FUEL and GATE stations, whatever valid slots they loaded (R24; log entry 22). -/
def keepStatements (s : State) : State :=
  if s.cfg.role = .pontoon then s else s.setBst { s.bst with statements := [] }

/-- BST loads its records (R23, R24). -/
def loadRecords (s : State) : State :=
  let s1 := (List.range 8).foldl (fun x i => loadStatement (i + 1) x) s
  let r := loadStation s1
  let s2 := if s.cfg.role = .pontoon then (List.range 256).foldl (fun x i => loadBooking (i + 1) x) r.1 else r.1
  keepStatements (if r.2 then s2 else rebuildStation s2)

/-! ### PRS (R45) -/

/-- A loaded ACTIVE entry whose age reaches the hold timeout. -/
def overAge (timeout : Nat) (h : Hold) : Bool := h.state == .active && timeout ≤ h.age

/-- PRS deals with one loaded booking: over-age holds expire, the standing is worked out, a difference is stored and its
notice kept for the end of the load (R45). -/
def reloadPurse (berth : Nat) (b : Booking) (s : State) : State :=
  let serial := b.serial.getD 0
  let gone := b.purse.holds.filter (overAge s.cfg.holdTimeout)
  let s1 :=
    if gone.isEmpty then s
    else reportExpired berth gone
      (changeHolds berth serial (updWhere (overAge s.cfg.holdTimeout) fun h => { h with state := .expired }) s)
  match s1.booking? berth serial with
  | none => s1
  | some k =>
    let new := k.purse.standingNow
    if k.purse.standing == new then s1
    else
      let s2 := changeBooking berth serial (Booking.onPurse fun p => { p with standing := new }) s1
      s2.setCfl { s2.cfl with notices := s2.cfl.notices ++ [(berth, serial, k.purse.standing, new)] }

/-- PRS deals with each loaded booking in slot order (R45). -/
def reloadPurses (s : State) : State :=
  (sortBy (fun x y : Nat × Booking => x.2.slot.getD 0 ≤ y.2.slot.getD 0) s.liveBookings).foldl
    (fun x p => reloadPurse p.1 p.2 x) s

/-! ### PBC (R88, R93, R103, R110) -/

/-- The berth that names an outlet. -/
def Image.berthOfOutlet (i : Image) (n : Nat) : Option Nat :=
  (i.berths.find? fun b => b.outlets.contains n).map BerthCfg.number

/-- The berth that names a tap. -/
def Image.berthOfTap (i : Image) (n : Nat) : Option Nat := (i.berths.find? fun b => b.tap == some n).map BerthCfg.number

/-- The posts in ascending number. -/
def postsInOrder (i : Image) : List PostCfg := sortBy (fun x y : PostCfg => x.number ≤ y.number) i.posts

/-- The outlet records of the post map, OFF, in ascending number (R93). -/
def freshOutlets (i : Image) : List Outlet :=
  sortBy (fun x y : Outlet => x.number ≤ y.number) (i.posts.flatMap fun p => p.outlets.zipIdx.map fun c =>
    { number := c.1.number, post := p.number, position := c.2 + 1, rating := c.1.rating,
      berth := Image.berthOfOutlet i c.1.number, startClaim := i.startClaim c.1.rating })

/-- The tap records of the post map, CLOSED, in ascending number (R103). -/
def freshTaps (i : Image) : List Tap :=
  sortBy (fun x y : Tap => x.number ≤ y.number) (i.posts.flatMap fun p => p.taps.zipIdx.map fun c =>
    { number := c.1, post := p.number, position := c.2 + 1, berth := Image.berthOfTap i c.1 })

/-- PBC's state as the image gives it; without posts the first poll round counts as complete (R88, R89, R110): on a
FUEL or GATE station, for which no rule gives it, that is the model's choice (log entry 58). -/
def freshPbc (i : Image) : Pbc where
  posts := (postsInOrder i).map fun p => { cfg := p }
  outlets := freshOutlets i
  taps := freshTaps i
  firstRound := i.posts.isEmpty

/-- Clear the wanted flags of a berth's bookings that are not its holding booking (R110). -/
def clearStrayWanted (b : Berth) (s : State) : State :=
  (b.bookings.filter fun k =>
      k.live && (k.wantedFirst || k.wantedSecond) && !(b.holding?.any fun h => h.serial == k.serial)).foldl
    (fun x k => changeBooking b.cfg.number (k.serial.getD 0)
      (fun y => { y with wantedFirst := false, wantedSecond := false }) x) s

/-- Set an outlet from its wanted flag and its holding booking (R110). -/
def startOutlet (o : Outlet) (s : State) : State :=
  match s.holder? o.berth with
  | none => s
  | some (n, b) =>
    if !b.wantedAt (s.placeIn n o.number) then s
    else if b.purse.standing == .barred then outletSuspended o.number s
    else outletWaits o.number s

/-- Set a tap from its holding booking (R110). -/
def startTap (t : Tap) (s : State) : State :=
  if (s.holder? t.berth).any fun p => p.2.purse.standing == .barred then moveTap t.number .locked none s else s

/-- PBC builds its records, with a restore pass at the end; stray wanted flags are cleared when all outlets are set, berth by
berth in table order and each list in its order (R110; that order is the model's choice, log entry 59). -/
def buildPosts (s : State) : State :=
  let s1 := s.setPbc (freshPbc s.cfg)
  let s2 := s1.pbc.outlets.foldl (fun x o => startOutlet o x) s1
  let s3 := s2.bst.berths.foldl (fun x b => clearStrayWanted b x) s2
  settlePosts (s3.pbc.taps.foldl (fun x t => startTap t x) s3)

/-! ### GTC and FSC (R140, R158) -/

/-- The level of a door sense line. -/
def State.doorLine (s : State) (n : Nat) : Door := if n = 2 then s.door2 else s.door1

/-- GTC sets its gate records; of two gates found open the lower number writes its GATE_AJAR first (R128, R140; that order is
the model's choice, log entry 62). -/
def buildGates (s : State) : State :=
  let gates := (sortBy (fun x y : GateCfg => x.number ≤ y.number) s.cfg.gates).map fun c => startGate c (s.doorLine c.number)
  let s1 := s.setGtc { gates := gates }
  (gates.filter fun g => g.state == .ajar).foldl (fun x g => raiseAjar g x) s1

/-- The sale a sale slot holds, if its record is sound and its pump is in the table (R158). -/
def State.saleAt? (s : State) (slot : Nat) : Option (Sale × Option (Nat × Nat)) :=
  let r := storedAt (.sale slot) s.store
  match r.content with
  | .sale x e =>
    if soundRecord (.sale slot) r && s.fsc.pumps.any fun p => p.cfg.number == x.id.pump then some (x, e) else none
  | _ => none

/-- A sale slot is lost: neither a sound sale nor a sound EMPTY (R158). -/
def State.saleLostAt (s : State) (slot : Nat) : Bool :=
  let r := storedAt (.sale slot) s.store
  (s.saleAt? slot).isNone && !(soundRecord (.sale slot) r && r.content == .empty)

/-- Load a list slot (R152, R158). -/
def loadListSlot (slot : Nat) (s : State) : State :=
  match s.saleAt? slot with
  | some (x, some (order, attempts)) =>
    s.setFsc { s.fsc with
      unsettled := insertBy (fun a b => a.order ≤ b.order) ⟨x, order, attempts, false, slot⟩ s.fsc.unsettled }
  | some (_, none) => loseRecord (.sale slot) none s
  | none => if s.saleLostAt slot then loseRecord (.sale slot) none s else s

/-- The next sale number of a pump after a reset (R144, R158). -/
def Fsc.startNumber (f : Fsc) (pump : Nat) (held : Option Sale) : Num8 :=
  let used := f.numbersListed pump
  let start := match held with
    | some x => x.id.sale + 1
    | none =>
      match used with
      | [] => 0
      | n :: rest => (rest.foldl (fun a b => if a.toNat < b.toNat then b else a) n) + 1
  freeNumber used start 16

/-- A stored sale that awaits its end reading (R158). -/
def Sale.awaitingEnd (x : Sale) : Sale := { x with stage := .settling, endTotal := none, volume := none, amount := none }

/-- Set a pump record from its slot (R158); the display stays IDLE as after each reset (R141). SALE_ABANDONED carries the hold
ID and the fault mark (the model's choice, log entry 63). A sale that stands in the list too is taken up on its pump none the
less (the model's choice, log entry 78). -/
def loadPumpSlot (n : Nat) (s : State) : State :=
  let held := (s.saleAt? n).map Prod.fst
  let s1 := if s.saleLostAt n then loseRecord (.sale n) none s else s
  let s2 := changePump n (fun p => { p with nextSale := s.fsc.startNumber n held }) s1
  match held with
  | none => s2
  | some x =>
    match x.stage with
    | .listed | .closed => changePump n (fun p => { p with last := some x }) s2
    | .authorising =>
      report (.saleAbandoned x.id x.faultMark)
        (queueRecord (.sale n) (changePump n (fun p => { p with last := some (x.closed .abandoned) }) s2))
    | .ready | .delivering | .settling =>
      let y := Sale.awaitingEnd x
      let s3 := changePump n (fun p =>
        { p with state := .settling, sale := some y, recovered := true }) s2
      if y = x then s3 else queueRecord (.sale n) s3

/-- FSC loads its sale slots and sets its pumps, on a FUEL station (R141, R158). Slots 1 to 4 of pumps that are not in the
table are reported lost after those of the table (the model's choice, log entry 64). -/
def buildPumps (s : State) : State :=
  if s.cfg.role = .fuel then
    let pumps := (sortBy (fun x y : PumpCfg => x.number ≤ y.number) s.cfg.pumps).map fun c => ({ cfg := c } : Pump)
    let s1 := s.setFsc { pumps := pumps }
    let s2 := (List.range 16).foldl (fun x i => loadListSlot (i + 5) x) s1
    let s3 := s2.setFsc { s2.fsc with
      lastOrder := (s2.fsc.unsettled.map Unsettled.order).foldl max 0
      retryAt := if s2.fsc.unsettled.isEmpty then none else some 30000 }
    let s4 := (pumps.map fun p => p.cfg.number).foldl (fun x n => loadPumpSlot n x) s3
    ([1, 2, 3, 4].filter fun n => !pumps.any fun p => p.cfg.number == n).foldl
      (fun x n => if x.saleLostAt n then loseRecord (.sale n) none x else x) s4
  else s

/-! ### CFL (R66, R196) -/

/-- A clamp of R66 is reported with the field's offset and the value as read. -/
def reportClamp (clamp : Bool) (offset value : Nat) (s : State) : State :=
  if clamp then report (.configClamped offset value) s else s

/-- LSU's state after a reset (R67, R84, R85). -/
def freshLsu (i : Image) : Lsu where
  demand := if i.role = .pontoon then 0 else i.floor
  declared := i.floor
  computed := i.floor
  applied := i.floor
  held := decide (i.role = .pontoon) && !i.posts.isEmpty

/-- The peer table after a reset (R185). -/
def freshPeers (station : Nat) : List Peer :=
  ((List.range 30).filter fun n => n + 1 != station).map fun n => { number := n + 1 }

/-- CFL hands each block its values (R196, step 1). -/
def handValues (body : List Byte) (read : Image) (s : State) : State :=
  let i := read.clamped
  let c := min read.ceiling read.feederLimit
  let s1 := reportClamp (read.feederLimit < read.ceiling) (Config.fieldOffset body ceilingField) read.ceiling s
  let s2 := reportClamp (c < read.floor) (Config.fieldOffset body floorField) read.floor s1
  let s3 := (s2.setCfg i).setCfl { s2.cfl with load := .accepted }
  let s4 := s3.setBst { s3.bst with
    berths := (sortBy (fun x y : BerthCfg => x.number ≤ y.number) i.berths).map fun b => { cfg := b } }
  let s5 := (s4.setLsu (freshLsu i)).setQlc { s4.qlc with peers := freshPeers i.station }
  s5.setDck { s5.dck with inForce := i.startSet }

/-- Steps 1 to 6 of R196. -/
def loadImage (body : List Byte) (read : Image) (s : State) : State :=
  let s1 := buildPosts (reloadPurses (loadRecords (handValues body read s)))
  buildPumps (buildGates (s1.cfg.pins.foldl (fun x p => pinTag p x) s1))

/-! ### The reset (section 5.4, R192, R198) -/

/-- What a reset leaves of the record store: the slot of a record write in flight, and the bytes of an image write under way,
hold free values (R22, R197, R198, log entry 10). -/
def cutWrites (s : State) : State :=
  let s1 := match s.bst.inFlight with
    | some w => breakSlot w.id s
    | none => s
  if s1.cfl.phase == .writing then breakImage s1 else s1

/-- Every block at its values after a reset, before the load: the store, the sense lines, the waiting commands and the
count of free values taken stay; the journal holds RESTART (R192). -/
def cleared (cause : ResetCause) (s : State) : State :=
  { State.reset with
    pending := s.pending, free := s.free, door1 := s.door1, door2 := s.door2, store := s.store
    evj := { entries := [⟨1, none, .restart cause⟩], next := 2, mark := 1 } }

/-- A reset with the load up to its end; `readsReady` says that the store was ready within 50 ms of every read (R196). -/
def resetWith (cause : ResetCause) (readsReady : Bool) (s : State) : State :=
  let s1 := cleared cause (cutWrites s)
  let bytes := imageBytes s1.store
  if readsReady then
    match checkImage bytes with
    | .ok image => loadImage (imageBody bytes) image s1
    | .error (reason, offset) => s1.setCfl { s1.cfl with load := .fault reason offset }
  else s1.setCfl { s1.cfl with load := .fault .store none }

/-- The end of the load: the standing-change notices take effect, CONFIG_LOADED or CONFIG_REJECTED is written, TPC takes
commands (R45, R195, R196). -/
def endLoad (s : State) : State :=
  let header := regionBytes s.store 0 6
  let s1 := s.setCfl { s.cfl with notices := [], starting := false }
  match s.cfl.load with
  | .accepted =>
    report (.configLoaded (imageLength header) (imageCheck header).toNat)
      (s.cfl.notices.foldl (fun x n => notice n.1 n.2.1 n.2.2.1 n.2.2.2 x) s1)
  | .fault reason offset => report (.configRejected reason offset) s1

/-! ### Commands -/

/-- POWER_ON_RESET (section 5.4, R196). -/
def execPowerOnReset (readsReady : Bool) (s : State) : Host.Outcome State Fault Refusal :=
  .next (resetWith .powerOn readsReady s)

/-- REPLY_SENT: TPC is WAITING again; after the reply OK to RESTART the station resets (R187, R198). -/
def execReplySent (readsReady : Bool) (s : State) : Host.Outcome State Fault Refusal :=
  .next (match s.tpc.state, s.tpc.reply with
    | .replying, some r =>
      if r.code == .known .restart && r.result == .ok then resetWith .command readsReady s
      else s.setTpc { s.tpc with state := .waiting, reply := none }
    | _, _ => s)

/-- LOAD_END (R196). -/
def execLoadEnd (s : State) : Host.Outcome State Fault Refusal :=
  .next (if s.cfl.starting then event endLoad s else s)

end Sys2Proof.Machine
end

