-- ==== Sys2Proof/Machine/Lookups.lean ====
section
/-! DEFINITION. ACU's lookups (chapter 6): R112 to R117, R124, R126, R127. -/

namespace Sys2Proof.Machine

/-- Change ACU's counts. -/
def onCounts (f : CacheCounts → CacheCounts) (s : State) : State := s.setAcu { s.acu with counts := f s.acu.counts }

/-- The reader exists at this station (R112). -/
def State.hasReader (s : State) : Reader → Bool
  | .gate n => (s.gate? n).isSome
  | .pump n => (s.pump? n).isSome

/-- Deliver a result to the owner of one reader (R112). -/
def deliver (tag : Tag) (r : LookupResult) (reader : Reader) (s : State) : State :=
  match reader with
  | .gate n => deliverGate n tag r s
  | .pump n => deliverPump n tag r s

/-- Deliver a result to every waiting reader, counting it once for each (R112, R126), in the order in which they joined the
lookup (R117; the order is the model's choice, log entry 61). -/
def deliverAll (tag : Tag) (r : LookupResult) (readers : List Reader) (s : State) : State :=
  readers.foldl (fun x reader =>
    deliver tag r reader (onCounts (fun c =>
      match r with
      | .unknown => { c with unknowns := bumpTop c.unknowns }
      | .noAnswer => { c with noAnswers := bumpTop c.noAnswers }
      | .found _ .localBooking => { c with locals := bumpTop c.locals }
      | .found _ .pinned => { c with pinnedHits := bumpTop c.pinnedHits }
      | .found _ .cache => { c with cacheHits := bumpTop c.cacheHits }
      | .found _ .query => c) x)) s

/-- The lookup in flight for a tag (R116). -/
def State.lookup? (s : State) (t : Tag) : Option Lookup := s.acu.lookups.find? fun l => l.tag == t

/-- Remove the lookup of a tag. -/
def dropLookup (t : Tag) (s : State) : State :=
  s.setAcu { s.acu with lookups := s.acu.lookups.filter fun l => l.tag != t }

/-- Change the lookup of a tag. -/
def changeLookup (t : Tag) (f : Lookup → Lookup) (s : State) : State :=
  s.setAcu { s.acu with lookups := updWhere (fun l => l.tag == t) f s.acu.lookups }

/-- A miss asks the Quayline (R116). -/
def missLookup (tag : Tag) (reader : Reader) (s : State) : State :=
  let r := ask 0 (.tagQuery tag) (.lookup tag) (onCounts (fun c => { c with misses := bumpTop c.misses }) s)
  if r.2 then
    let s1 := onCounts (fun c => { c with queries := bumpTop c.queries }) r.1
    s1.setAcu { s1.acu with lookups := s1.acu.lookups ++ [{ tag := tag, waiting := [reader] }] }
  else deliverAll tag .noAnswer [reader] r.1

/-- The cache step of a lookup (R115). -/
def cacheStep (tag : Tag) (reader : Reader) (s : State) : State :=
  match s.acu.entry? tag with
  | none => missLookup tag reader s
  | some e =>
    if e.pinned then deliverAll tag (.found e.record .pinned) [reader] (touchEntry e s)
    else if entryValid s.seconds e then deliverAll tag (.found e.record .cache) [reader] (touchEntry e s)
    else missLookup tag reader (dropTags [tag] s)

/-- A presentation of a tag at a reader (R113, R114). -/
def present (reader : Reader) (tag : Tag) (s : State) : State :=
  if s.acu.lookups.any fun l => l.waiting.contains reader then
    onCounts (fun c => { c with ignored := bumpTop c.ignored }) s
  else if (s.lookup? tag).isSome then changeLookup tag (fun l => { l with waiting := l.waiting ++ [reader] }) s
  else
    match s.localCredential? tag with
    | some (record, _) => deliverAll tag (.found record .localBooking) [reader] s
    | none => cacheStep tag reader s

/-- A marked lookup in phase FIRST is taken again: from the local bookings, otherwise by a new Tag Query (R124). Re-queries
rises only when QLC takes the new Tag Query (R126; the model's choice, log entry 35). -/
def requery (l : Lookup) (s : State) : State :=
  match s.localCredential? l.tag with
  | some (record, _) => deliverAll l.tag (.found record .localBooking) l.waiting (dropLookup l.tag s)
  | none =>
    let r := ask 0 (.tagQuery l.tag) (.lookup l.tag) s
    if r.2 then
      changeLookup l.tag (fun x => { x with phase := .requery, marked := false })
        (onCounts (fun c => { c with queries := bumpTop c.queries, requeries := bumpTop c.requeries }) r.1)
    else deliverAll l.tag .noAnswer l.waiting (dropLookup l.tag r.1)

/-- A Tag Answer reaches its lookup (R117, R124). -/
def lookupAnswered (record : Credential) (departure : Nat) (s : State) : State :=
  match s.lookup? record.tag with
  | none => s
  | some l =>
    match l.phase, l.marked with
    | .first, true => requery l s
    | .first, false =>
      deliverAll l.tag (.found record .query) l.waiting (dropLookup l.tag (fillCache record departure s))
    | .requery, _ => deliverAll l.tag (.found record .query) l.waiting (dropLookup l.tag s)

/-- A lookup's query is TIMED_OUT (R117). -/
def lookupTimedOut (t : Tag) (s : State) : State :=
  match s.lookup? t with
  | none => s
  | some l => deliverAll t .unknown l.waiting (dropLookup t s)

/-! ### Terminal operations (R126, R127) -/

/-- TAG_STATUS (R126). -/
def doTagStatus (tag : Tag) (s : State) : State × Reply :=
  let found := if s.cfg.role = .pontoon then
      (s.byTag? tag).map fun p => (p.1, p.2.serial.getD 0, p.2.epoch)
    else none
  let entry := match s.acu.entry? tag with
    | none => []
    | some e =>
      let valid := entryValid s.seconds e
      [Item.cacheWay e (!valid) (if e.pinned || !valid then none else e.validUntil.map fun v => v - s.seconds)]
  let flight := match s.lookup? tag with
    | none => []
    | some l => [Item.lookup l]
  (s, answer .tagStatus .ok ([.localTag found, .cacheSet (cacheSetOf tag)] ++ entry ++ flight))

/-- CACHE_STATUS (R126). -/
def doCacheStatus (s : State) : State × Reply :=
  let valid := (s.acu.cache.filter fun e => !e.pinned && entryValid s.seconds e).length
  let pinned := (s.acu.cache.filter fun e => e.pinned).length
  (s, answer .cacheStatus .ok [.cacheCounts s.acu.counts valid pinned s.acu.lookups.length])

/-- FLUSH_CACHE (R127). -/
def doFlushCache (s : State) : State × Reply :=
  let dropped := (s.acu.cache.filter fun e => !e.pinned).length
  (report (.cacheFlushed dropped) (s.setAcu { s.acu with cache := s.acu.cache.filter fun e => e.pinned }),
    answer .flushCache .ok [.number dropped])

/-! ### Commands -/

/-- PRESENTATION: in CONFIG_FAULT it is counted and its result UNKNOWN (R112, R113); before the load has ended it is not
seen (R140). -/
def execPresentation (reader : Reader) (tag : Tag) (s : State) : Host.Outcome State Fault Refusal :=
  .next (
    let seen := onCounts (fun c => { c with presentations := bumpTop c.presentations }) s
    if s.cfl.starting then s
    else if s.inFault then deliverAll tag .unknown [reader] seen
    else if s.hasReader reader then present reader tag seen
    else s)

/-- A Tag Answer delivered (R117, R124, R180). -/
def onTagAnswer (source : Nat) (sequence : Num8) (record : Credential) (departure : Nat) : State → State :=
  takeAnswer source sequence (.tagAnswer record departure) fun _ => lookupAnswered record departure

/-- TAG_ANSWER (R117). -/
def execTagAnswer (c : Channel) (source : Nat) (sequence : Num8) (record : Credential) (departure : Nat) (s : State) :
    Host.Outcome State Fault Refusal :=
  .next (event (receive c source (onTagAnswer source sequence record departure)) s)

/-- TAG_QUERY (R121). -/
def execTagQuery (c : Channel) (source : Nat) (sequence : Num8) (tag : Tag) (s : State) : Host.Outcome State Fault Refusal :=
  .next (event (receive c source (onTagQuery c source sequence tag)) s)

/-- TAG_REVOKE (R123). -/
def execTagRevoke (c : Channel) (source _owner : Nat) (tags : List Tag) (s : State) : Host.Outcome State Fault Refusal :=
  .next (event (receive c source (onTagRevoke tags)) s)

end Sys2Proof.Machine
end

