-- ==== Sys2Proof/Machine/PostCommands.lean ====
section
/-! DEFINITION. The terminal's commands on outlets, taps and the feeder share: ENERGISE, OFF, RESET_OUTLET, CLEAR_LEAK
(R108), POST_STATUS (R109), LOAD_STATUS (R86). -/

namespace Sys2Proof.Machine

/-! ### Outlet and tap commands (R108) -/

/-- The berth an outlet or tap command names, on a PONTOON station (R108). -/
def State.commandBerth? (s : State) (berth : Nat) : Option Berth :=
  if s.cfg.role = .pontoon then s.berth? berth else none

/-- The outlet at a place of a berth's list, 1 the first and 2 the second (R108). -/
def State.outletAt? (s : State) (b : Berth) (place : Nat) : Option Outlet :=
  if place = 0 then none else (b.cfg.outlets[place - 1]?).bind s.outlet?

/-- Perform an outlet command on the outlet it names, or answer NO_BERTH or NO_OUTLET (R108). -/
def onNamedOutlet (kind : CmdKind) (berth place : Nat) (f : Outlet → State → State × Reply) (s : State) : State × Reply :=
  match s.commandBerth? berth with
  | none => (s, answer kind .noBerth)
  | some b =>
    match s.outletAt? b place with
    | none => (s, answer kind .noOutlet)
    | some o => f o s

/-- The result of a refused request (R108). -/
def refusalResult : ServiceRefusal → Result
  | .noBooking => .noBooking
  | .standing => .standing
  | .leak => .standing

/-- ENERGISE (R95, R108). -/
def doEnergise (berth place : Nat) : State → State × Reply :=
  onNamedOutlet .energise berth place fun o s =>
    match o.state with
    | .off =>
      let r := requestOutlet o s
      match r.2 with
      | none => (r.1, answer .energise .ok [.outletState .waiting])
      | some why => (r.1, answer .energise (refusalResult why))
    | .waiting | .shed | .live => (s, answer .energise .ok [.outletState o.state])
    | .suspended => (s, answer .energise .standing)
    | .tripped => (s, answer .energise .wrongState)

/-- OFF (R96, R108). -/
def doOff (berth place : Nat) : State → State × Reply :=
  onNamedOutlet .off berth place fun o s =>
    match o.state with
    | .waiting | .shed | .live | .suspended => (switchOff o s, answer .off .ok)
    | .off => (s, answer .off .ok)
    | .tripped => (s, answer .off .wrongState)

/-- RESET_OUTLET (R97, R108). -/
def doResetOutlet (berth place : Nat) : State → State × Reply :=
  onNamedOutlet .resetOutlet berth place fun o s =>
    match o.state with
    | .tripped =>
      if o.faultSeen then (s, answer .resetOutlet .faultPresent) else (outletOff o.number s, answer .resetOutlet .ok)
    | .off | .waiting | .live | .shed | .suspended => (s, answer .resetOutlet .wrongState)

/-- CLEAR_LEAK (R104, R108). -/
def doClearLeak (berth : Nat) (s : State) : State × Reply :=
  match s.commandBerth? berth with
  | none => (s, answer .clearLeak .noBerth)
  | some b =>
    match b.cfg.tap.bind s.tap? with
    | none => (s, answer .clearLeak .noTap)
    | some t =>
      let s1 := changeTap t.number (fun x => { x with leakMark := false, leakCount := 0 }) s
      (if t.leakMark then report (.leakCleared t.number) s1 else s1, answer .clearLeak .ok)

/-! ### POST_STATUS and LOAD_STATUS (R86, R109) -/

/-- An outlet's line (R109). -/
def State.outletLine (s : State) (o : Outlet) : OutletLine where
  outlet := o.number
  berth := o.berth
  state := o.state
  smoothed := o.smoothed
  claim := s.pbc.claim o
  energise := o.energise
  key := if o.queued then some o.key else none
  restLeft := o.restAt.map s.secondsLeft
  overCurrent := o.overCurrent
  baseline := o.energyBase

/-- A tap's line; minutes left are rounded up (R109, log entry 12). -/
def State.tapLine (s : State) (t : Tap) : TapLine where
  tap := t.number
  berth := t.berth
  state := t.state
  runLeft := t.runAt.map fun d => (s.left d + 59999) / 60000
  leakCount := t.leakCount
  leakMark := t.leakMark
  baseline := t.volumeBase

/-- The lines of POST_STATUS; on a FUEL or GATE station the first poll round condition stands at the head too (R109; that it
does, and its value there, are the model's choices, log entry 58). The head is three items and the restore queue one (the
model's choice, log entry 85). -/
def State.postItems (s : State) : List Item :=
  let head := [Item.firstRound s.pbc.firstRound, .loadNow s.pbc.committed s.lsu.applied,
    .unassigned s.pbc.unassignedEnergy s.pbc.unassignedWater]
  if s.cfg.role = .pontoon then
    head ++ s.pbc.posts.map (fun p =>
        .post p.cfg.number p.state p.misses p.restart (p.lastGood.map fun t => s.seconds - t)) ++
      s.pbc.outlets.map (fun o => .outlet (s.outletLine o)) ++ s.pbc.taps.map (fun t => .tap (s.tapLine t)) ++
      [.restoreQueue (s.restoreQueue.map Outlet.number)]
  else head

/-- POST_STATUS (R109). -/
def doPostStatus (resume limit : Nat) (s : State) : State × Reply :=
  (s, packReply .postStatus limit false (fromResume resume (numberItems s.postItems)))

/-- The fixed part of LOAD_STATUS (R86). -/
def State.loadFixed (s : State) : LoadFixed where
  limit := s.cfg.feederLimit
  floor := s.cfg.floor
  ceiling := s.cfg.ceiling
  expected := s.cfg.expected
  defaultCeiling := s.cfg.defaultCeiling
  hysteresis := s.cfg.hysteresis
  demand := s.lsu.demand
  declared := s.lsu.declared
  computed := s.lsu.computed
  applied := s.lsu.applied
  committed := if s.cfg.role = .pontoon then some s.pbc.committed else none
  raiseLeft := s.lsu.raiseAt.map s.left
  floorsOver := s.lsu.floorsOver
  held := s.lsu.held

/-- LOAD_STATUS: the fixed part, then the participant lines; a resume point names a participant (R86). -/
def doLoadStatus (resume limit : Nat) (s : State) : State × Reply :=
  let lines := s.lsu.participants.map fun p => (p.number, Item.participant p)
  (s, packReply .loadStatus limit false (fromResume resume ((0, .load s.loadFixed) :: lines)))

end Sys2Proof.Machine
end

