-- ==== Sys2Proof/Machine/Status.lean ====
section
/-! DEFINITION. What the office reads of the station and its link, and the journal's commands: STATUS (R191), LINK_STATUS
(R186), SET_REPLY_LIMIT (R188), JOURNAL_READ and JOURNAL_ACK (R194). -/

namespace Sys2Proof.Machine

/-- The number of gate notices present (R191). -/
def State.noticeCount (s : State) : Nat :=
  (s.gtc.gates.map fun g => (if g.escort.isSome then 1 else 0) + (if g.ajar.isSome then 1 else 0)).sum

/-- STATUS (R191). -/
def doStatus (s : State) : State × Reply :=
  let known := !s.inFault
  let load := match s.cfl.load with
    | .accepted => Item.accepted
    | .fault r o => Item.rejected r o
  (s, answer .status .ok [
    .identity (if known then some s.cfg.station else none) (if known then some s.cfg.role else none), load,
    .clock s.dck.clock, .store s.bst.fault s.dirty,
    .journal s.evj.entries.length s.evj.unread s.evj.mark s.evj.next s.evj.overflow s.evj.attention,
    .number s.noticeCount, .port s.tpc.limit s.tpc.dropped s.tpc.discarded,
    .staging s.cfl.filling s.cfl.staged.length])

/-- A channel's part of LINK_STATUS (R186). The time since its last received frame is absent while none has been received since
the reset (the model's choice, log entry 73). -/
def State.channelLine (s : State) (c : Channel) : ChannelLine :=
  let l := s.qlc.line c
  ⟨l.state, l.faults, l.silent, l.lastFrame.map fun t => s.now - t⟩

/-- The transmit queue entries of a priority. -/
def Qlc.atPriority (q : Qlc) (n : Nat) : Nat := (q.queue.filter fun e => e.frame.body.priority == n).length

/-- The fixed part of LINK_STATUS (R186). -/
def State.linkFixed (s : State) : LinkFixed where
  lineA := s.channelLine .a
  lineB := s.channelLine .b
  response := s.cfg.responseTimeout
  staleness := s.cfg.stalenessTime
  errors := s.qlc.errors
  queued := [1, 2, 3, 4, 5, 6].map s.qlc.atPriority

/-- The items of LINK_STATUS: the fixed part as one item, then the lines (R186), the pending entries in the order they were made
(the model's choice, log entry 72). -/
def State.linkItems (s : State) : List Item :=
  .link s.linkFixed :: s.qlc.requests.map (fun p =>
    .pendingLine ⟨p.kind, p.destination, p.sequence, p.attempt, p.channel, p.deadline.map s.left, p.originator⟩) ++
  s.qlc.peers.map fun p => .peer p (p.staleAt.map s.left)

/-- LINK_STATUS (R186). -/
def doLinkStatus (resume limit : Nat) (s : State) : State × Reply :=
  (s, packReply .linkStatus limit false (fromResume resume (numberItems s.linkItems)))

/-- SET_REPLY_LIMIT (R188). -/
def doSetReplyLimit (limit : Nat) (s : State) : State × Reply :=
  if limit < 16 || 240 < limit then (s, answer .setReplyLimit .badValue)
  else (s.setTpc { s.tpc with limit := limit }, answer .setReplyLimit .ok)

/-- JOURNAL_READ (R194): a start of 0 is the read mark; a start below the oldest entry held sets GAP. -/
def doJournalRead (start limit : Nat) (s : State) : State × Reply :=
  let first := if start = 0 then s.evj.mark else start
  if s.evj.next < first then (s, answer .journalRead .badValue)
  else
    let gap := match s.evj.entries.head? with
      | some e => decide (first < e.sequence)
      | none => false
    let entries := s.evj.entries.filter fun e => first ≤ e.sequence
    (s, packReply .journalRead limit gap (entries.map fun e => (e.sequence, .entry e)))

/-- JOURNAL_ACK (R194). -/
def doJournalAck (sequence : Nat) (s : State) : State × Reply :=
  if s.evj.next ≤ sequence then (s, answer .journalAck .badValue)
  else
    let s1 := if sequence < s.evj.mark then s else lookAgain (s.setEvj { s.evj with mark := sequence + 1 })
    (s1, answer .journalAck .ok [.number s1.evj.unread])

end Sys2Proof.Machine
end

