-- ==== Sys2Proof/Machine/Terminal.lean ====
section
/-! DEFINITION. TPC (sections 11.1 and 11.2): the terminal frame, forwarding, Office Requests, WRITE_CONFIG, and the rows of
the terminal commands. A terminal command's row stands for the arrival of the last byte of its frame (log entry 13). -/

namespace Sys2Proof.Machine

/-! ### WRITE_CONFIG (R197) -/

/-- BEGIN (R197). -/
def doConfigBegin (length : Nat) (s : State) : State × Reply :=
  if length < 22 || 8190 < length then (s, answer .writeConfig .badValue)
  else (s.setCfl { s.cfl with filling := true, length := length, staged := [] }, answer .writeConfig .ok)

/-- DATA (R197). -/
def doConfigData (offset : Nat) (bytes : List Byte) (s : State) : State × Reply :=
  let filled := s.cfl.staged.length
  if bytes.isEmpty || 200 < bytes.length then (s, answer .writeConfig .badLength)
  else if !s.cfl.filling then (s, answer .writeConfig .wrongState)
  else if offset != filled then (s, answer .writeConfig .badOffset [.number filled])
  else if s.cfl.length < filled + bytes.length then (s, answer .writeConfig .badLength)
  else
    (s.setCfl { s.cfl with staged := s.cfl.staged ++ bytes }, answer .writeConfig .ok [.number (filled + bytes.length)])

/-- What COMMIT answers at once; none when the image write is to follow (R197). -/
def commitRefusal (s : State) : Option Reply :=
  if !s.cfl.filling || s.cfl.staged.length < s.cfl.length then some (answer .writeConfig .incomplete)
  else
    match checkImage s.cfl.staged with
    | .error (reason, offset) => some (answer .writeConfig .badConfig [.reason reason offset])
    | .ok _ => none

/-! ### A command performed at this station -/

/-- What a command does at this station by its own rule, and the reply that rule gives; a listing fills its reply within the
limit (section 11.2). A COMMIT that checks out is answered when its image write ends (R197); the reply given for it here is the
one of that end. -/
def effect (limit : Nat) (c : TermCmd) : State → State × Reply :=
  match c with
  | .checkOut _ berth serial => doCheckOut berth serial
  | .cancel _ berth serial => doCancel berth serial
  | .extend _ berth serial departure => doExtend berth serial departure
  | .setTags _ berth serial tags => doSetTags berth serial tags
  | .readBooking _ berth serial resume => doReadBooking berth serial resume limit
  | .readStatements selector resume => doReadStatements selector resume limit
  | .credit _ berth serial amount => doCredit berth serial amount
  | .bar _ berth serial => doBarMark .bar true berth serial
  | .unbar _ berth serial => doBarMark .unbar false berth serial
  | .setMarks _ berth serial low credit => doSetMarks berth serial low credit
  | .dropHold _ berth serial id => doDropHold berth serial id
  | .allocate form => doAllocate form
  | .callStatus call resume => doCallStatus call resume limit
  | .loadStatus resume => doLoadStatus resume limit
  | .energise _ berth place => doEnergise berth place
  | .off _ berth place => doOff berth place
  | .resetOutlet _ berth place => doResetOutlet berth place
  | .clearLeak _ berth => doClearLeak berth
  | .postStatus resume => doPostStatus resume limit
  | .tagStatus tag => doTagStatus tag
  | .cacheStatus => doCacheStatus
  | .flushCache => doFlushCache
  | .setGateMode _ gate mode => doSetGateMode gate mode
  | .gateStatus _ resume => doGateStatus resume limit
  | .gateAck _ gate kind => doGateAck gate kind
  | .directAuthorise _ pump amount => doDirectAuthorise pump amount
  | .cancelSale _ pump => doCancelSale pump
  | .writeOffSale _ pump sale => doWriteOffSale pump sale
  | .saleStatus _ resume => doSaleStatus resume limit
  | .setTime day second => doSetTime day second
  | .dayStatus => doDayStatus
  | .selectTariff _ number => doSelectTariff number
  | .linkStatus resume => doLinkStatus resume limit
  | .status _ => doStatus
  | .setReplyLimit n => doSetReplyLimit n
  | .journalRead start => doJournalRead start limit
  | .journalAck sequence => doJournalAck sequence
  | .writeConfigBegin length => doConfigBegin length
  | .writeConfigData offset bytes => doConfigData offset bytes
  | .writeConfigCommit => fun s => (s, (commitRefusal s).getD (answer .writeConfig .ok))
  | .restart => fun s => (s, answer .restart .ok)

/-- A command performed at this station, its reply held to the limit: the reply size limit, or the forwarding limit of an Office
Request in its place (R188, R190). -/
def perform (limit : Nat) (c : TermCmd) (s : State) : State × Reply :=
  let r := effect limit c s
  (r.1, r.2.within limit)

/-! ### Taking a command (R187, R189) -/

/-- A command's frame is taken: TPC is WORKING. -/
def working (target : TpcState) (s : State) : State :=
  s.setTpc { s.tpc with state := target, received := [], gapAt := none, reply := none }

/-- Perform a command here and send its reply. -/
def performHere (c : TermCmd) (s : State) : State :=
  let r := perform s.tpc.limit c s
  sendReply r.2 r.1

/-- Forward a command, whose payload has a length, to another station as an Office Request (R189). -/
def forward (length station : Nat) (c : TermCmd) (s : State) : State :=
  if 46 < length then sendReply (answer c.kind .tooLong) s
  else
    let r := ask station (.officeRequest (.known c) (min s.tpc.limit 40)) .terminal s
    if r.2 then working (.forwarding c.kind station) r.1 else sendReply (answer c.kind .linkBusy) r.1

/-- The own rule of a command with the length of its payload, performed here or forwarded (R189, R191, R197). -/
def ownRule (length : Nat) (c : TermCmd) (s : State) : State :=
  match c with
  | .writeConfigCommit =>
    if (commitRefusal s).isSome then performHere c s else working .committing (s.setCfl { s.cfl with phase := .waiting })
  | _ =>
    match c.names with
    | none => performHere c s
    | some st =>
      if s.inFault then performHere c s
      else if st = 0 || 30 < st then sendReply (answer c.kind .badValue) s
      else if st = s.cfg.station then performHere c s
      else forward length st c s

/-- The commands a station in CONFIG_FAULT takes (R187, R197). -/
def CmdKind.inFault : CmdKind → Bool
  | .status | .writeConfig | .restart => true
  | _ => false

/-- A command whose frame is good is taken (R187). In CONFIG_FAULT TPC answers a berth operation CONFIG_FAULT, the first case of
R187 that matches, before the operation's own rule; the NO_BERTH of R24 is what BST answers an operation that is performed
(the model's reading of the two, log entry 56; `perform_noBerth`, `takeCommand_configFault`). -/
def takeCommand (length : Nat) (c : TermCmd) (s : State) : State :=
  if s.cfl.starting then sendReply (answer c.kind .starting) s
  else if s.inFault && !CmdKind.inFault c.kind then sendReply (answer c.kind .configFault) s
  else ownRule length c s

/-- TPC can take a frame (R187). -/
def Tpc.listens (t : Tpc) : Bool := t.state == .waiting || t.state == .receiving

/-- Count discarded bytes (R187). -/
def discard (n : Nat) (s : State) : State :=
  s.setTpc { s.tpc with discarded := satAdd top16 s.tpc.discarded n }

/-- A command's whole frame: taken, or all its bytes discarded while TPC is WORKING or REPLYING (R187). -/
def terminalCommand (c : TermCmd) : State → State :=
  event fun s => if s.tpc.listens then takeCommand (Config.payloadBytes c) c s else discard (Config.payloadBytes c + 5) s

/-! ### Bytes at the terminal (R187) -/

/-- A frame is dropped (R187). -/
def dropFrame (s : State) : State :=
  s.setTpc { s.tpc with state := .waiting, received := [], gapAt := none, dropped := satAdd top16 s.tpc.dropped 1 }

/-- A complete frame is taken, by the first case of R187 that matches. -/
def takeFrame (received : List Byte) (s : State) : State :=
  let code := codeOf (frameCode received)
  let refuse := fun r : Result => sendReply { code := code, result := r } s
  if s.cfl.starting then refuse .starting
  else if !frameGood received then refuse .badFrame
  else
    match code with
    | .other _ => refuse .unknownCommand
    | .known k =>
      if s.inFault && !CmdKind.inFault k then refuse .configFault
      else
        let payload := framePayload received
        match Config.readCommand k payload with
        | none => refuse .badLength
        | some c => if c.kind = k then takeCommand payload.length c s else refuse .badLength

/-- A byte of a frame arrives (R187). -/
def frameByte (b : Byte) (s : State) : State :=
  let received := s.tpc.received ++ [b]
  let s1 := s.setTpc { s.tpc with received := received, gapAt := some (s.now + 50) }
  if s.tpc.received.isEmpty && (b = 0 || 233 < b.toNat) then dropFrame s1
  else if frameComplete received then takeFrame received s1
  else s1

/-- A byte arrives at the terminal port (R187). -/
def takeByte (b : Byte) (s : State) : State :=
  match s.tpc.state with
  | .waiting =>
    if b = startByte then s.setTpc { s.tpc with state := .receiving, received := [], gapAt := some (s.now + 50) } else s
  | .receiving => frameByte b s
  | .forwarding _ _ | .committing | .replying => discard 1 s

/-! ### Office Requests and Office Answers (R189, R190) -/

/-- The entry of the repeat table that a request repeats (R190). -/
def Tpc.repeated? (t : Tpc) (source : Nat) (sequence : Num8) (command : OfficeCommand) : Option Repeat :=
  t.repeats.find? fun r => r.station == source && r.sequence == sequence && r.command == command

/-- The commands marked as forwarded in the table of section 11.2 (`names_isSome`: those that name a station). -/
def CmdKind.forwarded : CmdKind → Bool
  | .checkOut | .cancel | .extend | .setTags | .readBooking | .credit | .bar | .unbar | .setMarks | .dropHold
  | .energise | .off | .resetOutlet | .clearLeak | .setGateMode | .gateStatus | .gateAck | .directAuthorise | .cancelSale
  | .writeOffSale | .saleStatus | .selectTariff | .status => true
  | .readStatements | .allocate | .callStatus | .loadStatus | .postStatus | .tagStatus | .cacheStatus | .flushCache
  | .setTime | .dayStatus | .linkStatus | .setReplyLimit | .journalRead | .journalAck | .writeConfig | .restart => false

/-- The command of an Office Request that is marked as forwarded (R190). -/
def OfficeCommand.forwarded? : OfficeCommand → Option TermCmd
  | .known c => if c.names.isSome then some c else none
  | .misfit _ _ | .other _ => none

/-- What an Office Request is answered of which nothing is performed: UNKNOWN_COMMAND where its command is not marked as forwarded
(R190); BAD_LENGTH where it is and its payload has a length the command does not allow, as a terminal would be answered (R187; the
model's choice, log entry 96). -/
def OfficeCommand.refusal : OfficeCommand → Result
  | .misfit k _ => if CmdKind.forwarded k then .badLength else .unknownCommand
  | .known _ | .other _ => .unknownCommand

/-- An Office Request delivered: a repeat is answered again, a command that is not forwarded is UNKNOWN_COMMAND, any other
is performed and kept (R190). A request refused by `OfficeCommand.refusal` leaves the repeat table as it is (the model's reading and
choice, log entries 17 and 96). -/
def onOfficeRequest (c : Channel) (source : Nat) (sequence : Num8) (command : OfficeCommand) (limit : Nat) (s : State) :
    State :=
  match s.tpc.repeated? source sequence command with
  | some r => sendAnswer c source sequence (.officeAnswer r.answer) s
  | none =>
    match OfficeCommand.forwarded? command with
    | none => sendAnswer c source sequence (.officeAnswer { code := command.code, result := OfficeCommand.refusal command }) s
    | some t =>
      let r := perform limit t s
      let kept := r.1.tpc.repeats.filter fun x => x.station != source
      sendAnswer c source sequence (.officeAnswer r.2)
        (r.1.setTpc { r.1.tpc with repeats := kept ++ [⟨source, sequence, command, r.2⟩] })

/-- An Office Answer delivered: relayed to the terminal that waits for it (R180, R189). -/
def onOfficeAnswer (source : Nat) (sequence : Num8) (reply : Reply) : State → State :=
  takeAnswer source sequence (.officeAnswer reply) fun _ => sendReply reply

/-- An Office Request is TIMED_OUT (R189). -/
def officeTimedOut (s : State) : State :=
  match s.tpc.state with
  | .forwarding kind station => sendReply (answer kind .noAnswer) (report (.officeUncertain station kind) s)
  | _ => s

/-! ### Commands -/

/-- TERMINAL_BYTE (R187). -/
def execTerminalByte (byte : Byte) (s : State) : Host.Outcome State Fault Refusal := .next (event (takeByte byte) s)

/-- FRAME_GAP_TIMEOUT: more than 50 ms between two bytes of a frame (R187). -/
def execFrameGapTimeout (s : State) : Host.Outcome State Fault Refusal :=
  .next (match s.tpc.state, s.tpc.gapAt with
    | .receiving, some t => dropFrame (reach t s)
    | _, _ => s)

/-- OFFICE_REQUEST (R190). -/
def execOfficeRequest (c : Channel) (source : Nat) (sequence : Num8) (command : OfficeCommand) (limit : Nat) (s : State) :
    Host.Outcome State Fault Refusal :=
  .next (event (receive c source (onOfficeRequest c source sequence command limit)) s)

/-- OFFICE_ANSWER (R189). -/
def execOfficeAnswer (c : Channel) (source : Nat) (sequence : Num8) (reply : Reply) (s : State) :
    Host.Outcome State Fault Refusal :=
  .next (event (receive c source (onOfficeAnswer source sequence reply)) s)

/-- CHECK_OUT at the terminal (R14). -/
def execCheckOut (station berth serial : Nat) (s : State) : Host.Outcome State Fault Refusal :=
  .next (terminalCommand (.checkOut station berth serial) s)

/-- CANCEL at the terminal (R15). -/
def execCancel (station berth serial : Nat) (s : State) : Host.Outcome State Fault Refusal :=
  .next (terminalCommand (.cancel station berth serial) s)

/-- EXTEND at the terminal (R16). -/
def execExtend (station berth serial departure : Nat) (s : State) : Host.Outcome State Fault Refusal :=
  .next (terminalCommand (.extend station berth serial departure) s)

/-- SET_TAGS at the terminal (R17). -/
def execSetTags (station berth serial : Nat) (tags : List Tag) (s : State) : Host.Outcome State Fault Refusal :=
  .next (terminalCommand (.setTags station berth serial tags) s)

/-- READ_BOOKING at the terminal (R18). -/
def execReadBooking (station berth serial resume : Nat) (s : State) : Host.Outcome State Fault Refusal :=
  .next (terminalCommand (.readBooking station berth serial resume) s)

/-- READ_STATEMENTS at the terminal (R12). -/
def execReadStatements (selector : StatementSelector) (resume : Nat) (s : State) : Host.Outcome State Fault Refusal :=
  .next (terminalCommand (.readStatements selector resume) s)

/-- CREDIT at the terminal (R40). -/
def execCredit (station berth serial amount : Nat) (s : State) : Host.Outcome State Fault Refusal :=
  .next (terminalCommand (.credit station berth serial amount) s)

/-- BAR at the terminal (R41). -/
def execBar (station berth serial : Nat) (s : State) : Host.Outcome State Fault Refusal :=
  .next (terminalCommand (.bar station berth serial) s)

/-- UNBAR at the terminal (R41). -/
def execUnbar (station berth serial : Nat) (s : State) : Host.Outcome State Fault Refusal :=
  .next (terminalCommand (.unbar station berth serial) s)

/-- SET_MARKS at the terminal (R42). -/
def execSetMarks (station berth serial lowMark creditLimit : Nat) (s : State) : Host.Outcome State Fault Refusal :=
  .next (terminalCommand (.setMarks station berth serial lowMark creditLimit) s)

/-- DROP_HOLD at the terminal (R43). -/
def execDropHold (station berth serial : Nat) (id : HoldId) (s : State) : Host.Outcome State Fault Refusal :=
  .next (terminalCommand (.dropHold station berth serial id) s)

/-- ALLOCATE at the terminal (R46). -/
def execAllocate (form : AllocateForm) (s : State) : Host.Outcome State Fault Refusal :=
  .next (terminalCommand (.allocate form) s)

/-- CALL_STATUS at the terminal (R61). -/
def execCallStatus (call : Option Num8) (resume : Nat) (s : State) : Host.Outcome State Fault Refusal :=
  .next (terminalCommand (.callStatus call resume) s)

/-- LOAD_STATUS at the terminal (R86). -/
def execLoadStatus (resume : Nat) (s : State) : Host.Outcome State Fault Refusal :=
  .next (terminalCommand (.loadStatus resume) s)

/-- ENERGISE at the terminal (R108). -/
def execEnergise (station berth place : Nat) (s : State) : Host.Outcome State Fault Refusal :=
  .next (terminalCommand (.energise station berth place) s)

/-- OFF at the terminal (R108). -/
def execOff (station berth place : Nat) (s : State) : Host.Outcome State Fault Refusal :=
  .next (terminalCommand (.off station berth place) s)

/-- RESET_OUTLET at the terminal (R108). -/
def execResetOutlet (station berth place : Nat) (s : State) : Host.Outcome State Fault Refusal :=
  .next (terminalCommand (.resetOutlet station berth place) s)

/-- CLEAR_LEAK at the terminal (R108). -/
def execClearLeak (station berth : Nat) (s : State) : Host.Outcome State Fault Refusal :=
  .next (terminalCommand (.clearLeak station berth) s)

/-- POST_STATUS at the terminal (R109). -/
def execPostStatus (resume : Nat) (s : State) : Host.Outcome State Fault Refusal :=
  .next (terminalCommand (.postStatus resume) s)

/-- TAG_STATUS at the terminal (R126). -/
def execTagStatus (tag : Tag) (s : State) : Host.Outcome State Fault Refusal :=
  .next (terminalCommand (.tagStatus tag) s)

/-- CACHE_STATUS at the terminal (R126). -/
def execCacheStatus (s : State) : Host.Outcome State Fault Refusal :=
  .next (terminalCommand .cacheStatus s)

/-- FLUSH_CACHE at the terminal (R127). -/
def execFlushCache (s : State) : Host.Outcome State Fault Refusal :=
  .next (terminalCommand .flushCache s)

/-- SET_GATE_MODE at the terminal (R138). -/
def execSetGateMode (station gate : Nat) (mode : Option GateMode) (s : State) : Host.Outcome State Fault Refusal :=
  .next (terminalCommand (.setGateMode station gate mode) s)

/-- GATE_STATUS at the terminal (R139). -/
def execGateStatus (station resume : Nat) (s : State) : Host.Outcome State Fault Refusal :=
  .next (terminalCommand (.gateStatus station resume) s)

/-- GATE_ACK at the terminal (R139). -/
def execGateAck (station gate : Nat) (kind : NoticeKind) (s : State) : Host.Outcome State Fault Refusal :=
  .next (terminalCommand (.gateAck station gate kind) s)

/-- DIRECT_AUTHORISE at the terminal (R155). -/
def execDirectAuthorise (station pump amount : Nat) (s : State) : Host.Outcome State Fault Refusal :=
  .next (terminalCommand (.directAuthorise station pump amount) s)

/-- CANCEL_SALE at the terminal (R156). -/
def execCancelSale (station pump : Nat) (s : State) : Host.Outcome State Fault Refusal :=
  .next (terminalCommand (.cancelSale station pump) s)

/-- WRITE_OFF_SALE at the terminal (R153). -/
def execWriteOffSale (station pump : Nat) (sale : Num8) (s : State) : Host.Outcome State Fault Refusal :=
  .next (terminalCommand (.writeOffSale station pump sale) s)

/-- SALE_STATUS at the terminal (R156). -/
def execSaleStatus (station resume : Nat) (s : State) : Host.Outcome State Fault Refusal :=
  .next (terminalCommand (.saleStatus station resume) s)

/-- SET_TIME at the terminal (R160). -/
def execSetTime (day second : Nat) (s : State) : Host.Outcome State Fault Refusal :=
  .next (terminalCommand (.setTime day second) s)

/-- DAY_STATUS at the terminal (R169). -/
def execDayStatus (s : State) : Host.Outcome State Fault Refusal :=
  .next (terminalCommand .dayStatus s)

/-- SELECT_TARIFF at the terminal (R163). -/
def execSelectTariff (station number : Nat) (s : State) : Host.Outcome State Fault Refusal :=
  .next (terminalCommand (.selectTariff station number) s)

/-- LINK_STATUS at the terminal (R186). -/
def execLinkStatus (resume : Nat) (s : State) : Host.Outcome State Fault Refusal :=
  .next (terminalCommand (.linkStatus resume) s)

/-- STATUS at the terminal (R191). -/
def execStatus (station : Nat) (s : State) : Host.Outcome State Fault Refusal :=
  .next (terminalCommand (.status station) s)

/-- SET_REPLY_LIMIT at the terminal (R188). -/
def execSetReplyLimit (limit : Nat) (s : State) : Host.Outcome State Fault Refusal :=
  .next (terminalCommand (.setReplyLimit limit) s)

/-- JOURNAL_READ at the terminal (R194). -/
def execJournalRead (start : Nat) (s : State) : Host.Outcome State Fault Refusal :=
  .next (terminalCommand (.journalRead start) s)

/-- JOURNAL_ACK at the terminal (R194). -/
def execJournalAck (sequence : Nat) (s : State) : Host.Outcome State Fault Refusal :=
  .next (terminalCommand (.journalAck sequence) s)

/-- WRITE_CONFIG_BEGIN at the terminal (R197). -/
def execWriteConfigBegin (length : Nat) (s : State) : Host.Outcome State Fault Refusal :=
  .next (terminalCommand (.writeConfigBegin length) s)

/-- WRITE_CONFIG_DATA at the terminal (R197). -/
def execWriteConfigData (offset : Nat) (bytes : List Byte) (s : State) : Host.Outcome State Fault Refusal :=
  .next (terminalCommand (.writeConfigData offset bytes) s)

/-- WRITE_CONFIG_COMMIT at the terminal (R197). -/
def execWriteConfigCommit (s : State) : Host.Outcome State Fault Refusal :=
  .next (terminalCommand .writeConfigCommit s)

/-- RESTART at the terminal (R198). -/
def execRestart (s : State) : Host.Outcome State Fault Refusal :=
  .next (terminalCommand .restart s)

end Sys2Proof.Machine
end

