-- ==== Sys2Proof/Machine/Link.lean ====
section
/-! DEFINITION. The commands of QLC that reach every block (chapter 10): the end of a request's deadline, the Announce and
the peer table, frames as bytes. -/

namespace Sys2Proof.Machine

/-! ### TIMED_OUT to the originator (R179) -/

/-- Hand TIMED_OUT to the originator of a request (R58, R117, R146, R151, R153, R179, R189). -/
def handTimedOut (p : Pending) : State → State :=
  match p.originator with
  | .call n => takeTimedOut n
  | .lookup t => lookupTimedOut t
  | .pumpSale id => pumpTimedOut id
  | .unsettled id => listTimedOut id
  | .terminal => officeTimedOut

/-- RESPONSE_TIMEOUT: the deadline of a request comes (R179). -/
def execResponseTimeout (sequence : Num8) (s : State) : Host.Outcome State Fault Refusal :=
  .next (event (whenUp fun s =>
    match s.request? sequence with
    | none => s
    | some p =>
      match p.deadline with
      | none => s
      | some t => deadlineCome p handTimedOut (reach t s)) s)

/-! ### The Announce and the peer table (R83, R183, R185) -/

/-- The peer entry of a station. -/
def State.peer? (s : State) (n : Nat) : Option Peer := s.qlc.peers.find? fun p => p.number == n

/-- Change a peer entry. -/
def changePeer (n : Nat) (f : Peer → Peer) (s : State) : State :=
  s.setQlc { s.qlc with peers := updWhere (fun p => p.number == n) f s.qlc.peers }

/-- An Announce delivered: the entry takes its values, its timer starts again, the journal entries, one computation
(R185). -/
def onAnnounce (c : Channel) (source : Nat) (body : AnnounceBody) (s : State) : State :=
  match s.peer? source with
  | none => s
  | some p =>
    let s1 := changePeer source (fun x =>
      { x with state := .present, role := some body.role, floor := some body.floor, ceiling := some body.ceiling,
               demand := some body.demand, errors := some body.errors, lastChannel := some c,
               staleAt := some (s.now + s.cfg.stalenessTime * 1000) }) s
    let s2 := if p.state == .present then s1 else report (.peerHeard source p.state) s1
    let s3 := if body.errors.any then report (.peerErrors source body.errors) s2 else s2
    compute source s3

/-- LSU brings the declared demand up to date before a periodic Announce; a change runs the computation (R83). -/
def refreshDeclared (s : State) : State :=
  if s.cfg.role = .pontoon && s.pbc.firstRound && s.lsu.declared != s.demandNow then
    declare s.demandNow (s.setLsu { s.lsu with demand := s.demandNow })
  else s

/-- ANNOUNCE (R185). -/
def execAnnounce (c : Channel) (source : Nat) (body : AnnounceBody) (s : State) : Host.Outcome State Fault Refusal :=
  .next (event (receive c source (onAnnounce c source body)) s)

/-- ANNOUNCE_TIMER: the timer restarts; unless announcing is held the declared demand is brought up to date and an Announce
generated (R83, R183). -/
def execAnnounceTimer (s : State) : Host.Outcome State Fault Refusal :=
  .next (event (whenUp fun s =>
    let s1 := reach s.qlc.announceAt s
    let s2 := s1.setQlc { s1.qlc with announceAt := s.qlc.announceAt + 1000 }
    if s2.lsu.held then s2 else generateAnnounce (refreshDeclared s2)) s)

/-- STALENESS_TIMER: a PRESENT peer becomes STALE, and the computation runs (R185). -/
def execStalenessTimer (peer : Nat) (s : State) : Host.Outcome State Fault Refusal :=
  .next (event (whenUp fun s =>
    match s.peer? peer with
    | none => s
    | some p =>
      match p.state, p.staleAt with
      | .present, some t =>
        compute peer (report (.peerStale peer)
          (changePeer peer (fun x => { x with state := .stale, staleAt := none }) (reach t s)))
      | _, _ => s) s)

/-! ### Frames as bytes (R174) -/

/-- Deliver a frame to the block that takes its kind (R174). -/
def deliverFrame (c : Channel) (source : Nat) (sequence : Num8) (body : FrameBody) : State → State :=
  match body with
  | .holdRequest id tag serial amount => onHoldRequest c source sequence id tag serial amount
  | .holdAnswer id result => onHoldAnswer source sequence id result
  | .settleRequest id serial amount => onSettleRequest c source sequence id serial amount
  | .settleAnswer id result => onSettleAnswer source sequence id result
  | .tagQuery tag => onTagQuery c source sequence tag
  | .tagAnswer record departure => onTagAnswer source sequence record departure
  | .tagRevoke _ tags => onTagRevoke tags
  | .berthCall ref call => onBerthCall c ref call
  | .berthOffer ref berth cost => onBerthOffer source ref berth cost
  | .berthTake ref berth stay tags name => onBerthTake c source sequence ref berth stay tags name
  | .takeAnswer ref berth result => onTakeAnswer source sequence ref berth result
  | .berthClose ref winner => applyClose ref winner
  | .officeRequest command limit => onOfficeRequest c source sequence command limit
  | .officeAnswer reply => onOfficeAnswer source sequence reply
  | .announce (some values) => onAnnounce c source values
  | .announce none => id
  | .timeNotice day second => adoptTime source day second

/-- The summary entry of a check that fails (R174, R184). -/
def FrameError.count : FrameError → ErrorSummary → ErrorSummary
  | .headerCheck => ErrorSummary.header
  | .length => ErrorSummary.badLength
  | .payloadCheck => ErrorSummary.payload
  | .unknownKind => ErrorSummary.kindUnknown

/-- A frame arrives as bytes: dropped and counted at the first check that fails; a good one is a clash, passed over, or
delivered (R170, R174). -/
def takeWire (c : Channel) (bytes : List Byte) (s : State) : State :=
  match checkFrame bytes with
  | .error .headerCheck => onErrors ErrorSummary.header s
  | .error e => onErrors (FrameError.count e) (heardOn c s)
  | .ok f =>
    let s1 := heardOn c s
    if f.source = s1.cfg.station then report (.stationClash c) s1
    else if f.destination != 0 && f.destination != s1.cfg.station then s1
    else
      let body := Config.readPayload f.code f.payload
      if body.code = f.code then deliverFrame c f.source f.sequence body s1 else s1

/-- QUAYLINE_FRAME_DROPPED: a frame's bytes arrive on a channel (R174). -/
def execQuaylineFrameDropped (c : Channel) (bytes : List Byte) (s : State) : Host.Outcome State Fault Refusal :=
  .next (event (whenUp (takeWire c bytes)) s)

end Sys2Proof.Machine
end

