-- ==== Sys2Proof/Machine/Metering.lean ====
section
/-! DEFINITION. PBC's taking of a good Answer (chapter 5): R91, meters (R105 to R107), leaks (R104), currents and faults
(R93, R97), presses (R94). -/

namespace Sys2Proof.Machine

/-! ### Meters (R105 to R107) -/

/-- The per-second limit of a meter's delta (R105). -/
def Meter.perSecond : Meter → Nat
  | .outlet _ => 5
  | .tap _ => 2

/-- The service a meter charges (R106). -/
def meterKind : Meter → Charge
  | .outlet _ => .power
  | .tap _ => .water

/-- The rate of the tariff in force for a meter (R106, R164). -/
def State.meterRate (s : State) (m : Meter) : Nat :=
  let t := s.cfg.tariff s.dck.inForce
  match m with
  | .outlet _ => t.energyRate
  | .tap _ => t.waterRate

/-- Add units to a booking's usage total and its open day, each stopping at its top (R106). -/
def addUsage (m : Meter) (units : Nat) (b : Booking) : Booking :=
  match m with
  | .outlet _ =>
    { b with energy := satAdd top32 b.energy units
             openDay := { b.openDay with energy := satAdd top32 b.openDay.energy units } }
  | .tap _ =>
    { b with water := satAdd top32 b.water units
             openDay := { b.openDay with water := satAdd top32 b.openDay.water units } }

/-- Add units to the unassigned counters (R107). -/
def addUnassigned (m : Meter) (units : Nat) (s : State) : State :=
  match m with
  | .outlet _ => s.setPbc { s.pbc with unassignedEnergy := satAdd top32 s.pbc.unassignedEnergy units }
  | .tap _ => s.setPbc { s.pbc with unassignedWater := satAdd top32 s.pbc.unassignedWater units }

/-- Charge a good delta to the holding booking of a berth, or count it as unassigned (R106, R107). -/
def chargeUnits (m : Meter) (berth : Option Nat) (units : Nat) (s : State) : State :=
  if units = 0 then s
  else
    match s.holder? berth with
    | some (n, b) =>
      let serial := b.serial.getD 0
      meterCharge n serial (meterKind m) units (s.meterRate m) (changeBooking n serial (addUsage m units) s)
    | none => report (.usageUnassigned m units) (addUnassigned m units s)

/-- What a sample is against its baseline (R105). -/
inductive Sample | fresh | good (delta : Nat) | jump (old : Count16)
deriving DecidableEq, Repr

/-- Take a sample: a new baseline, a good delta or a jump (R105). -/
def takeSample (m : Meter) (restarted : Bool) (elapsed : Nat) (base : Option Count16) (sample : Count16) : Sample :=
  match base with
  | none => .fresh
  | some b =>
    if restarted then .fresh
    else
      let delta := (sample - b).toNat
      if delta ≤ Meter.perSecond m * elapsed then .good delta else .jump b

/-- The energy counter of an outlet (R105, R106). -/
def meterOutlet (restarted : Bool) (elapsed n : Nat) (sample : Count16) (s : State) : State :=
  match s.outlet? n with
  | none => s
  | some o =>
    let s1 := patchOutlet n (fun x => { x with energyBase := some sample }) s
    match takeSample (.outlet n) restarted elapsed o.energyBase sample with
    | .fresh => s1
    | .good d => chargeUnits (.outlet n) o.berth d s1
    | .jump old => report (.meterJump (.outlet n) old sample) s1

/-- Litres counted while a tap is not OPEN; above 5 the leak mark is set (R104). -/
def countLeak (t : Tap) (litres : Nat) (s : State) : State :=
  if t.state == .opened then s
  else
    let count := satAdd top16 t.leakCount litres
    if 5 < count && !t.leakMark then
      report (.leak t.number count t.berth)
        (changeTap t.number (fun x => { x with leakCount := count, leakMark := true }) s)
    else changeTap t.number (fun x => { x with leakCount := count }) s

/-- The volume counter of a tap (R104 to R106). -/
def meterTap (restarted : Bool) (elapsed n : Nat) (sample : Count16) (s : State) : State :=
  match s.tap? n with
  | none => s
  | some t =>
    let s1 := changeTap n (fun x => { x with volumeBase := some sample }) s
    match takeSample (.tap n) restarted elapsed t.volumeBase sample with
    | .fresh => s1
    | .good d => chargeUnits (.tap n) t.berth d (countLeak t d s1)
    | .jump old => report (.meterJump (.tap n) old sample) s1

/-! ### Current and faults (R93, R97) -/

/-- The measured current and fault condition of an outlet, the current clamped to 0 to 1,000. -/
def currentOutlet (n : Nat) (r : OutletReading) (s : State) : State :=
  match s.outlet? n with
  | none => s
  | some o =>
    let m := min 1000 r.current
    let s1 := patchOutlet n (fun x => { x with faultSeen := r.fault }) s
    if o.state == .live then
      let count := if o.rating.limit < m then o.overCurrent + 1 else 0
      let s2 := changeOutlet n (fun x => { x with smoothed := (3 * x.smoothed + m + 2) / 4, overCurrent := count }) s1
      if r.fault then outletTrips o .fault m s2
      else if 3 ≤ count then outletTrips o .overCurrent m s2
      else s2
    else if r.fault && o.state != .tripped then outletTrips o .fault m s1
    else s1

/-! ### Presses (R94) -/

/-- A press delta: 0 where the baseline is new (R94). -/
def pressDelta (fresh : Bool) (base : Option Num8) (count : Num8) : Nat :=
  match base with
  | none => 0
  | some b => if fresh then 0 else (count - b).toNat

/-- The reset presses and then the button presses of an outlet (R94). -/
def pressesOutlet (fresh : Bool) (n : Nat) (r : OutletReading) (s : State) : State :=
  match s.outlet? n with
  | none => s
  | some o =>
    let s1 := patchOutlet n (fun x => { x with resetBase := some r.resets, pressBase := some r.presses }) s
    times (pressOutlet n) (pressDelta fresh o.pressBase r.presses)
      (times (pressReset n) (pressDelta fresh o.resetBase r.resets) s1)

/-- The presses of a tap's button (R94, R103). -/
def pressesTap (fresh : Bool) (n : Nat) (r : TapReading) (s : State) : State :=
  match s.tap? n with
  | none => s
  | some t =>
    times (pressTap n) (pressDelta fresh t.pressBase r.presses)
      (changeTap n (fun x => { x with pressBase := some r.presses }) s)

/-! ### A good Answer (R91) -/

/-- Steps 1 and 2: the post's state and its restart number. LSU hears of the load of a post that was OFFLINE before POST_ONLINE is
written, so that an ALLOTMENT_CUT it causes comes first (the model's choice, log entry 93). -/
def postHeard (p : Post) (restart : Num8) (s : State) : State :=
  let n := p.cfg.number
  let s1 := changePost n (fun x => { x with misses := 0, state := .online, restart := some restart }) s
  let s2 :=
    if p.state == .offline then report (.postOnline n (p.lastGood.map fun t => s.seconds - t)) (noteLoad s1) else s1
  match p.restart with
  | some old => if old = restart then s2 else report (.postRestarted n old restart) s2
  | none => s2

/-- Steps 1 to 5 of R91. -/
def answerSteps (p : Post) (a : PostAnswer) (s : State) : State :=
  let restarted := p.restart != some a.restart
  let elapsed := max 1 (s.seconds - p.lastGood.getD s.seconds)
  let fresh := restarted || p.state == .offline
  let outlets := (p.cfg.outlets.map OutletCfg.number).zip a.outlets
  let taps := p.cfg.taps.zip a.taps
  let s1 := postHeard p a.restart s
  let s2 := outlets.foldl (fun x r => meterOutlet restarted elapsed r.1 r.2.energy x) s1
  let s3 := taps.foldl (fun x r => meterTap restarted elapsed r.1 r.2.volume x) s2
  let s4 := outlets.foldl (fun x r => currentOutlet r.1 r.2 x) s3
  let s5 := outlets.foldl (fun x r => pressesOutlet fresh r.1 r.2 x) s4
  taps.foldl (fun x r => pressesTap fresh r.1 r.2 x) s5

/-- A good Answer of the polled post, whole: steps 1 to 5, fit, last good time (R91). -/
def takePostAnswer (p : Post) (a : PostAnswer) (s : State) : State :=
  changePost p.cfg.number (fun x => { x with lastGood := some s.seconds }) (settlePosts (answerSteps p a s))

/-- POST_ANSWER: the polled post's Answer is taken; one from another address is a miss (R89, R91). -/
def execPostAnswer (post : Nat) (answer : PostAnswer) (s : State) : Host.Outcome State Fault Refusal :=
  .next (whenUp (fun s =>
    match s.pbc.polling with
    | none => s
    | some n =>
      if n = post then
        match s.post? n with
        | some p => nextPoll (takePostAnswer p answer s)
        | none => nextPoll s
      else nextPoll (event (missPost n) s)) s)

end Sys2Proof.Machine
end

