-- ==== Sys2Proof/Machine/Dispatch.lean ====
section
/-! DEFINITION. exec: the meaning of each command, one arm per constructor of Instr. -/

namespace Sys2Proof.Machine

def exec (i : Instr) (s : State) : Host.Outcome State Fault Refusal :=
  match i with
  | .powerOnReset readsReady => Sys2Proof.Machine.execPowerOnReset readsReady s
  | .frameGapTimeout => Sys2Proof.Machine.execFrameGapTimeout s
  | .replySent readsReady => Sys2Proof.Machine.execReplySent readsReady s
  | .checkOut station berth serial => Sys2Proof.Machine.execCheckOut station berth serial s
  | .cancel station berth serial => Sys2Proof.Machine.execCancel station berth serial s
  | .extend station berth serial departure => Sys2Proof.Machine.execExtend station berth serial departure s
  | .setTags station berth serial tags => Sys2Proof.Machine.execSetTags station berth serial tags s
  | .readBooking station berth serial resume => Sys2Proof.Machine.execReadBooking station berth serial resume s
  | .readStatements selector resume => Sys2Proof.Machine.execReadStatements selector resume s
  | .credit station berth serial amount => Sys2Proof.Machine.execCredit station berth serial amount s
  | .bar station berth serial => Sys2Proof.Machine.execBar station berth serial s
  | .unbar station berth serial => Sys2Proof.Machine.execUnbar station berth serial s
  | .setMarks station berth serial lowMark creditLimit => Sys2Proof.Machine.execSetMarks station berth serial lowMark creditLimit s
  | .dropHold station berth serial id => Sys2Proof.Machine.execDropHold station berth serial id s
  | .allocate form => Sys2Proof.Machine.execAllocate form s
  | .callStatus call resume => Sys2Proof.Machine.execCallStatus call resume s
  | .loadStatus resume => Sys2Proof.Machine.execLoadStatus resume s
  | .energise station berth place => Sys2Proof.Machine.execEnergise station berth place s
  | .off station berth place => Sys2Proof.Machine.execOff station berth place s
  | .resetOutlet station berth place => Sys2Proof.Machine.execResetOutlet station berth place s
  | .clearLeak station berth => Sys2Proof.Machine.execClearLeak station berth s
  | .postStatus resume => Sys2Proof.Machine.execPostStatus resume s
  | .tagStatus tag => Sys2Proof.Machine.execTagStatus tag s
  | .cacheStatus => Sys2Proof.Machine.execCacheStatus s
  | .flushCache => Sys2Proof.Machine.execFlushCache s
  | .setGateMode station gate mode => Sys2Proof.Machine.execSetGateMode station gate mode s
  | .gateStatus station resume => Sys2Proof.Machine.execGateStatus station resume s
  | .gateAck station gate kind => Sys2Proof.Machine.execGateAck station gate kind s
  | .directAuthorise station pump amount => Sys2Proof.Machine.execDirectAuthorise station pump amount s
  | .cancelSale station pump => Sys2Proof.Machine.execCancelSale station pump s
  | .writeOffSale station pump sale => Sys2Proof.Machine.execWriteOffSale station pump sale s
  | .saleStatus station resume => Sys2Proof.Machine.execSaleStatus station resume s
  | .setTime day second => Sys2Proof.Machine.execSetTime day second s
  | .dayStatus => Sys2Proof.Machine.execDayStatus s
  | .selectTariff station number => Sys2Proof.Machine.execSelectTariff station number s
  | .linkStatus resume => Sys2Proof.Machine.execLinkStatus resume s
  | .status station => Sys2Proof.Machine.execStatus station s
  | .setReplyLimit limit => Sys2Proof.Machine.execSetReplyLimit limit s
  | .journalRead start => Sys2Proof.Machine.execJournalRead start s
  | .journalAck sequence => Sys2Proof.Machine.execJournalAck sequence s
  | .writeConfigBegin length => Sys2Proof.Machine.execWriteConfigBegin length s
  | .writeConfigData offset bytes => Sys2Proof.Machine.execWriteConfigData offset bytes s
  | .writeConfigCommit => Sys2Proof.Machine.execWriteConfigCommit s
  | .restart => Sys2Proof.Machine.execRestart s
  | .configWriteStart => Sys2Proof.Machine.execConfigWriteStart s
  | .configWriteEnd complete => Sys2Proof.Machine.execConfigWriteEnd complete s
  | .storeWriteStart => Sys2Proof.Machine.execStoreWriteStart s
  | .storeWriteEnd equal => Sys2Proof.Machine.execStoreWriteEnd equal s
  | .storeWriteTimeout => Sys2Proof.Machine.execStoreWriteTimeout s
  | .storeRetryTimer => Sys2Proof.Machine.execStoreRetryTimer s
  | .tentativeExpiry berth ref => Sys2Proof.Machine.execTentativeExpiry berth ref s
  | .holdMinuteTimer => Sys2Proof.Machine.execHoldMinuteTimer s
  | .holdRequest ch source sequence id tag serial amount => Sys2Proof.Machine.execHoldRequest ch source sequence id tag serial amount s
  | .settleRequest ch source sequence id serial amount => Sys2Proof.Machine.execSettleRequest ch source sequence id serial amount s
  | .berthCall ch source ref body => Sys2Proof.Machine.execBerthCall ch source ref body s
  | .berthOffer ch source ref berth cost => Sys2Proof.Machine.execBerthOffer ch source ref berth cost s
  | .windowExpiry call => Sys2Proof.Machine.execWindowExpiry call s
  | .berthTake ch source sequence ref berth stay tags name => Sys2Proof.Machine.execBerthTake ch source sequence ref berth stay tags name s
  | .takeAnswer ch source sequence ref berth result => Sys2Proof.Machine.execTakeAnswer ch source sequence ref berth result s
  | .berthClose ch source ref winner => Sys2Proof.Machine.execBerthClose ch source ref winner s
  | .computationTimer => Sys2Proof.Machine.execComputationTimer s
  | .raiseTimer => Sys2Proof.Machine.execRaiseTimer s
  | .pollRoundTimer => Sys2Proof.Machine.execPollRoundTimer s
  | .postAnswer post answer => Sys2Proof.Machine.execPostAnswer post answer s
  | .postMiss => Sys2Proof.Machine.execPostMiss s
  | .restTimer outlet => Sys2Proof.Machine.execRestTimer outlet s
  | .tapRunTimer tap => Sys2Proof.Machine.execTapRunTimer tap s
  | .refusedLampExpiry meter => Sys2Proof.Machine.execRefusedLampExpiry meter s
  | .presentation reader tag => Sys2Proof.Machine.execPresentation reader tag s
  | .tagQuery ch source sequence tag => Sys2Proof.Machine.execTagQuery ch source sequence tag s
  | .tagAnswer ch source sequence record departure => Sys2Proof.Machine.execTagAnswer ch source sequence record departure s
  | .tagRevoke ch source owner tags => Sys2Proof.Machine.execTagRevoke ch source owner tags s
  | .exitButton gate => Sys2Proof.Machine.execExitButton gate s
  | .doorSense gate door => Sys2Proof.Machine.execDoorSense gate door s
  | .releaseTimer gate => Sys2Proof.Machine.execReleaseTimer gate s
  | .heldOpenTimer gate => Sys2Proof.Machine.execHeldOpenTimer gate s
  | .faultExitReleaseExpiry gate => Sys2Proof.Machine.execFaultExitReleaseExpiry gate s
  | .pumpPollTimer pump => Sys2Proof.Machine.execPumpPollTimer pump s
  | .pumpAnswer pump reading => Sys2Proof.Machine.execPumpAnswer pump reading s
  | .pumpMiss pump => Sys2Proof.Machine.execPumpMiss pump s
  | .pumpRefusedDisplayExpiry pump => Sys2Proof.Machine.execPumpRefusedDisplayExpiry pump s
  | .holdAnswer ch source sequence id result => Sys2Proof.Machine.execHoldAnswer ch source sequence id result s
  | .readyTimer pump => Sys2Proof.Machine.execReadyTimer pump s
  | .settleAnswer ch source sequence id result => Sys2Proof.Machine.execSettleAnswer ch source sequence id result s
  | .saleRetryTimer => Sys2Proof.Machine.execSaleRetryTimer s
  | .clockSecond => Sys2Proof.Machine.execClockSecond s
  | .timeNotice ch source day second => Sys2Proof.Machine.execTimeNotice ch source day second s
  | .announce ch source body => Sys2Proof.Machine.execAnnounce ch source body s
  | .officeRequest ch source sequence command limit => Sys2Proof.Machine.execOfficeRequest ch source sequence command limit s
  | .officeAnswer ch source sequence reply => Sys2Proof.Machine.execOfficeAnswer ch source sequence reply s
  | .silenceTimer ch => Sys2Proof.Machine.execSilenceTimer ch s
  | .transmitStart ch => Sys2Proof.Machine.execTransmitStart ch s
  | .transmitComplete ch => Sys2Proof.Machine.execTransmitComplete ch s
  | .arbitrationLost ch => Sys2Proof.Machine.execArbitrationLost ch s
  | .transmitFault ch => Sys2Proof.Machine.execTransmitFault ch s
  | .mediumBusyTimeout ch => Sys2Proof.Machine.execMediumBusyTimeout ch s
  | .responseTimeout sequence => Sys2Proof.Machine.execResponseTimeout sequence s
  | .attemptDrop sequence => Sys2Proof.Machine.execAttemptDrop sequence s
  | .announceTimer => Sys2Proof.Machine.execAnnounceTimer s
  | .stalenessTimer peer => Sys2Proof.Machine.execStalenessTimer peer s
  | .terminalByte byte => Sys2Proof.Machine.execTerminalByte byte s
  | .quaylineFrameDropped ch bytes => Sys2Proof.Machine.execQuaylineFrameDropped ch bytes s
  | .loadEnd => Sys2Proof.Machine.execLoadEnd s

end Sys2Proof.Machine
end

