-- ==== Sys2Proof/Machine/Step.lean ====
section
/-! DEFINITION. One step: the front command of the queue runs; with nothing waiting a millisecond passes. -/

namespace Sys2Proof.Machine

/-- With nothing waiting, a millisecond passes and nothing else happens: a timer's expiry is a command (log entry 2). -/
def State.idle (s : State) : State := s.setNow (s.now + 1)

/-- One step (log entry 1). -/
def step (s : State) : Host.Outcome State Fault Refusal :=
  match s.pending with
  | [] => .next s.idle
  | c :: rest => exec c (s.setPending rest)

/-- `s` with the command a table word spells at the front of its queue; `s` where the word spells none. -/
def State.withFetchWord (s : State) (nbits w : Nat) : State :=
  match Sys2Proof.decodeTableWord nbits w with
  | some c => s.setPending (c :: s.pending)
  | none => s

end Sys2Proof.Machine
end

