-- ==== Sys2Proof/Safety.lean ====
section
/-! DEFINITION. The terms statements about runs are made in: a station that can take a command, what TPC then sends, what a
lookup finds and what its delivery does, and the invariants. -/

namespace Sys2Proof

/-- A booking whose purse has changed: the standing its purse gives, the epoch one on where the standing differs (R6, R27,
R28). -/
def Booking.withPurse (b : Booking) (p : Purse) : Booking :=
  { b with purse := { p with standing := p.standingNow }
           epoch := if b.purse.standing = p.standingNow then b.epoch else b.epoch + 1 }

end Sys2Proof

namespace Sys2Proof.Machine

/-! ### Where a command is taken -/

/-- The load has ended with an accepted image, and TPC is WAITING or RECEIVING: a terminal command is taken (R187). -/
abbrev State.ready (s : State) : Prop := s.up = true ∧ s.tpc.listens = true

/-- The committed load is within the applied allotment, as every event ends where it can (R100). -/
abbrev State.fits (s : State) : Prop := s.pbc.committed ≤ s.lsu.applied

/-- The station number of a command marked as forwarded is this station's (section 11.2). -/
abbrev State.isHere (s : State) (station : Nat) : Prop := 1 ≤ station ∧ station ≤ 30 ∧ station = s.cfg.station

/-- A PONTOON station's berth operation finds a live booking (R13). -/
abbrev State.finds (s : State) (berth serial : Nat) (b : Booking) : Prop :=
  s.cfg.role = .pontoon ∧ serial ≠ 0 ∧ s.booking? berth serial = some b

/-- A frame of another station reaches its block: the station runs, K is within A, the source is not this station (R174). -/
abbrev State.hears (s : State) (source : Nat) : Prop := s.up = true ∧ s.fits ∧ source ≠ s.cfg.station

/-! ### What follows -/

/-- TPC sends a reply (R187). -/
def Tpc.sending (t : Tpc) (r : Reply) : Tpc := { t with state := .replying, reply := some r, received := [], gapAt := none }

/-- TPC sends the reply to a command performed here, held to the reply size limit (R187, R188); a reply that is no listing and longer
than the limit is cut at it (the model's choice, log entry 60). -/
def Tpc.answers (t : Tpc) (r : Reply) : Tpc := t.sending (r.within t.limit)

/-- The terminal is being sent this reply, held to the reply size limit (R187, R188; log entry 60). -/
abbrev State.replies (s t : State) (r : Reply) : Prop := t.tpc.state = .replying ∧ t.tpc.reply = some (r.within s.tpc.limit)

/-- The journal holds what it held with one more entry at its end (R192, R193). -/
abbrev State.journalled (s t : State) (r : Report) : Prop := t.evj.entries = (s.evj.write s.dck.clock r).entries

/-- The journal holds what it held with several entries more at its end, in their order (R192, R193). -/
abbrev State.journalledAll (s t : State) (rs : List Report) : Prop :=
  t.evj.entries = (rs.foldl (fun e r => e.write s.dck.clock r) s.evj).entries

/-- The report of the newest journal entry (R192). -/
abbrev State.lastReport (t : State) : Option Report := t.evj.entries.getLast?.map JournalEntry.report

/-- The journal holds what it held with more entries at its end, this report among them (R192, R193). -/
abbrev State.noted (s t : State) (r : Report) : Prop := ∃ before after, s.journalledAll t (before ++ r :: after)

/-- A frame has joined the transmit queue behind what waited there, on one channel (R175, R177). -/
abbrev State.queued (s t : State) (c : Channel) (f : Frame) : Prop :=
  ∃ e ∈ t.qlc.queue, e.frame = f ∧ s.qlc.nextEntry ≤ e.id ∧ e.onA = (c == .a) ∧ e.onB = (c == .b)

/-- A frame has joined the transmit queue behind what waited there, on every usable channel (R175, R177). -/
abbrev State.queuedWide (s t : State) (f : Frame) : Prop :=
  ∃ e ∈ t.qlc.queue, e.frame = f ∧ s.qlc.nextEntry ≤ e.id ∧ e.onA = t.qlc.usable .a ∧ e.onB = t.qlc.usable .b

/-- Every booking but one reads as before. -/
abbrev State.sameBookingsBut (s t : State) (berth serial : Nat) : Prop :=
  ∀ n k, ¬(n = berth ∧ k = serial) → t.booking? n k = s.booking? n k

/-- Every outlet but one reads as before, and so does all of PBC but the outlets. -/
abbrev State.sameOutletsBut (s t : State) (n : Nat) : Prop :=
  t.pbc = { s.pbc with outlets := t.pbc.outlets } ∧ ∀ m, m ≠ n → t.outlet? m = s.outlet? m

/-- Every tap but one reads as before, and so does all of PBC but the taps. -/
abbrev State.sameTapsBut (s t : State) (n : Nat) : Prop :=
  t.pbc = { s.pbc with taps := t.pbc.taps } ∧ ∀ m, m ≠ n → t.tap? m = s.tap? m

/-- Every gate but one reads as before, and so does all of GTC but the gates. -/
abbrev State.sameGatesBut (s t : State) (n : Nat) : Prop :=
  t.gtc = { s.gtc with gates := t.gtc.gates } ∧ ∀ m, m ≠ n → t.gate? m = s.gate? m

/-- Every pump but one reads as before. -/
abbrev State.samePumpsBut (s t : State) (n : Nat) : Prop := ∀ m, m ≠ n → t.pump? m = s.pump? m

/-- Every pump but one reads as before, and so does all of FSC but the pumps. -/
abbrev State.onlyPump (s t : State) (n : Nat) : Prop :=
  t.fsc = { s.fsc with pumps := t.fsc.pumps } ∧ s.samePumpsBut t n

/-- A record waits to be written, or its write in flight is marked to be made again (R20). -/
abbrev State.dirtyRecord (t : State) (id : RecordId) : Prop :=
  t.bst.queue.contains id = true ∨ ∃ w, t.bst.inFlight = some w ∧ w.id = id ∧ w.changed = true

/-- A state no reset leaves anything of: clock UNSET, no call, no lookup, TPC at its start, no request pending, both
channels UP, the load under way (R159, R47, R116, R187, R178, R170, R196). -/
abbrev State.afreshAt (t : State) : Prop :=
  t.now = 0 ∧ t.dck.clock = none ∧ t.dck.staged = none ∧ t.alc = {} ∧ t.acu.lookups = [] ∧ t.tpc = {} ∧
    t.qlc.requests = [] ∧ t.qlc.sequence = 0 ∧ t.qlc.lineA = {} ∧ t.qlc.lineB = {} ∧ t.cfl.starting = true ∧
    t.cfl.filling = false ∧ t.cfl.phase = .idle ∧ t.bst.fault = false ∧ t.bst.inFlight = none

/-- A reply carries, of a list of items, as many whole ones as its limit holds, in their order and from the first on; a first
item longer than the limit goes alone and cut (R188). -/
abbrev Reply.carries (r : Reply) (limit : Nat) (items : List Item) : Prop :=
  r.items = items.take r.items.length ∧ (items ≠ [] → r.items ≠ []) ∧
    (r.cut = false → (r.items.map Config.itemBytes).sum ≤ limit ∧
      ∀ i, items[r.items.length]? = some i → limit < (r.items.map Config.itemBytes).sum + Config.itemBytes i) ∧
    (r.cut = true → ∃ i, r.items = [i] ∧ limit < Config.itemBytes i)

/-- A listing's reply (R188): it carries the named items, with the GAP flag given (R194), MORE with the name of the next item
when some are left; and the listing changes nothing. -/
abbrev State.lists (s : State) (c : Instr) (k : CmdKind) (gap : Bool) (named : List (Nat × Item)) : Prop :=
  ∃ r : Reply, exec c s = .next (s.setTpc (s.tpc.sending r)) ∧ r.code = .known k ∧ r.result = .ok ∧ r.gap = gap ∧
    Reply.carries r s.tpc.limit (named.map Prod.snd) ∧ r.resume = named[r.items.length]?.map Prod.fst

/-- The result of a lookup that is there at once: a local booking, else a pinned entry or one not yet expired (R114,
R115). -/
abbrev State.foundAtOnce? (s : State) (tag : Tag) : Option LookupResult :=
  match s.localCredential? tag with
  | some (record, _) => some (.found record .localBooking)
  | none =>
    match s.acu.entry? tag with
    | none => none
    | some e =>
      if e.pinned then some (.found e.record .pinned)
      else if e.validUntil.any fun v => s.now / 1000 < v then some (.found e.record .cache) else none

/-- A gate's record after a result has been delivered for its reader, where it is not UNLOCKED (R132 to R134): a grant, logged
or not, makes LOCKED and RELEASED RELEASED with a full release time and moves nothing else; the decision is counted; a DENY
BARRED raises the escort notice, or replaces what it holds and adds one to its count, up to 255. -/
def State.gateAfter (s : State) (g : Gate) (r : LookupResult) : Gate :=
  let passed : Gate :=
    if g.state = .locked ∨ g.state = .released then
      { g with state := .released, strike := .released, releaseAt := some (s.now + g.cfg.releaseTime * 1000) }
    else g
  match decision s.cfg.station g s.dck.clock r, r with
  | .grant, _ => { passed with grants := min top32 (g.grants + 1) }
  | .logged _, _ => { passed with logged := min top32 (g.logged + 1) }
  | .deny .barred, .found c _ => { g with
      denials := min top32 (g.denials + 1)
      escort := some ⟨c.tag, c.owner, (c.booking.map CredBooking.berth).getD 0, (c.booking.map CredBooking.serial).getD 0,
        s.dck.clock, min 255 ((g.escort.map EscortNotice.count).getD 0 + 1)⟩ }
  | .deny _, _ => { g with denials := min top32 (g.denials + 1) }

/-- What the journal takes of a decision at a gate (R133, R134): nothing of a grant, ACCESS_LOGGED, or ACCESS_DENIED and, where
a DENY BARRED raises the escort notice, ESCORT. -/
def State.gateNotes (s : State) (g : Gate) (tag : Tag) (r : LookupResult) : List Report :=
  let n := g.cfg.number
  let detail : AccessDetail :=
    match r with
    | .found c source => ⟨n, some c.cls, some c.owner, c.booking.map CredBooking.berth, c.booking.map CredBooking.serial,
        some source, c.booking.map CredBooking.epoch⟩
    | .unknown | .noAnswer => ⟨n, none, none, none, none, none, none⟩
  match decision s.cfg.station g s.dck.clock r, r with
  | .grant, _ => []
  | .logged why, _ => [.accessLogged tag detail why]
  | .deny .barred, .found c _ => .accessDenied tag detail .barred ::
      (if g.escort = none then [.escort c.tag n c.owner ((c.booking.map CredBooking.berth).getD 0)] else [])
  | .deny why, _ => [.accessDenied tag detail why]

/-- The TENTATIVE bookings of a call have been removed at this station, but for those of a winning berth of it (R60). -/
abbrev State.released (s t : State) (ref : CallRef) (winner : Option Nat) : Prop :=
  t.bst = { s.bst with berths := t.bst.berths } ∧
    ∀ m, t.berth? m = (s.berth? m).map fun x =>
      if winner = some m then x
      else { x with bookings := x.bookings.filter fun b => !(b.state == .tentative && b.callRef == ref) }

/-- The entry of a call is FINISHED with an outcome, and holds no offers (R59). -/
abbrev State.finished (t : State) (n : Num8) (outcome : CallOutcome) : Prop :=
  ∃ x, t.call? n = some x ∧ x.phase = .finished ∧ x.outcome = some outcome ∧ x.offers = [] ∧ x.inFlight = none

/-- The Berth Close of a call with an outcome has been queued (R59, R60). -/
abbrev State.closes (s t : State) (n : Num8) (outcome : CallOutcome) : Prop :=
  s.queuedWide t ⟨0, 0, .berthClose ⟨s.cfg.station, n⟩ (match outcome with
    | .allocated st berth _ => some (st, berth)
    | .noBerth => none)⟩

/-- A frame heard on a channel takes the other one DOWN: that one is UP with its silent mark set (R171). -/
def State.silences (s : State) (c : Channel) : Bool := (s.qlc.line c.other).silent && (s.qlc.line c.other).state == .up

/-- An entry whose copy for the other channel waits when a frame heard on a channel takes that other one DOWN (R177). -/
def State.strands (s : State) (c : Channel) (e : Entry) : Bool :=
  s.silences c && e.on c.other && !s.qlc.beingSent e.id c.other

/-- The transmit queue once a frame has been heard on a channel: a stranded copy leaves the other channel, and its entry stands on
the channel of the frame (R177). -/
def State.queueHeard (s : State) (c : Channel) : List Entry :=
  s.qlc.queue.map fun e => if s.strands c e then (e.without c.other).also c else e

/-- The pending requests once a frame has been heard on a channel: one whose frame waited on the other channel alone takes the
channel of the frame (R177, R178). -/
def State.requestsHeard (s : State) (c : Channel) : List Pending :=
  s.qlc.requests.map fun r =>
    if s.qlc.queue.any fun e => s.strands c e && !e.on c && r.entry == some e.id then { r with channel := c } else r

/-- What a frame heard on a channel writes: CHANNEL_UP for its own where it was DOWN, then CHANNEL_DOWN for the other where that
one goes DOWN (R170, R171). -/
def State.heardReports (s : State) (c : Channel) : List Report :=
  (if (s.qlc.line c).state = .down then [.channelUp c] else []) ++
    if s.silences c then [.channelDown c.other .silence] else []

/-- A call has finished with an outcome: its entry FINISHED, and a Berth Close queued where the queue had room (R59). -/
abbrev State.finishes (s t : State) (n : Num8) (outcome : CallOutcome) : Prop :=
  t.finished n outcome ∧ (s.qlc.queue.length < 16 → s.closes t n outcome)

/-- What ALC has done with the offers a call has left, `notes` being what the journal took before (R55, R57 to R60). Without an
offer the call has finished NO_BERTH. The head offer of another station is asked for in a Berth Take, or, refused LINK_BUSY,
removed, and the next one is taken. This station's own one is taken at once: a repeat is found, or the TENTATIVE booking
converted, and the call has finished ALLOCATED; a tag in use, or no TENTATIVE booking, removes it, and the next one is
taken. A conversion to CURRENT on a berth that has a holding booking may displace it, and the demand that falls with its outlets
may be announced (R82, R94): then the Announce takes a place of the queue before the Berth Close. -/
def State.takesOffers (s t : State) (n : Num8) (c : Call) : List Offer → List Report → Prop
  | [], notes =>
    s.finishes t n .noBerth ∧ s.released t ⟨s.cfg.station, n⟩ none ∧ s.journalledAll t (notes ++ [.callDone n .noBerth])
  | o :: rest, notes =>
    let ref : CallRef := ⟨s.cfg.station, n⟩
    let stay := c.request.stay
    (o.station ≠ s.cfg.station →
      (s.qlc.requests.length < 8 → s.qlc.queue.length < 16 →
        (∃ x, t.call? n = some x ∧ x.phase = .taking ∧ x.inFlight = some (o.station, o.berth) ∧ x.offers = o :: rest) ∧
        (∃ p ∈ t.qlc.requests, p.destination = o.station ∧ p.originator = .call n ∧ p.attempt = 1 ∧
          p.body = .berthTake ref o.berth stay c.request.tags c.request.name ∧
          s.queued t (s.qlc.prefer .a) ⟨o.station, p.sequence, p.body⟩) ∧
        t.bst = s.bst ∧ s.journalledAll t notes) ∧
      (8 ≤ s.qlc.requests.length ∨ 16 ≤ s.qlc.queue.length → s.takesOffers t n c rest notes)) ∧
    (o.station = s.cfg.station →
      (s.cfg.role ≠ .pontoon ∨ s.berth? o.berth = none → s.takesOffers t n c rest notes) ∧
      ∀ b, s.cfg.role = .pontoon → s.berth? o.berth = some b →
        (∀ k, takeRepeat? ref stay b = some k →
          s.finishes t n (.allocated o.station o.berth (k.serial.getD 0)) ∧ s.released t ref (some o.berth) ∧
          s.journalledAll t (notes ++ [.callDone n (.allocated o.station o.berth (k.serial.getD 0))])) ∧
        (takeRepeat? ref stay b = none →
          let stands := ∃ k ∈ b.bookings, k.state = .tentative ∧ k.callRef = ref ∧ k.stay = stay
          let serial := s.nextSerialGiven
          (¬stands → s.takesOffers t n c rest notes) ∧
          (∀ tag, stands → s.takenTag? c.request.tags = some tag →
            s.takesOffers t n c rest (notes ++ [.tagClash tag (some (o.station, o.berth)) (some n)])) ∧
          (stands → s.takenTag? c.request.tags = none → serial ∉ s.serials →
            t.finished n (.allocated o.station o.berth serial) ∧
            (let alone := s.conversionState stay.arrival = .reserved ∨ s.holding? o.berth = none
             s.qlc.queue.length < (if alone then 16 else 15) → s.closes t n (.allocated o.station o.berth serial)) ∧
            (∃ k, t.booking? o.berth serial = some k ∧ k.state = s.conversionState stay.arrival ∧
              k.callRef = ref ∧ k.stay = stay ∧ k.tags = c.request.tags ∧ k.name = c.request.name ∧ k.expiry = none) ∧
            t.bst.nextSerial = serialAfter serial ∧ t.dirtyRecord .station ∧ (∀ r ∈ notes, s.noted t r) ∧
            s.noted t (.bookingMade o.berth serial stay.arrival) ∧
            s.noted t (.callDone n (.allocated o.station o.berth serial)))))

/-- A result has been delivered for a gate's reader (R132 to R134): an UNLOCKED gate and the journal stay as they were; any other
gate is decided. -/
abbrev State.gateDelivered (s t : State) (n : Nat) (g : Gate) (tag : Tag) (r : LookupResult) : Prop :=
  (g.state = .unlocked → t.gtc = s.gtc ∧ t.evj = s.evj) ∧
    (g.state ≠ .unlocked → t.gate? n = some (s.gateAfter g r) ∧ s.sameGatesBut t n ∧
      s.journalledAll t (s.gateNotes g tag r) ∧ (s.gateNotes g tag r = [] → t.evj = s.evj))

/-- A result has been delivered for a pump's reader (R144 to R146): PUMP_BUSY where the pump is not IDLE; at an IDLE pump the first
refusal that applies is journalled and shown for 5 s, and where none does a purse sale begins: the sale number, the Hold
Request to the owner, the pump AUTHORISING; refused LINK_BUSY, the number stays taken and nothing is written. -/
abbrev State.pumpDelivered (s t : State) (n : Nat) (p : Pump) (tag : Tag) (r : LookupResult) : Prop :=
  (p.state ≠ .idle → t.fsc = s.fsc ∧ s.journalled t (.saleRefused n .pumpBusy tag false)) ∧
  (p.state = .idle →
    let dock := s.fsc.unsettled.length +
      (s.fsc.pumps.filter fun q => q.cfg.number != n && q.sale.any fun x => x.kind == .purse).length
    let refused (q : Pump) (why : SaleRefusal) : Prop :=
      t.pump? n = some { q with display := .refused why, refusedUntil := some (s.now + 5000) } ∧
        t.fsc = { s.fsc with pumps := t.fsc.pumps } ∧ t.bst = s.bst ∧
        s.journalled t (.saleRefused n why tag false)
    (p.latest = none → refused p .pumpFault) ∧
    (p.latest ≠ none →
      (r = .unknown → refused p .unknown) ∧ (r = .noAnswer → refused p .noAnswer) ∧
      (∀ c from', r = .found c from' →
        (c.cls = .staff ∨ c.cls = .contractor → refused p .notBooking) ∧
        (∀ b, c.cls = .resident ∨ c.cls = .visitor → c.booking = some b →
          (b.state = .reserved → refused p .noBooking) ∧
          (b.state ≠ .reserved → b.standing = .arrears ∨ b.standing = .barred → refused p .standing) ∧
          (b.state ≠ .reserved → b.standing = .good ∨ b.standing = .low → 16 ≤ dock → refused p .dockBusy) ∧
          (b.state ≠ .reserved → b.standing = .good ∨ b.standing = .low → dock < 16 →
            let numbered : Pump := { p with nextSale := freeNumber (s.fsc.numbersListed n) (p.nextSale + 1) 16 }
            let x : Sale := {
              id := ⟨s.cfg.station, n, p.nextSale⟩, kind := .purse, stage := .authorising
              party := some ⟨tag, c.owner, b.berth, b.serial, b.epoch⟩
              price := (s.cfg.tariff s.dck.inForce).fuel p.cfg.grade, requested := s.cfg.saleLimit }
            let body : FrameBody := .holdRequest x.id tag b.serial s.cfg.saleLimit
            numbered.nextSale ∉ s.fsc.numbersListed n ∧
            (s.qlc.requests.length < 8 → s.qlc.queue.length < 16 →
              t.pump? n = some { numbered with
                state := .authorising, display := .ready, refusedUntil := none, sale := some x } ∧
              t.fsc = { s.fsc with pumps := t.fsc.pumps } ∧ t.dirtyRecord (.sale n) ∧ t.evj = s.evj ∧
              ∃ e ∈ t.qlc.requests, e.destination = c.owner ∧ e.body = body ∧ e.originator = .pumpSale x.id ∧
                e.attempt = 1 ∧ s.queued t (s.qlc.prefer .a) ⟨c.owner, e.sequence, body⟩) ∧
            (8 ≤ s.qlc.requests.length ∨ 16 ≤ s.qlc.queue.length → refused numbered .linkBusy))))))

/-- QLC after the sending of a channel has ended without completing: where it was an Announce, no other one waits (R183; log
entries 42 and 80). -/
abbrev Qlc.afterLoss (q : Qlc) (c : Channel) : Qlc :=
  if (q.line c).sending.any (fun x => x.frame.body.announces) then
    { q with queue := q.queue.filter fun e => !(e.frame.body.announces && q.waits e.id) }
  else q

/-! ### Invariants -/

/-- What every gate record keeps (R128, R132, R136 to R138): the strike is RELEASED in RELEASED and UNLOCKED alone, the
release timer runs in RELEASED alone, the held-open timer in OPEN alone, and mode OPEN and UNLOCKED go together. -/
abbrev State.gatesOk (s : State) : Prop :=
  ∀ n g, s.gate? n = some g →
    (g.strike = .released ↔ g.state = .released ∨ g.state = .unlocked) ∧ (g.releaseAt.isSome = true ↔ g.state = .released) ∧
    (g.heldOpenAt.isSome = true ↔ g.state = .opened) ∧ (g.mode = .opened ↔ g.state = .unlocked)

/-- What the booking store keeps (R1, R2, R4, R5): at most 64 berths, each number once, at most 4 entries on each; a next
serial of 1 to 65,535; every RESERVED or CURRENT booking has a serial of 1 to 65,535, and no two have the same. -/
abbrev State.bookingsOk (s : State) : Prop :=
  s.bst.berths.length ≤ 64 ∧ (s.bst.berths.map fun b => b.cfg.number).Nodup ∧
    (∀ b ∈ s.bst.berths, b.bookings.length ≤ 4) ∧ (1 ≤ s.bst.nextSerial ∧ s.bst.nextSerial ≤ 65535) ∧
    (∀ p ∈ s.liveBookings, p.2.serial.any (fun k => decide (1 ≤ k ∧ k ≤ 65535)) = true) ∧ s.serials.Nodup

/-- A Berth Call that the command brings asks for a stay that ends after it begins (R3, R46). -/
def callStays : Instr → Prop
  | .berthCall _ _ _ body => body.stay.arrival < body.stay.departure
  | .quaylineFrameDropped _ bytes => ∀ f ref body, checkFrame bytes = .ok f →
      Config.readPayload f.code f.payload = .berthCall ref body → body.stay.arrival < body.stay.departure
  | _ => True

/-- The attention line is what its conditions ask for (R195): asserted while 128 or more entries are unread, an escort or ajar
notice is present on a gate, or the station is in CONFIG_FAULT; released otherwise and until the load ends. -/
abbrev State.lineIsDue (s : State) : Prop :=
  s.evj.attention = true ↔ s.cfl.starting = false ∧
    (128 ≤ (s.evj.entries.filter fun x => s.evj.mark ≤ x.sequence).length ∨
      (∃ g ∈ s.gtc.gates, g.escort ≠ none ∨ g.ajar ≠ none) ∨ s.cfl.load ≠ .accepted)

/-- What the booking list of every berth keeps (R2, R3): its entries in ascending order of arrival day, no two with overlapping
intervals, each ending after it begins. -/
abbrev State.listsOk (s : State) : Prop :=
  ∀ b ∈ s.bst.berths,
    (b.bookings.Pairwise fun x y => x.stay.arrival ≤ y.stay.arrival ∧
      overlaps x.stay.arrival x.stay.departure y.stay.arrival y.stay.departure = false) ∧
    ∀ k ∈ b.bookings, k.stay.arrival < k.stay.departure

/-- The buffers stay within their sizes: the journal (R192), the transmit queue (R175), the pending-request table (R178),
the call table (R47). -/
structure State.Bounded (s : State) : Prop where
  journal : s.evj.entries.length ≤ 256
  queue : s.qlc.queue.length ≤ 16
  requests : s.qlc.requests.length ≤ 8
  calls : s.alc.calls.length ≤ 4

end Sys2Proof.Machine
end

