-- ==== Sys2Proof/Certificates/Slice0/Obligations.lean ====
section
/-! DEFINITION. The statements for the provers, by chapter. A statement about a command gives its next state wherever the
command has its own effect, and what it leaves as it was. -/

open Sys2Proof Sys2Proof.Machine

/-! ### Chapter 1: bookings at the terminal -/

/-- CHECK_OUT ends a CURRENT booking without an ACTIVE hold: statement, booking gone, outlets OFF, reply (R9, R10, R14). -/
def Obligations.CheckOutEndsStay : Prop :=
  ∀ (s : State) (station berth serial : Nat) (b : Booking), s.ready → s.isHere station → s.finds berth serial b →
    b.state = .current → (∀ h ∈ b.purse.holds, h.state ≠ .active) →
    ∃ t, exec (.checkOut station berth serial) s = .next t ∧
      s.replies t (answer .checkOut .ok [.balance b.purse.balance, .number (bump32 s.bst.lastEnding)]) ∧
      t.booking? berth serial = none ∧ s.sameBookingsBut t berth serial ∧
      t.bst.lastEnding = bump32 s.bst.lastEnding ∧
      (∃ x ∈ t.bst.statements, x = statementOf (bump32 s.bst.lastEnding) x.slot berth .checkedOut b) ∧
      t.dirtyRecord .station ∧
      (∀ k, s.holding? berth = some k → k.serial = some serial → ∀ bb, s.berth? berth = some bb →
        ∀ o ∈ t.pbc.outlets, o.number ∈ bb.cfg.outlets → o.state = .off) ∧
      t = { s with bst := t.bst, acu := t.acu, pbc := t.pbc, lsu := t.lsu, qlc := t.qlc, tpc := t.tpc, evj := t.evj }

/-- CANCEL removes a RESERVED booking without a statement; EXTEND moves the departure day of a booking and nothing else of
it (R9, R15, R16). -/
def Obligations.CancelAndExtend : Prop :=
  (∀ (s : State) (station berth serial : Nat) (b : Booking), s.ready → s.isHere station → s.finds berth serial b →
    b.state = .reserved →
    ∃ t, exec (.cancel station berth serial) s = .next t ∧
      s.replies t (answer .cancel .ok [.balance b.purse.balance]) ∧
      t.booking? berth serial = none ∧ s.sameBookingsBut t berth serial ∧
      t.bst.statements = s.bst.statements ∧ t.bst.lastEnding = s.bst.lastEnding ∧
      (∀ n, b.slot = some n → t.dirtyRecord (.booking n)) ∧
      t = { s with bst := t.bst, acu := t.acu, pbc := t.pbc, lsu := t.lsu, qlc := t.qlc, tpc := t.tpc, evj := t.evj }) ∧
  (∀ (s : State) (station berth serial departure : Nat) (b : Booking), s.ready → s.fits → s.isHere station →
    s.finds berth serial b → b.stay.arrival < departure → (∀ day, s.today = some day → day < departure) →
    (∀ k, s.behind? berth serial = some k → overlaps b.stay.arrival departure k.stay.arrival k.stay.departure = false) →
    ∃ t, exec (.extend station berth serial departure) s = .next t ∧
      t.tpc = s.tpc.answers (answer .extend .ok [.departure departure]) ∧
      t.booking? berth serial = some { b with stay := { b.stay with departure := departure } } ∧
      s.sameBookingsBut t berth serial ∧ (∀ n, b.slot = some n → t.dirtyRecord (.booking n)) ∧
      t = { s with bst := t.bst, tpc := t.tpc })

/-- SET_TAGS replaces the tags, advances the epoch, and revokes the old tags everywhere (R6, R17, R122). -/
def Obligations.SetTagsRevokesOldTags : Prop :=
  ∀ (s : State) (station berth serial : Nat) (tags : List Tag) (b : Booking), s.ready → s.fits → s.isHere station →
    s.finds berth serial b → badTags tags = false → s.clash? serial tags = none → b.tags ≠ [] →
    s.qlc.queue.length < 16 →
    ∃ t, exec (.setTags station berth serial tags) s = .next t ∧
      t.tpc = s.tpc.sending (answer .setTags .ok) ∧
      t.booking? berth serial = some { b with tags := tags, epoch := b.epoch + 1 } ∧
      s.sameBookingsBut t berth serial ∧ (∀ n, b.slot = some n → t.dirtyRecord (.booking n)) ∧
      (∀ e ∈ t.acu.cache, e.pinned = true ∨ e.record.tag ∉ b.tags) ∧
      (∀ l ∈ t.acu.lookups, l.tag ∈ b.tags → l.marked = true) ∧
      s.queuedWide t ⟨0, 0, .tagRevoke s.cfg.station b.tags⟩ ∧
      t = { s with bst := t.bst, acu := t.acu, qlc := t.qlc, tpc := t.tpc }

/-! ### Chapter 2: purses -/

/-- CREDIT raises balance and credits by the amount and works the standing out again (R27, R40). -/
def Obligations.CreditRaisesBalance : Prop :=
  ∀ (s : State) (station berth serial amount : Nat) (b : Booking), s.ready → s.isHere station → s.finds berth serial b →
    1 ≤ amount → amount ≤ 99999999 → b.purse.balance + amount ≤ 99999999 → b.purse.credits + amount ≤ 281474876710655 →
    ∃ t, exec (.credit station berth serial amount) s = .next t ∧
      (let k := b.withPurse { b.purse with balance := b.purse.balance + amount, credits := b.purse.credits + amount }
       t.booking? berth serial = some k ∧
        s.replies t (answer .credit .ok [.balance k.purse.balance, .available k.purse.available,
          .standing k.purse.standing])) ∧
      s.sameBookingsBut t berth serial ∧
      t = { s with bst := t.bst, acu := t.acu, pbc := t.pbc, lsu := t.lsu, qlc := t.qlc, tpc := t.tpc, evj := t.evj }

/-- BAR sets and UNBAR clears the bar mark, with the standing that follows, and a mark that stands changes nothing; SET_MARKS
sets the low mark and the credit limit; DROP_HOLD removes an entry that is not ACTIVE; each works the standing out again
(R41, R42, R43). -/
def Obligations.MarksBarsAndHoldsAtTheTerminal : Prop :=
  (∀ (s : State) (station berth serial : Nat) (b : Booking) (mark : Bool), s.ready → s.fits → s.isHere station →
    s.finds berth serial b →
    ∃ t, exec (if mark then .bar station berth serial else .unbar station berth serial) s = .next t ∧
      (if b.purse.barred = mark then
        t = s.setTpc (s.tpc.answers (answer (if mark then .bar else .unbar) .ok [.standing b.purse.standing]))
      else
        (let k := b.withPurse { b.purse with barred := mark }
         t.booking? berth serial = some k ∧ (mark = true → k.purse.standing = .barred) ∧
          s.replies t (answer (if mark then .bar else .unbar) .ok [.standing k.purse.standing])) ∧
        s.sameBookingsBut t berth serial ∧
        t = { s with bst := t.bst, acu := t.acu, pbc := t.pbc, lsu := t.lsu, qlc := t.qlc, tpc := t.tpc, evj := t.evj })) ∧
  (∀ (s : State) (station berth serial low limit : Nat) (b : Booking), s.ready → s.isHere station →
    s.finds berth serial b → low ≤ 99999999 → limit ≤ 99999999 →
    ∃ t, exec (.setMarks station berth serial low limit) s = .next t ∧
      (let k := b.withPurse { b.purse with lowMark := low, creditLimit := limit }
       t.booking? berth serial = some k ∧ s.replies t (answer .setMarks .ok [.standing k.purse.standing])) ∧
      s.sameBookingsBut t berth serial ∧
      t = { s with bst := t.bst, acu := t.acu, pbc := t.pbc, lsu := t.lsu, qlc := t.qlc, tpc := t.tpc, evj := t.evj }) ∧
  (∀ (s : State) (station berth serial : Nat) (id : HoldId) (b : Booking) (h : Hold), s.ready → s.isHere station →
    s.finds berth serial b → holdOf? id b.purse.holds = some h → h.state ≠ .active →
    ∃ t, exec (.dropHold station berth serial id) s = .next t ∧
      t.booking? berth serial = some (b.withPurse { b.purse with holds := b.purse.holds.filter fun x => x.id != id }) ∧
      s.replies t (answer .dropHold .ok) ∧ s.sameBookingsBut t berth serial ∧
      t = { s with bst := t.bst, acu := t.acu, pbc := t.pbc, lsu := t.lsu, qlc := t.qlc, tpc := t.tpc, evj := t.evj })

/-! ### Chapter 1: the record store -/

/-- STORE_WRITE_START takes the record at the head, copies its content and begins to write it; a write that reads back equal
puts the copy in its slot and leaves every other place of the store, be it a retry or not. A write that times out or reads
back different enters STORE_FAULT: the record is queued at the head, the retry timer runs 10 s, the retry writes the head
once and its completion ends the fault (R21, R22). That the slot of a write that timed out or read back different holds what
it held or a damaged record, which R22 says of a write a reset cuts off alone, and that a record changed during such a write
is queued once, at the head, are the model's choices (log entries 10 and 44). -/
def Obligations.RecordWrites : Prop :=
  (∀ (s : State) (id : RecordId) (rest : List RecordId), s.bst.fault = false → s.bst.inFlight = none →
    s.cfl.phase = .idle → s.bst.queue = id :: rest →
    exec .storeWriteStart s = .next (s.setBst { s.bst with
      queue := rest, inFlight := some { id := id, copy := s.copyOf id, deadline := s.now + 50 } })) ∧
  (∀ (s : State) (w : WriteInFlight), s.bst.inFlight = some w → w.retry = false → s.store.wf →
    ∃ t, exec (.storeWriteEnd true) s = .next t ∧
      storedAt w.id t.store = w.copy ∧
      (∀ other, placeOf other ≠ placeOf w.id → storedAt other t.store = storedAt other s.store) ∧
      (∀ i, regionByte t.store i = regionByte s.store i) ∧
      t.bst = { s.bst with inFlight := none, queue := if w.changed then s.bst.queue ++ [w.id] else s.bst.queue } ∧
      t = { s with store := t.store, bst := t.bst }) ∧
  (∀ (s : State) (w : WriteInFlight) (timeout : Bool), s.bst.inFlight = some w →
    ∃ t, exec (if timeout then .storeWriteTimeout else .storeWriteEnd false) s = .next t ∧
      t.now = (if timeout then max s.now w.deadline else s.now) ∧
      t.bst = { s.bst with inFlight := none, queue := w.id :: s.bst.queue, fault := true, retryAt := some (t.now + 10000) } ∧
      (s.store.wf → storedAt w.id t.store = storedAt w.id s.store ∨ (storedAt w.id t.store).good = false) ∧
      (∀ other, placeOf other ≠ placeOf w.id → storedAt other t.store = storedAt other s.store) ∧
      (∀ i, regionByte t.store i = regionByte s.store i) ∧
      (if s.bst.fault then t.evj = s.evj else s.journalled t (.storeFault w.id)) ∧
      t = { s with now := t.now, free := t.free, store := t.store, bst := t.bst, evj := t.evj }) ∧
  (∀ (s : State) (d : Nat) (id : RecordId) (rest : List RecordId), s.bst.retryAt = some d → s.bst.inFlight = none →
    s.cfl.phase = .idle → s.bst.queue = id :: rest →
    ∃ t, exec .storeRetryTimer s = .next t ∧ t.now = max s.now d ∧
      t.bst = { s.bst with queue := rest, retryAt := none,
                           inFlight := some ⟨id, s.copyOf id, false, t.now + 50, true⟩ } ∧
      t = { s with now := t.now, bst := t.bst }) ∧
  (∀ (s : State) (w : WriteInFlight), s.bst.inFlight = some w → w.retry = true → s.store.wf →
    ∃ t, exec (.storeWriteEnd true) s = .next t ∧
      storedAt w.id t.store = w.copy ∧
      (∀ other, placeOf other ≠ placeOf w.id → storedAt other t.store = storedAt other s.store) ∧
      (∀ i, regionByte t.store i = regionByte s.store i) ∧
      t.bst = { s.bst with
        inFlight := none, queue := if w.changed then s.bst.queue ++ [w.id] else s.bst.queue
        fault := false, retryAt := none } ∧
      s.journalled t (.storeOk t.bst.queue.length) ∧
      t = { s with store := t.store, bst := t.bst, evj := t.evj })

/-- A TENTATIVE booking whose expiry is reached is removed, and nothing else happens (R8). -/
def Obligations.TentativeExpiryRemovesBooking : Prop :=
  ∀ (s : State) (berth : Nat) (ref : CallRef) (d : Nat), s.up = true → s.tentativeEnd? berth ref = some d →
    ∃ t, exec (.tentativeExpiry berth ref) s = .next t ∧ t.now = max s.now d ∧
      (∀ n, t.berth? n = (s.berth? n).map fun x =>
        if n = berth then
          { x with bookings := x.bookings.filter fun b => !(b.state == .tentative && b.callRef == ref && b.expiry == some d) }
        else x) ∧
      t = { s with now := t.now, bst := t.bst } ∧ t.bst = { s.bst with berths := t.bst.berths }

/-- READ_STATEMENTS carries, at a PONTOON station, the statements above the resume point that the selector asks for, as many
whole ones as the reply limit holds, in the list's order (ascending ending number), and names the last one carried while
some are left; a FUEL or GATE station carries none. Under UNREAD it marks READ exactly those carried and has their slots
written, under ALL it changes nothing (R12, R20, R188). The marks are made in the event of the command, not at the end of
its reply: the model's choice (log entry 18). -/
def Obligations.ReadStatementsMarksWhatItCarries : Prop :=
  ∀ (s : State) (selector : StatementSelector) (resume : Nat), s.ready → s.fits →
    let asked : List Statement :=
      if s.cfg.role = .pontoon then
        s.bst.statements.filter fun x => resume < x.ending && (selector == .all || !x.read)
      else []
    ∃ t r, exec (.readStatements selector resume) s = .next t ∧ t.tpc = s.tpc.sending r ∧
      r.code = .known .readStatements ∧ r.result = .ok ∧ r.gap = false ∧
      Reply.carries r s.tpc.limit (asked.map Item.statement) ∧
      r.resume = (if asked.length ≤ r.items.length then none else (r.items.map itemEnding).getLast?) ∧
      t.bst.statements = s.bst.statements.map (fun x =>
        if selector = .unread ∧ x.slot ∈ r.items.map itemSlot then { x with read := true } else x) ∧
      (selector = .unread → ∀ n ∈ r.items.map itemSlot, t.dirtyRecord (.statement n)) ∧
      t = { s with bst := t.bst, tpc := t.tpc } ∧ (selector = .all → t.bst = s.bst)

/-! ### Chapter 2: holds and settlements -/

/-- A Hold Request for a CURRENT booking: a new one that passes the checks is granted the smaller of the amount and the
available amount and joins the hold list; one that fails a check is refused; a repeat of an ACTIVE entry is granted
again with nothing changed (R33, R34, R35). -/
def Obligations.HoldRequestAnswered : Prop :=
  ∀ (s : State) (ch : Channel) (source : Nat) (sequence : Num8) (id : HoldId) (tag : Tag) (serial amount berth : Nat)
    (b : Booking), s.hears source → s.finds berth serial b → s.holdBooking? serial tag = some (berth, b) →
    s.qlc.queue.length < 14 →
    ∃ t, exec (.holdRequest ch source sequence id tag serial amount) s = .next t ∧ s.sameBookingsBut t berth serial ∧
      t = { s with bst := t.bst, acu := t.acu, pbc := t.pbc, lsu := t.lsu, qlc := t.qlc, evj := t.evj } ∧
      (holdOf? id b.purse.holds = none → holdCheck s.cfg.minimumSale amount b.purse = none →
        s.queued t ch ⟨source, sequence, .holdAnswer id (.granted (min (amount : Int) b.purse.available).toNat)⟩ ∧
        t.booking? berth serial = some (b.withPurse { b.purse with
          holds := addHold ⟨id, .active, (min (amount : Int) b.purse.available).toNat, 0, none⟩ b.purse.holds })) ∧
      (∀ r, holdOf? id b.purse.holds = none → holdCheck s.cfg.minimumSale amount b.purse = some r →
        s.queued t ch ⟨source, sequence, .holdAnswer id (.refused r)⟩ ∧ t.bst = s.bst ∧ t.pbc = s.pbc) ∧
      (∀ h, holdOf? id b.purse.holds = some h → h.state = .active →
        s.queued t ch ⟨source, sequence, .holdAnswer id (.granted h.granted)⟩ ∧ t.bst = s.bst ∧ t.pbc = s.pbc)

/-- A Settle Request for an ACTIVE entry debits the booking and marks the entry SETTLED; for an EXPIRED one it does the same
with LATE_SETTLE; for a SETTLED entry it is answered with the settled amount again and nothing changes; without an entry the
booking is debited with UNMATCHED_SETTLE and keeps a tombstone where HoldListStaysWithinFour finds room; for a serial no live
booking has it is NO_BOOKING (R36, R37, R38, R39). -/
def Obligations.SettleRequestDebitsOnce : Prop :=
  ∀ (s : State) (ch : Channel) (source : Nat) (sequence : Num8) (id : HoldId) (serial amount : Nat), s.hears source →
    s.qlc.queue.length < 14 →
    ∃ t, exec (.settleRequest ch source sequence id serial amount) s = .next t ∧
      t = { s with bst := t.bst, acu := t.acu, pbc := t.pbc, lsu := t.lsu, qlc := t.qlc, evj := t.evj } ∧
      (∀ berth b h, s.finds berth serial b → s.settleBooking? serial = some (berth, b) →
        holdOf? id b.purse.holds = some h →
        (h.state = .active ∨ h.state = .expired →
          s.queued t ch ⟨source, sequence, .settleAnswer id (.settled amount)⟩ ∧ s.sameBookingsBut t berth serial ∧
          t.booking? berth serial = some ((b.debit .fuel amount).withPurse { (b.debit .fuel amount).purse with
            holds := settleEntry id amount b.purse.holds })) ∧
        (h.state = .expired → s.noted t (.lateSettle berth id amount)) ∧
        (h.state = .settled →
          s.queued t ch ⟨source, sequence, .settleAnswer id (.settled (h.settled.getD 0))⟩ ∧ t.bst = s.bst)) ∧
      (∀ berth b, s.finds berth serial b → s.settleBooking? serial = some (berth, b) → holdOf? id b.purse.holds = none →
        s.queued t ch ⟨source, sequence, .settleAnswer id (.settled amount)⟩ ∧ s.sameBookingsBut t berth serial ∧
        s.noted t (.unmatchedSettle berth id amount) ∧
        t.booking? berth serial = some ((b.debit .fuel amount).withPurse { (b.debit .fuel amount).purse with
          holds :=
            if (b.purse.holds.filter fun h => h.state != .settled).length < 4 then
              addHold ⟨id, .settled, 0, 0, some amount⟩ b.purse.holds
            else b.purse.holds })) ∧
      (s.settleBooking? serial = none →
        s.queued t ch ⟨source, sequence, .settleAnswer id .noBooking⟩ ∧ t.bst = s.bst)

/-- A metered charge takes whole cents off the balance and keeps the milli-cents in the remainder: nothing is lost while
the balance stays above its floor (R29, R30). -/
def Obligations.MeterChargeKeepsMilliCents : Prop :=
  ∀ (s : State) (berth serial units rate : Nat) (k : Charge) (b : Booking), s.booking? berth serial = some b →
    -(floorCents : Int) ≤ b.purse.balance - ((b.purse.remainder + units * rate) / 1000 : Nat) →
    ∃ x, (meterCharge berth serial k units rate s).booking? berth serial = some x ∧ x.purse.remainder ≤ 999 ∧
      1000 * x.purse.balance - x.purse.remainder = 1000 * b.purse.balance - b.purse.remainder - units * rate ∧
      x.openDay.charges + x.purse.balance = b.openDay.charges + b.purse.balance ∧
      x.purse.holds = b.purse.holds ∧ x.purse.credits = b.purse.credits ∧ x.stay = b.stay ∧ x.tags = b.tags

/-- A hold list has room for a new entry, or for a tombstone, only by giving up a SETTLED one: it stays within 4 entries
(R31, R34, R39). -/
def Obligations.HoldListStaysWithinFour : Prop :=
  ∀ (holds : List Hold) (h : Hold), holds.length ≤ 4 →
    (openHolds holds < 4 → (addHold h holds).length ≤ 4 ∧ h ∈ addHold h holds ∧
      ∀ x ∈ holds, x.state ≠ .settled → x ∈ addHold h holds) ∧
    (∀ amount, (addTombstone h.id amount holds).length ≤ 4 ∧
      ∀ x ∈ holds, x.state ≠ .settled → x ∈ addTombstone h.id amount holds)

/-! ### Chapter 3: berth allocation -/

/-- ALLOCATE opens a call: the Berth Call is queued for all stations, an entry COLLECTING stands in the call table with a
window of 250 ms, and the number is given (R46, R47). -/
def Obligations.AllocateOpensCall : Prop :=
  ∀ (s : State) (form : AllocateForm) (request : CallRequest) (day : Nat), s.ready → s.fits → s.today = some day →
    form.request? = some request → day ≤ form.arrival → form.arrival < form.departure → badTags form.tags = false →
    s.alc.openCalls < 4 → s.qlc.queue.length < 16 →
    ∃ t, exec (.allocate form) s = .next t ∧
      t.tpc = s.tpc.answers (answer .allocate .callOpen [.number s.alc.nextCall.toNat]) ∧
      t.alc.nextCall = s.alc.nextCall + 1 ∧
      (∃ c ∈ t.alc.calls, c.number = s.alc.nextCall ∧ c.phase = .collecting ∧ c.request = request ∧
        c.windowAt = some (s.now + 250)) ∧
      s.queuedWide t ⟨0, 0, .berthCall ⟨s.cfg.station, s.alc.nextCall⟩ request.body⟩ ∧
      t = { s with bst := t.bst, alc := t.alc, qlc := t.qlc, tpc := t.tpc }

/-- A Berth Call is answered with an offer of the best berth, on which a TENTATIVE booking now stands; a station with no
candidate answers nothing (R49, R52). -/
def Obligations.BerthCallPlacesTentative : Prop :=
  ∀ (s : State) (ch : Channel) (source : Nat) (ref : CallRef) (body : CallBody), s.hears source →
    ref.asker ≠ s.cfg.station → s.cfg.role = .pontoon → s.answered ref body.stay = false → s.tentatives < 4 →
    ∃ t, exec (.berthCall ch source ref body) s = .next t ∧
      t = { s with bst := t.bst, qlc := t.qlc, evj := t.evj } ∧ t.bst = { s.bst with berths := t.bst.berths } ∧
      (∀ b, s.bestBerth? body = some b → s.qlc.queue.length < 16 →
        s.queued t ch ⟨ref.asker, 0, .berthOffer ref b.cfg.number (costOf s.cfg body b)⟩ ∧
        ∀ n, t.berth? n = (s.berth? n).map fun x =>
          if n = b.cfg.number then
            let k := tentativeBooking s.cfg ref body.stay (s.now + s.cfg.tentativeTime * 1000)
            { x with bookings := insertBooking k x.bookings }
          else x) ∧
      (s.bestBerth? body = none → t.bst = s.bst ∧ t.qlc.queue.length = s.qlc.queue.length)

/-- The berth offered is a candidate, and no candidate costs less, nor the same with a lower number (R50, R51). -/
def Obligations.OfferIsCheapestCandidate : Prop :=
  ∀ (s : State) (call : CallBody) (b : Berth), s.bestBerth? call = some b →
    b ∈ s.bst.berths ∧ candidate s.cfg call b = true ∧
      ∀ x ∈ s.bst.berths, candidate s.cfg call x = true →
        costOf s.cfg call b < costOf s.cfg call x ∨
          (costOf s.cfg call b = costOf s.cfg call x ∧ b.cfg.number ≤ x.cfg.number)

/-- A Berth Offer for a COLLECTING call of this station joins its list in cost order. At the end of the window a call
without offers finishes NO_BERTH; a head offer of another station is asked for in a Berth Take, and refused LINK_BUSY it is
removed and the call goes on with the next; this station's own head offer is taken at once: the TENTATIVE booking is
converted, or a repeat found, and the call finishes ALLOCATED, or a tag in use or a missing TENTATIVE booking removes the
offer and the call goes on with the next. A finished call closes with a Berth Close, and its TENTATIVE bookings here go but
for the winner's (R53, R54, R55, R56, R57, R58, R59, R60). -/
def Obligations.OffersAreCollectedAndTaken : Prop :=
  (∀ (s : State) (ch : Channel) (source : Nat) (ref : CallRef) (berth cost : Nat) (c : Call), s.hears source →
    ref.asker = s.cfg.station → s.call? ref.number = some c → c.phase = .collecting →
    (∀ o ∈ c.offers, ¬(o.station = source ∧ o.berth = berth)) →
    ∃ t, exec (.berthOffer ch source ref berth cost) s = .next t ∧
      t.call? ref.number = some { c with offers := (insertBy Offer.le ⟨source, berth, cost⟩ c.offers).take 30 } ∧
      t = { s with alc := t.alc, qlc := t.qlc, evj := t.evj }) ∧
  (∀ (s : State) (n : Num8) (c : Call) (d : Nat), s.up = true → s.fits → s.call? n = some c → c.phase = .collecting →
    c.windowAt = some d →
    ∃ t, exec (.windowExpiry n) s = .next t ∧ t.now = max s.now d ∧
      (∀ m, m ≠ n → t.call? m = s.call? m) ∧ t.alc = { s.alc with calls := t.alc.calls, finished := t.alc.finished } ∧
      t = { s with now := t.now, bst := t.bst, alc := t.alc, pbc := t.pbc, lsu := t.lsu, qlc := t.qlc, evj := t.evj } ∧
      s.takesOffers t n c c.offers [])

/-- An accepted Take converts the TENTATIVE booking: the next serial, the tags and name of the Take, RESERVED or CURRENT
by the clock, the call reference kept, the counter one on (R4, R5, R56). -/
def Obligations.TakeConvertsTentative : Prop :=
  ∀ (s : State) (ch : Channel) (source : Nat) (sequence : Num8) (ref : CallRef) (berth : Nat) (stay : Stay)
    (tags : List Tag) (name : Option BoatName) (b : Berth), s.hears source → s.cfg.role = .pontoon →
    s.berth? berth = some b → takeRepeat? ref stay b = none →
    (∃ k ∈ b.bookings, k.state = .tentative ∧ k.callRef = ref ∧ k.stay = stay) → s.takenTag? tags = none →
    s.nextSerialGiven ∉ s.serials →
    ∃ t, exec (.berthTake ch source sequence ref berth stay tags name) s = .next t ∧
      (∃ k, t.booking? berth s.nextSerialGiven = some k ∧ k.state = s.conversionState stay.arrival ∧
        k.callRef = ref ∧ k.stay = stay ∧ k.tags = tags ∧ k.name = name ∧ k.expiry = none ∧
        k.slot = some ((lowestFree s.slotsUsed 1 256).getD 0)) ∧
      t.bst.nextSerial = serialAfter s.nextSerialGiven ∧ t.dirtyRecord .station ∧
      (s.conversionState stay.arrival = .reserved → s.qlc.queue.length < 16 →
        s.queued t ch ⟨source, sequence, .takeAnswer ref berth (.accept s.nextSerialGiven)⟩) ∧
      t = { s with bst := t.bst, pbc := t.pbc, lsu := t.lsu, qlc := t.qlc, evj := t.evj }

/-- A Take Answer ACCEPT finishes its call ALLOCATED; REFUSE and TAG_IN_USE, which writes TAG_CLASH, remove the head offer,
and the call takes the next one, or finishes NO_BERTH without one; a Berth Close removes the TENTATIVE bookings of its call,
but for the winner's at this station. What ALC works on is the station once the frame has been heard and the request has left
the table, its frame withdrawn if it still waited; a frame heard may bring its own channel UP and take the other one DOWN, and
what waited on that one alone then stands on the channel of the frame, with the channel of its request (R55, R58, R59, R60,
R170, R171, R177, R178, R180). That CHANNEL_UP then comes before CHANNEL_DOWN is the model's choice (log entry 66). -/
def Obligations.AnswersAndClosesEndCalls : Prop :=
  let answered (s u : State) (ch : Channel) (p : Pending) : Prop :=
    u = { s with qlc := u.qlc, evj := u.evj } ∧
    u.qlc.requests = (s.requestsHeard ch).filter (fun x => x.sequence != p.sequence) ∧
    u.qlc.queue = (s.queueHeard ch).filter (fun e => !(p.entry == some e.id && s.qlc.waits e.id)) ∧
    u.qlc.nextEntry = s.qlc.nextEntry ∧ s.journalledAll u (s.heardReports ch) ∧
    (s.heardReports ch = [] → u.evj = s.evj)
  (∀ (s : State) (ch : Channel) (source : Nat) (sequence : Num8) (ref : CallRef) (berth serial : Nat) (p : Pending)
    (n : Num8) (c : Call) (st place : Nat), s.hears source →
    s.matching? source sequence (.takeAnswer ref berth (.accept serial)) = some p → p.originator = .call n →
    s.call? n = some c → c.inFlight = some (st, place) →
    ∃ t, exec (.takeAnswer ch source sequence ref berth (.accept serial)) s = .next t ∧
      (let u := closeRequest p (heardOn ch s)
       answered s u ch p ∧ u.finishes t n (.allocated st place serial) ∧
        u.released t ⟨s.cfg.station, n⟩ (if st = s.cfg.station then some place else none) ∧
        u.journalledAll t [.callDone n (.allocated st place serial)]) ∧
      (∀ x ∈ t.qlc.requests, x.sequence ≠ sequence) ∧
      t = { s with bst := t.bst, alc := t.alc, qlc := t.qlc, evj := t.evj }) ∧
  (∀ (s : State) (ch : Channel) (source : Nat) (sequence : Num8) (ref : CallRef) (berth : Nat) (result : TakeResult)
    (p : Pending) (n : Num8) (c : Call) (st place : Nat), s.hears source →
    s.matching? source sequence (.takeAnswer ref berth result) = some p → p.originator = .call n →
    s.call? n = some c → c.inFlight = some (st, place) →
    ∃ t, exec (.takeAnswer ch source sequence ref berth result) s = .next t ∧
      (let u := closeRequest p (heardOn ch s)
       answered s u ch p ∧ (result = .refuse → u.takesOffers t n c c.offers.tail []) ∧
        (∀ tag, result = .tagInUse tag →
          u.takesOffers t n c c.offers.tail [.tagClash tag (some (st, place)) (some n)])) ∧
      t = { s with bst := t.bst, alc := t.alc, pbc := t.pbc, lsu := t.lsu, qlc := t.qlc, evj := t.evj }) ∧
  (∀ (s : State) (ch : Channel) (source : Nat) (ref : CallRef) (winner : Option (Nat × Nat)), s.hears source →
    ∃ t, exec (.berthClose ch source ref winner) s = .next t ∧
      (∀ n, t.berth? n = (s.berth? n).map fun x =>
        if winner = some (s.cfg.station, n) then x
        else { x with bookings := x.bookings.filter fun b => !(b.state == .tentative && b.callRef == ref) }) ∧
      t.bst = { s.bst with berths := t.bst.berths } ∧ t = { s with bst := t.bst, qlc := t.qlc, evj := t.evj })

/-! ### Chapter 4: sharing the feeder -/

/-- The shares of a computation never add up to more than L. Where the floors exceed L each participant gets its floor times L
by the sum of the floors, rounded down; where floors and excesses fit, its whole floor and excess; otherwise its floor and the
smaller of its excess and the water level, the largest that fits the spare, and one more for the first of those above the
level while some of the spare is left, so that the shares add up to L (R69, R70, R72, R73). A computation takes the list of
its participants in ascending number, the real stations before the virtual ones, numbered 31 and upwards, with excesses of at
most 60,000 (R68, R69, R73). -/
def Obligations.SharesFillTheLimit : Prop :=
  (∀ (limit : Nat) (ps : List Participant), (∀ p ∈ ps, p.excess ≤ 60000) →
    let shares : List Participant := computeShares limit ps
    let excesses := (ps.map Participant.excess).sum
    (shares.map Participant.share).sum ≤ limit ∧
    (limit < floorSum ps →
      ∀ (i : Nat) (p : Participant), ps[i]? = some p → shares[i]? = some { p with share := p.floor * limit / floorSum ps }) ∧
    (floorSum ps ≤ limit → ∀ p ∈ shares, p.floor ≤ p.share ∧ p.share ≤ p.floor + p.excess) ∧
    (floorSum ps + excesses ≤ limit →
      ∀ (i : Nat) (p : Participant), ps[i]? = some p → shares[i]? = some { p with share := p.floor + p.excess }) ∧
    (floorSum ps ≤ limit → limit < floorSum ps + excesses →
      (shares.map Participant.share).sum = limit ∧
      ∃ w left, (∀ v, v ≤ w ↔ (ps.map fun p => min p.excess v).sum ≤ limit - floorSum ps) ∧
        (ps.map fun p => min p.excess w).sum + left = limit - floorSum ps ∧
        left < (ps.filter fun p => w < p.excess).length ∧
        ∀ (i : Nat) (p : Participant), ps[i]? = some p →
          let ahead := ((ps.take i).filter fun q => w < q.excess).length
          shares[i]? = some { p with
            share := p.floor + min p.excess w + (if w < p.excess ∧ ahead < left then 1 else 0) }) ∧
    shares.map Participant.number = ps.map Participant.number) ∧
  (∀ (s : State) (cause : Nat), s.cfg.station ≤ 30 → (∀ p ∈ s.qlc.peers, p.number ≤ 30) →
    (compute cause s).lsu.participants = computeShares s.cfg.feederLimit s.participants ∧
    (s.participants.map Participant.number).Pairwise (· ≤ ·) ∧
    ∀ p ∈ s.participants, (p.kind = .virtual ↔ 31 ≤ p.number) ∧ p.excess ≤ 60000)

/-- The computation takes this station's share as computed allotment: below A, A falls to it at once; equal to A, the raise
timer stops; above A, A stays and the raise timer runs, from now if it was stopped. The journal takes FLOORS_OVER where the
floors exceed L and the condition was clear, FLOORS_CLEARED where they fit and it was set, each with the sum of the floors and
L, and then ALLOTMENT_CUT with the old and new A where A falls by more than H; of these that apply, nothing else (R71, R74, R76,
R77, R87). -/
def Obligations.ComputationMovesAllotment : Prop :=
  ∀ (s : State) (cause : Nat),
    (compute cause s).lsu.computed = shareOf s.cfg.station (computeShares s.cfg.feederLimit s.participants) ∧
    (compute cause s).lsu.applied = min s.lsu.applied (compute cause s).lsu.computed ∧
    (compute cause s).lsu.raiseAt =
      (if (compute cause s).lsu.computed ≤ s.lsu.applied then none
       else some (s.lsu.raiseAt.getD (s.now + s.cfg.raiseTime * 1000))) ∧
    (compute cause s).lsu.floorsOver = decide (s.cfg.feederLimit < floorSum s.participants) ∧
    (compute cause s).lsu.participants = computeShares s.cfg.feederLimit s.participants ∧
    (let floors := (s.participants.map Participant.floor).sum
     let computed := (compute cause s).lsu.computed
     let notes : List Report :=
       (if s.cfg.feederLimit < floors ∧ s.lsu.floorsOver = false then [.floorsOver floors s.cfg.feederLimit] else []) ++
       (if floors ≤ s.cfg.feederLimit ∧ s.lsu.floorsOver = true then [.floorsCleared floors s.cfg.feederLimit] else []) ++
       (if computed + s.cfg.hysteresis < s.lsu.applied then [.allotmentCut cause s.lsu.applied computed] else [])
     s.journalledAll (compute cause s) notes ∧ (notes = [] → (compute cause s).evj = s.evj)) ∧
    (compute cause s).lsu = { s.lsu with
      computed := (compute cause s).lsu.computed, applied := (compute cause s).lsu.applied
      raiseAt := (compute cause s).lsu.raiseAt, floorsOver := (compute cause s).lsu.floorsOver
      participants := (compute cause s).lsu.participants } ∧
    compute cause s = { s with lsu := (compute cause s).lsu, evj := (compute cause s).evj }

/-- COMPUTATION_TIMER runs the computation and sets its next second; RAISE_TIMER raises A to a higher computed allotment
and stops, where no outlet waits for power; the first ends with the posts fitted to A (R75, R78, R100). -/
def Obligations.FeederTimers : Prop :=
  (∀ (s : State), s.up = true →
    exec .computationTimer s = .next (settled s (compute 0
      { s with now := max s.now s.lsu.computationAt, lsu := { s.lsu with computationAt := s.lsu.computationAt + 1000 } }))) ∧
  (∀ (s : State) (d : Nat), s.up = true → s.fits → s.lsu.raiseAt = some d →
    (∀ o ∈ s.pbc.outlets, o.state ≠ .waiting ∧ o.state ≠ .shed) →
    exec .raiseTimer s = .next { s with
      now := max s.now d, lsu := { s.lsu with raiseAt := none, applied := max s.lsu.applied s.lsu.computed } })

/-! ### Chapter 5: posts, outlets and taps -/

/-- ENERGISE on an OFF outlet whose booking may have power leaves it wanted and WAITING, or LIVE or SHED by the restore pass
that follows; OFF turns a LIVE, WAITING, SHED or SUSPENDED outlet OFF and clears the wanted flag (R95, R96, R108). -/
def Obligations.EnergiseAndOff : Prop :=
  ∀ (s : State) (station berth place : Nat) (bb : Berth) (o : Outlet) (b : Booking), s.ready → s.isHere station →
    s.cfg.role = .pontoon → s.berth? berth = some bb → s.outletAt? bb place = some o → o.berth = some berth →
    s.holding? berth = some b → s.booking? berth (b.serial.getD 0) = some b →
    (o.state = .off → b.purse.standing = .good ∨ b.purse.standing = .low →
      ∃ t, exec (.energise station berth place) s = .next t ∧
        s.replies t (answer .energise .ok [.outletState .waiting]) ∧
        (∃ x, t.outlet? o.number = some x ∧ (x.state = .waiting ∨ x.state = .live ∨ x.state = .shed)) ∧
        t.booking? berth (b.serial.getD 0) = some (b.setWanted (s.placeIn berth o.number) true) ∧
        t = { s with bst := t.bst, pbc := t.pbc, lsu := t.lsu, qlc := t.qlc, tpc := t.tpc, evj := t.evj }) ∧
    (o.state = .live ∨ o.state = .waiting ∨ o.state = .shed ∨ o.state = .suspended →
      ∃ t, exec (.off station berth place) s = .next t ∧ s.replies t (answer .off .ok) ∧
        (∀ x ∈ t.pbc.outlets, x.number = o.number → x.state = .off) ∧
        t.booking? berth (b.serial.getD 0) = some (b.setWanted (s.placeIn berth o.number) false) ∧
        t = { s with bst := t.bst, pbc := t.pbc, lsu := t.lsu, qlc := t.qlc, tpc := t.tpc, evj := t.evj })

/-- RESET_OUTLET returns a TRIPPED outlet without a reported fault to OFF, and answers FAULT_PRESENT while the fault is
reported; CLEAR_LEAK clears a tap's leak mark and count (R97, R104, R108). -/
def Obligations.ResetOutletAndClearLeak : Prop :=
  (∀ (s : State) (station berth place : Nat) (bb : Berth) (o : Outlet), s.ready → s.fits → s.isHere station →
    s.cfg.role = .pontoon → s.berth? berth = some bb → s.outletAt? bb place = some o → o.state = .tripped →
    ∃ t, exec (.resetOutlet station berth place) s = .next t ∧
      (if o.faultSeen then t = s.setTpc (s.tpc.sending (answer .resetOutlet .faultPresent))
       else s.replies t (answer .resetOutlet .ok) ∧ (∀ x ∈ t.pbc.outlets, x.number = o.number → x.state = .off) ∧
         t = { s with pbc := t.pbc, lsu := t.lsu, qlc := t.qlc, tpc := t.tpc, evj := t.evj })) ∧
  (∀ (s : State) (station berth : Nat) (bb : Berth) (p : Tap) (n : Nat), s.ready → s.fits → s.isHere station →
    s.cfg.role = .pontoon → s.berth? berth = some bb → bb.cfg.tap = some n → s.tap? n = some p →
    ∃ t, exec (.clearLeak station berth) s = .next t ∧ t.tpc = s.tpc.sending (answer .clearLeak .ok) ∧
      t.tap? n = some { p with leakMark := false, leakCount := 0 } ∧
      (if p.leakMark then s.journalled t (.leakCleared n) else t.evj = s.evj) ∧
      s.sameTapsBut t n ∧ t = { s with pbc := t.pbc, tpc := t.tpc, evj := t.evj })

/-- A round begins every second with a Poll to the lowest post; a miss is counted, the third in a row makes the post OFFLINE;
a good Answer of the polled post makes it ONLINE with no misses, the restart number of the Answer, and now as its last
good time; the next post is polled (R89, R90, R91, R92). What the Answer does is given step by step, for all states. The
meters: a new baseline, a METER_JUMP above 5 units or 2 litres a second, a charge to the holding booking with nothing lost,
or USAGE_UNASSIGNED (R105, R106, R107). The leak count of a tap that is not OPEN (R104). The smoothed current of a LIVE
outlet and its trips (R93, R97). The presses of the buttons and reset keys (R94, R95, R96, R97, R103). That a round begun while
one runs starts at the lowest post (log entry 29), and within a reading the order of its parts, a reported fault before the
over-current count, the smoothing before the trip, the clamp of the current in the trip's entry, and LEAK before the
unassigned usage (log entry 30), POST_ONLINE and POST_OFFLINE behind an ALLOTMENT_CUT (log entries 93 and 94), OUTLET_TRIPPED
behind one (log entry 95), and the lamp of a Poll sent exactly 5 s after a refusal (log entry 84), are the model's choices. -/
def Obligations.PollRoundsMissesAndAnswers : Prop :=
  (∀ (s : State) (p : Post) (rest : List Post), s.up = true → s.pbc.posts = p :: rest →
    ∃ t, exec .pollRoundTimer s = .next t ∧ t.now = max s.now s.pbc.roundAt ∧
      t.pbc = { s.pbc with
        roundAt := s.pbc.roundAt + 1000, polling := some p.cfg.number, toPoll := rest.map fun x => x.cfg.number,
        poll := some (t.pollOf p) } ∧
      t = { s with now := t.now, pbc := t.pbc }) ∧
  (∀ (s : State) (n : Nat) (p : Post), s.up = true → s.pbc.polling = some n → s.post? n = some p → p.state ≠ .offline →
    ∃ t, exec .postMiss s = .next t ∧
      t.post? n = some (if 2 ≤ p.misses then { p with misses := 3, state := .offline }
        else { p with misses := p.misses + 1 }) ∧
      (∀ m rest, s.pbc.toPoll = m :: rest → t.pbc.polling = some m ∧ t.pbc.toPoll = rest) ∧
      (s.pbc.toPoll = [] → t.pbc.polling = none ∧ t.pbc.firstRound = true) ∧
      t = { s with pbc := t.pbc, lsu := t.lsu, qlc := t.qlc, evj := t.evj }) ∧
  (∀ (s : State) (n : Nat) (p : Post) (a : PostAnswer), s.up = true → s.pbc.polling = some n → s.post? n = some p →
    ∃ t, exec (.postAnswer n a) s = .next t ∧
      (let restarted := p.restart != some a.restart
       let elapsed := max 1 (s.seconds - p.lastGood.getD s.seconds)
       let fresh := restarted || p.state == .offline
       let outlets := (p.cfg.outlets.map OutletCfg.number).zip a.outlets
       let taps := p.cfg.taps.zip a.taps
       let energies := outlets.foldl (fun x r => meterOutlet restarted elapsed r.1 r.2.energy x) (postHeard p a.restart s)
       let volumes := taps.foldl (fun x r => meterTap restarted elapsed r.1 r.2.volume x) energies
       let currents := outlets.foldl (fun x r => currentOutlet r.1 r.2 x) volumes
       let buttons := outlets.foldl (fun x r => pressesOutlet fresh r.1 r.2 x) currents
       let answered := settlePosts (taps.foldl (fun x r => pressesTap fresh r.1 r.2 x) buttons)
       t = nextPoll (changePost n (fun x => { x with lastGood := some s.seconds }) answered)) ∧
      t.post? n = some { p with misses := 0, state := .online, restart := some a.restart, lastGood := some s.seconds } ∧
      (∀ m rest, s.pbc.toPoll = m :: rest → t.pbc.polling = some m ∧ t.pbc.toPoll = rest) ∧
      t = { s with bst := t.bst, acu := t.acu, pbc := t.pbc, lsu := t.lsu, qlc := t.qlc, evj := t.evj }) ∧
  (∀ (s : State) (restarted : Bool) (elapsed n : Nat) (sample : Count16) (o : Outlet), s.outlet? n = some o →
    let t := meterOutlet restarted elapsed n sample s
    let based : Outlet := { o with energyBase := some sample }
    (∀ m, m ≠ n → ((s.outlet? m).map Outlet.energyBase) = ((t.outlet? m).map Outlet.energyBase)) ∧
    (o.energyBase = none ∨ restarted = true →
      t.outlet? n = some based ∧ s.sameOutletsBut t n ∧ t = { s with pbc := t.pbc }) ∧
    (∀ b, o.energyBase = some b → restarted = false →
      let d := (sample - b).toNat
      (5 * elapsed < d → t.outlet? n = some based ∧ s.sameOutletsBut t n ∧ s.journalled t (.meterJump (.outlet n) b sample) ∧
        t = { s with pbc := t.pbc, evj := t.evj }) ∧
      (d = 0 → t.outlet? n = some based ∧ s.sameOutletsBut t n ∧ t = { s with pbc := t.pbc }) ∧
      (0 < d → d ≤ 5 * elapsed → s.holder? o.berth = none →
        t.outlet? n = some based ∧ s.journalled t (.usageUnassigned (.outlet n) d) ∧
        t.pbc = { s.pbc with
          outlets := t.pbc.outlets, unassignedEnergy := min top32 (s.pbc.unassignedEnergy + d) } ∧
        t = { s with pbc := t.pbc, evj := t.evj }) ∧
      (∀ berth serial k, 0 < d → d ≤ 5 * elapsed → s.holder? o.berth = some (berth, k) → k.serial = some serial →
        s.booking? berth serial = some k →
        let rate := (s.cfg.tariff s.dck.inForce).energyRate
        k.purse.balance - ((k.purse.remainder + d * rate) / 1000 : Nat) ≥ -(floorCents : Int) →
        (∃ x, t.outlet? n = some x ∧ x.energyBase = some sample) ∧
        ∃ x, t.booking? berth serial = some x ∧ x.energy = min top32 (k.energy + d) ∧
          x.openDay.energy = min top32 (k.openDay.energy + d) ∧ x.water = k.water ∧
          1000 * x.purse.balance - x.purse.remainder = 1000 * k.purse.balance - k.purse.remainder - d * rate ∧
          x.purse.power + x.purse.balance = k.purse.power + k.purse.balance ∧ x.purse.remainder ≤ 999))) ∧
  (∀ (s : State) (restarted : Bool) (elapsed n : Nat) (sample : Count16) (p : Tap), s.tap? n = some p →
    let t := meterTap restarted elapsed n sample s
    let based : Tap := { p with volumeBase := some sample }
    (p.volumeBase = none ∨ restarted = true →
      t.tap? n = some based ∧ s.sameTapsBut t n ∧ t = { s with pbc := t.pbc }) ∧
    (∀ b, p.volumeBase = some b → restarted = false →
      let d := (sample - b).toNat
      let count := min top16 (p.leakCount + d)
      (2 * elapsed < d → t.tap? n = some based ∧ s.sameTapsBut t n ∧ s.journalled t (.meterJump (.tap n) b sample) ∧
        t = { s with pbc := t.pbc, evj := t.evj }) ∧
      (d ≤ 2 * elapsed → p.state = .opened → ∃ x, t.tap? n = some x ∧ x.volumeBase = some sample ∧
        x.leakMark = p.leakMark) ∧
      (d ≤ 2 * elapsed → p.state ≠ .opened → ∃ x, t.tap? n = some x ∧ x.volumeBase = some sample ∧ x.leakCount = count ∧
        x.leakMark = (p.leakMark || decide (5 < count))) ∧
      (0 < d → d ≤ 2 * elapsed → s.holder? p.berth = none →
        t.pbc = { s.pbc with taps := t.pbc.taps, unassignedWater := min top32 (s.pbc.unassignedWater + d) } ∧
        s.journalledAll t ((if p.state ≠ .opened ∧ 5 < count ∧ p.leakMark = false then [.leak n count p.berth] else []) ++
          [.usageUnassigned (.tap n) d]) ∧
        t = { s with pbc := t.pbc, evj := t.evj }) ∧
      (∀ berth serial k, 0 < d → d ≤ 2 * elapsed → s.holder? p.berth = some (berth, k) → k.serial = some serial →
        s.booking? berth serial = some k →
        let rate := (s.cfg.tariff s.dck.inForce).waterRate
        k.purse.balance - ((k.purse.remainder + d * rate) / 1000 : Nat) ≥ -(floorCents : Int) →
        ∃ x, t.booking? berth serial = some x ∧ x.water = min top32 (k.water + d) ∧
          x.openDay.water = min top32 (k.openDay.water + d) ∧ x.energy = k.energy ∧
          1000 * x.purse.balance - x.purse.remainder = 1000 * k.purse.balance - k.purse.remainder - d * rate ∧
          x.purse.water + x.purse.balance = k.purse.water + k.purse.balance ∧ x.purse.remainder ≤ 999))) ∧
  (∀ (s : State) (n : Nat) (r : OutletReading) (o : Outlet), s.outlet? n = some o →
    let t := currentOutlet n r s
    let m := min 1000 r.current
    let above := o.rating.limit < m
    let seen : Outlet := { o with faultSeen := r.fault }
    let smooth : Outlet := { seen with smoothed := (3 * o.smoothed + m + 2) / 4 }
    let trips (before : Outlet) (cause : TripCause) : Prop :=
      t.outlet? n = some { before with state := .tripped, join := none, restAt := none, overCurrent := 0 } ∧
        t.lastReport = some (.outletTripped n cause m) ∧
        ∀ berth serial k, s.holder? o.berth = some (berth, k) → k.serial = some serial → s.booking? berth serial = some k →
          t.booking? berth serial = some (k.setWanted (s.placeIn berth n) false)
    (o.state = .live → r.fault = true → trips smooth .fault) ∧
    (o.state = .live → r.fault = false → above → 2 ≤ o.overCurrent → trips smooth .overCurrent) ∧
    (o.state = .live → r.fault = false → (above → o.overCurrent < 2) →
      t.outlet? n = some { smooth with overCurrent := if above then o.overCurrent + 1 else 0 } ∧ t.bst = s.bst) ∧
    (o.state ≠ .live → r.fault = true → o.state ≠ .tripped → trips seen .fault) ∧
    (o.state ≠ .live → r.fault = false ∨ o.state = .tripped → t.outlet? n = some seen ∧ t = { s with pbc := t.pbc }) ∧
    s.sameOutletsBut t n ∧ t = { s with bst := t.bst, pbc := t.pbc, lsu := t.lsu, qlc := t.qlc, evj := t.evj }) ∧
  (∀ (s : State) (fresh : Bool) (n : Nat) (r : OutletReading) (o : Outlet), s.outlet? n = some o →
    let delta (base : Option Num8) (count : Num8) : Nat :=
      if fresh then 0 else (base.map fun b => (count - b).toNat).getD 0
    pressesOutlet fresh n r s = times (pressOutlet n) (delta o.pressBase r.presses)
      (times (pressReset n) (delta o.resetBase r.resets)
        (patchOutlet n (fun x => { x with resetBase := some r.resets, pressBase := some r.presses }) s))) ∧
  (∀ (s : State) (n : Nat) (o : Outlet), s.outlet? n = some o →
    let t := pressOutlet n s
    let refused (why : ServiceRefusal) : Prop :=
      t.outlet? n = some { o with refusedUntil := some (s.now + 5000) } ∧ s.sameOutletsBut t n ∧
        s.journalled t (.outletRefused n why o.berth) ∧ t = { s with pbc := t.pbc, evj := t.evj }
    let wants (v : Bool) : Prop :=
      ∀ berth serial k, s.holder? o.berth = some (berth, k) → k.serial = some serial → s.booking? berth serial = some k →
        t.booking? berth serial = some (k.setWanted (s.placeIn berth n) v)
    (o.state = .off →
      (s.holder? o.berth = none → refused .noBooking) ∧
      (∀ h, s.holder? o.berth = some h →
        (h.2.purse.standing = .arrears ∨ h.2.purse.standing = .barred → refused .standing) ∧
        (h.2.purse.standing = .good ∨ h.2.purse.standing = .low → wants true ∧
          t.outlet? n = some { o with state := .waiting, join := some s.pbc.counter, restAt := none } ∧
          t.pbc = { s.pbc with outlets := t.pbc.outlets, counter := bump32 s.pbc.counter }))) ∧
    (o.state = .waiting ∨ o.state = .shed ∨ o.state = .live ∨ o.state = .suspended → wants false ∧
      t.outlet? n = some { o with state := .off, join := none, restAt := none } ∧ s.sameOutletsBut t n) ∧
    (o.state = .tripped → t = s) ∧
    (let u := pressReset n s
     (o.state = .tripped → o.faultSeen = false →
        u.outlet? n = some { o with state := .off, join := none, restAt := none } ∧ s.sameOutletsBut u n ∧ u.bst = s.bst) ∧
     (o.state ≠ .tripped ∨ o.faultSeen = true → u = s))) ∧
  (∀ (s : State) (fresh : Bool) (n : Nat) (r : TapReading) (p : Tap), s.tap? n = some p →
    pressesTap fresh n r s =
      times (pressTap n) (if fresh then 0 else (p.pressBase.map fun b => (r.presses - b).toNat).getD 0)
        (changeTap n (fun x => { x with pressBase := some r.presses }) s)) ∧
  (∀ (s : State) (n : Nat) (p : Tap), s.tap? n = some p →
    let t := pressTap n s
    let refused (why : ServiceRefusal) : Prop :=
      t.tap? n = some { p with refusedUntil := some (s.now + 5000) } ∧ s.journalled t (.tapRefused n why)
    (p.state = .opened → t.tap? n = some { p with state := .closed, runAt := none, leakCount := 0 } ∧ t.evj = s.evj) ∧
    (p.state = .locked → refused .standing) ∧
    (p.state = .closed → p.leakMark = true → refused .leak) ∧
    (p.state = .closed → p.leakMark = false → s.holder? p.berth = none → refused .noBooking) ∧
    (∀ h, p.state = .closed → p.leakMark = false → s.holder? p.berth = some h →
      (h.2.purse.standing = .barred → refused .standing) ∧
      (h.2.purse.standing ≠ .barred → t.evj = s.evj ∧
        t.tap? n = some { p with state := .opened, runAt := some (s.now + s.cfg.runLimit * 60000) })) ∧
    s.sameTapsBut t n ∧ t = { s with pbc := t.pbc, evj := t.evj })

/-- REST_TIMER removes the rest expiry and runs a restore pass; TAP_RUN_TIMER closes an OPEN tap; REFUSED_LAMP_EXPIRY ends a
REFUSED pattern (R90, R102, R103). While K is above A the LIVE outlet of the lowest class, and in it of the highest energise
number, is SHED, with its rest timer, and its claim leaves K (R100). The restore queue holds the WAITING and the SHED
outlets, the highest class first, then the lowest key (R99). A restore pass goes through it: it skips an outlet that rests,
switches one LIVE whose claim fits, with the next energise number, and stops at the first whose claim does not fit (R101); a
start claim is compared as it is and joins K rounded up to a multiple of 10 (R93; log entry 82). The end of an event sheds and
then runs a pass, and does so again while the pass leaves K above A, when A, K or the queue has changed or K is above A; so K is
then within A, and the first queued outlet that does not rest has a claim that does not fit; which is the model's reading of the
two rules (log entry 27). -/
def Obligations.PostTimers : Prop :=
  (∀ (s : State) (n d : Nat) (o : Outlet), s.up = true → s.outlet? n = some o → o.restAt = some d →
    ∃ u, exec (.restTimer n) s = .next (settlePosts u) ∧ u.outlet? n = some { o with restAt := none } ∧
      u.now = max s.now d ∧ s.sameOutletsBut u n ∧ u = { s with now := u.now, pbc := u.pbc }) ∧
  (∀ (s : State) (n d : Nat) (p : Tap), s.up = true → s.tap? n = some p → p.state = .opened → p.runAt = some d →
    ∃ t, exec (.tapRunTimer n) s = .next t ∧ t.now = max s.now d ∧
      t.tap? n = some { p with state := .closed, runAt := none, leakCount := 0 } ∧
      s.sameTapsBut t n ∧ t = { s with now := t.now, pbc := t.pbc }) ∧
  (∀ (s : State) (n d : Nat) (o : Outlet), s.up = true → s.outlet? n = some o → o.refusedUntil = some d →
    ∃ t, exec (.refusedLampExpiry (.outlet n)) s = .next t ∧ t.now = max s.now d ∧
      t.outlet? n = some { o with refusedUntil := none } ∧ s.sameOutletsBut t n ∧
      t = { s with now := t.now, pbc := t.pbc }) ∧
  (∀ (s : State) (n d : Nat) (p : Tap), s.up = true → s.tap? n = some p → p.refusedUntil = some d →
    ∃ t, exec (.refusedLampExpiry (.tap n)) s = .next t ∧ t.now = max s.now d ∧
      t.tap? n = some { p with refusedUntil := none } ∧ s.sameTapsBut t n ∧
      t = { s with now := t.now, pbc := t.pbc }) ∧
  (∀ (s : State) (k : Nat), s.pbc.committed ≤ s.lsu.applied → shedLoop k s = s) ∧
  (∀ (s : State) (k : Nat) (o : Outlet), (s.pbc.outlets.map Outlet.number).Nodup → s.lsu.applied < s.pbc.committed →
    o ∈ s.pbc.outlets → o.state = .live →
    (∀ x ∈ s.pbc.outlets, x.state = .live → x ≠ o → s.classOf o < s.classOf x ∨
      (s.classOf o = s.classOf x ∧ x.energise.getD 0 < o.energise.getD 0)) →
    ∃ u, shedLoop (k + 1) s = shedLoop k u ∧
      u.outlet? o.number = some { o with state := .shed, join := none, restAt := some (s.now + s.cfg.restTime * 1000) } ∧
      s.sameOutletsBut u o.number ∧ u.pbc.committed + s.pbc.claim o = s.pbc.committed ∧
      s.noted u (.outletShed o.number (s.pbc.claim o) s.lsu.applied) ∧
      u = { s with pbc := u.pbc, lsu := u.lsu, qlc := u.qlc, evj := u.evj }) ∧
  (∀ (s : State),
    s.restoreQueue.Perm (s.pbc.outlets.filter fun o => o.state == .waiting || o.state == .shed) ∧
    s.restoreQueue.Pairwise fun x y =>
      let key (o : Outlet) : Nat := if o.state = .waiting then o.join.getD 0 else o.energise.getD 0
      s.classOf y < s.classOf x ∨ (s.classOf y = s.classOf x ∧ key x ≤ key y)) ∧
  (∀ (s : State) (n : Nat) (rest : List Nat) (o : Outlet), s.outlet? n = some o →
    restoreWalk [] s = s ∧
    (o.restAt ≠ none ∨ (o.state ≠ .waiting ∧ o.state ≠ .shed) → restoreWalk (n :: rest) s = restoreWalk rest s) ∧
    (o.restAt = none → o.state = .waiting ∨ o.state = .shed →
      let claim := if s.pbc.postOffline o.post then o.rating.rating else o.startClaim
      (s.lsu.applied < s.pbc.committed + claim → restoreWalk (n :: rest) s = s) ∧
      (s.pbc.committed + claim ≤ s.lsu.applied →
        ∃ u, restoreWalk (n :: rest) s = restoreWalk rest u ∧
          u.outlet? n = some { o with
            state := .live, smoothed := o.startClaim, overCurrent := 0, energise := some s.pbc.counter, join := none
            restAt := none } ∧
          (∀ m, m ≠ n → u.outlet? m = s.outlet? m) ∧
          u.pbc = { s.pbc with outlets := u.pbc.outlets, counter := bump32 s.pbc.counter } ∧
          ((s.pbc.outlets.map Outlet.number).Nodup → u.pbc.committed = s.pbc.committed +
            if s.pbc.postOffline o.post then o.rating.rating else (o.startClaim + 9) / 10 * 10) ∧
          u = { s with pbc := u.pbc, lsu := u.lsu, qlc := u.qlc, evj := u.evj }))) ∧
  (∀ (before s : State),
    let shed := shedLoop s.pbc.outlets.length s
    let passed := restoreWalk (shed.restoreQueue.map Outlet.number) shed
    let t := settlePosts s
    (passed.fits → t = passed) ∧
    ((s.pbc.outlets.map Outlet.number).Nodup →
      (¬passed.fits → t = settlePosts passed) ∧ t.fits ∧
      ∀ o, (t.restoreQueue.find? fun x => x.restAt.isNone) = some o →
        t.lsu.applied < t.pbc.committed + if t.pbc.postOffline o.post then o.rating.rating else o.startClaim) ∧
    settled before s =
      if s.fits ∧ s.lsu.applied = before.lsu.applied ∧ s.pbc.committed = before.pbc.committed ∧
          s.restoreQueue.map Outlet.number = before.restoreQueue.map Outlet.number then s
      else settlePosts s)

/-! ### Chapter 6: tags -/

/-- A presentation is counted; a reader whose lookup runs is ignored, and a tag whose lookup runs takes one more reader. A
result that is there at once, from a local booking, a pinned or an unexpired entry, or NO_ANSWER where the query cannot be
sent, is delivered in the same event; a tag nothing here knows starts a lookup and a Tag Query to all stations. At a gate the
delivery decides, as DecisionByStateAndMode says, moves a LOCKED or RELEASED gate, counts and records, and raises the escort
notice; at a pump it refuses or begins a sale (R112 to R116, R131 to R134, R144 to R146). -/
def Obligations.PresentationFindsOrAsks : Prop :=
  (∀ (s : State) (n : Nat) (g : Gate) (tag : Tag), s.up = true → s.gate? n = some g →
    ∃ t, exec (.presentation (.gate n) tag) s = .next t ∧
      t = { s with acu := t.acu, gtc := t.gtc, qlc := t.qlc, evj := t.evj } ∧
      t.acu.counts.presentations = min top32 (s.acu.counts.presentations + 1) ∧
      ((∃ l ∈ s.acu.lookups, Reader.gate n ∈ l.waiting) →
        t = s.setAcu { s.acu with counts := { s.acu.counts with
          presentations := min top32 (s.acu.counts.presentations + 1), ignored := min top32 (s.acu.counts.ignored + 1) } }) ∧
      ((∀ l ∈ s.acu.lookups, Reader.gate n ∉ l.waiting) →
        (∀ l, s.lookup? tag = some l → t.gtc = s.gtc ∧ t.qlc = s.qlc ∧ t.evj = s.evj ∧ t.acu.lookups =
          s.acu.lookups.map fun x => if x.tag = tag then { x with waiting := x.waiting ++ [.gate n] } else x) ∧
        (s.lookup? tag = none → s.foundAtOnce? tag = none → s.qlc.requests.length < 8 → s.qlc.queue.length < 16 →
          t.gtc = s.gtc ∧ t.evj = s.evj ∧ t.acu.lookups = s.acu.lookups ++ [⟨tag, [.gate n], .first, false⟩] ∧
          ∃ p ∈ t.qlc.requests, p.body = .tagQuery tag ∧ p.destination = 0 ∧ p.originator = .lookup tag ∧ p.attempt = 1 ∧
            s.queued t (s.qlc.prefer .a) ⟨0, p.sequence, .tagQuery tag⟩) ∧
        (∀ r, s.lookup? tag = none → s.foundAtOnce? tag = some r ∨
            (s.foundAtOnce? tag = none ∧ r = .noAnswer ∧ (8 ≤ s.qlc.requests.length ∨ 16 ≤ s.qlc.queue.length)) →
          t.acu.lookups = s.acu.lookups ∧ s.gateDelivered t n g tag r) ∧
        (∀ record d, s.lookup? tag = none → s.localCredential? tag = some (record, d) → g.state = .locked →
          g.mode = .card → stateOutcome s.cfg.station g.cfg.kind record = .grant →
          record.cls = .resident ∨ record.cls = .visitor →
          t.gate? n = some { g with
            state := .released, strike := .released, releaseAt := some (s.now + g.cfg.releaseTime * 1000),
            grants := min top32 (g.grants + 1) }))) ∧
  (∀ (s : State) (n : Nat) (p : Pump) (tag : Tag), s.up = true → s.pump? n = some p →
    (∀ l ∈ s.acu.lookups, Reader.pump n ∉ l.waiting) →
    ∃ t, exec (.presentation (.pump n) tag) s = .next t ∧ s.samePumpsBut t n ∧
      t = { s with bst := t.bst, acu := t.acu, fsc := t.fsc, qlc := t.qlc, evj := t.evj } ∧
      t.acu.counts.presentations = min top32 (s.acu.counts.presentations + 1) ∧
      (∀ l, s.lookup? tag = some l → t.fsc = s.fsc ∧ t.qlc = s.qlc ∧ t.acu.lookups =
        s.acu.lookups.map fun x => if x.tag = tag then { x with waiting := x.waiting ++ [.pump n] } else x) ∧
      (s.lookup? tag = none → s.foundAtOnce? tag = none → s.qlc.requests.length < 8 → s.qlc.queue.length < 16 →
        t.fsc = s.fsc ∧ t.acu.lookups = s.acu.lookups ++ [⟨tag, [.pump n], .first, false⟩] ∧
        ∃ e ∈ t.qlc.requests, e.body = .tagQuery tag ∧ e.destination = 0 ∧ e.originator = .lookup tag ∧ e.attempt = 1 ∧
          s.queued t (s.qlc.prefer .a) ⟨0, e.sequence, .tagQuery tag⟩) ∧
      (∀ r, s.lookup? tag = none → s.foundAtOnce? tag = some r ∨
          (s.foundAtOnce? tag = none ∧ r = .noAnswer ∧ (8 ≤ s.qlc.requests.length ∨ 16 ≤ s.qlc.queue.length)) →
        t.acu.lookups = s.acu.lookups ∧ s.pumpDelivered t n p tag r))

/-- A Tag Query is answered by the station whose booking holds the tag and by no other; a Tag Answer ends the lookup of its
tag and, to a first query that no revoke has marked, fills the cache; marked in phase FIRST it is discarded and the lookup
taken again: from a local booking, by a second Tag Query, or as NO_ANSWER where that cannot be sent. The result goes to every
waiting reader: at a gate it decides and records, at a pump it refuses or begins a sale. The other requests stay, one whose frame
waited on a channel that the answer takes DOWN with the channel of the answer (R177, R178). A Tag Revoke drops unpinned
copies and marks the lookups (R112, R117, R120, R121, R123, R124, R126, R131 to R134, R144 to R146). That the readers have it in
the order in which they joined, and that a second query is counted when QLC takes it, are the model's choices (log entries 35
and 61). -/
def Obligations.TagFramesTaken : Prop :=
  (∀ (s : State) (ch : Channel) (source : Nat) (sequence : Num8) (tag : Tag), s.hears source →
    ∃ t, exec (.tagQuery ch source sequence tag) s = .next t ∧ t = { s with qlc := t.qlc, evj := t.evj } ∧
      (∀ record d, s.localCredential? tag = some (record, d) → s.qlc.queue.length < 16 →
        s.queued t ch ⟨source, sequence, .tagAnswer record d⟩) ∧
      (s.localCredential? tag = none → t.qlc.queue.length = s.qlc.queue.length)) ∧
  (∀ (s : State) (ch : Channel) (source : Nat) (sequence : Num8) (record : Credential) (d : Nat) (p : Pending)
    (l : Lookup), s.hears source → s.matching? source sequence (.tagAnswer record d) = some p →
    s.lookup? record.tag = some l →
    ∃ t, exec (.tagAnswer ch source sequence record d) s = .next t ∧
      t = { s with bst := t.bst, acu := t.acu, gtc := t.gtc, fsc := t.fsc, qlc := t.qlc, evj := t.evj } ∧
      (let given (r : LookupResult) : Prop :=
         (∃ u, t = deliverAll record.tag r l.waiting u ∧ u = { s with acu := u.acu, qlc := u.qlc, evj := u.evj } ∧
           u.acu = { s.acu with cache := t.acu.cache, lookups := s.acu.lookups.filter fun x => x.tag != record.tag } ∧
           u.qlc.requests = (s.requestsHeard ch).filter fun x => x.sequence != sequence) ∧
         (∀ x ∈ t.acu.lookups, x.tag ≠ record.tag) ∧
         ∀ n g, l.waiting.Nodup → Reader.gate n ∈ l.waiting → s.gate? n = some g →
           t.gate? n = some (if g.state = .unlocked then g else s.gateAfter g r)
       (l.phase = .first → l.marked = false → given (.found record .query) ∧
         (s.fillWay? record.tag = none → t.acu.cache = s.acu.cache) ∧
         (∀ w, s.fillWay? record.tag = some w →
           t.acu.entry? record.tag = some ⟨w, record, some (s.fillUntil d), false⟩ ∧
           t.acu.cache = ⟨w, record, some (s.fillUntil d), false⟩ :: s.acu.cache.filter fun e =>
             !(e.record.tag.toNat % 64 == record.tag.toNat % 64 && e.way == w))) ∧
       (l.phase = .requery → given (.found record .query) ∧ t.acu.cache = s.acu.cache) ∧
       (l.phase = .first → l.marked = true → t.acu.cache = s.acu.cache ∧
         (∀ own day, s.localCredential? record.tag = some (own, day) → given (.found own .localBooking)) ∧
         (s.localCredential? record.tag = none → s.qlc.requests.length ≤ 8 → s.qlc.queue.length < 16 →
           t.gtc = s.gtc ∧ t.fsc = s.fsc ∧
           t.acu = { s.acu with
             counts := { s.acu.counts with
               queries := min top32 (s.acu.counts.queries + 1), requeries := min top32 (s.acu.counts.requeries + 1) }
             lookups := s.acu.lookups.map fun x =>
               if x.tag = record.tag then { x with phase := .requery, marked := false } else x } ∧
           ∃ e ∈ t.qlc.requests, e.body = .tagQuery record.tag ∧ e.destination = 0 ∧ e.originator = .lookup record.tag ∧
             e.attempt = 1 ∧ s.queued t (t.qlc.prefer .a) ⟨0, e.sequence, .tagQuery record.tag⟩) ∧
         (s.localCredential? record.tag = none → p.entry = none → 16 ≤ s.qlc.queue.length → given .noAnswer)))) ∧
  (∀ (s : State) (tag : Tag) (r : LookupResult) (reader : Reader) (rest : List Reader),
    let c := s.acu.counts
    let counted : CacheCounts :=
      match r with
      | .unknown => { c with unknowns := min top32 (c.unknowns + 1) }
      | .noAnswer => { c with noAnswers := min top32 (c.noAnswers + 1) }
      | .found _ .localBooking => { c with locals := min top32 (c.locals + 1) }
      | .found _ .pinned => { c with pinnedHits := min top32 (c.pinnedHits + 1) }
      | .found _ .cache => { c with cacheHits := min top32 (c.cacheHits + 1) }
      | .found _ .query => c
    let u := deliver tag r reader (s.setAcu { s.acu with counts := counted })
    deliverAll tag r [] s = s ∧ deliverAll tag r (reader :: rest) s = deliverAll tag r rest u ∧
    (∀ n g, reader = .gate n → s.gate? n = some g → s.gateDelivered u n g tag r ∧
      u = { s with acu := u.acu, gtc := u.gtc, evj := u.evj }) ∧
    (∀ n p, reader = .pump n → s.pump? n = some p → s.pumpDelivered u n p tag r ∧ s.samePumpsBut u n ∧
      u = { s with bst := u.bst, acu := u.acu, fsc := u.fsc, qlc := u.qlc, evj := u.evj }) ∧
    u.acu = { s.acu with counts := counted }) ∧
  (∀ (s : State) (ch : Channel) (source owner : Nat) (tags : List Tag), s.hears source →
    ∃ t, exec (.tagRevoke ch source owner tags) s = .next t ∧
      t.acu = { s.acu with
        cache := s.acu.cache.filter fun e => e.pinned || !tags.contains e.record.tag
        lookups := s.acu.lookups.map fun l => if tags.contains l.tag then { l with marked := true } else l } ∧
      t = { s with acu := t.acu, qlc := t.qlc, evj := t.evj })

/-- FLUSH_CACHE makes every unpinned entry invalid, answers with the number dropped, marks no lookup, and sends nothing
(R127). The reply is held to the reply size limit, as every reply is (R188); how a reply that is no listing is cut at it is the
model's choice (log entry 60). -/
def Obligations.FlushCacheDropsUnpinned : Prop :=
  ∀ (s : State), s.ready → s.fits →
    ∃ t, exec .flushCache s = .next t ∧
      t.acu = { s.acu with cache := s.acu.cache.filter fun e => e.pinned } ∧
      t.tpc = s.tpc.answers (answer .flushCache .ok [.number (s.acu.cache.filter fun e => !e.pinned).length]) ∧
      s.journalled t (.cacheFlushed (s.acu.cache.filter fun e => !e.pinned).length) ∧
      t = { s with acu := t.acu, tpc := t.tpc, evj := t.evj }

/-! ### Chapter 7: gates -/

/-- A press of the exit button: LOCKED becomes RELEASED with a full release time and one more exit release; RELEASED starts
the release time again; in every other state nothing changes (R135). -/
def Obligations.ExitButtonReleases : Prop :=
  ∀ (s : State) (n : Nat) (g : Gate), s.gate? n = some g →
    ∃ t, exec (.exitButton n) s = .next t ∧ s.sameGatesBut t n ∧ t = { s with gtc := t.gtc } ∧
      match g.state with
      | .locked => t.gate? n = some { g with
          state := .released, strike := .released, releaseAt := some (s.now + g.cfg.releaseTime * 1000)
          exits := min top32 (g.exits + 1) }
      | .released => t.gate? n = some { g with
          strike := .released, releaseAt := some (s.now + g.cfg.releaseTime * 1000) }
      | .opened | .ajar | .forced | .unlocked => t = s

/-- A door report that repeats the door's value changes nothing; an opening makes LOCKED FORCED and RELEASED OPEN; a closing
makes OPEN, AJAR and FORCED LOCKED (R136). -/
def Obligations.DoorSenseMovesGate : Prop :=
  ∀ (s : State) (n : Nat) (door : Door) (g : Gate), n = 1 ∨ n = 2 → s.gate? n = some g →
    ∃ t, exec (.doorSense n door) s = .next t ∧ (if n = 1 then t.door1 else t.door2) = door ∧
      (if n = 1 then t.door2 = s.door2 else t.door1 = s.door1) ∧ s.sameGatesBut t n ∧
      t = { s with door1 := t.door1, door2 := t.door2, gtc := t.gtc, evj := t.evj } ∧
      (if g.door = door then t.gtc = s.gtc ∧ t.evj = s.evj
       else match door with
        | .opened =>
          let o := { g with door := .opened, openedAt := some s.seconds, openedTime := s.dck.clock }
          match g.state with
          | .locked => t.gate? n = some { o with state := .forced, forcings := min top32 (g.forcings + 1) } ∧
              s.journalled t (.gateForced n)
          | .released => t.gate? n = some { o with
              state := .opened, strike := .held, releaseAt := none
              heldOpenAt := some (s.now + g.cfg.heldOpenLimit * 1000) } ∧ t.evj = s.evj
          | .opened | .ajar | .forced | .unlocked => t.gate? n = some o ∧ t.evj = s.evj
        | .closed =>
          let o := { g with door := .closed, openedAt := none, openedTime := none }
          match g.state with
          | .opened => t.gate? n = some { o with state := .locked, heldOpenAt := none } ∧ t.evj = s.evj
          | .ajar | .forced => t.gate? n = some { o with state := .locked } ∧
              s.journalled t (.doorClosed n (s.seconds - g.openedAt.getD s.seconds))
          | .locked | .released | .unlocked => t.gate? n = some o ∧ t.evj = s.evj)

/-- The release timer locks a RELEASED gate; the held-open timer makes an OPEN gate AJAR with its notice; in CONFIG_FAULT
a press of either exit button releases that gate's strike for 5 s, from the latest press on, and moves nothing else, and their
end holds it again (R134, R137, R140). -/
def Obligations.GateTimers : Prop :=
  (∀ (s : State) (n d : Nat) (g : Gate), s.gate? n = some g → g.state = .released → g.releaseAt = some d →
    ∃ t, exec (.releaseTimer n) s = .next t ∧ t.now = max s.now d ∧
      t.gate? n = some { g with state := .locked, strike := .held, releaseAt := none } ∧ s.sameGatesBut t n ∧
      t = { s with now := t.now, gtc := t.gtc }) ∧
  (∀ (s : State) (n d : Nat) (g : Gate), s.gate? n = some g → g.state = .opened → g.heldOpenAt = some d →
    ∃ t, exec (.heldOpenTimer n) s = .next t ∧ t.now = max s.now d ∧
      t.gate? n = some { g with state := .ajar, heldOpenAt := none, ajar := some ⟨g.openedTime⟩ } ∧
      s.journalled t (.gateAjar n g.cfg.heldOpenLimit) ∧ s.sameGatesBut t n ∧
      t = { s with now := t.now, gtc := t.gtc, evj := t.evj }) ∧
  (∀ (s : State) (n d : Nat), s.gtc.gates = [] → n = 1 ∨ n = 2 →
    let running (g : Gtc) : Option Nat := if n = 1 then g.faultRelease1 else g.faultRelease2
    let sameElse (t : State) : Prop :=
      t.gtc = (if n = 1 then { s.gtc with faultRelease1 := t.gtc.faultRelease1 }
        else { s.gtc with faultRelease2 := t.gtc.faultRelease2 }) ∧ t.strikeLine (3 - n) = s.strikeLine (3 - n)
    (s.inFault = true →
      ∃ t, exec (.exitButton n) s = .next t ∧ t.strikeLine n = .released ∧ running t.gtc = some (s.now + 5000) ∧
        sameElse t ∧ t = { s with gtc := t.gtc }) ∧
    (running s.gtc = some d →
      ∃ t, exec (.faultExitReleaseExpiry n) s = .next t ∧ t.now = max s.now d ∧ t.strikeLine n = .held ∧
        running t.gtc = none ∧ sameElse t ∧ t = { s with now := t.now, gtc := t.gtc }))

/-- SET_GATE_MODE moves the gate with its mode; GATE_ACK clears the notice it names and answers with what it held (R138,
R139). -/
def Obligations.GateCommandsAtTheTerminal : Prop :=
  (∀ (s : State) (station n : Nat) (m : GateMode) (g : Gate), s.ready → s.fits → s.isHere station →
    s.gate? n = some g → g.mode ≠ m →
    let x : Gate :=
      if m = .opened then
        { g with mode := m, state := .unlocked, strike := .released, releaseAt := none, heldOpenAt := none }
      else if g.mode = .opened then
        if g.door = .closed then { g with mode := m, state := .locked, strike := .held }
        else { g with mode := m, state := .opened, strike := .held, heldOpenAt := some (s.now + g.cfg.heldOpenLimit * 1000) }
      else { g with mode := m }
    ∃ t, exec (.setGateMode station n (some m)) s = .next t ∧ t.gate? n = some x ∧
      t.tpc = s.tpc.answers (answer .setGateMode .ok [.gateState x.state]) ∧
      s.journalled t (.gateMode n g.mode m) ∧ s.sameGatesBut t n ∧
      t = { s with gtc := t.gtc, tpc := t.tpc, evj := t.evj }) ∧
  (∀ (s : State) (station n : Nat) (g : Gate), s.ready → s.fits → s.isHere station → s.gate? n = some g →
    (∀ e, g.escort = some e → ∃ t, exec (.gateAck station n .escort) s = .next t ∧
      t.gate? n = some { g with escort := none } ∧ t.tpc = s.tpc.answers (answer .gateAck .ok [.escort e]) ∧
      s.journalled t (.noticeAck n .escort) ∧ s.sameGatesBut t n ∧
      t = { s with gtc := t.gtc, tpc := t.tpc, evj := t.evj }) ∧
    (∀ a, g.ajar = some a → ∃ t, exec (.gateAck station n .ajar) s = .next t ∧
      t.gate? n = some { g with ajar := none } ∧ t.tpc = s.tpc.answers (answer .gateAck .ok [.ajar a]) ∧
      s.journalled t (.noticeAck n .ajar) ∧ s.sameGatesBut t n ∧
      t = { s with gtc := t.gtc, tpc := t.tpc, evj := t.evj }))

/-- No gate grants a RESERVED booking. A BARRED one is denied BARRED at every gate but its own pontoon gate, which logs it
in CARD and RESTRICTED and denies it MODE in CLOSED. STAFF is never refused. A CURRENT booking that is not BARRED passes a
CARD gate, logged in ARREARS; a RESTRICTED gate turns away contractors, and visitors but at a main or their own pontoon
gate; a CLOSED gate turns away all but STAFF; a CARD gate takes a contractor inside its window, which may span midnight, and
while the clock is UNSET no contractor with one (R129, R130, R131). -/
def Obligations.DecisionByStateAndMode : Prop :=
  ∀ (station : Nat) (g : Gate) (clock : Option DayTime) (c : Credential) (source : Source),
    let decides := decision station g clock (.found c source)
    let resident := c.cls = .resident ∨ c.cls = .visitor
    (c.cls = .staff → decides = .grant) ∧
    (∀ b, resident → c.booking = some b →
      (b.state = .reserved → decides = .deny .early) ∧
      (b.state ≠ .reserved → b.standing = .barred → g.mode ≠ .opened → decides =
        if g.cfg.kind = .pontoon ∧ c.owner = station then
          if g.mode = .closed then .deny .mode else .logged .barredOwnGate
        else .deny .barred) ∧
      (b.state ≠ .reserved → b.standing ≠ .barred →
        let passes : Decision := if b.standing = .arrears then .logged .arrears else .grant
        (g.mode = .card → decides = passes) ∧
        (g.mode = .restricted → decides =
          if c.cls = .resident ∨ g.cfg.kind = .main ∨ (g.cfg.kind = .pontoon ∧ c.owner = station) then passes
          else .deny .mode) ∧
        (g.mode = .closed → decides = .deny .mode))) ∧
    (c.cls = .contractor →
      (g.mode = .restricted ∨ g.mode = .closed → decides = .deny .mode) ∧
      (g.mode = .card → c.window = none → decides = .grant) ∧
      (∀ first last, g.mode = .card → c.window = some (first, last) →
        (clock = none → decides = .deny .window) ∧
        (∀ day second, clock = some ⟨day, second⟩ → decides =
          if first ≤ second ∧ second ≤ last ∨ last < first ∧ (first ≤ second ∨ second ≤ last) then .grant
          else .deny .window))) ∧
    decision station g clock .unknown = .deny .unknown ∧ decision station g clock .noAnswer = .deny .noAnswer

/-! ### Chapter 8: fuel sales -/

/-- A Poll carries the pump's command and display. A good Answer ends the run of misses; it moves READY to DELIVERING when
the nozzle is lifted, DELIVERING to SETTLING when it is hung up or the pump stopped at its preset, notes PUMP_FLOW of a pump
without a sale, and ends a FAULT; where it answers a Poll that carried DISABLED in SETTLING, or is the first in FAULT of a
sale that had begun, it is the end reading: volume and amount, a direct sale done, a purse sale to its owner by a Settle
Request or onto the unsettled list. The third miss in a row is a FAULT (R142, R143, R147, R149, R150, R151, R152, R154,
R155, R158). PUMP_OK before the PUMP_FLOW of the same Answer (log entry 31), that a Poll replaces one still awaiting its
Answer (log entry 36), UNCOLLECTED with SALE_LOST where the list is full for a sale that was not recovered (log entry 38),
the lowest free list slot (log entry 55), and the IDLE display of a pump in FAULT without a sale (log entry 77) are the
model's choices. -/
def Obligations.PumpPolled : Prop :=
  (∀ (s : State) (n : Nat) (p : Pump), s.up = true → s.pump? n = some p →
    ∃ t, exec (.pumpPollTimer n) s = .next t ∧ t.now = max s.now p.pollAt ∧
      t.pump? n = some { p with pollAt := p.pollAt + 500, awaiting := some (p.command, p.display) } ∧
      s.onlyPump t n ∧ t = { s with now := t.now, fsc := t.fsc }) ∧
  (∀ (s : State) (n : Nat) (p : Pump) (sent : PumpCommand × Display) (r : PumpReading), s.up = true →
    s.pump? n = some p → p.awaiting = some sent →
    ∃ t, exec (.pumpAnswer n r) s = .next t ∧ s.samePumpsBut t n ∧
      t = { s with bst := t.bst, fsc := t.fsc, qlc := t.qlc, evj := t.evj } ∧
      (let q := { p with misses := 0, latest := some r, awaiting := none }
       let only (x : Pump) : Prop := t.pump? n = some x ∧ t.fsc = { s.fsc with pumps := t.fsc.pumps }
       let flow : List Report :=
         match p.latest with
         | none => []
         | some b => if b.totaliser = r.totaliser then [] else [.pumpFlow n (r.totaliser - b.totaliser).toNat]
       (p.state = .idle → only q ∧ t.bst = s.bst ∧ s.journalledAll t flow) ∧
       (p.state = .authorising → only q ∧ t.bst = s.bst ∧ t.evj = s.evj) ∧
       (p.state = .ready → r.nozzleUp = true → t.dirtyRecord (.sale n) ∧ only { q with
          state := .delivering, display := .delivering, readyAt := none
          sale := p.sale.map fun x => { x with stage := .delivering } }) ∧
       (p.state = .ready → r.nozzleUp = false → only q ∧ t.bst = s.bst) ∧
       (p.state = .delivering → r.nozzleUp = false ∨ (r.running = false ∧ r.stop = .preset) → t.dirtyRecord (.sale n) ∧
        only { q with
          state := .settling, command := .disabled, display := .settling, refusedUntil := none, readyAt := none
          sale := p.sale.map fun x => { x with stage := .settling } }) ∧
       (p.state = .delivering → r.nozzleUp = true → r.running = true ∨ r.stop ≠ .preset → only q ∧ t.bst = s.bst) ∧
       (p.state = .settling → sent.1 ≠ .disabled ∨ (∀ x, p.sale = some x → x.endTotal ≠ none) → only q ∧ t.bst = s.bst) ∧
       (p.state = .fault → p.sale = none → only { q with state := .idle } ∧ s.journalledAll t ([.pumpOk n] ++ flow)) ∧
       (∀ x, p.state = .fault → p.sale = some x → x.stage = .authorising →
          only { q with state := .authorising } ∧ s.journalled t (.pumpOk n)) ∧
       (∀ x, p.state = .fault → p.sale = some x → x.stage ≠ .authorising → x.endTotal ≠ none →
          only { q with state := .settling } ∧ s.journalled t (.pumpOk n)))) ∧
  (∀ (s : State) (n : Nat) (p : Pump) (sent : PumpCommand × Display) (r : PumpReading) (x : Sale), s.up = true →
    s.pump? n = some p → p.awaiting = some sent → p.sale = some x →
    (p.state = .settling ∧ sent.1 = .disabled ∧ x.endTotal = none ∨
      p.state = .fault ∧ x.stage ≠ .authorising ∧ x.endTotal = none) →
    ∃ t, exec (.pumpAnswer n r) s = .next t ∧ s.samePumpsBut t n ∧ t.dirtyRecord (.sale n) ∧
      t = { s with bst := t.bst, fsc := t.fsc, qlc := t.qlc, evj := t.evj } ∧
      (let measured := (r.totaliser - x.startTotal.getD r.totaliser).toNat
       let volume := min 999999 measured
       let amount := saleAmount volume x.price
       let y : Sale := { x with
         stage := if p.state = .fault then .settling else x.stage
         endTotal := some r.totaliser, volume := some volume, amount := some amount }
       let q := { p with misses := 0, latest := some r, awaiting := none }
       let closing : Pump := if p.state = .fault then
         { q with command := .disabled, display := .settling, refusedUntil := none, readyAt := none } else q
       let left : Pump := { q with
         state := .idle, command := .disabled, display := .idle, refusedUntil := none, readyAt := none
         recovered := false, sale := none }
       let notes : List Report :=
         (if p.state = .fault then [.pumpOk n] else []) ++
         (if 999999 < measured then [.volumeClamped n measured x.faultMark] else []) ++
         (if x.preset.getD 0 < volume then [.saleOverrun n (x.preset.getD 0) volume x.faultMark] else [])
       (x.kind = .direct →
          t.pump? n = some { left with last := some { y with stage := .closed, outcome := some .directDone } } ∧
          t.fsc = { s.fsc with pumps := t.fsc.pumps } ∧
          s.journalledAll t (notes ++
            [.directSale n x.id.sale (x.preset.getD 0) volume x.price amount x.faultMark])) ∧
       (x.kind = .purse → p.recovered = false → s.qlc.requests.length < 8 → s.qlc.queue.length < 16 →
          t.pump? n = some { closing with state := .settling, sale := some y } ∧ t.fsc = { s.fsc with pumps := t.fsc.pumps } ∧
          s.journalledAll t notes ∧
          ∃ e ∈ t.qlc.requests, e.body = y.settleBody ∧ e.destination = y.owner ∧ e.originator = .pumpSale x.id ∧
            e.attempt = 1 ∧ s.queued t (s.qlc.prefer .a) ⟨y.owner, e.sequence, y.settleBody⟩) ∧
       (x.kind = .purse → p.recovered = true ∨ 8 ≤ s.qlc.requests.length ∨ 16 ≤ s.qlc.queue.length →
          (∀ slot, lowestFree s.fsc.slotsUsed 5 16 = some slot →
            t.pump? n = some { left with last := some { y with stage := .listed } } ∧ t.dirtyRecord (.sale slot) ∧
            t.fsc.unsettled =
              s.fsc.unsettled ++ [⟨{ y with stage := .listed }, bump32 s.fsc.lastOrder, 0, false, slot⟩] ∧
            t.fsc.retryAt = (if s.fsc.unsettled = [] then some (s.now + 30000) else s.fsc.retryAt) ∧
            s.journalledAll t notes) ∧
          (lowestFree s.fsc.slotsUsed 5 16 = none →
            t.pump? n = some { left with last := some { y with stage := .closed, outcome := some .uncollected } } ∧
            t.fsc = { s.fsc with pumps := t.fsc.pumps } ∧
            s.journalledAll t (notes ++ [.saleLost x.id amount x.faultMark]))))) ∧
  (∀ (s : State) (n : Nat) (p : Pump) (sent : PumpCommand × Display), s.up = true → s.pump? n = some p →
    p.awaiting = some sent →
    ∃ t, exec (.pumpMiss n) s = .next t ∧ s.onlyPump t n ∧
      (p.misses < 2 → t.pump? n = some { p with misses := p.misses + 1, awaiting := none } ∧ t.bst = s.bst ∧ t.evj = s.evj) ∧
      (p.misses = 2 → p.state ≠ .fault → s.journalled t (.pumpFault n p.state) ∧
        ∃ q, t.pump? n = some q ∧ q.state = .fault ∧ q.misses = 3 ∧ q.readyAt = none ∧
          ∀ x, p.sale = some x → q.sale = some { x with faultMark := true } ∧
            (x.stage = .ready ∨ x.stage = .delivering → q.command = .disabled)) ∧
      t = { s with bst := t.bst, fsc := t.fsc, qlc := t.qlc, evj := t.evj }) ∧
  (∀ (s : State) (n d : Nat) (p : Pump), s.up = true → s.pump? n = some p → p.refusedUntil = some d →
    ∃ t, exec (.pumpRefusedDisplayExpiry n) s = .next t ∧ t.now = max s.now d ∧
      t.pump? n = some { p with display := Pump.stateDisplay p, refusedUntil := none } ∧
      s.onlyPump t n ∧ t = { s with now := t.now, fsc := t.fsc })

/-- A grant enables the pump for its preset and starts the ready timer; a refusal closes the sale as REFUSED and shows it
for 5 s (R146, R148). -/
def Obligations.HoldAnswerDecidesSale : Prop :=
  ∀ (s : State) (ch : Channel) (source : Nat) (sequence : Num8) (id : HoldId) (result : HoldResult) (p : Pending)
    (q : Pump) (x : Sale), s.hears source → s.matching? source sequence (.holdAnswer id result) = some p →
    s.pump? id.pump = some q → q.sale = some x → x.id = id → x.faultMark = false → q.state = .authorising →
    ∃ t, exec (.holdAnswer ch source sequence id result) s = .next t ∧
      (∀ y ∈ t.qlc.requests, y.sequence ≠ sequence) ∧ t.dirtyRecord (.sale id.pump) ∧ s.onlyPump t id.pump ∧
      (∀ g, result = .granted g →
        t.pump? id.pump = some { q with
          state := .ready, command := .enabled (presetVolume g x.price), display := .ready, refusedUntil := none
          readyAt := some (s.now + s.cfg.readyTime * 1000)
          sale := some { x with stage := .ready, granted := some g, preset := some (presetVolume g x.price),
                                startTotal := q.latest.map PumpReading.totaliser } } ∧
        t.lastReport = some (.saleAuthorised id.pump x.id.sale g (presetVolume g x.price) false)) ∧
      (∀ r, result = .refused r →
        t.pump? id.pump = some { q with
          state := .idle, command := .disabled, display := .refused (refusalOf r), refusedUntil := some (s.now + 5000)
          readyAt := none, recovered := false, sale := none
          last := some { x with stage := .closed, outcome := some .refused } }) ∧
      t = { s with bst := t.bst, fsc := t.fsc, qlc := t.qlc, evj := t.evj }

/-- A Settle Answer closes the sale on its pump as SETTLED or UNCOLLECTED, notes it and frees the pump, which stays FAULT
while the fault lasts; and it takes an entry off the unsettled list. The retry timer walks the list from the oldest entry,
sends each entry not in flight again and marks it in flight with one attempt more, up to the first that QLC cannot take, and
starts again; the list is taken to hold each hold ID once (R151, R152, R153, R154). That a pump whose sale leaves it in
FAULT shows IDLE is the model's choice (log entry 77). -/
def Obligations.SettlementsEnd : Prop :=
  (∀ (s : State) (ch : Channel) (source : Nat) (sequence : Num8) (id : HoldId) (result : SettleResult) (p : Pending),
    s.hears source → s.matching? source sequence (.settleAnswer id result) = some p →
    ∃ t, exec (.settleAnswer ch source sequence id result) s = .next t ∧
      (∀ y ∈ t.qlc.requests, y.sequence ≠ sequence) ∧
      (∀ q x, p.originator = .pumpSale id → s.pump? id.pump = some q → q.sale = some x → x.id = id →
        t.dirtyRecord (.sale id.pump) ∧ s.onlyPump t id.pump ∧
        t.pump? id.pump = some { q with
          state := if q.state = .fault then .fault else .idle
          command := .disabled, display := .idle, refusedUntil := none, readyAt := none, recovered := false
          sale := none, last := some { x with stage := .closed, outcome := some (settleOutcome result) } } ∧
        (∀ answered, result = .settled answered → t.lastReport = some (if answered = x.amount.getD 0
          then .saleSettled id.pump x.detail else .settleMismatch id (x.amount.getD 0) answered x.faultMark)) ∧
        (result = .noBooking → t.lastReport = some (.uncollected id.pump x.detail))) ∧
      (∀ u, p.originator = .unsettled id → s.listed? id = some u →
        t.fsc.unsettled = s.fsc.unsettled.filter (fun y => y.sale.id != id) ∧
        (∀ y ∈ s.fsc.unsettled, y.sale.id = u.sale.id → t.dirtyRecord (.sale y.slot)) ∧
        s.samePumpsBut t id.pump ∧ t.fsc.lastOrder = s.fsc.lastOrder) ∧
      t = { s with bst := t.bst, fsc := t.fsc, qlc := t.qlc, evj := t.evj }) ∧
  (∀ (s : State) (d : Nat), s.up = true → s.fsc.retryAt = some d → (s.fsc.unsettled.map fun u => u.sale.id).Nodup →
    let room := min (8 - s.qlc.requests.length) (16 - s.qlc.queue.length)
    let sent := (s.fsc.unsettled.filter fun u => !u.inFlight).take room
    ∃ t, exec .saleRetryTimer s = .next t ∧ t.now = max s.now d ∧
      t.fsc = { s.fsc with
        retryAt := some (max s.now d + 30000)
        unsettled := s.fsc.unsettled.map fun u =>
          if u ∈ sent then { u with inFlight := true, attempts := min top16 (u.attempts + 1) } else u } ∧
      (∃ added, t.qlc.requests = s.qlc.requests ++ added ∧
        added.map (fun p => (p.destination, p.body, p.originator, p.attempt)) =
          sent.map fun u => (u.sale.owner, u.sale.settleBody, Originator.unsettled u.sale.id, 1)) ∧
      (∀ u ∈ sent, t.dirtyRecord (.sale u.slot) ∧ ∃ k, s.queued t (s.qlc.prefer .a) ⟨u.sale.owner, k, u.sale.settleBody⟩) ∧
      t.qlc.queue.length = s.qlc.queue.length + sent.length ∧
      t = { s with now := t.now, bst := t.bst, fsc := t.fsc, qlc := t.qlc })

/-- DIRECT_AUTHORISE starts a sale on an IDLE pump, takes its next sale number and enables it; CANCEL_SALE closes the sale on a
pump in READY or DELIVERING, the end of the ready timer that on a pump in READY; WRITE_OFF_SALE removes an entry not in flight,
found by pump and sale number (R144, R148, R150, R153, R155, R156). -/
def Obligations.SalesFromTheTerminal : Prop :=
  (∀ (s : State) (station n amount : Nat) (q : Pump) (r : PumpReading), s.ready → s.fits → s.isHere station →
    s.pump? n = some q → s.cfg.minimumSale ≤ amount → amount ≤ 99999999 → q.state = .idle → q.latest = some r →
    ∃ t, exec (.directAuthorise station n amount) s = .next t ∧
      t.tpc = s.tpc.answers (answer .directAuthorise .ok [.number q.nextSale.toNat,
        .number (presetVolume amount (s.fuelPrice q.cfg.grade))]) ∧
      (∃ p x, t.pump? n = some p ∧ p.state = .ready ∧ p.command = .enabled (presetVolume amount (s.fuelPrice q.cfg.grade)) ∧
        p.nextSale = freeNumber (s.fsc.numbersListed n) (q.nextSale + 1) 16 ∧
        (s.fsc.unsettled.length ≤ 16 → p.nextSale ∉ s.fsc.numbersListed n) ∧
        p.readyAt = some (s.now + s.cfg.readyTime * 1000) ∧ p.sale = some x ∧ x.kind = .direct ∧ x.stage = .ready ∧
        x.id = ⟨s.cfg.station, n, q.nextSale⟩ ∧ x.granted = some amount ∧ x.startTotal = some r.totaliser) ∧
      t.dirtyRecord (.sale n) ∧ s.onlyPump t n ∧
      t = { s with bst := t.bst, fsc := t.fsc, tpc := t.tpc, evj := t.evj }) ∧
  (∀ (s : State) (station n : Nat) (q : Pump) (x : Sale), s.pump? n = some q → q.sale = some x →
    q.state = .ready ∨ q.state = .delivering →
    let closed : Pump := { q with
      state := .settling, command := .disabled, display := .settling, refusedUntil := none, readyAt := none
      sale := some { x with stage := .settling } }
    (s.ready → s.fits → s.isHere station →
      ∃ t, exec (.cancelSale station n) s = .next t ∧ t.tpc = s.tpc.sending (answer .cancelSale .ok) ∧
        t.pump? n = some closed ∧ s.journalled t (.saleCancelled n q.state x.faultMark) ∧ t.dirtyRecord (.sale n) ∧
        s.onlyPump t n ∧
        t = { s with bst := t.bst, fsc := t.fsc, tpc := t.tpc, evj := t.evj }) ∧
    (∀ d, s.up = true → q.state = .ready → q.readyAt = some d →
      ∃ t, exec (.readyTimer n) s = .next t ∧ t.now = max s.now d ∧ t.pump? n = some closed ∧
        t.dirtyRecord (.sale n) ∧ s.onlyPump t n ∧ t = { s with now := t.now, bst := t.bst, fsc := t.fsc })) ∧
  (∀ (s : State) (station n : Nat) (sale : Num8) (q : Pump) (u : Unsettled), s.ready → s.fits → s.isHere station →
    s.pump? n = some q → s.listedSale? n sale = some u → u.inFlight = false →
    ∃ t, exec (.writeOffSale station n sale) s = .next t ∧ t.tpc = s.tpc.sending (answer .writeOffSale .ok) ∧
      t.fsc.unsettled = s.fsc.unsettled.filter (fun y => y.sale.id != u.sale.id) ∧
      (∀ y ∈ s.fsc.unsettled, y.sale.id = u.sale.id → t.dirtyRecord (.sale y.slot)) ∧ s.samePumpsBut t n ∧
      s.journalled t (.saleWrittenOff u.sale.id (u.sale.amount.getD 0) u.sale.faultMark) ∧
      t = { s with bst := t.bst, fsc := t.fsc, tpc := t.tpc, evj := t.evj })

/-- The preset of a grant is the largest volume, up to 999,999 cl, whose amount does not exceed the grant (R147). -/
def Obligations.PresetIsLargestWithinGrant : Prop :=
  ∀ (granted price : Nat), 1 ≤ price →
    saleAmount (presetVolume granted price) price ≤ granted ∧ presetVolume granted price ≤ 999999 ∧
    ∀ v, v ≤ 999999 → saleAmount v price ≤ granted → v ≤ presetVolume granted price

/-! ### Chapter 9: the day -/

/-- A minute of power ages every ACTIVE hold by one and expires those that reach the hold timeout (R32). A clock setting
makes the clock RUNNING at the day and second it carries and makes every RESERVED booking CURRENT whose arrival day has come;
SET_TIME tells the other stations; with an adopted notice no Time Notice joins the queue (R7, R160, R161). That a setting
starts the second afresh, and the order of the bookings, are the model's choices (log entries 39 and 48). The premise is the
invariant of BookingsKeepTheirSerials. -/
def Obligations.BookingsAgeAndBecomeCurrent : Prop :=
  (∀ (s : State), s.up = true → s.bookingsOk →
    ∃ t, exec .holdMinuteTimer s = .next t ∧ t.now = max s.now s.minuteAt ∧ t.minuteAt = s.minuteAt + 60000 ∧
      (∀ n k b, s.booking? n k = some b → ∃ x, t.booking? n k = some x ∧
        x.stay = b.stay ∧ x.tags = b.tags ∧ x.state = b.state ∧ x.purse.balance = b.purse.balance ∧
        x.purse.holds = b.purse.holds.map (fun h =>
          if h.state = .active then
            { h with age := h.age + 1, state := if s.cfg.holdTimeout ≤ h.age + 1 then .expired else .active }
          else h)) ∧
      t = { s with now := t.now, minuteAt := t.minuteAt, bst := t.bst, acu := t.acu, pbc := t.pbc, lsu := t.lsu,
                   qlc := t.qlc, evj := t.evj }) ∧
  (∀ (s : State) (day second : Nat), s.bookingsOk →
    let made (t : State) : Prop :=
      t.dck = { s.dck with clock := some ⟨day, second⟩, tickAt := s.now + 1000 } ∧
      ∀ n k b, s.booking? n k = some b → ∃ x, t.booking? n k = some x ∧ x.stay = b.stay ∧ x.purse = b.purse ∧
        x.tags = b.tags ∧ x.state = (if b.state = .reserved ∧ b.stay.arrival ≤ day then .current else b.state)
    (s.ready → day ≤ 65535 → second ≤ 86399 → s.qlc.queue.length < 16 →
      ∃ t, exec (.setTime day second) s = .next t ∧ made t ∧ s.queuedWide t ⟨0, 0, .timeNotice day second⟩ ∧
        s.replies t (answer .setTime .ok [.clock (some ⟨day, second⟩), .queued true]) ∧
        t = { s with bst := t.bst, pbc := t.pbc, lsu := t.lsu, dck := t.dck, qlc := t.qlc, tpc := t.tpc, evj := t.evj }) ∧
    (∀ (ch : Channel) (source : Nat), s.hears source →
      ∃ t, exec (.timeNotice ch source day second) s = .next t ∧ made t ∧
        (t.qlc.queue.map Entry.frame).filter (fun f => f.body.code == 16) =
          (s.qlc.queue.map Entry.frame).filter (fun f => f.body.code == 16) ∧
        t = { s with bst := t.bst, pbc := t.pbc, lsu := t.lsu, dck := t.dck, qlc := t.qlc, evj := t.evj }))

/-- While RUNNING a second passes, 86,399 to 0, with the day as it was unless the close second is reached; onto the close
second the day advances by one and the staged tariff set comes into force, but day 65,535 stays (R159, R162, R164). -/
def Obligations.ClockSecondAdvances : Prop :=
  ∀ (s : State), s.up = true → s.fits →
    (s.dck.clock = none → exec .clockSecond s = .next s) ∧
    (∀ day second, s.dck.clock = some ⟨day, second⟩ →
      let next := if second = 86399 then 0 else second + 1
      let ticked := { s.dck with clock := some ⟨day, next⟩, tickAt := s.dck.tickAt + 1000 }
      ∃ t, exec .clockSecond s = .next t ∧ t.now = max s.now s.dck.tickAt ∧
        (next ≠ s.cfg.closeSecond → t = { s with now := t.now, dck := ticked }) ∧
        (next = s.cfg.closeSecond → day = 65535 →
          t = { s with now := t.now, dck := ticked, evj := t.evj } ∧ t.lastReport = some .dayLimit) ∧
        (next = s.cfg.closeSecond → day ≠ 65535 →
          t.dck = { ticked with
            clock := some ⟨day + 1, next⟩, inForce := s.dck.staged.getD s.dck.inForce, staged := none } ∧
          t = { s with now := t.now, dck := t.dck, bst := t.bst, acu := t.acu, pbc := t.pbc, lsu := t.lsu, qlc := t.qlc,
                       evj := t.evj }))

/-- At a rollover a CURRENT booking has its day usage pair flipped, after a visitor's night fee at the night rate of the
closing set for each whole or begun metre of LOA. Where its departure has come it ends when it may not overstay; otherwise
it ends as FORCED_END when the next entry of its berth's list has arrived, ends when the new day is 65,535, and else
departs one day later. A RESERVED booking becomes CURRENT when its arrival day has come (R165, R166, R167, R168). The
premise is the invariant of BookingsKeepTheirSerials. -/
def Obligations.RolloverChargesAndFlips : Prop :=
  ∀ (s : State) (day second n k : Nat) (b : Booking), s.up = true → s.dck.clock = some ⟨day, second⟩ → day ≠ 65535 →
    (if second = 86399 then 0 else second + 1) = s.cfg.closeSecond → s.bookingsOk → s.booking? n k = some b →
    ∃ t, exec .clockSecond s = .next t ∧
      (b.state = .current →
        let next := (s.behind? n k).any fun x => x.stay.arrival ≤ day + 1
        let flipped (x : Booking) : Prop :=
          x.tags = b.tags ∧ x.purse.holds = b.purse.holds ∧ x.openDay = {} ∧ x.closedNumber = some day ∧
            x.closedDay.energy = b.openDay.energy ∧ x.closedDay.water = b.openDay.water
        let ended (kind : EndKind) : Prop :=
          t.booking? n k = none ∧ (s.bst.statements.length + s.liveBookings.length ≤ 8 →
            ∃ x ∈ t.bst.statements, x.berth = n ∧ x.serial = k ∧ x.endKind = kind)
        (day + 1 < b.stay.departure →
          ∃ x, t.booking? n k = some x ∧ x.stay = b.stay ∧ flipped x ∧
            (b.stay.kind = .resident → x.purse.balance = b.purse.balance ∧ x.closedDay = b.openDay) ∧
            (let fee := (b.stay.loa + 99) / 100 * (s.cfg.tariff s.dck.inForce).nightRate
             b.stay.kind = .visitor → -(floorCents : Int) ≤ b.purse.balance - fee →
               x.purse.balance = b.purse.balance - fee ∧ x.purse.fees = b.purse.fees + fee ∧
                 x.closedDay.charges = b.openDay.charges + fee)) ∧
        (b.stay.departure ≤ day + 1 →
          (s.cfg.overstay b.stay.kind = false → ended .endedAtRollover) ∧
          (s.cfg.overstay b.stay.kind = true → next = true → ended .forcedEnd) ∧
          (s.cfg.overstay b.stay.kind = true → next = false → day + 1 = 65535 → ended .endedAtRollover) ∧
          (s.cfg.overstay b.stay.kind = true → next = false → day + 1 ≠ 65535 →
            ∃ x, t.booking? n k = some x ∧ x.stay = { b.stay with departure := day + 2 } ∧ flipped x))) ∧
      (b.state = .reserved →
        ∃ x, t.booking? n k = some x ∧ x.stay = b.stay ∧ x.tags = b.tags ∧ x.purse = b.purse ∧
          x.state = (if b.stay.arrival ≤ day + 1 then .current else .reserved))

/-! ### Chapter 10: the Quayline -/

/-- An Announce makes its sender PRESENT with the values it carries and a full staleness time, with PEER_HEARD and the state it
had where that was not PRESENT, and PEER_ERRORS with its counts where one is above 0; the staleness timer makes it STALE, with
PEER_STALE. Either then runs one computation over the changed table, with the peer as its cause, as ComputationMovesAllotment
says, and the posts are fitted to A. The announce timer queues this station's own Announce each second unless announcing is held
(R75, R183, R185). -/
def Obligations.PeersAndAnnounces : Prop :=
  (∀ (s : State) (ch : Channel) (source : Nat) (body : AnnounceBody) (p : Peer), s.hears source →
    s.peer? source = some p →
    ∃ t, exec (.announce ch source body) s = .next t ∧
      t.peer? source = some { p with
        state := .present, role := some body.role, floor := some body.floor, ceiling := some body.ceiling
        demand := some body.demand, errors := some body.errors, lastChannel := some ch
        staleAt := some (s.now + s.cfg.stalenessTime * 1000) } ∧
      (∀ n, n ≠ source → t.peer? n = s.peer? n) ∧
      (∃ u, t = settled s (compute source u) ∧ u = { s with qlc := u.qlc, evj := u.evj } ∧ u.qlc.peers = t.qlc.peers ∧
        u.qlc.queue.map Entry.frame = s.qlc.queue.map Entry.frame ∧
        ((s.qlc.line ch.other).silent = false ∨ (s.qlc.line ch.other).state = .down → s.journalledAll u (
          (if (s.qlc.line ch).state = .down then [.channelUp ch] else []) ++
          (if p.state = .present then [] else [.peerHeard source p.state]) ++
          (if body.errors = {} then [] else [.peerErrors source body.errors])))) ∧
      t = { s with pbc := t.pbc, lsu := t.lsu, qlc := t.qlc, evj := t.evj }) ∧
  (∀ (s : State) (n d : Nat) (p : Peer), s.up = true → s.peer? n = some p → p.state = .present → p.staleAt = some d →
    ∃ t, exec (.stalenessTimer n) s = .next t ∧ t.now = max s.now d ∧
      t.peer? n = some { p with state := .stale, staleAt := none } ∧ (∀ m, m ≠ n → t.peer? m = s.peer? m) ∧
      (∃ u, t = settled s (compute n u) ∧ u.qlc = { s.qlc with peers := t.qlc.peers } ∧ s.journalled u (.peerStale n) ∧
        u = { s with now := t.now, qlc := u.qlc, evj := u.evj }) ∧
      t = { s with now := t.now, pbc := t.pbc, lsu := t.lsu, qlc := t.qlc, evj := t.evj }) ∧
  (∀ (s : State), s.up = true → s.fits →
    ∃ t, exec .announceTimer s = .next t ∧ t.now = max s.now s.qlc.announceAt ∧
      t.qlc.announceAt = s.qlc.announceAt + 1000 ∧
      (s.lsu.held = true → t = { s with now := t.now, qlc := { s.qlc with announceAt := s.qlc.announceAt + 1000 } }) ∧
      (s.lsu.held = false → s.qlc.announceWaits = false → s.qlc.queue.length < 16 →
        s.queued t (match s.qlc.lastAnnounce with
          | none => s.qlc.prefer .a
          | some c => s.qlc.prefer c.other) ⟨0, 0, .announce none⟩) ∧
      t = { s with now := t.now, pbc := t.pbc, lsu := t.lsu, qlc := t.qlc, evj := t.evj })

/-- A frame taken into the queue joins it at its end with a number of its own: a notice to all stations on every usable
channel, an answer on the channel its request came by if that is usable and otherwise the other, a request's first attempt on
A if that is usable and otherwise B, with its entry in the table; a channel is usable when it is UP, and both are when
neither is. A full queue counts QUEUE_FULL and takes nothing; a full table takes nothing and, the model's choice (log entry
74), counts nothing. A free transmitter takes the entry for its channel of the highest priority, the earliest of equals, an
Announce with the station's role, floor, ceiling, declared demand and error counts as they stand in that event; a completed
transmission takes the channel out of the entry's set, starts the response timeout of its request and, of an Announce, lowers
each error count by the value it carried, a smaller one to 0 (the model's choice, log entry 89); a lost arbitration leaves
the queue as it was, but that where the frame lost was an Announce no other Announce waits (R170, R175 to R179, R181 to R184;
that the one that waits gives way is the model's choice, log entries 42 and 80). The bytes sent are those a receiver reads
the frame from, with a payload of a length its kind allows (R172, R173; what the payload's bytes are is left open, and how
long a payload of several lengths is, is the model's reading, log entry 7). -/
def Obligations.TransmittersServeTheQueue : Prop :=
  (∀ (q : Qlc) (c : Channel),
    (q.usable c = true ↔ (q.line c).state = .up ∨ ((q.line .a).state = .down ∧ (q.line .b).state = .down)) ∧
    q.prefer c = (if q.usable c then c else match c with
      | .a => .b
      | .b => .a)) ∧
  (∀ (s : State) (c : Channel) (destination : Nat) (sequence : Num8) (body : FrameBody) (originator : Originator),
    let joined (f : Frame) (onA onB : Bool) : Qlc := { s.qlc with
      queue := s.qlc.queue ++ [⟨s.qlc.nextEntry, f, onA, onB⟩], nextEntry := s.qlc.nextEntry + 1 }
    let full : State := s.setQlc { s.qlc with errors := s.qlc.errors.full }
    let request := ask destination body originator s
    (s.qlc.queue.length < 16 →
      broadcast body s = (s.setQlc (joined ⟨0, 0, body⟩ (s.qlc.usable .a) (s.qlc.usable .b)), true) ∧
      sendAnswer c destination sequence body s = s.setQlc (joined ⟨destination, sequence, body⟩
        (s.qlc.prefer c == .a) (s.qlc.prefer c == .b)) ∧
      (s.qlc.requests.length < 8 → ∃ k, k ∉ s.qlc.requests.map Pending.sequence ∧
        (s.qlc.sequence ∉ s.qlc.requests.map Pending.sequence → k = s.qlc.sequence) ∧
        request = (s.setQlc { joined ⟨destination, k, body⟩ (s.qlc.prefer .a == .a) (s.qlc.prefer .a == .b) with
          sequence := k + 1
          requests := s.qlc.requests ++ [⟨destination, body, k, 1, s.qlc.prefer .a, none, s.now + 200,
            some s.qlc.nextEntry, originator⟩] }, true))) ∧
    (16 ≤ s.qlc.queue.length → broadcast body s = (full, false) ∧ sendAnswer c destination sequence body s = full ∧
      (s.qlc.requests.length < 8 → request = (full, false))) ∧
    (8 ≤ s.qlc.requests.length → request = (s, false))) ∧
  (∀ (s : State) (c : Channel) (e : Entry), s.up = true → (s.qlc.line c).sending = none →
    bestEntry c s.qlc.queue = some e →
    s.qlc.queue.find? (fun x => x.on c && x.frame.body.priority == e.frame.body.priority) = some e ∧
      (∀ x ∈ s.qlc.queue, x.on c = true → e.frame.body.priority ≤ x.frame.body.priority) ∧
      (let sent : Frame :=
         if e.frame.body.announces then { e.frame with body := .announce (some {
           role := s.cfg.role, floor := s.cfg.floor, ceiling := s.cfg.ceiling, demand := s.lsu.declared
           errors := s.qlc.errors }) }
         else e.frame
       exec (.transmitStart c) s =
         .next (s.setQlc (s.qlc.withLine c { s.qlc.line c with sending := some ⟨e.id, sent⟩ })))) ∧
  (∀ (s : State) (c : Channel) (x : Sending), s.up = true → (s.qlc.line c).sending = some x →
    ∃ t, exec (.transmitComplete c) s = .next t ∧ t.qlc.line c = { s.qlc.line c with sending := none, faults := 0 } ∧
      t.qlc.queue = (s.qlc.queue.map fun e => if e.id = x.entry then e.without c else e).filter (fun e => e.onA || e.onB) ∧
      t.qlc.requests = s.qlc.requests.map (fun p => if p.entry = some x.entry then
        { p with deadline := some (s.now + s.cfg.responseTimeout), entry := none } else p) ∧
      t.qlc.line c.other = s.qlc.line c.other ∧
      (∀ v, x.frame.body = .announce (some v) → t.qlc.errors = {
        headerCheck := s.qlc.errors.headerCheck - v.errors.headerCheck
        payloadCheck := s.qlc.errors.payloadCheck - v.errors.payloadCheck
        length := s.qlc.errors.length - v.errors.length
        unknownKind := s.qlc.errors.unknownKind - v.errors.unknownKind
        lateAnswer := s.qlc.errors.lateAnswer - v.errors.lateAnswer
        queueFull := s.qlc.errors.queueFull - v.errors.queueFull
        channelADown := s.qlc.errors.channelADown - v.errors.channelADown
        channelBDown := s.qlc.errors.channelBDown - v.errors.channelBDown }) ∧
      ((∀ v, x.frame.body ≠ .announce (some v)) → t.qlc.errors = s.qlc.errors) ∧
      t.qlc = { s.qlc with
        lineA := t.qlc.lineA, lineB := t.qlc.lineB, queue := t.qlc.queue, requests := t.qlc.requests
        errors := t.qlc.errors, leftovers := s.qlc.leftovers.filter fun l => l.entry != x.entry } ∧
      t = { s with qlc := t.qlc }) ∧
  (∀ (s : State) (c : Channel), s.up = true →
    exec (.arbitrationLost c) s =
      .next (s.setQlc ((s.qlc.afterLoss c).withLine c { s.qlc.line c with sending := none }))) ∧
  (∀ (s : State) (c : Channel) (x : Sending), (s.qlc.line c).sending = some x →
    kindPriority x.frame.body.code = some x.frame.body.priority ∧
    kindLengthOk x.frame.body.code x.frame.body.payload.length = true ∧
    s.sentBytes c = some (wireBytes x.frame.body.priority
      ⟨s.cfg.station, x.frame.body.code, x.frame.destination, x.frame.sequence, x.frame.body.payload⟩)) ∧
  (∀ (priority : Nat) (w : WireFrame), kindPriority w.code = some priority → w.source ≤ 31 → w.destination ≤ 255 →
    kindLengthOk w.code w.payload.length = true → checkFrame (wireBytes priority w) = .ok w)

/-- A transmit fault, and a medium that stays busy under a waiting entry, raise an UP channel's fault count, which takes the
channel DOWN at 3; a silence of 5 s sets the silent mark, and takes the channel DOWN when a frame was received on the other
one within the last 5 s (R170, R171, R176), exactly 5 s ago among them, the model's choice (log entry 79). A faulted
Announce leaves no other one waiting (R183; that the one that waits gives way is the model's choice, log entries 42 and
80). -/
def Obligations.FaultsAndSilenceTakeChannelsDown : Prop :=
  (∀ (s : State) (c : Channel) (i : Instr), s.up = true → (s.qlc.line c).state = .up →
    (i = .transmitFault c ∧ (s.qlc.line c).sending.isSome = true ∨
      i = .mediumBusyTimeout c ∧ (s.qlc.line c).sending = none ∧ (bestEntry c s.qlc.queue).isSome = true) →
    ∃ t, exec i s = .next t ∧
      ((s.qlc.line c).faults < 2 →
        t = s.setQlc ((s.qlc.afterLoss c).withLine c
          { s.qlc.line c with sending := none, faults := (s.qlc.line c).faults + 1 })) ∧
      ((s.qlc.line c).faults = 2 →
        t.qlc.line c = { s.qlc.line c with state := .down, sending := none, faults := 3 } ∧
        t.qlc.errors = s.qlc.errors.down c ∧ s.journalled t (.channelDown c .faults) ∧
        t = { s with qlc := t.qlc, evj := t.evj })) ∧
  (∀ (s : State) (c : Channel), s.up = true → (s.qlc.line c).silent = false →
    ∃ t, exec (.silenceTimer c) s = .next t ∧ t.now = max s.now (s.qlc.line c).silenceAt ∧
      ((s.qlc.line c).state = .up → (s.qlc.line c.other).lastFrame.any (fun d => t.now ≤ d + 5000) = true →
        t.qlc.line c = { s.qlc.line c with silent := true, state := .down } ∧ t.qlc.errors = s.qlc.errors.down c ∧
        s.journalled t (.channelDown c .silence)) ∧
      ((s.qlc.line c).state = .down ∨ (s.qlc.line c.other).lastFrame.any (fun d => t.now ≤ d + 5000) = false →
        t = (s.setNow t.now).setQlc (s.qlc.withLine c { s.qlc.line c with silent := true })) ∧
      t = { s with now := t.now, qlc := t.qlc, evj := t.evj })

/-- The deadline of a request makes its next attempt with the same sequence, up to the third; one that finds the queue full
waits for its next deadline. After the third the request is TIMED_OUT: an Office Request is answered NO_ANSWER; a Take is
uncertain, and the next offer is taken or the call finished; a lookup is UNKNOWN to each waiting reader; a sale is refused
while it authorises and joins the unsettled list while it settles; an entry of the list is no longer in flight. An attempt
not sent in 200 ms is withdrawn and its response timeout starts; so is a frame that was being sent when the answer closed its
request, whose sending then is not tried again (R58, R117, R146, R151, R153, R179, R189). The list slot
taken is the lowest free one, and an attempt that finds the queue full counts as made on the channel it would have used: the
model's choices (log entries 55 and 71), as is the IDLE display of a pump that its sale leaves in FAULT (log entry 77). -/
def Obligations.RequestDeadlines : Prop :=
  (∀ (s : State) (n : Num8) (p : Pending) (d : Nat), s.up = true → s.fits → s.request? n = some p → p.deadline = some d →
    ∃ t, exec (.responseTimeout n) s = .next t ∧ t.now = max s.now d ∧
      (p.attempt < 3 → s.qlc.queue.length < 16 →
        t.request? n = some { p with
          attempt := p.attempt + 1, channel := s.qlc.prefer p.channel.other, deadline := none
          dropAt := t.now + 200, entry := some s.qlc.nextEntry } ∧
        s.queued t (s.qlc.prefer p.channel.other) ⟨p.destination, n, p.body⟩ ∧ t = { s with now := t.now, qlc := t.qlc }) ∧
      (p.attempt < 3 → 16 ≤ s.qlc.queue.length →
        t.request? n = some { p with
          attempt := p.attempt + 1, channel := s.qlc.prefer p.channel.other
          deadline := some (t.now + s.cfg.responseTimeout), dropAt := t.now + 200, entry := none } ∧
        t.qlc.queue = s.qlc.queue ∧ t.qlc.errors = s.qlc.errors.full ∧ t = { s with now := t.now, qlc := t.qlc }) ∧
      (∀ k st, 3 ≤ p.attempt → p.originator = .terminal → s.tpc.state = .forwarding k st →
        t.qlc.requests = s.qlc.requests.filter (fun x => x.sequence != n) ∧
        t.tpc = s.tpc.sending (answer k .noAnswer) ∧ s.journalled t (.officeUncertain st k) ∧
        t = { s with now := t.now, qlc := t.qlc, tpc := t.tpc, evj := t.evj }) ∧
      (∀ m c st berth, 3 ≤ p.attempt → p.originator = .call m → s.call? m = some c → c.inFlight = some (st, berth) →
        (∀ o, c.offers = [o] → (∃ x, t.call? m = some x ∧ x.phase = .finished ∧ x.outcome = some .noBerth) ∧
          t.qlc.requests = s.qlc.requests.filter (fun x => x.sequence != n) ∧
          s.journalledAll t [.takeUncertain st berth m, .callDone m .noBerth]) ∧
        (∀ old o rest, c.offers = old :: o :: rest → o.station ≠ s.cfg.station → s.qlc.requests.length ≤ 8 →
          s.qlc.queue.length < 16 →
          (∃ x, t.call? m = some x ∧ x.phase = .taking ∧ x.inFlight = some (o.station, o.berth) ∧ x.offers = o :: rest) ∧
          s.journalled t (.takeUncertain st berth m) ∧
          ∃ e ∈ t.qlc.requests, e.destination = o.station ∧ e.originator = .call m ∧ e.attempt = 1 ∧
            e.body = .berthTake ⟨s.cfg.station, m⟩ o.berth c.request.stay c.request.tags c.request.name)) ∧
      (∀ tag l, 3 ≤ p.attempt → p.originator = .lookup tag → s.lookup? tag = some l →
        (∃ u, t = deliverAll tag .unknown l.waiting u ∧ u = { s with now := t.now, acu := u.acu, qlc := u.qlc } ∧
          u.acu = { s.acu with lookups := s.acu.lookups.filter fun x => x.tag != tag }) ∧
        (∀ g x, l.waiting.Nodup → Reader.gate g ∈ l.waiting → s.gate? g = some x →
          t.gate? g = some (if x.state = .unlocked then x else s.gateAfter x .unknown)) ∧
        t.acu.lookups = s.acu.lookups.filter (fun x => x.tag != tag) ∧
        t.qlc.requests = s.qlc.requests.filter (fun x => x.sequence != n) ∧
        (∀ g x, l.waiting = [.gate g] → s.gate? g = some x → x.state ≠ .unlocked →
          t.gate? g = some { x with denials := min top32 (x.denials + 1) } ∧ s.sameGatesBut t g ∧
          s.journalled t (.accessDenied tag ⟨g, none, none, none, none, none, none⟩ .unknown))) ∧
      (∀ id q x, 3 ≤ p.attempt → p.originator = .pumpSale id → s.pump? id.pump = some q → q.sale = some x → x.id = id →
        let left : Pump := { q with
          state := if q.state = .fault then .fault else .idle, command := .disabled, display := .idle
          refusedUntil := none, readyAt := none, recovered := false, sale := none }
        (x.stage = .authorising →
          t.pump? id.pump = some { left with
            display := .refused .noAnswer, refusedUntil := some (t.now + 5000)
            last := some { x with stage := .closed, outcome := some .refused } } ∧
          s.onlyPump t id.pump ∧
          s.journalled t (.saleRefused id.pump .noAnswer ((x.party.map SaleParty.tag).getD 0) x.faultMark)) ∧
        (∀ slot, x.stage ≠ .authorising → lowestFree s.fsc.slotsUsed 5 16 = some slot →
          t.pump? id.pump = some { left with last := some { x with stage := .listed } } ∧ s.samePumpsBut t id.pump ∧
          t.fsc.unsettled =
            s.fsc.unsettled ++ [⟨{ x with stage := .listed }, bump32 s.fsc.lastOrder, 0, false, slot⟩] ∧
          t.dirtyRecord (.sale slot) ∧ t.evj = s.evj)) ∧
      (∀ id, 3 ≤ p.attempt → p.originator = .unsettled id →
        t.fsc = { s.fsc with
          unsettled := s.fsc.unsettled.map fun u => if u.sale.id = id then { u with inFlight := false } else u } ∧
        t = { s with now := t.now, qlc := t.qlc, fsc := t.fsc })) ∧
  (∀ (s : State) (n : Num8) (p : Pending), s.up = true → s.request? n = some p → p.deadline = none →
    ∃ t, exec (.attemptDrop n) s = .next t ∧ t.now = max s.now p.dropAt ∧
      t.request? n = some { p with deadline := some (t.now + s.cfg.responseTimeout), entry := none } ∧
      t.qlc.queue = s.qlc.queue.filter (fun e => p.entry != some e.id) ∧ t = { s with now := t.now, qlc := t.qlc }) ∧
  (∀ (s : State) (n : Num8) (l : Leftover), s.up = true → (∀ p, s.request? n = some p → p.deadline ≠ none) →
    s.qlc.leftovers.find? (fun x => x.sequence == n) = some l →
    ∃ t, exec (.attemptDrop n) s = .next t ∧ t.now = max s.now l.dropAt ∧
      t.qlc = { s.qlc with
        queue := s.qlc.queue.filter fun e => e.id != l.entry
        leftovers := s.qlc.leftovers.filter fun x => x.entry != l.entry } ∧
      t = { s with now := t.now, qlc := t.qlc })

/-- A frame that fails a check is dropped with the count of the first check it fails, in the order header, length, payload,
kind, the kind's own lengths; a good frame of this station's own number is dropped with STATION_CLASH, and one for another
station is passed over. Any frame with a good header is heard: it starts its channel's silence time again, and brings a DOWN
channel UP with no faults and CHANNEL_UP. It takes the other channel DOWN where that is UP with its silent mark set: counted,
journalled, its waiting entries moved (R170, R171, R174, R177, R184). That a frame cut short fails at the first check its
missing bytes reach (log entry 43), CHANNEL_UP before CHANNEL_DOWN (log entry 66), and UNKNOWN_KIND for a kind byte with bits
7 to 5 set (log entry 88), are the model's choices. -/
def Obligations.BadFramesAreCountedAndDropped : Prop :=
  ∀ (s : State) (c : Channel) (bytes : List Byte), s.up = true → s.fits →
    let n := (byteAt bytes 4).toNat
    let l := s.qlc.line c
    let woken : List Report := if l.state = .down then [.channelUp c] else []
    let heard : Line := { l with
      state := .up, faults := if l.state = .down then 0 else l.faults
      lastFrame := some s.now, silenceAt := s.now + 5000, silent := false }
    let q := s.qlc.withLine c heard
    let ends (e : ErrorSummary) (notes : List Report) : Prop :=
      ∃ t, exec (.quaylineFrameDropped c bytes) s = .next t ∧ s.journalledAll t (woken ++ notes) ∧
        (woken ++ notes = [] → t.evj = s.evj) ∧ t = { s with qlc := { q with errors := e }, evj := t.evj }
    (headerGood bytes = false → exec (.quaylineFrameDropped c bytes) s =
      .next (s.setQlc { s.qlc with errors := s.qlc.errors.header })) ∧
    ((s.qlc.line c.other).silent = false →
      (headerGood bytes = true → 48 < n → ends s.qlc.errors.badLength []) ∧
      (headerGood bytes = true → n ≤ 48 → payloadGood bytes = false → ends s.qlc.errors.payload []) ∧
      (headerGood bytes = true → n ≤ 48 → payloadGood bytes = true →
        let code := (byteAt bytes 1).toNat
        let known := kindPriority code = some ((byteAt bytes 0).toNat / 32)
        (¬known → ends s.qlc.errors.kindUnknown []) ∧
        (known → kindLengthOk code n = false → ends s.qlc.errors.badLength [])) ∧
      (∀ f, checkFrame bytes = .ok f →
        (f.source = s.cfg.station → ends s.qlc.errors [.stationClash c]) ∧
        (f.source ≠ s.cfg.station → f.destination ≠ 0 → f.destination ≠ s.cfg.station → ends s.qlc.errors []))) ∧
    (∀ f, checkFrame bytes = .ok f → f.source ≠ s.cfg.station → f.destination ≠ 0 → f.destination ≠ s.cfg.station →
      (s.qlc.line c.other).silent = true → (s.qlc.line c.other).state = .up →
      ∃ t, exec (.quaylineFrameDropped c bytes) s = .next t ∧ t.qlc.line c = heard ∧
        t.qlc.line c.other = { s.qlc.line c.other with state := .down } ∧ t.qlc.errors = s.qlc.errors.down c.other ∧
        t.qlc.queue = (s.qlc.queue.map fun e => if s.qlc.beingSent e.id c.other then e else e.moved c.other) ∧
        s.journalledAll t (woken ++ [.channelDown c.other .silence]) ∧ t = { s with qlc := t.qlc, evj := t.evj })

/-! ### Chapter 11: the terminal, the journal, the configuration -/

/-- A byte outside a frame is passed over unless it is the start byte; within a frame it joins it and restarts the 50 ms
gap; a length of 0 or above 233, and a gap that runs out, drop the frame; while TPC is WORKING or REPLYING every byte is
discarded; a complete frame is answered STARTING, BAD_FRAME, UNKNOWN_COMMAND or CONFIG_FAULT, or its command is taken
(R187). That a berth operation in CONFIG_FAULT is answered CONFIG_FAULT by TPC before BST could answer it R24's NO_BERTH (log
entry 56), and that Config.readCommand says which payloads are a command and which BAD_LENGTH (log entry 5), are the model's
choices. -/
def Obligations.TerminalBytesMakeFrames : Prop :=
  (∀ (s : State) (d : Nat), s.tpc.state = .receiving → s.tpc.gapAt = some d →
    exec .frameGapTimeout s = .next { s with
      now := max s.now d
      tpc := { s.tpc with state := .waiting, received := [], gapAt := none, dropped := min top16 (s.tpc.dropped + 1) } }) ∧
  (∀ (s : State) (b : Byte), s.fits →
    (s.tpc.state = .waiting → exec (.terminalByte b) s = .next (if b = startByte then
        s.setTpc { s.tpc with state := .receiving, received := [], gapAt := some (s.now + 50) } else s)) ∧
    (s.tpc.listens = false →
      exec (.terminalByte b) s = .next (s.setTpc { s.tpc with discarded := min top16 (s.tpc.discarded + 1) })) ∧
    (s.tpc.state = .receiving →
      let got := s.tpc.received ++ [b]
      let inFrame := s.setTpc { s.tpc with received := got, gapAt := some (s.now + 50) }
      (s.tpc.received = [] → b = 0 ∨ 233 < b.toNat → exec (.terminalByte b) s = .next (s.setTpc { s.tpc with
        state := .waiting, received := [], gapAt := none, dropped := min top16 (s.tpc.dropped + 1) })) ∧
      (¬(s.tpc.received = [] ∧ (b = 0 ∨ 233 < b.toNat)) →
        (frameComplete got = false → exec (.terminalByte b) s = .next inFrame) ∧
        (frameComplete got = true →
          (s.cfl.starting = true → exec (.terminalByte b) s = .next (inFrame.setTpc (inFrame.tpc.sending
            { code := codeOf (frameCode got), result := .starting }))) ∧
          (s.cfl.starting = false → frameGood got = false → exec (.terminalByte b) s = .next (inFrame.setTpc
            (inFrame.tpc.sending { code := codeOf (frameCode got), result := .badFrame }))) ∧
          (s.cfl.starting = false → frameGood got = true → exec (.terminalByte b) s = .next (
            match codeOf (frameCode got) with
            | .other o => inFrame.setTpc (inFrame.tpc.sending { code := .other o, result := .unknownCommand })
            | .known k =>
              if s.inFault = true ∧ CmdKind.inFault k = false then
                inFrame.setTpc (inFrame.tpc.sending (answer k .configFault))
              else
                match (Config.readCommand k (framePayload got)).filter (fun c => c.kind == k) with
                | none => inFrame.setTpc (inFrame.tpc.sending (answer k .badLength))
                | some c => settled s (ownRule (framePayload got).length c inFrame)))))))

/-- The reading commands change nothing but TPC: the listings fill their reply with whole items to the reply limit from the
resume point on, JOURNAL_READ with GAP when its start is below the oldest entry held; STATUS, TAG_STATUS, CACHE_STATUS and
DAY_STATUS carry what their rules name; STATUS is answered in CONFIG_FAULT too, without station number and role (R18, R61,
R86, R109, R126, R139, R156, R169, R186, R188, R191, R194). The model's choices: the items' sizes and the places that name
them, the rounding of times left, and the OK of CALL_STATUS with ALL (log entries 6, 12 and 52); that STATUS, TAG_STATUS,
CACHE_STATUS and DAY_STATUS longer than the limit are cut at it and not continued (60); the first item of POST_STATUS on a FUEL or GATE
station (58), and where its head and its queue divide into items (85), as the fields of a booking do (92); in SALE_STATUS the order of the pumps, that direct
sales count as in progress, and no seconds left for a stopped retry timer (65, 70, 86); in LINK_STATUS the order of the
pending lines and the time since the last frame where there was none (72, 73). -/
def Obligations.ReadingCommandsChangeNothing : Prop :=
  ∀ (s : State) (station resume : Nat), s.fits →
    let status (who : Item) (load : Item) : Reply := answer .status .ok [who, load, .clock s.dck.clock,
      .store s.bst.fault s.dirty,
      .journal s.evj.entries.length s.evj.unread s.evj.mark s.evj.next s.evj.overflow s.evj.attention,
      .number s.noticeCount, .port s.tpc.limit s.tpc.dropped s.tpc.discarded, .staging s.cfl.filling s.cfl.staged.length]
    (∀ r o, s.cfl.starting = false → s.tpc.listens = true → s.cfl.load = .fault r o →
      exec (.status station) s = .next (s.setTpc (s.tpc.answers (status (.identity none none) (.rejected r o)))) ∧
      exec .dayStatus s = .next (s.setTpc (s.tpc.sending (answer .dayStatus .configFault)))) ∧
    (s.cfl.starting = true → s.tpc.listens = true →
      exec (.status station) s = .next (s.setTpc (s.tpc.sending (answer .status .starting)))) ∧
    (s.ready → s.isHere station →
      exec (.status station) s =
        .next (s.setTpc (s.tpc.answers (status (.identity (some s.cfg.station) (some s.cfg.role)) .accepted))) ∧
      exec .dayStatus s = .next (s.setTpc (s.tpc.answers (answer .dayStatus .ok (
        [.clock s.dck.clock, .close s.cfg.closeSecond (s.dck.clock.map fun t => secondsToClose s.cfg.closeSecond t.second),
          .inForce s.dck.inForce, .staged s.dck.staged] ++ s.cfg.tariffs.zipIdx.map (fun p => .tariff (p.2 + 1) p.1) ++
        [.overstay .resident s.cfg.residentOverstay, .overstay .visitor s.cfg.visitorOverstay])))) ∧
      (let unexpired (e : CacheEntry) : Bool := e.validUntil.any fun v => s.now / 1000 < v
       let counts : Item := .cacheCounts s.acu.counts
         (s.acu.cache.filter fun e => !e.pinned && unexpired e).length (s.acu.cache.filter fun e => e.pinned).length
         s.acu.lookups.length
       exec .cacheStatus s = .next (s.setTpc (s.tpc.answers (answer .cacheStatus .ok [counts]))) ∧
       ∀ tag : Tag,
         let held : Option (Nat × Nat × Num8) :=
           if s.cfg.role = .pontoon then (s.byTag? tag).map fun p => (p.1, p.2.serial.getD 0, p.2.epoch) else none
         let way (e : CacheEntry) : Item :=
           if e.pinned then .cacheWay e false none
           else if unexpired e then .cacheWay e false (e.validUntil.map fun v => v - s.now / 1000)
           else .cacheWay e true none
         exec (.tagStatus tag) s = .next (s.setTpc (s.tpc.answers (answer .tagStatus .ok
           ([.localTag held, .cacheSet (tag.toNat % 64)] ++
             ((s.acu.cache.find? fun e => e.record.tag == tag).map way).toList ++
             ((s.acu.lookups.find? fun l => l.tag == tag).map Item.lookup).toList))))) ∧
      (∀ n c, s.call? n = some c → exec (.callStatus (some n) resume) s =
        .next (s.setTpc (s.tpc.answers (answer .callStatus c.result [c.line])))) ∧
      s.lists (.callStatus none resume) .callStatus false (fromResume resume (numberItems
        ((sortBy (fun x y : Call => x.number.toNat ≤ y.number.toNat) s.alc.calls).map Call.line))) ∧
      s.lists (.loadStatus resume) .loadStatus false (fromResume resume ((0, .load s.loadFixed) ::
        s.lsu.participants.map fun p => (p.number, Item.participant p))) ∧
      s.lists (.postStatus resume) .postStatus false (fromResume resume (numberItems s.postItems)) ∧
      s.lists (.linkStatus resume) .linkStatus false (fromResume resume (numberItems s.linkItems)) ∧
      (s.gtc.gates ≠ [] → s.lists (.gateStatus station resume) .gateStatus false
        (fromResume resume (s.gtc.gates.map fun g => (g.cfg.number, .gate (s.gateLine g))))) ∧
      (s.fsc.pumps ≠ [] → s.lists (.saleStatus station resume) .saleStatus false (fromResume resume (numberItems
        (s.fsc.pumps.map (fun p => Item.pump (Pump.line p)) ++
          [.saleCounts (s.fsc.pumps.filter fun p => p.sale.isSome).length s.fsc.unsettled.length,
            .retryLeft (s.fsc.retryAt.map s.secondsLeft)] ++ s.fsc.unsettled.map Item.unsettled)))) ∧
      (let start := if resume = 0 then s.evj.mark else resume
       start ≤ s.evj.next → s.lists (.journalRead resume) .journalRead
         (s.evj.entries.head?.any fun e => decide (start < e.sequence))
         ((s.evj.entries.filter fun e => start ≤ e.sequence).map fun e => (e.sequence, Item.entry e))) ∧
      (∀ berth bb, s.cfg.role = .pontoon → s.berth? berth = some bb →
        s.lists (.readBooking station berth 0 resume) .readBooking false (fromResume resume (summaryItems bb))) ∧
      (∀ berth serial b, s.finds berth serial b →
        s.lists (.readBooking station berth serial resume) .readBooking false (fromResume resume (bookingItems b))))

/-- SET_REPLY_LIMIT takes a limit of 16 to 240, and no reply of a command performed here carries more than its limit: either
its items are within it, or it sets CUT and ends with the item that reaches the limit. SELECT_TARIFF stages a set or cancels the staged one; JOURNAL_ACK moves the
read mark forward alone, and EVJ looks at the attention line again (R163, R188, R194, R195). That a reply that is no listing
is cut like a first item, and not continued, is the model's choice (log entry 60). An entry written joins the
journal at its end with the next sequence; a full journal gives up its oldest entry, and where that was unread the overflow
count rises and the read mark moves to the oldest that remains (R192, R193); the attention line is then asserted while 128
entries are unread, a notice stands at a gate or the station is in CONFIG_FAULT, but not during the load (R195). -/
def Obligations.LimitTariffAndReadMark : Prop :=
  (∀ (s : State) (limit : Nat), s.ready → s.fits →
    exec (.setReplyLimit limit) s = .next (s.setTpc (if 16 ≤ limit ∧ limit ≤ 240 then
      { s.tpc with limit := limit }.sending (answer .setReplyLimit .ok)
    else s.tpc.sending (answer .setReplyLimit .badValue)))) ∧
  (∀ (s : State) (limit : Nat) (c : TermCmd), 0 < limit →
    let r := (perform limit c s).2
    let bytes (l : List Item) : Nat := (l.map Config.itemBytes).sum
    (r.cut = false → bytes r.items ≤ limit) ∧
    (r.cut = true → limit ≤ bytes r.items ∧ bytes r.items.dropLast < limit)) ∧
  (∀ (s : State) (station number : Nat), s.ready → s.fits → s.isHere station → number ≤ 4 →
    let staged := if number = 0 then none else some number
    ∃ t, exec (.selectTariff station number) s = .next t ∧ t.dck = { s.dck with staged := staged } ∧
      t.tpc = s.tpc.answers (answer .selectTariff .ok [.inForce s.dck.inForce, .staged staged]) ∧
      s.journalled t (.tariffStaged number s.dck.inForce) ∧ t = { s with dck := t.dck, tpc := t.tpc, evj := t.evj }) ∧
  (∀ (s : State) (sequence : Nat), s.ready → s.fits → sequence < s.evj.next →
    ∃ t, exec (.journalAck sequence) s = .next t ∧ t.evj.entries = s.evj.entries ∧
      t.evj.mark = max s.evj.mark (sequence + 1) ∧
      t.tpc = s.tpc.answers (answer .journalAck .ok [.number t.evj.unread]) ∧ (s.evj.mark ≤ sequence → t.lineIsDue) ∧
      t = { s with tpc := t.tpc, evj := t.evj }) ∧
  (∀ (r : Report) (s : State), s.evj.entries.length ≤ 256 →
    let t := report r s
    t.evj.entries = (s.evj.entries ++ [(⟨s.evj.next, s.dck.clock, r⟩ : JournalEntry)]).drop (s.evj.entries.length - 255) ∧
    (s.evj.next < 4294967295 → t.evj.next = s.evj.next + 1) ∧
    (∀ oldest, s.evj.entries.length = 256 → s.evj.entries.head? = some oldest → s.evj.mark ≤ oldest.sequence →
      t.evj.overflow = min 65535 (s.evj.overflow + 1) ∧ t.evj.entries.head?.map JournalEntry.sequence = some t.evj.mark) ∧
    (s.evj.entries.length < 256 ∨ (∀ oldest ∈ s.evj.entries.head?, oldest.sequence < s.evj.mark) →
      t.evj.overflow = s.evj.overflow ∧ t.evj.mark = s.evj.mark) ∧
    t.lineIsDue ∧ t = { s with evj := t.evj })

/-- Office traffic: a command that names another station goes there as a pending Office Request with TPC WORKING; its
answer is relayed at the terminal; a repeat of a request already performed is answered again without performing it, a
command that is not forwarded is answered UNKNOWN_COMMAND, any other is performed with the request's limit in place of the
reply limit, and its reply is the answer sent and the one held for a repeat (R189, R190). That one whose payload has a length its
command does not allow is answered BAD_LENGTH with nothing performed or held is the model's choice (log entry 96). That it is performed here whatever
station the command names is the model's reading (log entry 17), and so is how long a command's payload is (log entry 5). -/
def Obligations.OfficeTraffic : Prop :=
  (∀ (s : State) (st a b d e : Nat) (tags : List Tag) (id : HoldId) (m : Option GateMode) (k : NoticeKind) (n : Num8),
    s.ready → s.fits → 1 ≤ st → st ≤ 30 → st ≠ s.cfg.station → s.qlc.requests.length < 8 → s.qlc.queue.length < 16 →
    ∀ p ∈ ([(.checkOut st a b, .checkOut st a b), (.cancel st a b, .cancel st a b), (.extend st a b d, .extend st a b d),
        (.setTags st a b tags, .setTags st a b tags), (.readBooking st a b d, .readBooking st a b d),
        (.credit st a b d, .credit st a b d), (.bar st a b, .bar st a b), (.unbar st a b, .unbar st a b),
        (.setMarks st a b d e, .setMarks st a b d e), (.dropHold st a b id, .dropHold st a b id),
        (.energise st a b, .energise st a b), (.off st a b, .off st a b), (.resetOutlet st a b, .resetOutlet st a b),
        (.clearLeak st a, .clearLeak st a), (.setGateMode st a m, .setGateMode st a m),
        (.gateStatus st a, .gateStatus st a), (.gateAck st a k, .gateAck st a k),
        (.directAuthorise st a b, .directAuthorise st a b), (.cancelSale st a, .cancelSale st a),
        (.writeOffSale st a n, .writeOffSale st a n), (.saleStatus st a, .saleStatus st a),
        (.selectTariff st a, .selectTariff st a), (.status st, .status st)] : List (Instr × TermCmd)),
      if 46 < Config.payloadBytes p.2 then exec p.1 s = .next (s.setTpc (s.tpc.sending (answer p.2.kind .tooLong)))
      else ∃ t, exec p.1 s = .next t ∧ t.tpc.state = .forwarding p.2.kind st ∧
        (∃ q ∈ t.qlc.requests, q.destination = st ∧ q.body = .officeRequest (.known p.2) (min s.tpc.limit 40) ∧
          q.originator = .terminal ∧ q.attempt = 1 ∧
          s.queued t (s.qlc.prefer .a) ⟨st, q.sequence, .officeRequest (.known p.2) (min s.tpc.limit 40)⟩) ∧
        t = { s with qlc := t.qlc, tpc := t.tpc }) ∧
  (∀ (s : State) (ch : Channel) (source : Nat) (sequence : Num8) (reply : Reply) (p : Pending), s.hears source →
    s.matching? source sequence (.officeAnswer reply) = some p →
    ∃ t, exec (.officeAnswer ch source sequence reply) s = .next t ∧ t.tpc = s.tpc.sending reply ∧
      (∀ x ∈ t.qlc.requests, x.sequence ≠ sequence) ∧ t = { s with qlc := t.qlc, tpc := t.tpc, evj := t.evj }) ∧
  (∀ (s : State) (ch : Channel) (source limit : Nat) (sequence : Num8) (c : OfficeCommand), s.hears source →
    s.qlc.queue.length < 16 →
    ∃ t, exec (.officeRequest ch source sequence c limit) s = .next t ∧
      (∀ r, s.tpc.repeated? source sequence c = some r →
        s.queued t ch ⟨source, sequence, .officeAnswer r.answer⟩ ∧ t = { s with qlc := t.qlc, evj := t.evj }) ∧
      (∀ k payload, s.tpc.repeated? source sequence c = none → c = .misfit k payload → CmdKind.forwarded k = true →
        s.queued t ch ⟨source, sequence, .officeAnswer (answer k .badLength)⟩ ∧ t = { s with qlc := t.qlc, evj := t.evj }) ∧
      (s.tpc.repeated? source sequence c = none → OfficeCommand.forwarded? c = none →
        (∀ k payload, c = .misfit k payload → CmdKind.forwarded k = false) →
        s.queued t ch ⟨source, sequence, .officeAnswer { code := c.code, result := .unknownCommand }⟩ ∧
        t = { s with qlc := t.qlc, evj := t.evj }) ∧
      (∀ f, s.tpc.repeated? source sequence c = none → OfficeCommand.forwarded? c = some f →
        let r := perform limit f (heardOn ch s)
        let held := (s.tpc.repeats.filter fun x => x.station != source) ++ [⟨source, sequence, c, r.2⟩]
        t = settled s (sendAnswer ch source sequence (.officeAnswer r.2) (r.1.setTpc { s.tpc with repeats := held })) ∧
        t.tpc = { s.tpc with repeats := held } ∧
        (r.1.qlc.queue.length < 16 → s.queued t ch ⟨source, sequence, .officeAnswer r.2⟩)))

/-- WRITE_CONFIG fills the staging buffer in order from BEGIN on; a COMMIT that checks out waits for the record write in
flight, writes the whole buffer over the image region and empties it, and leaves every record; a write that fails keeps
the buffer and leaves no image that is accepted. RESTART is answered OK (R197, R198). That an offset out of order comes
before a length past the end is the model's choice (log entry 19). -/
def Obligations.StagedImageIsWritten : Prop :=
  (∀ (s : State), s.cfl.starting = false → s.tpc.listens = true → s.fits →
    (∀ length, 22 ≤ length → length ≤ 8190 → exec (.writeConfigBegin length) s =
      .next ((s.setCfl { s.cfl with filling := true, length := length, staged := [] }).setTpc
        (s.tpc.sending (answer .writeConfig .ok)))) ∧
    (∀ bytes, s.cfl.filling = true → bytes ≠ [] → bytes.length ≤ 200 →
      s.cfl.staged.length + bytes.length ≤ s.cfl.length →
      exec (.writeConfigData s.cfl.staged.length bytes) s =
        .next ((s.setCfl { s.cfl with staged := s.cfl.staged ++ bytes }).setTpc
          (s.tpc.answers (answer .writeConfig .ok [.number (s.cfl.staged.length + bytes.length)])))) ∧
    (∀ offset bytes, s.cfl.filling = true → bytes ≠ [] → bytes.length ≤ 200 → offset ≠ s.cfl.staged.length →
      exec (.writeConfigData offset bytes) s =
        .next (s.setTpc (s.tpc.answers (answer .writeConfig .badOffset [.number s.cfl.staged.length])))) ∧
    (s.cfl.filling = true → s.cfl.length ≤ s.cfl.staged.length →
      match checkImage s.cfl.staged with
      | .ok _ => ∃ t, exec .writeConfigCommit s = .next t ∧ t.tpc.state = .committing ∧ t.tpc.reply = none ∧
          t.cfl = { s.cfl with phase := .waiting } ∧ t = { s with cfl := t.cfl, tpc := t.tpc }
      | .error (reason, offset) => exec .writeConfigCommit s =
          .next (s.setTpc (s.tpc.answers (answer .writeConfig .badConfig [.reason reason offset])))) ∧
    exec .restart s = .next (s.setTpc (s.tpc.sending (answer .restart .ok)))) ∧
  (∀ (s : State), s.cfl.phase = .waiting → s.bst.inFlight = none →
    exec .configWriteStart s = .next (s.setCfl { s.cfl with phase := .writing })) ∧
  (∀ (s : State) (complete : Bool), s.cfl.phase = .writing → s.store.wf →
    ∃ t, exec (.configWriteEnd complete) s = .next t ∧
      (∀ id, storedAt id t.store = storedAt id s.store) ∧
      (∀ i, s.cfl.staged.length ≤ i → regionByte t.store i = regionByte s.store i) ∧
      (complete = true → (∀ i, i < s.cfl.staged.length → regionByte t.store i = s.cfl.staged.getD i 0) ∧
        t.cfl = { s.cfl with phase := .idle, filling := false, length := 0, staged := [] } ∧
        t.tpc = s.tpc.sending (answer .writeConfig .ok) ∧
        s.journalled t (.configWritten s.cfl.length (imageCheck s.cfl.staged).toNat)) ∧
      (complete = false → t.cfl = { s.cfl with phase := .idle } ∧ s.journalled t .configWriteFailed ∧
        (s.cfl.staged ≠ [] → ∃ e, checkImage (imageBytes t.store) = .error e) ∧
        t.tpc = s.tpc.sending (answer .writeConfig .storeFault)) ∧
      t = { s with free := t.free, store := t.store, tpc := t.tpc, evj := t.evj, cfl := t.cfl })

/-- A power-on reset, and the end of the reply OK to RESTART, leave nothing of what ran but the record store, the waiting
commands and the sense lines; an image that is not read or does not check out leaves the station without values, every pump
line DISABLED, and no berth that an operation of BST could find. A reset that cuts off a record write leaves what the slot
held or a damaged record; one that cuts off an image write leaves no image that is accepted. The end of any other reply lets
TPC wait again. An accepted image is loaded in this order: CFL hands its values on, BST loads its records, PRS works out
standing, PBC builds its records, ACU pins its tags, GTC and FSC set theirs. Each stage is given slot by slot, booking by
booking, outlet by outlet: what a sound record becomes, what a record lost, clashing or ended leaves; the holds that expire
and the notice kept; the outlets and taps by their holding booking; the ways pinned; the gates by start mode and door; the
sales listed or taken up. The end of the load takes the notices, in their order, and journals its outcome: a notice advances
the epoch, drops and revokes the tags, suspends or resumes the outlets and the tap that the booking holds (R22, R23, R24, R28,
R45, R66, R84, R110, R119, R140, R158, R192, R195, R196, R197, R198). What the station holds without an image, and that the
waiting commands, the count of free values and the sense lines stay, are the model's choices (log entries 10, 21 and 24); so
are the last ending number that stands (67), the statements of a FUEL or GATE station (22), TAG_CLASH before RECORD_LOST (76),
the order of HOLD_EXPIRED (57), of the clearing of stray wanted flags (59) and of two GATE_AJAR (62), what SALE_ABANDONED
carries (63), where the slots of pumps not in the table are reported lost (64), that a record of another kind in a booking
slot is reported lost without a berth (91), a sale that stands both on its pump and in the list (78), the first poll round
without posts (58), and the order in which a notice takes the outlets (49). -/
def Obligations.ResetsAndTheEndOfTheLoad : Prop :=
  let freed (s u : State) (id : RecordId) (notes : List Report) : Prop :=
    u.dirtyRecord id ∧ s.journalledAll u notes ∧
      u.bst = { s.bst with queue := u.bst.queue, inFlight := u.bst.inFlight } ∧ u = { s with bst := u.bst, evj := u.evj }
  (∀ (s : State) (ready : Bool) (cause : ResetCause) (i : Instr), s.bst.inFlight = none → s.cfl.phase ≠ .writing →
    (cause = .powerOn ∧ i = .powerOnReset ready ∨
      cause = .command ∧ i = .replySent ready ∧ s.tpc.state = .replying ∧ s.tpc.reply = some (answer .restart .ok)) →
    ∃ t, exec i s = .next t ∧ t.afreshAt ∧ t.pending = s.pending ∧ t.free = s.free ∧ t.door1 = s.door1 ∧
      t.door2 = s.door2 ∧ t.store = s.store ∧
      (let without (r : ConfigReason) (o : Option Nat) : Prop :=
        t.cfl.load = .fault r o ∧ t.cfg = blankImage ∧ t.bst = {} ∧ t.gtc = {} ∧ t.fsc = {} ∧
          (∀ n, t.pumpLine n = .disabled) ∧ (∀ berth serial, t.addressed berth serial = .error .noBerth) ∧
          t.evj = { entries := [⟨1, none, .restart cause⟩], next := 2, mark := 1 }
       if ready then
        match checkImage (imageBytes s.store) with
        | .ok image => t.cfl.load = .accepted ∧ t.cfg = image.clamped ∧
          t = loadImage (imageBody (imageBytes s.store)) image { State.reset with
            pending := s.pending, free := s.free, door1 := s.door1, door2 := s.door2, store := s.store
            evj := { entries := [⟨1, none, .restart cause⟩], next := 2, mark := 1 } }
        | .error (r, o) => without r o
       else without .store none)) ∧
  (∀ (s : State) (ready : Bool) (i : Instr), s.store.wf →
    (i = .powerOnReset ready ∨
      i = .replySent ready ∧ s.tpc.state = .replying ∧ s.tpc.reply = some (answer .restart .ok)) →
    ∃ t, exec i s = .next t ∧ t.afreshAt ∧
      (∀ id, (∀ w, s.bst.inFlight = some w → placeOf id ≠ placeOf w.id) → storedAt id t.store = storedAt id s.store) ∧
      (∀ w, s.bst.inFlight = some w →
        storedAt w.id t.store = storedAt w.id s.store ∨ (storedAt w.id t.store).good = false) ∧
      (s.cfl.phase ≠ .writing → ∀ k, regionByte t.store k = regionByte s.store k) ∧
      (s.cfl.phase = .writing → s.cfl.staged ≠ [] → ∃ r o, t.cfl.load = .fault r o)) ∧
  (∀ (s : State) (ready : Bool) (r : Reply), s.tpc.state = .replying → s.tpc.reply = some r →
    ¬(r.code = .known .restart ∧ r.result = .ok) →
    exec (.replySent ready) s = .next (s.setTpc { s.tpc with state := .waiting, reply := none })) ∧
  (∀ (s : State), s.cfl.starting = true →
    ∃ t, exec .loadEnd s = .next t ∧ t.cfl = { s.cfl with starting := false, notices := [] } ∧
      (∀ r o, s.cfl.load = .fault r o → s.fits → s.journalled t (.configRejected r o) ∧ t.evj.attention = true ∧
        t = { s with cfl := t.cfl, evj := t.evj }) ∧
      (s.cfl.load = .accepted →
        (∃ u, t = settled s u ∧ u = report
          (.configLoaded (imageLength (regionBytes s.store 0 6)) (imageCheck (regionBytes s.store 0 6)).toNat)
          (s.cfl.notices.foldl (fun x n => notice n.1 n.2.1 n.2.2.1 n.2.2.2 x)
            (s.setCfl { s.cfl with starting := false, notices := [] }))) ∧
        (s.fits → s.cfl.notices = [] →
          s.journalled t (.configLoaded (imageLength (regionBytes s.store 0 6)) (imageCheck (regionBytes s.store 0 6)).toNat) ∧
          t = { s with cfl := t.cfl, evj := t.evj }))) ∧
  (∀ (s : State) (body : List Byte) (read : Image),
    let built := buildPosts (reloadPurses (loadRecords (handValues body read s)))
    loadImage body read s = buildPumps (buildGates (read.clamped.pins.foldl (fun x p => pinTag p x) built))) ∧
  (∀ (s : State) (body : List Byte) (read : Image),
    let i := read.clamped
    let c := min read.ceiling read.feederLimit
    let u := handValues body read s
    u.cfg = i ∧ u.cfl = { s.cfl with load := .accepted } ∧
    i = { read with
      floor := min read.floor c, ceiling := if read.role = .pontoon then c else min read.floor c } ∧
    s.journalledAll u (
      (if read.feederLimit < read.ceiling then
        [.configClamped (Config.fieldOffset body ceilingField) read.ceiling] else []) ++
      (if c < read.floor then [.configClamped (Config.fieldOffset body floorField) read.floor] else [])) ∧
    u.bst = { s.bst with berths := u.bst.berths } ∧ (u.bst.berths.map Berth.cfg).Perm i.berths ∧
    (∀ b ∈ u.bst.berths, b.bookings = []) ∧
    u.lsu = { demand := if i.role = .pontoon then 0 else i.floor, declared := i.floor, computed := i.floor, applied := i.floor
              held := decide (i.role = .pontoon ∧ i.posts ≠ []) } ∧
    u.qlc = { s.qlc with peers := u.qlc.peers } ∧ u.dck = { s.dck with inForce := i.startSet } ∧
    (∀ p ∈ u.qlc.peers, p = { number := p.number }) ∧
    (∀ n, n ∈ u.qlc.peers.map Peer.number ↔ 1 ≤ n ∧ n ≤ 30 ∧ n ≠ i.station) ∧
    u = { s with cfg := u.cfg, bst := u.bst, lsu := u.lsu, qlc := u.qlc, dck := u.dck, evj := u.evj, cfl := u.cfl }) ∧
  (∀ (s : State),
    let ended := (List.range 8).foldl (fun x i => loadStatement (i + 1) x) s
    let r := loadStation ended
    let booked := if s.cfg.role = .pontoon then (List.range 256).foldl (fun x i => loadBooking (i + 1) x) r.1 else r.1
    let whole := if r.2 then booked else rebuildStation booked
    loadRecords s = if s.cfg.role = .pontoon then whole else whole.setBst { whole.bst with statements := [] }) ∧
  (∀ (s : State) (n : Nat),
    let r := storedAt (.statement n) s.store
    let u := loadStatement n s
    (r = ⟨true, .statement n, .empty⟩ → u = s) ∧
    (∀ x, r = ⟨true, .statement n, .statement x⟩ →
      u.bst.statements.Perm ({ x with slot := n } :: s.bst.statements) ∧
      (s.bst.statements.Pairwise (fun x y => x.ending ≤ y.ending) →
        u.bst.statements.Pairwise fun x y => x.ending ≤ y.ending) ∧
      u = s.setBst { s.bst with statements := u.bst.statements }) ∧
    (r ≠ ⟨true, .statement n, .empty⟩ → (∀ x, r ≠ ⟨true, .statement n, .statement x⟩) →
      freed s u (.statement n) [.recordLost (.statement n) none])) ∧
  (∀ (s : State),
    let r := storedAt .station s.store
    let u := loadStation s
    let v := rebuildStation s
    let sound (next last : Nat) : Prop :=
      r = ⟨true, .station, .station next last⟩ ∧ 1 ≤ next ∧ next ≤ 65535 ∧ last ≤ 4294967295
    (∀ next last, sound next last → u = (s.setBst { s.bst with nextSerial := next, lastEnding := last }, true)) ∧
    ((∀ next last, ¬sound next last) →
      u.2 = false ∧ s.journalled u.1 (.recordLost .station none) ∧ u.1 = { s with evj := u.1.evj }) ∧
    v.dirtyRecord .station ∧
    (∀ x ∈ s.bst.statements, x.ending ≤ v.bst.lastEnding) ∧
    (v.bst.lastEnding = 0 ∨ ∃ x ∈ s.bst.statements, x.ending = v.bst.lastEnding) ∧
    (s.serials = [] → v.bst.nextSerial = 1) ∧
    (∀ k ∈ s.serials, (∀ j ∈ s.serials, j ≤ k) → v.bst.nextSerial = if k < 65535 then k + 1 else 1) ∧
    v = s.setBst { s.bst with
      lastEnding := v.bst.lastEnding, nextSerial := v.bst.nextSerial, queue := v.bst.queue, inFlight := v.bst.inFlight }) ∧
  (∀ (s : State) (n : Nat),
    let id : RecordId := .booking n
    let r := storedAt id s.store
    let u := loadBooking n s
    (r = ⟨true, id, .empty⟩ → u = s) ∧
    (∀ berth b, r = ⟨true, id, .booking berth b⟩ →
      b.fieldsOk = false ∨ b.state = .tentative ∨ b.stay.departure ≤ b.stay.arrival ∨ s.berth? berth = none ∨
        (∃ x, s.berth? berth = some x ∧ canInsert x.bookings b.stay.arrival b.stay.departure = false) ∨
        b.serial.getD 0 ∈ s.serials →
      freed s u id [.recordLost id (some berth)]) ∧
    (∀ berth b x, r = ⟨true, id, .booking berth b⟩ → b.fieldsOk = true → s.berth? berth = some x →
      canInsert x.bookings b.stay.arrival b.stay.departure = true → b.serial.getD 0 ∉ s.serials →
      let held (t : Tag) : Bool := s.liveBookings.any fun p => p.2.tags.contains t
      let kept := b.tags.filter fun t => !held t
      let clashes : List Report := (b.tags.filter held).map fun t => .tagClash t none none
      let ended := ∃ y ∈ s.bst.statements, y.berth = berth ∧ some y.serial = b.serial ∧ y.arrival = b.stay.arrival
      (kept = [] → freed s u id (clashes ++ [.recordLost id (some berth)])) ∧
      (kept ≠ [] → ended → freed s u id (clashes ++ [.endedRecovered (b.serial.getD 0)])) ∧
      (kept ≠ [] → ¬ended →
        u.berth? berth = some { x with
          bookings := insertBooking { b with tags := kept, slot := some n, expiry := none } x.bookings } ∧
        (∀ m, m ≠ berth → u.berth? m = s.berth? m) ∧ s.journalledAll u clashes ∧
        u.bst = { s.bst with berths := u.bst.berths } ∧ u = { s with bst := u.bst, evj := u.evj })) ∧
    (r ≠ ⟨true, id, .empty⟩ → (∀ berth b, r ≠ ⟨true, id, .booking berth b⟩) →
      ∃ place, freed s u id [.recordLost id place] ∧
        (place = none ∨ ∃ berth b, r.content = .booking berth b ∧ place = some berth))) ∧
  (∀ (s : State),
    (∃ order : List (Nat × Booking), order.Perm s.liveBookings ∧
      order.Pairwise (fun x y => x.2.slot.getD 0 ≤ y.2.slot.getD 0) ∧
      reloadPurses s = order.foldl (fun x p => reloadPurse p.1 p.2 x) s) ∧
    ∀ berth serial b, s.booking? berth serial = some b →
      let overdue (h : Hold) : Bool := h.state == .active && decide (s.cfg.holdTimeout ≤ h.age)
      let gone := b.purse.holds.filter overdue
      let aged : Purse := { b.purse with
        holds := b.purse.holds.map fun h => if overdue h then { h with state := .expired } else h }
      let u := reloadPurse berth b s
      u.booking? berth serial = some { b with purse := { aged with standing := aged.standingNow } } ∧
      s.sameBookingsBut u berth serial ∧ s.journalledAll u (gone.map fun h => .holdExpired berth h.id h.granted) ∧
      u.cfl = { s.cfl with notices := s.cfl.notices ++
        (if b.purse.standing = aged.standingNow then [] else [(berth, serial, b.purse.standing, aged.standingNow)]) } ∧
      (gone ≠ [] ∨ b.purse.standing ≠ aged.standingNow → ∀ n, b.slot = some n → u.dirtyRecord (.booking n)) ∧
      u = { s with bst := u.bst, evj := u.evj, cfl := u.cfl }) ∧
  (∀ (s : State),
    let f := freshPbc s.cfg
    let one := f.outlets.foldl (fun x o => startOutlet o x) (s.setPbc f)
    let two := one.bst.berths.foldl (fun x b => clearStrayWanted b x) one
    buildPosts s = settlePosts (two.pbc.taps.foldl (fun x t => startTap t x) two) ∧
    (f.posts.map Post.cfg).Perm s.cfg.posts ∧ (f.posts.map fun p => p.cfg.number).Pairwise (· ≤ ·) ∧
    (∀ p ∈ f.posts, p = { cfg := p.cfg, state := .unknown }) ∧
    (f.outlets.map fun o => (o.number, o.post, o.position, o.rating)).Perm
      (s.cfg.posts.flatMap fun p => p.outlets.zipIdx.map fun c => (c.1.number, p.number, c.2 + 1, c.1.rating)) ∧
    (f.outlets.map Outlet.number).Pairwise (· ≤ ·) ∧
    (∀ o ∈ f.outlets, o = {
      number := o.number, post := o.post, position := o.position, rating := o.rating, state := .off
      berth := (s.cfg.berths.find? fun b => b.outlets.contains o.number).map BerthCfg.number
      startClaim := s.cfg.startClaim o.rating }) ∧
    (f.taps.map fun p => (p.number, p.post, p.position)).Perm
      (s.cfg.posts.flatMap fun p => p.taps.zipIdx.map fun c => (c.1, p.number, c.2 + 1)) ∧
    (f.taps.map Tap.number).Pairwise (· ≤ ·) ∧
    (∀ p ∈ f.taps, p = {
      number := p.number, post := p.post, position := p.position, state := .closed
      berth := (s.cfg.berths.find? fun b => b.tap == some p.number).map BerthCfg.number }) ∧
    f = { posts := f.posts, outlets := f.outlets, taps := f.taps, firstRound := s.cfg.posts.isEmpty }) ∧
  (∀ (s : State) (o : Outlet), s.pbc.firstRound = false → s.outlet? o.number = some o →
    let u := startOutlet o s
    let wanted (h : Nat × Booking) : Bool := h.2.wantedAt (s.placeIn h.1 o.number)
    (s.holder? o.berth = none → u = s) ∧
    (∀ h, s.holder? o.berth = some h →
      (wanted h = false → u = s) ∧
      (wanted h = true → h.2.purse.standing = .barred →
        u.outlet? o.number = some { o with state := .suspended, join := none, restAt := none } ∧
        u.pbc = { s.pbc with outlets := u.pbc.outlets }) ∧
      (wanted h = true → h.2.purse.standing ≠ .barred →
        u.outlet? o.number = some { o with state := .waiting, join := some s.pbc.counter, restAt := none } ∧
        u.pbc = { s.pbc with outlets := u.pbc.outlets, counter := bump32 s.pbc.counter })) ∧
    (∀ m, m ≠ o.number → u.outlet? m = s.outlet? m) ∧ u = { s with pbc := u.pbc }) ∧
  (∀ (s : State) (p : Tap), s.tap? p.number = some p →
    let u := startTap p s
    let barred := ∃ h, s.holder? p.berth = some h ∧ h.2.purse.standing = .barred
    (barred → u.tap? p.number = some { p with
      state := .locked, runAt := none, leakCount := if p.state = .opened then 0 else p.leakCount }) ∧
    (¬barred → u = s) ∧ s.sameTapsBut u p.number ∧ u = { s with pbc := u.pbc }) ∧
  (∀ (s : State) (berth serial : Nat) (x : Berth) (k : Booking), s.berth? berth = some x → 1 ≤ serial →
    s.booking? berth serial = some k →
    let u := clearStrayWanted x s
    let holds := ∃ h, s.holding? berth = some h ∧ h.serial = some serial
    (holds → u.booking? berth serial = some k) ∧
    (¬holds → u.booking? berth serial = some { k with wantedFirst := false, wantedSecond := false } ∧
      (k.wantedFirst = true ∨ k.wantedSecond = true → ∀ n, k.slot = some n → u.dirtyRecord (.booking n))) ∧
    (∀ m, m ≠ berth → u.berth? m = s.berth? m) ∧ u = { s with bst := u.bst }) ∧
  (∀ (s : State) (p : PinCfg),
    let set := p.tag.toNat % 64
    let mine := s.acu.cache.filter fun e => e.record.tag.toNat % 64 == set
    let turnedAway := 3 ≤ (mine.filter fun e => e.pinned).length ∨ ∃ e ∈ mine, e.pinned = true ∧ e.record.tag = p.tag
    let u := pinTag p s
    (turnedAway → s.journalled u (.pinSkipped p.tag set) ∧ u = { s with evj := u.evj }) ∧
    (∀ w, ¬turnedAway → w < 4 → (∀ e ∈ mine, e.way ≠ w) → (∀ v, v < w → ∃ e ∈ mine, e.way = v) →
      u = s.setAcu { s.acu with cache := {
        way := w, validUntil := none, pinned := true
        record := { tag := p.tag, owner := s.cfg.station, cls := if p.contractor then .contractor else .staff
                    window := if p.contractor then p.window else none } } :: s.acu.cache })) ∧
  (∀ (s : State), (s.cfg.gates.map GateCfg.number).Nodup →
    let line (c : GateCfg) : Door := if c.number = 2 then s.door2 else s.door1
    let ajar (c : GateCfg) : Bool := c.startMode != .opened && line c == .opened
    let u := buildGates s
    (∀ c ∈ s.cfg.gates, u.gate? c.number = some {
      cfg := c, mode := c.startMode, door := line c
      state := if c.startMode = .opened then .unlocked else if line c = .opened then .ajar else .locked
      strike := if c.startMode = .opened then .released else .held
      openedAt := if line c = .opened then some 0 else none
      ajar := if ajar c then some ⟨none⟩ else none }) ∧
    (u.gtc.gates.map Gate.cfg).Perm s.cfg.gates ∧
    (∃ order : List GateCfg, order.Perm s.cfg.gates ∧ order.Pairwise (fun x y => x.number ≤ y.number) ∧
      s.journalledAll u ((order.filter ajar).map fun c => .gateAjar c.number c.heldOpenLimit)) ∧
    u = { s with gtc := u.gtc, evj := u.evj }) ∧
  (∀ (s : State), (s.cfg.role ≠ .fuel → buildPumps s = s) ∧
    (s.cfg.role = .fuel → ∃ order : List PumpCfg, order.Perm s.cfg.pumps ∧ order.Pairwise (fun x y => x.number ≤ y.number) ∧
      let listed := (List.range 16).foldl (fun x i => loadListSlot (i + 5) x)
        (s.setFsc { pumps := order.map fun c => { cfg := c } })
      ∃ last, (∀ e ∈ listed.fsc.unsettled, e.order ≤ last) ∧
        (last = 0 ∨ ∃ e ∈ listed.fsc.unsettled, e.order = last) ∧
        buildPumps s = ([1, 2, 3, 4].filter fun n => !order.any fun c => c.number == n).foldl
          (fun x n => if x.saleLostAt n then loseRecord (.sale n) none x else x)
          (order.foldl (fun x c => loadPumpSlot c.number x) (listed.setFsc { listed.fsc with
            lastOrder := last, retryAt := if listed.fsc.unsettled = [] then none else some 30000 })))) ∧
  (∀ (s : State) (n : Nat),
    let r := storedAt (.sale n) s.store
    let u := loadListSlot n s
    let ours (x : Sale) : Prop := (s.pump? x.id.pump).isSome = true
    let listed (x : Sale) (order attempts : Nat) : Prop := r = ⟨true, .sale n, .sale x (some (order, attempts))⟩ ∧ ours x
    (r = ⟨true, .sale n, .empty⟩ → u = s) ∧
    (∀ x order attempts, listed x order attempts →
      u.fsc.unsettled.Perm (⟨x, order, attempts, false, n⟩ :: s.fsc.unsettled) ∧
      (s.fsc.unsettled.Pairwise (fun a b => a.order ≤ b.order) → u.fsc.unsettled.Pairwise fun a b => a.order ≤ b.order) ∧
      u = s.setFsc { s.fsc with unsettled := u.fsc.unsettled }) ∧
    (r ≠ ⟨true, .sale n, .empty⟩ → (∀ x order attempts, ¬listed x order attempts) →
      freed s u (.sale n) [.recordLost (.sale n) none])) ∧
  (∀ (s : State) (n : Nat) (q : Pump), s.pump? n = some q →
    let r := storedAt (.sale n) s.store
    let u := loadPumpSlot n s
    let used := s.fsc.numbersListed n
    let held (x : Sale) : Prop := (∃ e, r = ⟨true, .sale n, .sale x e⟩) ∧ (s.pump? x.id.pump).isSome = true
    let first : Num8 := match used with
      | [] => 0
      | k :: rest => (rest.foldl (fun a b => if a.toNat < b.toNat then b else a) k) + 1
    let becomes (x : Pump) (notes : List Report) : Prop :=
      u.pump? n = some x ∧ s.onlyPump u n ∧ s.journalledAll u notes ∧
        u.bst = { s.bst with queue := u.bst.queue, inFlight := u.bst.inFlight } ∧
        u = { s with bst := u.bst, fsc := u.fsc, evj := u.evj }
    (r = ⟨true, .sale n, .empty⟩ → becomes { q with nextSale := freeNumber used first 16 } [] ∧ u.bst = s.bst) ∧
    (r ≠ ⟨true, .sale n, .empty⟩ → (∀ x, ¬held x) →
      becomes { q with nextSale := freeNumber used first 16 } [.recordLost (.sale n) none] ∧ u.dirtyRecord (.sale n)) ∧
    (∀ x, held x →
      let next := freeNumber used (x.id.sale + 1) 16
      (x.stage = .closed ∨ x.stage = .listed → becomes { q with nextSale := next, last := some x } [] ∧ u.bst = s.bst) ∧
      (x.stage = .authorising →
        becomes { q with nextSale := next, last := some { x with stage := .closed, outcome := some .abandoned } }
          [.saleAbandoned x.id x.faultMark] ∧ u.dirtyRecord (.sale n)) ∧
      (x.stage = .ready ∨ x.stage = .delivering ∨ x.stage = .settling →
        let y : Sale := { x with stage := .settling, endTotal := none, volume := none, amount := none }
        becomes { q with nextSale := next, state := .settling, sale := some y, recovered := true } [] ∧
        (y ≠ x → u.dirtyRecord (.sale n))))) ∧
  (∀ (s : State) (berth serial : Nat) (old new : Standing) (b : Booking) (x : Berth), s.berth? berth = some x →
    s.booking? berth serial = some b →
    let u := notice berth serial old new s
    let holds := ∃ h, s.holding? berth = some h ∧ h.serial = some serial
    u.booking? berth serial = some { b with epoch := b.epoch + 1 } ∧ s.sameBookingsBut u berth serial ∧
    (∀ n, b.slot = some n → u.dirtyRecord (.booking n)) ∧
    u.acu = { s.acu with
      cache := s.acu.cache.filter fun e => e.pinned || !b.tags.contains e.record.tag
      lookups := s.acu.lookups.map fun l => if b.tags.contains l.tag then { l with marked := true } else l } ∧
    (b.tags ≠ [] → s.qlc.queue.length < 16 → s.queuedWide u ⟨0, 0, .tagRevoke s.cfg.station b.tags⟩) ∧
    (∀ t rest, b.tags = t :: rest → 16 ≤ s.qlc.queue.length → s.noted u (.revokeLost t b.tags.length)) ∧
    u.lastReport = some (.standingChanged berth old new serial) ∧
    (¬holds → u.pbc = s.pbc) ∧
    (∀ n, n ∉ x.cfg.outlets → u.outlet? n = s.outlet? n) ∧ (∀ n, x.cfg.tap ≠ some n → u.tap? n = s.tap? n) ∧
    (∀ n o, holds → n ∈ x.cfg.outlets → s.outlet? n = some o →
      (new = .barred → o.state = .live ∨ o.state = .waiting ∨ o.state = .shed →
        u.outlet? n = some { o with state := .suspended, join := none, restAt := none }) ∧
      (old = .barred → new ≠ .barred → o.state = .suspended →
        ∃ j, u.outlet? n = some { o with state := .waiting, join := some j, restAt := none }) ∧
      ((new = .barred → o.state = .suspended ∨ o.state = .off ∨ o.state = .tripped) →
        (new ≠ .barred → old = .barred → o.state ≠ .suspended) → u.outlet? n = some o)) ∧
    (∀ n p, holds → x.cfg.tap = some n → s.tap? n = some p →
      let moved (v : TapState) : Prop := u.tap? n = some { p with
        state := v, runAt := none, leakCount := if p.state = .opened then 0 else p.leakCount }
      (new = .barred → moved .locked) ∧
      (old = .barred → new ≠ .barred → p.state = .locked → moved .closed) ∧
      (new ≠ .barred → old ≠ .barred ∨ p.state ≠ .locked → u.tap? n = some p)) ∧
    u = { s with bst := u.bst, acu := u.acu, pbc := u.pbc, lsu := u.lsu, qlc := u.qlc, evj := u.evj })

/-! ### The whole machine -/

/-- A step runs the command at the front of the queue on the rest of the queue; on an empty queue a millisecond passes
(log entries 1 and 2: the queue is the model's). -/
def Obligations.StepRunsTheFrontCommand : Prop :=
  (∀ (s : State) (c : Instr) (rest : List Instr), s.pending = c :: rest → step s = exec c (s.setPending rest)) ∧
  (∀ (s : State), s.pending = [] → step s = .next (s.setNow (s.now + 1)))

/-- No command stops: each has a next state, with the queue as it was, the time not gone back unless it reset the station,
and the configuration and the load's outcome as they were but for a reset; only the writes of the record store and a
reset change the store (R20, R21, R196, R197; log entry 14: that none stops is read from the manual). -/
def Obligations.EveryCommandHasANextState : Prop :=
  ∀ (c : Instr) (s : State), ∃ t, exec c s = .next t ∧ t.pending = s.pending ∧
    ((∀ b, c ≠ .powerOnReset b) → (∀ b, c ≠ .replySent b) → t.cfg = s.cfg ∧ t.cfl.load = s.cfl.load ∧ s.now ≤ t.now ∧
      ((∀ b, c ≠ .storeWriteEnd b) → c ≠ .storeWriteTimeout → (∀ b, c ≠ .configWriteEnd b) → t.store = s.store))

/-- Through every step the booking store keeps its form: at most 64 berths, each number once, at most 4 entries on each; a
next serial of 1 to 65,535; a serial of 1 to 65,535 for every RESERVED or CURRENT booking, and no serial twice (R1, R2, R4,
R5, R23, R196). And the list of every berth keeps its entries in ascending order of arrival day, no two with overlapping
intervals, each ending after it begins, unless a Berth Call comes that asks for a stay of no days, which R46 lets no station
send (R2, R3, R16, R50, R167). -/
def Obligations.BookingsKeepTheirSerials : Prop :=
  (∀ (s t : State), s.bookingsOk → step s = .next t → t.bookingsOk) ∧
  (∀ (s t : State), s.bookingsOk → s.listsOk → (∀ c, s.pending.head? = some c → callStays c) → step s = .next t → t.listsOk)

/-- The record store keeps its form through every step: addresses strictly rising, nothing listed that an unlisted place
reads as (log entry 4). -/
def Obligations.StoreKeepsItsForm : Prop := ∀ (s t : State), s.store.wf → step s = .next t → t.store.wf

/-- The journal, the transmit queue, the request table and the call table stay within their sizes through every step (R47,
R175, R178, R192). And after every step the attention line is as the unread entries, the notices, CONFIG_FAULT and the load
ask for (R195). -/
def Obligations.BuffersStayBounded : Prop :=
  (∀ (s t : State), s.Bounded → step s = .next t → t.Bounded) ∧
  (∀ (s t : State), s.lineIsDue → step s = .next t → t.lineIsDue)

/-- No step leaves the committed load above the applied allotment (R76, R100, R101). -/
def Obligations.CommittedLoadStaysWithinAllotment : Prop := ∀ (s t : State), s.fits → step s = .next t → t.fits

/-- Through every step a gate's strike is RELEASED only while it is RELEASED or UNLOCKED, and its timers run only in their
states (R128, R132, R135 to R138). -/
def Obligations.GatesKeepTheirForm : Prop := ∀ (s t : State), s.gatesOk → step s = .next t → t.gatesOk

/-- State.reset, the model's station after a power-on reset with a record store nothing was written to (the model's choice,
log entries 4, 24 and 25), meets every invariant, holds no clock, and its journal holds RESTART alone (R159, R170, R187,
R192, R196). -/
def Obligations.ResetMeetsTheInvariants : Prop :=
  State.reset.store.wf ∧ State.reset.Bounded ∧ State.reset.fits ∧ State.reset.gatesOk ∧ State.reset.bookingsOk ∧
    State.reset.listsOk ∧ State.reset.lineIsDue ∧ State.reset.afreshAt ∧
    State.reset.evj.entries = [⟨1, none, .restart .powerOn⟩] ∧ State.reset.evj.mark = 1 ∧ State.reset.pending = []
end

