-- ==== Sys2Proof/Laws/State.lean ====
section
/-! SUPPORT. What each field of the state reads after each update of a field: one lemma per field per update. -/

namespace Sys2Proof.Machine

section
variable (s : State) (v : List Instr)
@[simp] theorem State.setPending_pending : (s.setPending v).pending = v := rfl
@[simp] theorem State.setPending_now : (s.setPending v).now = s.now := rfl
@[simp] theorem State.setPending_free : (s.setPending v).free = s.free := rfl
@[simp] theorem State.setPending_cfg : (s.setPending v).cfg = s.cfg := rfl
@[simp] theorem State.setPending_door1 : (s.setPending v).door1 = s.door1 := rfl
@[simp] theorem State.setPending_door2 : (s.setPending v).door2 = s.door2 := rfl
@[simp] theorem State.setPending_minuteAt : (s.setPending v).minuteAt = s.minuteAt := rfl
@[simp] theorem State.setPending_store : (s.setPending v).store = s.store := rfl
@[simp] theorem State.setPending_bst : (s.setPending v).bst = s.bst := rfl
@[simp] theorem State.setPending_alc : (s.setPending v).alc = s.alc := rfl
@[simp] theorem State.setPending_lsu : (s.setPending v).lsu = s.lsu := rfl
@[simp] theorem State.setPending_pbc : (s.setPending v).pbc = s.pbc := rfl
@[simp] theorem State.setPending_acu : (s.setPending v).acu = s.acu := rfl
@[simp] theorem State.setPending_gtc : (s.setPending v).gtc = s.gtc := rfl
@[simp] theorem State.setPending_fsc : (s.setPending v).fsc = s.fsc := rfl
@[simp] theorem State.setPending_dck : (s.setPending v).dck = s.dck := rfl
@[simp] theorem State.setPending_qlc : (s.setPending v).qlc = s.qlc := rfl
@[simp] theorem State.setPending_tpc : (s.setPending v).tpc = s.tpc := rfl
@[simp] theorem State.setPending_evj : (s.setPending v).evj = s.evj := rfl
@[simp] theorem State.setPending_cfl : (s.setPending v).cfl = s.cfl := rfl
end

section
variable (s : State) (v : Nat)
@[simp] theorem State.setNow_pending : (s.setNow v).pending = s.pending := rfl
@[simp] theorem State.setNow_now : (s.setNow v).now = v := rfl
@[simp] theorem State.setNow_free : (s.setNow v).free = s.free := rfl
@[simp] theorem State.setNow_cfg : (s.setNow v).cfg = s.cfg := rfl
@[simp] theorem State.setNow_door1 : (s.setNow v).door1 = s.door1 := rfl
@[simp] theorem State.setNow_door2 : (s.setNow v).door2 = s.door2 := rfl
@[simp] theorem State.setNow_minuteAt : (s.setNow v).minuteAt = s.minuteAt := rfl
@[simp] theorem State.setNow_store : (s.setNow v).store = s.store := rfl
@[simp] theorem State.setNow_bst : (s.setNow v).bst = s.bst := rfl
@[simp] theorem State.setNow_alc : (s.setNow v).alc = s.alc := rfl
@[simp] theorem State.setNow_lsu : (s.setNow v).lsu = s.lsu := rfl
@[simp] theorem State.setNow_pbc : (s.setNow v).pbc = s.pbc := rfl
@[simp] theorem State.setNow_acu : (s.setNow v).acu = s.acu := rfl
@[simp] theorem State.setNow_gtc : (s.setNow v).gtc = s.gtc := rfl
@[simp] theorem State.setNow_fsc : (s.setNow v).fsc = s.fsc := rfl
@[simp] theorem State.setNow_dck : (s.setNow v).dck = s.dck := rfl
@[simp] theorem State.setNow_qlc : (s.setNow v).qlc = s.qlc := rfl
@[simp] theorem State.setNow_tpc : (s.setNow v).tpc = s.tpc := rfl
@[simp] theorem State.setNow_evj : (s.setNow v).evj = s.evj := rfl
@[simp] theorem State.setNow_cfl : (s.setNow v).cfl = s.cfl := rfl
end

section
variable (s : State) (v : Nat)
@[simp] theorem State.setFree_pending : (s.setFree v).pending = s.pending := rfl
@[simp] theorem State.setFree_now : (s.setFree v).now = s.now := rfl
@[simp] theorem State.setFree_free : (s.setFree v).free = v := rfl
@[simp] theorem State.setFree_cfg : (s.setFree v).cfg = s.cfg := rfl
@[simp] theorem State.setFree_door1 : (s.setFree v).door1 = s.door1 := rfl
@[simp] theorem State.setFree_door2 : (s.setFree v).door2 = s.door2 := rfl
@[simp] theorem State.setFree_minuteAt : (s.setFree v).minuteAt = s.minuteAt := rfl
@[simp] theorem State.setFree_store : (s.setFree v).store = s.store := rfl
@[simp] theorem State.setFree_bst : (s.setFree v).bst = s.bst := rfl
@[simp] theorem State.setFree_alc : (s.setFree v).alc = s.alc := rfl
@[simp] theorem State.setFree_lsu : (s.setFree v).lsu = s.lsu := rfl
@[simp] theorem State.setFree_pbc : (s.setFree v).pbc = s.pbc := rfl
@[simp] theorem State.setFree_acu : (s.setFree v).acu = s.acu := rfl
@[simp] theorem State.setFree_gtc : (s.setFree v).gtc = s.gtc := rfl
@[simp] theorem State.setFree_fsc : (s.setFree v).fsc = s.fsc := rfl
@[simp] theorem State.setFree_dck : (s.setFree v).dck = s.dck := rfl
@[simp] theorem State.setFree_qlc : (s.setFree v).qlc = s.qlc := rfl
@[simp] theorem State.setFree_tpc : (s.setFree v).tpc = s.tpc := rfl
@[simp] theorem State.setFree_evj : (s.setFree v).evj = s.evj := rfl
@[simp] theorem State.setFree_cfl : (s.setFree v).cfl = s.cfl := rfl
end

section
variable (s : State) (v : Image)
@[simp] theorem State.setCfg_pending : (s.setCfg v).pending = s.pending := rfl
@[simp] theorem State.setCfg_now : (s.setCfg v).now = s.now := rfl
@[simp] theorem State.setCfg_free : (s.setCfg v).free = s.free := rfl
@[simp] theorem State.setCfg_cfg : (s.setCfg v).cfg = v := rfl
@[simp] theorem State.setCfg_door1 : (s.setCfg v).door1 = s.door1 := rfl
@[simp] theorem State.setCfg_door2 : (s.setCfg v).door2 = s.door2 := rfl
@[simp] theorem State.setCfg_minuteAt : (s.setCfg v).minuteAt = s.minuteAt := rfl
@[simp] theorem State.setCfg_store : (s.setCfg v).store = s.store := rfl
@[simp] theorem State.setCfg_bst : (s.setCfg v).bst = s.bst := rfl
@[simp] theorem State.setCfg_alc : (s.setCfg v).alc = s.alc := rfl
@[simp] theorem State.setCfg_lsu : (s.setCfg v).lsu = s.lsu := rfl
@[simp] theorem State.setCfg_pbc : (s.setCfg v).pbc = s.pbc := rfl
@[simp] theorem State.setCfg_acu : (s.setCfg v).acu = s.acu := rfl
@[simp] theorem State.setCfg_gtc : (s.setCfg v).gtc = s.gtc := rfl
@[simp] theorem State.setCfg_fsc : (s.setCfg v).fsc = s.fsc := rfl
@[simp] theorem State.setCfg_dck : (s.setCfg v).dck = s.dck := rfl
@[simp] theorem State.setCfg_qlc : (s.setCfg v).qlc = s.qlc := rfl
@[simp] theorem State.setCfg_tpc : (s.setCfg v).tpc = s.tpc := rfl
@[simp] theorem State.setCfg_evj : (s.setCfg v).evj = s.evj := rfl
@[simp] theorem State.setCfg_cfl : (s.setCfg v).cfl = s.cfl := rfl
end

section
variable (s : State) (v : Door)
@[simp] theorem State.setDoor1_pending : (s.setDoor1 v).pending = s.pending := rfl
@[simp] theorem State.setDoor1_now : (s.setDoor1 v).now = s.now := rfl
@[simp] theorem State.setDoor1_free : (s.setDoor1 v).free = s.free := rfl
@[simp] theorem State.setDoor1_cfg : (s.setDoor1 v).cfg = s.cfg := rfl
@[simp] theorem State.setDoor1_door1 : (s.setDoor1 v).door1 = v := rfl
@[simp] theorem State.setDoor1_door2 : (s.setDoor1 v).door2 = s.door2 := rfl
@[simp] theorem State.setDoor1_minuteAt : (s.setDoor1 v).minuteAt = s.minuteAt := rfl
@[simp] theorem State.setDoor1_store : (s.setDoor1 v).store = s.store := rfl
@[simp] theorem State.setDoor1_bst : (s.setDoor1 v).bst = s.bst := rfl
@[simp] theorem State.setDoor1_alc : (s.setDoor1 v).alc = s.alc := rfl
@[simp] theorem State.setDoor1_lsu : (s.setDoor1 v).lsu = s.lsu := rfl
@[simp] theorem State.setDoor1_pbc : (s.setDoor1 v).pbc = s.pbc := rfl
@[simp] theorem State.setDoor1_acu : (s.setDoor1 v).acu = s.acu := rfl
@[simp] theorem State.setDoor1_gtc : (s.setDoor1 v).gtc = s.gtc := rfl
@[simp] theorem State.setDoor1_fsc : (s.setDoor1 v).fsc = s.fsc := rfl
@[simp] theorem State.setDoor1_dck : (s.setDoor1 v).dck = s.dck := rfl
@[simp] theorem State.setDoor1_qlc : (s.setDoor1 v).qlc = s.qlc := rfl
@[simp] theorem State.setDoor1_tpc : (s.setDoor1 v).tpc = s.tpc := rfl
@[simp] theorem State.setDoor1_evj : (s.setDoor1 v).evj = s.evj := rfl
@[simp] theorem State.setDoor1_cfl : (s.setDoor1 v).cfl = s.cfl := rfl
end

section
variable (s : State) (v : Door)
@[simp] theorem State.setDoor2_pending : (s.setDoor2 v).pending = s.pending := rfl
@[simp] theorem State.setDoor2_now : (s.setDoor2 v).now = s.now := rfl
@[simp] theorem State.setDoor2_free : (s.setDoor2 v).free = s.free := rfl
@[simp] theorem State.setDoor2_cfg : (s.setDoor2 v).cfg = s.cfg := rfl
@[simp] theorem State.setDoor2_door1 : (s.setDoor2 v).door1 = s.door1 := rfl
@[simp] theorem State.setDoor2_door2 : (s.setDoor2 v).door2 = v := rfl
@[simp] theorem State.setDoor2_minuteAt : (s.setDoor2 v).minuteAt = s.minuteAt := rfl
@[simp] theorem State.setDoor2_store : (s.setDoor2 v).store = s.store := rfl
@[simp] theorem State.setDoor2_bst : (s.setDoor2 v).bst = s.bst := rfl
@[simp] theorem State.setDoor2_alc : (s.setDoor2 v).alc = s.alc := rfl
@[simp] theorem State.setDoor2_lsu : (s.setDoor2 v).lsu = s.lsu := rfl
@[simp] theorem State.setDoor2_pbc : (s.setDoor2 v).pbc = s.pbc := rfl
@[simp] theorem State.setDoor2_acu : (s.setDoor2 v).acu = s.acu := rfl
@[simp] theorem State.setDoor2_gtc : (s.setDoor2 v).gtc = s.gtc := rfl
@[simp] theorem State.setDoor2_fsc : (s.setDoor2 v).fsc = s.fsc := rfl
@[simp] theorem State.setDoor2_dck : (s.setDoor2 v).dck = s.dck := rfl
@[simp] theorem State.setDoor2_qlc : (s.setDoor2 v).qlc = s.qlc := rfl
@[simp] theorem State.setDoor2_tpc : (s.setDoor2 v).tpc = s.tpc := rfl
@[simp] theorem State.setDoor2_evj : (s.setDoor2 v).evj = s.evj := rfl
@[simp] theorem State.setDoor2_cfl : (s.setDoor2 v).cfl = s.cfl := rfl
end

section
variable (s : State) (v : Nat)
@[simp] theorem State.setMinuteAt_pending : (s.setMinuteAt v).pending = s.pending := rfl
@[simp] theorem State.setMinuteAt_now : (s.setMinuteAt v).now = s.now := rfl
@[simp] theorem State.setMinuteAt_free : (s.setMinuteAt v).free = s.free := rfl
@[simp] theorem State.setMinuteAt_cfg : (s.setMinuteAt v).cfg = s.cfg := rfl
@[simp] theorem State.setMinuteAt_door1 : (s.setMinuteAt v).door1 = s.door1 := rfl
@[simp] theorem State.setMinuteAt_door2 : (s.setMinuteAt v).door2 = s.door2 := rfl
@[simp] theorem State.setMinuteAt_minuteAt : (s.setMinuteAt v).minuteAt = v := rfl
@[simp] theorem State.setMinuteAt_store : (s.setMinuteAt v).store = s.store := rfl
@[simp] theorem State.setMinuteAt_bst : (s.setMinuteAt v).bst = s.bst := rfl
@[simp] theorem State.setMinuteAt_alc : (s.setMinuteAt v).alc = s.alc := rfl
@[simp] theorem State.setMinuteAt_lsu : (s.setMinuteAt v).lsu = s.lsu := rfl
@[simp] theorem State.setMinuteAt_pbc : (s.setMinuteAt v).pbc = s.pbc := rfl
@[simp] theorem State.setMinuteAt_acu : (s.setMinuteAt v).acu = s.acu := rfl
@[simp] theorem State.setMinuteAt_gtc : (s.setMinuteAt v).gtc = s.gtc := rfl
@[simp] theorem State.setMinuteAt_fsc : (s.setMinuteAt v).fsc = s.fsc := rfl
@[simp] theorem State.setMinuteAt_dck : (s.setMinuteAt v).dck = s.dck := rfl
@[simp] theorem State.setMinuteAt_qlc : (s.setMinuteAt v).qlc = s.qlc := rfl
@[simp] theorem State.setMinuteAt_tpc : (s.setMinuteAt v).tpc = s.tpc := rfl
@[simp] theorem State.setMinuteAt_evj : (s.setMinuteAt v).evj = s.evj := rfl
@[simp] theorem State.setMinuteAt_cfl : (s.setMinuteAt v).cfl = s.cfl := rfl
end

section
variable (s : State) (v : Store)
@[simp] theorem State.setStore_pending : (s.setStore v).pending = s.pending := rfl
@[simp] theorem State.setStore_now : (s.setStore v).now = s.now := rfl
@[simp] theorem State.setStore_free : (s.setStore v).free = s.free := rfl
@[simp] theorem State.setStore_cfg : (s.setStore v).cfg = s.cfg := rfl
@[simp] theorem State.setStore_door1 : (s.setStore v).door1 = s.door1 := rfl
@[simp] theorem State.setStore_door2 : (s.setStore v).door2 = s.door2 := rfl
@[simp] theorem State.setStore_minuteAt : (s.setStore v).minuteAt = s.minuteAt := rfl
@[simp] theorem State.setStore_store : (s.setStore v).store = v := rfl
@[simp] theorem State.setStore_bst : (s.setStore v).bst = s.bst := rfl
@[simp] theorem State.setStore_alc : (s.setStore v).alc = s.alc := rfl
@[simp] theorem State.setStore_lsu : (s.setStore v).lsu = s.lsu := rfl
@[simp] theorem State.setStore_pbc : (s.setStore v).pbc = s.pbc := rfl
@[simp] theorem State.setStore_acu : (s.setStore v).acu = s.acu := rfl
@[simp] theorem State.setStore_gtc : (s.setStore v).gtc = s.gtc := rfl
@[simp] theorem State.setStore_fsc : (s.setStore v).fsc = s.fsc := rfl
@[simp] theorem State.setStore_dck : (s.setStore v).dck = s.dck := rfl
@[simp] theorem State.setStore_qlc : (s.setStore v).qlc = s.qlc := rfl
@[simp] theorem State.setStore_tpc : (s.setStore v).tpc = s.tpc := rfl
@[simp] theorem State.setStore_evj : (s.setStore v).evj = s.evj := rfl
@[simp] theorem State.setStore_cfl : (s.setStore v).cfl = s.cfl := rfl
end

section
variable (s : State) (v : Bst)
@[simp] theorem State.setBst_pending : (s.setBst v).pending = s.pending := rfl
@[simp] theorem State.setBst_now : (s.setBst v).now = s.now := rfl
@[simp] theorem State.setBst_free : (s.setBst v).free = s.free := rfl
@[simp] theorem State.setBst_cfg : (s.setBst v).cfg = s.cfg := rfl
@[simp] theorem State.setBst_door1 : (s.setBst v).door1 = s.door1 := rfl
@[simp] theorem State.setBst_door2 : (s.setBst v).door2 = s.door2 := rfl
@[simp] theorem State.setBst_minuteAt : (s.setBst v).minuteAt = s.minuteAt := rfl
@[simp] theorem State.setBst_store : (s.setBst v).store = s.store := rfl
@[simp] theorem State.setBst_bst : (s.setBst v).bst = v := rfl
@[simp] theorem State.setBst_alc : (s.setBst v).alc = s.alc := rfl
@[simp] theorem State.setBst_lsu : (s.setBst v).lsu = s.lsu := rfl
@[simp] theorem State.setBst_pbc : (s.setBst v).pbc = s.pbc := rfl
@[simp] theorem State.setBst_acu : (s.setBst v).acu = s.acu := rfl
@[simp] theorem State.setBst_gtc : (s.setBst v).gtc = s.gtc := rfl
@[simp] theorem State.setBst_fsc : (s.setBst v).fsc = s.fsc := rfl
@[simp] theorem State.setBst_dck : (s.setBst v).dck = s.dck := rfl
@[simp] theorem State.setBst_qlc : (s.setBst v).qlc = s.qlc := rfl
@[simp] theorem State.setBst_tpc : (s.setBst v).tpc = s.tpc := rfl
@[simp] theorem State.setBst_evj : (s.setBst v).evj = s.evj := rfl
@[simp] theorem State.setBst_cfl : (s.setBst v).cfl = s.cfl := rfl
end

section
variable (s : State) (v : Alc)
@[simp] theorem State.setAlc_pending : (s.setAlc v).pending = s.pending := rfl
@[simp] theorem State.setAlc_now : (s.setAlc v).now = s.now := rfl
@[simp] theorem State.setAlc_free : (s.setAlc v).free = s.free := rfl
@[simp] theorem State.setAlc_cfg : (s.setAlc v).cfg = s.cfg := rfl
@[simp] theorem State.setAlc_door1 : (s.setAlc v).door1 = s.door1 := rfl
@[simp] theorem State.setAlc_door2 : (s.setAlc v).door2 = s.door2 := rfl
@[simp] theorem State.setAlc_minuteAt : (s.setAlc v).minuteAt = s.minuteAt := rfl
@[simp] theorem State.setAlc_store : (s.setAlc v).store = s.store := rfl
@[simp] theorem State.setAlc_bst : (s.setAlc v).bst = s.bst := rfl
@[simp] theorem State.setAlc_alc : (s.setAlc v).alc = v := rfl
@[simp] theorem State.setAlc_lsu : (s.setAlc v).lsu = s.lsu := rfl
@[simp] theorem State.setAlc_pbc : (s.setAlc v).pbc = s.pbc := rfl
@[simp] theorem State.setAlc_acu : (s.setAlc v).acu = s.acu := rfl
@[simp] theorem State.setAlc_gtc : (s.setAlc v).gtc = s.gtc := rfl
@[simp] theorem State.setAlc_fsc : (s.setAlc v).fsc = s.fsc := rfl
@[simp] theorem State.setAlc_dck : (s.setAlc v).dck = s.dck := rfl
@[simp] theorem State.setAlc_qlc : (s.setAlc v).qlc = s.qlc := rfl
@[simp] theorem State.setAlc_tpc : (s.setAlc v).tpc = s.tpc := rfl
@[simp] theorem State.setAlc_evj : (s.setAlc v).evj = s.evj := rfl
@[simp] theorem State.setAlc_cfl : (s.setAlc v).cfl = s.cfl := rfl
end

section
variable (s : State) (v : Lsu)
@[simp] theorem State.setLsu_pending : (s.setLsu v).pending = s.pending := rfl
@[simp] theorem State.setLsu_now : (s.setLsu v).now = s.now := rfl
@[simp] theorem State.setLsu_free : (s.setLsu v).free = s.free := rfl
@[simp] theorem State.setLsu_cfg : (s.setLsu v).cfg = s.cfg := rfl
@[simp] theorem State.setLsu_door1 : (s.setLsu v).door1 = s.door1 := rfl
@[simp] theorem State.setLsu_door2 : (s.setLsu v).door2 = s.door2 := rfl
@[simp] theorem State.setLsu_minuteAt : (s.setLsu v).minuteAt = s.minuteAt := rfl
@[simp] theorem State.setLsu_store : (s.setLsu v).store = s.store := rfl
@[simp] theorem State.setLsu_bst : (s.setLsu v).bst = s.bst := rfl
@[simp] theorem State.setLsu_alc : (s.setLsu v).alc = s.alc := rfl
@[simp] theorem State.setLsu_lsu : (s.setLsu v).lsu = v := rfl
@[simp] theorem State.setLsu_pbc : (s.setLsu v).pbc = s.pbc := rfl
@[simp] theorem State.setLsu_acu : (s.setLsu v).acu = s.acu := rfl
@[simp] theorem State.setLsu_gtc : (s.setLsu v).gtc = s.gtc := rfl
@[simp] theorem State.setLsu_fsc : (s.setLsu v).fsc = s.fsc := rfl
@[simp] theorem State.setLsu_dck : (s.setLsu v).dck = s.dck := rfl
@[simp] theorem State.setLsu_qlc : (s.setLsu v).qlc = s.qlc := rfl
@[simp] theorem State.setLsu_tpc : (s.setLsu v).tpc = s.tpc := rfl
@[simp] theorem State.setLsu_evj : (s.setLsu v).evj = s.evj := rfl
@[simp] theorem State.setLsu_cfl : (s.setLsu v).cfl = s.cfl := rfl
end

section
variable (s : State) (v : Pbc)
@[simp] theorem State.setPbc_pending : (s.setPbc v).pending = s.pending := rfl
@[simp] theorem State.setPbc_now : (s.setPbc v).now = s.now := rfl
@[simp] theorem State.setPbc_free : (s.setPbc v).free = s.free := rfl
@[simp] theorem State.setPbc_cfg : (s.setPbc v).cfg = s.cfg := rfl
@[simp] theorem State.setPbc_door1 : (s.setPbc v).door1 = s.door1 := rfl
@[simp] theorem State.setPbc_door2 : (s.setPbc v).door2 = s.door2 := rfl
@[simp] theorem State.setPbc_minuteAt : (s.setPbc v).minuteAt = s.minuteAt := rfl
@[simp] theorem State.setPbc_store : (s.setPbc v).store = s.store := rfl
@[simp] theorem State.setPbc_bst : (s.setPbc v).bst = s.bst := rfl
@[simp] theorem State.setPbc_alc : (s.setPbc v).alc = s.alc := rfl
@[simp] theorem State.setPbc_lsu : (s.setPbc v).lsu = s.lsu := rfl
@[simp] theorem State.setPbc_pbc : (s.setPbc v).pbc = v := rfl
@[simp] theorem State.setPbc_acu : (s.setPbc v).acu = s.acu := rfl
@[simp] theorem State.setPbc_gtc : (s.setPbc v).gtc = s.gtc := rfl
@[simp] theorem State.setPbc_fsc : (s.setPbc v).fsc = s.fsc := rfl
@[simp] theorem State.setPbc_dck : (s.setPbc v).dck = s.dck := rfl
@[simp] theorem State.setPbc_qlc : (s.setPbc v).qlc = s.qlc := rfl
@[simp] theorem State.setPbc_tpc : (s.setPbc v).tpc = s.tpc := rfl
@[simp] theorem State.setPbc_evj : (s.setPbc v).evj = s.evj := rfl
@[simp] theorem State.setPbc_cfl : (s.setPbc v).cfl = s.cfl := rfl
end

section
variable (s : State) (v : Acu)
@[simp] theorem State.setAcu_pending : (s.setAcu v).pending = s.pending := rfl
@[simp] theorem State.setAcu_now : (s.setAcu v).now = s.now := rfl
@[simp] theorem State.setAcu_free : (s.setAcu v).free = s.free := rfl
@[simp] theorem State.setAcu_cfg : (s.setAcu v).cfg = s.cfg := rfl
@[simp] theorem State.setAcu_door1 : (s.setAcu v).door1 = s.door1 := rfl
@[simp] theorem State.setAcu_door2 : (s.setAcu v).door2 = s.door2 := rfl
@[simp] theorem State.setAcu_minuteAt : (s.setAcu v).minuteAt = s.minuteAt := rfl
@[simp] theorem State.setAcu_store : (s.setAcu v).store = s.store := rfl
@[simp] theorem State.setAcu_bst : (s.setAcu v).bst = s.bst := rfl
@[simp] theorem State.setAcu_alc : (s.setAcu v).alc = s.alc := rfl
@[simp] theorem State.setAcu_lsu : (s.setAcu v).lsu = s.lsu := rfl
@[simp] theorem State.setAcu_pbc : (s.setAcu v).pbc = s.pbc := rfl
@[simp] theorem State.setAcu_acu : (s.setAcu v).acu = v := rfl
@[simp] theorem State.setAcu_gtc : (s.setAcu v).gtc = s.gtc := rfl
@[simp] theorem State.setAcu_fsc : (s.setAcu v).fsc = s.fsc := rfl
@[simp] theorem State.setAcu_dck : (s.setAcu v).dck = s.dck := rfl
@[simp] theorem State.setAcu_qlc : (s.setAcu v).qlc = s.qlc := rfl
@[simp] theorem State.setAcu_tpc : (s.setAcu v).tpc = s.tpc := rfl
@[simp] theorem State.setAcu_evj : (s.setAcu v).evj = s.evj := rfl
@[simp] theorem State.setAcu_cfl : (s.setAcu v).cfl = s.cfl := rfl
end

section
variable (s : State) (v : Gtc)
@[simp] theorem State.setGtc_pending : (s.setGtc v).pending = s.pending := rfl
@[simp] theorem State.setGtc_now : (s.setGtc v).now = s.now := rfl
@[simp] theorem State.setGtc_free : (s.setGtc v).free = s.free := rfl
@[simp] theorem State.setGtc_cfg : (s.setGtc v).cfg = s.cfg := rfl
@[simp] theorem State.setGtc_door1 : (s.setGtc v).door1 = s.door1 := rfl
@[simp] theorem State.setGtc_door2 : (s.setGtc v).door2 = s.door2 := rfl
@[simp] theorem State.setGtc_minuteAt : (s.setGtc v).minuteAt = s.minuteAt := rfl
@[simp] theorem State.setGtc_store : (s.setGtc v).store = s.store := rfl
@[simp] theorem State.setGtc_bst : (s.setGtc v).bst = s.bst := rfl
@[simp] theorem State.setGtc_alc : (s.setGtc v).alc = s.alc := rfl
@[simp] theorem State.setGtc_lsu : (s.setGtc v).lsu = s.lsu := rfl
@[simp] theorem State.setGtc_pbc : (s.setGtc v).pbc = s.pbc := rfl
@[simp] theorem State.setGtc_acu : (s.setGtc v).acu = s.acu := rfl
@[simp] theorem State.setGtc_gtc : (s.setGtc v).gtc = v := rfl
@[simp] theorem State.setGtc_fsc : (s.setGtc v).fsc = s.fsc := rfl
@[simp] theorem State.setGtc_dck : (s.setGtc v).dck = s.dck := rfl
@[simp] theorem State.setGtc_qlc : (s.setGtc v).qlc = s.qlc := rfl
@[simp] theorem State.setGtc_tpc : (s.setGtc v).tpc = s.tpc := rfl
@[simp] theorem State.setGtc_evj : (s.setGtc v).evj = s.evj := rfl
@[simp] theorem State.setGtc_cfl : (s.setGtc v).cfl = s.cfl := rfl
end

section
variable (s : State) (v : Fsc)
@[simp] theorem State.setFsc_pending : (s.setFsc v).pending = s.pending := rfl
@[simp] theorem State.setFsc_now : (s.setFsc v).now = s.now := rfl
@[simp] theorem State.setFsc_free : (s.setFsc v).free = s.free := rfl
@[simp] theorem State.setFsc_cfg : (s.setFsc v).cfg = s.cfg := rfl
@[simp] theorem State.setFsc_door1 : (s.setFsc v).door1 = s.door1 := rfl
@[simp] theorem State.setFsc_door2 : (s.setFsc v).door2 = s.door2 := rfl
@[simp] theorem State.setFsc_minuteAt : (s.setFsc v).minuteAt = s.minuteAt := rfl
@[simp] theorem State.setFsc_store : (s.setFsc v).store = s.store := rfl
@[simp] theorem State.setFsc_bst : (s.setFsc v).bst = s.bst := rfl
@[simp] theorem State.setFsc_alc : (s.setFsc v).alc = s.alc := rfl
@[simp] theorem State.setFsc_lsu : (s.setFsc v).lsu = s.lsu := rfl
@[simp] theorem State.setFsc_pbc : (s.setFsc v).pbc = s.pbc := rfl
@[simp] theorem State.setFsc_acu : (s.setFsc v).acu = s.acu := rfl
@[simp] theorem State.setFsc_gtc : (s.setFsc v).gtc = s.gtc := rfl
@[simp] theorem State.setFsc_fsc : (s.setFsc v).fsc = v := rfl
@[simp] theorem State.setFsc_dck : (s.setFsc v).dck = s.dck := rfl
@[simp] theorem State.setFsc_qlc : (s.setFsc v).qlc = s.qlc := rfl
@[simp] theorem State.setFsc_tpc : (s.setFsc v).tpc = s.tpc := rfl
@[simp] theorem State.setFsc_evj : (s.setFsc v).evj = s.evj := rfl
@[simp] theorem State.setFsc_cfl : (s.setFsc v).cfl = s.cfl := rfl
end

section
variable (s : State) (v : Dck)
@[simp] theorem State.setDck_pending : (s.setDck v).pending = s.pending := rfl
@[simp] theorem State.setDck_now : (s.setDck v).now = s.now := rfl
@[simp] theorem State.setDck_free : (s.setDck v).free = s.free := rfl
@[simp] theorem State.setDck_cfg : (s.setDck v).cfg = s.cfg := rfl
@[simp] theorem State.setDck_door1 : (s.setDck v).door1 = s.door1 := rfl
@[simp] theorem State.setDck_door2 : (s.setDck v).door2 = s.door2 := rfl
@[simp] theorem State.setDck_minuteAt : (s.setDck v).minuteAt = s.minuteAt := rfl
@[simp] theorem State.setDck_store : (s.setDck v).store = s.store := rfl
@[simp] theorem State.setDck_bst : (s.setDck v).bst = s.bst := rfl
@[simp] theorem State.setDck_alc : (s.setDck v).alc = s.alc := rfl
@[simp] theorem State.setDck_lsu : (s.setDck v).lsu = s.lsu := rfl
@[simp] theorem State.setDck_pbc : (s.setDck v).pbc = s.pbc := rfl
@[simp] theorem State.setDck_acu : (s.setDck v).acu = s.acu := rfl
@[simp] theorem State.setDck_gtc : (s.setDck v).gtc = s.gtc := rfl
@[simp] theorem State.setDck_fsc : (s.setDck v).fsc = s.fsc := rfl
@[simp] theorem State.setDck_dck : (s.setDck v).dck = v := rfl
@[simp] theorem State.setDck_qlc : (s.setDck v).qlc = s.qlc := rfl
@[simp] theorem State.setDck_tpc : (s.setDck v).tpc = s.tpc := rfl
@[simp] theorem State.setDck_evj : (s.setDck v).evj = s.evj := rfl
@[simp] theorem State.setDck_cfl : (s.setDck v).cfl = s.cfl := rfl
end

section
variable (s : State) (v : Qlc)
@[simp] theorem State.setQlc_pending : (s.setQlc v).pending = s.pending := rfl
@[simp] theorem State.setQlc_now : (s.setQlc v).now = s.now := rfl
@[simp] theorem State.setQlc_free : (s.setQlc v).free = s.free := rfl
@[simp] theorem State.setQlc_cfg : (s.setQlc v).cfg = s.cfg := rfl
@[simp] theorem State.setQlc_door1 : (s.setQlc v).door1 = s.door1 := rfl
@[simp] theorem State.setQlc_door2 : (s.setQlc v).door2 = s.door2 := rfl
@[simp] theorem State.setQlc_minuteAt : (s.setQlc v).minuteAt = s.minuteAt := rfl
@[simp] theorem State.setQlc_store : (s.setQlc v).store = s.store := rfl
@[simp] theorem State.setQlc_bst : (s.setQlc v).bst = s.bst := rfl
@[simp] theorem State.setQlc_alc : (s.setQlc v).alc = s.alc := rfl
@[simp] theorem State.setQlc_lsu : (s.setQlc v).lsu = s.lsu := rfl
@[simp] theorem State.setQlc_pbc : (s.setQlc v).pbc = s.pbc := rfl
@[simp] theorem State.setQlc_acu : (s.setQlc v).acu = s.acu := rfl
@[simp] theorem State.setQlc_gtc : (s.setQlc v).gtc = s.gtc := rfl
@[simp] theorem State.setQlc_fsc : (s.setQlc v).fsc = s.fsc := rfl
@[simp] theorem State.setQlc_dck : (s.setQlc v).dck = s.dck := rfl
@[simp] theorem State.setQlc_qlc : (s.setQlc v).qlc = v := rfl
@[simp] theorem State.setQlc_tpc : (s.setQlc v).tpc = s.tpc := rfl
@[simp] theorem State.setQlc_evj : (s.setQlc v).evj = s.evj := rfl
@[simp] theorem State.setQlc_cfl : (s.setQlc v).cfl = s.cfl := rfl
end

section
variable (s : State) (v : Tpc)
@[simp] theorem State.setTpc_pending : (s.setTpc v).pending = s.pending := rfl
@[simp] theorem State.setTpc_now : (s.setTpc v).now = s.now := rfl
@[simp] theorem State.setTpc_free : (s.setTpc v).free = s.free := rfl
@[simp] theorem State.setTpc_cfg : (s.setTpc v).cfg = s.cfg := rfl
@[simp] theorem State.setTpc_door1 : (s.setTpc v).door1 = s.door1 := rfl
@[simp] theorem State.setTpc_door2 : (s.setTpc v).door2 = s.door2 := rfl
@[simp] theorem State.setTpc_minuteAt : (s.setTpc v).minuteAt = s.minuteAt := rfl
@[simp] theorem State.setTpc_store : (s.setTpc v).store = s.store := rfl
@[simp] theorem State.setTpc_bst : (s.setTpc v).bst = s.bst := rfl
@[simp] theorem State.setTpc_alc : (s.setTpc v).alc = s.alc := rfl
@[simp] theorem State.setTpc_lsu : (s.setTpc v).lsu = s.lsu := rfl
@[simp] theorem State.setTpc_pbc : (s.setTpc v).pbc = s.pbc := rfl
@[simp] theorem State.setTpc_acu : (s.setTpc v).acu = s.acu := rfl
@[simp] theorem State.setTpc_gtc : (s.setTpc v).gtc = s.gtc := rfl
@[simp] theorem State.setTpc_fsc : (s.setTpc v).fsc = s.fsc := rfl
@[simp] theorem State.setTpc_dck : (s.setTpc v).dck = s.dck := rfl
@[simp] theorem State.setTpc_qlc : (s.setTpc v).qlc = s.qlc := rfl
@[simp] theorem State.setTpc_tpc : (s.setTpc v).tpc = v := rfl
@[simp] theorem State.setTpc_evj : (s.setTpc v).evj = s.evj := rfl
@[simp] theorem State.setTpc_cfl : (s.setTpc v).cfl = s.cfl := rfl
end

section
variable (s : State) (v : Evj)
@[simp] theorem State.setEvj_pending : (s.setEvj v).pending = s.pending := rfl
@[simp] theorem State.setEvj_now : (s.setEvj v).now = s.now := rfl
@[simp] theorem State.setEvj_free : (s.setEvj v).free = s.free := rfl
@[simp] theorem State.setEvj_cfg : (s.setEvj v).cfg = s.cfg := rfl
@[simp] theorem State.setEvj_door1 : (s.setEvj v).door1 = s.door1 := rfl
@[simp] theorem State.setEvj_door2 : (s.setEvj v).door2 = s.door2 := rfl
@[simp] theorem State.setEvj_minuteAt : (s.setEvj v).minuteAt = s.minuteAt := rfl
@[simp] theorem State.setEvj_store : (s.setEvj v).store = s.store := rfl
@[simp] theorem State.setEvj_bst : (s.setEvj v).bst = s.bst := rfl
@[simp] theorem State.setEvj_alc : (s.setEvj v).alc = s.alc := rfl
@[simp] theorem State.setEvj_lsu : (s.setEvj v).lsu = s.lsu := rfl
@[simp] theorem State.setEvj_pbc : (s.setEvj v).pbc = s.pbc := rfl
@[simp] theorem State.setEvj_acu : (s.setEvj v).acu = s.acu := rfl
@[simp] theorem State.setEvj_gtc : (s.setEvj v).gtc = s.gtc := rfl
@[simp] theorem State.setEvj_fsc : (s.setEvj v).fsc = s.fsc := rfl
@[simp] theorem State.setEvj_dck : (s.setEvj v).dck = s.dck := rfl
@[simp] theorem State.setEvj_qlc : (s.setEvj v).qlc = s.qlc := rfl
@[simp] theorem State.setEvj_tpc : (s.setEvj v).tpc = s.tpc := rfl
@[simp] theorem State.setEvj_evj : (s.setEvj v).evj = v := rfl
@[simp] theorem State.setEvj_cfl : (s.setEvj v).cfl = s.cfl := rfl
end

section
variable (s : State) (v : Cfl)
@[simp] theorem State.setCfl_pending : (s.setCfl v).pending = s.pending := rfl
@[simp] theorem State.setCfl_now : (s.setCfl v).now = s.now := rfl
@[simp] theorem State.setCfl_free : (s.setCfl v).free = s.free := rfl
@[simp] theorem State.setCfl_cfg : (s.setCfl v).cfg = s.cfg := rfl
@[simp] theorem State.setCfl_door1 : (s.setCfl v).door1 = s.door1 := rfl
@[simp] theorem State.setCfl_door2 : (s.setCfl v).door2 = s.door2 := rfl
@[simp] theorem State.setCfl_minuteAt : (s.setCfl v).minuteAt = s.minuteAt := rfl
@[simp] theorem State.setCfl_store : (s.setCfl v).store = s.store := rfl
@[simp] theorem State.setCfl_bst : (s.setCfl v).bst = s.bst := rfl
@[simp] theorem State.setCfl_alc : (s.setCfl v).alc = s.alc := rfl
@[simp] theorem State.setCfl_lsu : (s.setCfl v).lsu = s.lsu := rfl
@[simp] theorem State.setCfl_pbc : (s.setCfl v).pbc = s.pbc := rfl
@[simp] theorem State.setCfl_acu : (s.setCfl v).acu = s.acu := rfl
@[simp] theorem State.setCfl_gtc : (s.setCfl v).gtc = s.gtc := rfl
@[simp] theorem State.setCfl_fsc : (s.setCfl v).fsc = s.fsc := rfl
@[simp] theorem State.setCfl_dck : (s.setCfl v).dck = s.dck := rfl
@[simp] theorem State.setCfl_qlc : (s.setCfl v).qlc = s.qlc := rfl
@[simp] theorem State.setCfl_tpc : (s.setCfl v).tpc = s.tpc := rfl
@[simp] theorem State.setCfl_evj : (s.setCfl v).evj = s.evj := rfl
@[simp] theorem State.setCfl_cfl : (s.setCfl v).cfl = v := rfl
end

end Sys2Proof.Machine
end

