-- ==== Sys2Proof/Laws/Attention.lean ====
section
/-! SUPPORT. What keeps the attention line as its conditions ask for (R195), and which outlet is shed next (R100): the lemmas
that a proof about every step cites. -/

namespace Sys2Proof.Machine

/-! ### The attention line (R195) -/

/-- The line is due as EVJ works it out. -/
theorem lineIsDue_iff (s : State) : s.lineIsDue ↔ s.evj.attention = s.attentionDue := by
  have notices : s.anyNotice = true ↔ ∃ g ∈ s.gtc.gates, g.escort ≠ none ∨ g.ajar ≠ none := by
    simp [State.anyNotice, List.any_eq_true, Option.isSome_iff_ne_none]
  have fault : s.inFault = true ↔ s.cfl.load ≠ .accepted := by simp [State.inFault]
  have due : s.attentionDue = true ↔ s.cfl.starting = false ∧
      (128 ≤ s.evj.unread ∨ (∃ g ∈ s.gtc.gates, g.escort ≠ none ∨ g.ajar ≠ none) ∨ s.cfl.load ≠ .accepted) := by
    simp only [State.attentionDue, Bool.and_eq_true, Bool.or_eq_true, Bool.not_eq_true', decide_eq_true_eq,
      notices, fault, or_assoc]
  rw [Bool.eq_iff_iff, due]
  exact Iff.rfl

/-- After EVJ has looked again the line is due. -/
theorem lookAgain_lineIsDue (s : State) : (lookAgain s).lineIsDue := (lineIsDue_iff _).2 rfl

/-- After an entry is written the line is due. -/
theorem report_lineIsDue (r : Report) (s : State) : (report r s).lineIsDue := lookAgain_lineIsDue _

/-- A change of nothing the line depends on keeps it due. -/
theorem lineIsDue_same {s t : State} (he : t.evj = s.evj) (hg : t.gtc = s.gtc) (hc : t.cfl = s.cfl) (h : s.lineIsDue) :
    t.lineIsDue := by
  unfold State.lineIsDue at *
  rw [he, hg, hc]
  exact h

/-! ### The outlet shed next (R100) -/

/-- Lower class, or the same and the higher energise number. -/
theorem shedBefore_iff (s : State) (x y : Outlet) : s.shedBefore x y = true ↔
    s.classOf x < s.classOf y ∨ (s.classOf x = s.classOf y ∧ y.energise.getD 0 < x.energise.getD 0) := by
  simp [State.shedBefore]

/-- No LIVE outlet is shed before the one that is shed next, which is LIVE. -/
theorem victim?_spec {s : State} {o : Outlet} (h : s.victim? = some o) :
    o ∈ s.pbc.outlets ∧ o.state = .live ∧ ∀ x ∈ s.pbc.outlets, x.state = .live → s.shedBefore x o = false := by
  let f : Option Outlet → Outlet → Option Outlet := fun best o =>
    match best with
    | none => some o
    | some b => if s.shedBefore o b then some o else some b
  have walk : ∀ (l : List Outlet) (best : Option Outlet), l.foldl f best = some o →
      (o ∈ l ∨ best = some o) ∧ ∀ x, x ∈ l ∨ best = some x → s.shedBefore x o = false := by
    intro l
    induction l with
    | nil =>
      intro best hb
      have hb : best = some o := hb
      subst hb
      refine ⟨.inr rfl, fun x hx => ?_⟩
      obtain hx | hx := hx
      · cases hx
      · cases hx
        simp [State.shedBefore]
    | cons y l ih =>
      intro best hb
      obtain ⟨hin, hleast⟩ := ih (f best y) hb
      cases best with
      | none =>
        refine ⟨?_, fun x hx => ?_⟩
        · obtain h | h := hin
          · exact .inl (.tail _ h)
          · cases h
            exact .inl (.head _)
        · obtain h | h := hx
          · obtain _ | h := h
            · exact hleast _ (.inr rfl)
            · exact hleast _ (.inl ‹_›)
          · cases h
      | some b =>
        by_cases hyb : s.shedBefore y b = true
        · have step : f (some b) y = some y := if_pos hyb
          rw [step] at hin hleast
          have hy := hleast y (.inr rfl)
          refine ⟨?_, fun x hx => ?_⟩
          · obtain h | h := hin
            · exact .inl (.tail _ h)
            · cases h
              exact .inl (.head _)
          · obtain h | h := hx
            · cases h with
              | head => exact hy
              | tail _ h => exact hleast x (.inl h)
            · cases h
              rw [← Bool.not_eq_true, shedBefore_iff] at hy ⊢
              rw [shedBefore_iff] at hyb
              omega
        · have step : f (some b) y = some b := if_neg hyb
          rw [step] at hin hleast
          have hb' := hleast b (.inr rfl)
          refine ⟨?_, fun x hx => ?_⟩
          · obtain h | h := hin
            · exact .inl (.tail _ h)
            · exact .inr h
          · obtain h | h := hx
            · cases h with
              | head =>
                rw [← Bool.not_eq_true, shedBefore_iff] at hb' ⊢
                rw [shedBefore_iff] at hyb
                omega
              | tail _ h => exact hleast x (.inl h)
            · cases h
              exact hb'
  obtain ⟨hin, hleast⟩ := walk _ none h
  obtain hin | hin := hin
  · obtain ⟨hm, hl⟩ := List.mem_filter.1 hin
    exact ⟨hm, by simpa using hl, fun x hx hs => hleast x (.inl (List.mem_filter.2 ⟨hx, by simpa using hs⟩))⟩
  · cases hin

end Sys2Proof.Machine
end

