-- ==== Sys2Proof/Laws/Frame/Ops.lean ====
section
/-! SUPPORT. Frames of the shared operations, the record store among them: the fields of the state each operation leaves as they were. -/

namespace Sys2Proof.Machine

@[simp] theorem reach_frame (d : Nat) (s : State) :
    (reach d s).pending = s.pending ∧
    (reach d s).free = s.free ∧
    (reach d s).cfg = s.cfg ∧
    (reach d s).door1 = s.door1 ∧
    (reach d s).door2 = s.door2 ∧
    (reach d s).minuteAt = s.minuteAt ∧
    (reach d s).store = s.store ∧
    (reach d s).bst = s.bst ∧
    (reach d s).alc = s.alc ∧
    (reach d s).lsu = s.lsu ∧
    (reach d s).pbc = s.pbc ∧
    (reach d s).acu = s.acu ∧
    (reach d s).gtc = s.gtc ∧
    (reach d s).fsc = s.fsc ∧
    (reach d s).dck = s.dck ∧
    (reach d s).qlc = s.qlc ∧
    (reach d s).tpc = s.tpc ∧
    (reach d s).evj = s.evj ∧
    (reach d s).cfl = s.cfl := by
  simp [reach]

@[simp] theorem takeFree_fst (s : State) : (takeFree s).1 = s.free := rfl

@[simp] theorem takeFree_frame (s : State) :
    ((takeFree s).2).pending = s.pending ∧
    ((takeFree s).2).now = s.now ∧
    ((takeFree s).2).cfg = s.cfg ∧
    ((takeFree s).2).door1 = s.door1 ∧
    ((takeFree s).2).door2 = s.door2 ∧
    ((takeFree s).2).minuteAt = s.minuteAt ∧
    ((takeFree s).2).store = s.store ∧
    ((takeFree s).2).bst = s.bst ∧
    ((takeFree s).2).alc = s.alc ∧
    ((takeFree s).2).lsu = s.lsu ∧
    ((takeFree s).2).pbc = s.pbc ∧
    ((takeFree s).2).acu = s.acu ∧
    ((takeFree s).2).gtc = s.gtc ∧
    ((takeFree s).2).fsc = s.fsc ∧
    ((takeFree s).2).dck = s.dck ∧
    ((takeFree s).2).qlc = s.qlc ∧
    ((takeFree s).2).tpc = s.tpc ∧
    ((takeFree s).2).evj = s.evj ∧
    ((takeFree s).2).cfl = s.cfl := by
  simp [takeFree]

@[simp] theorem onErrors_frame (g : ErrorSummary → ErrorSummary) (s : State) :
    (onErrors g s).pending = s.pending ∧
    (onErrors g s).now = s.now ∧
    (onErrors g s).free = s.free ∧
    (onErrors g s).cfg = s.cfg ∧
    (onErrors g s).door1 = s.door1 ∧
    (onErrors g s).door2 = s.door2 ∧
    (onErrors g s).minuteAt = s.minuteAt ∧
    (onErrors g s).store = s.store ∧
    (onErrors g s).bst = s.bst ∧
    (onErrors g s).alc = s.alc ∧
    (onErrors g s).lsu = s.lsu ∧
    (onErrors g s).pbc = s.pbc ∧
    (onErrors g s).acu = s.acu ∧
    (onErrors g s).gtc = s.gtc ∧
    (onErrors g s).fsc = s.fsc ∧
    (onErrors g s).dck = s.dck ∧
    (onErrors g s).tpc = s.tpc ∧
    (onErrors g s).evj = s.evj ∧
    (onErrors g s).cfl = s.cfl := by
  simp [onErrors]

@[simp] theorem lookAgain_frame (s : State) :
    (lookAgain s).pending = s.pending ∧
    (lookAgain s).now = s.now ∧
    (lookAgain s).free = s.free ∧
    (lookAgain s).cfg = s.cfg ∧
    (lookAgain s).door1 = s.door1 ∧
    (lookAgain s).door2 = s.door2 ∧
    (lookAgain s).minuteAt = s.minuteAt ∧
    (lookAgain s).store = s.store ∧
    (lookAgain s).bst = s.bst ∧
    (lookAgain s).alc = s.alc ∧
    (lookAgain s).lsu = s.lsu ∧
    (lookAgain s).pbc = s.pbc ∧
    (lookAgain s).acu = s.acu ∧
    (lookAgain s).gtc = s.gtc ∧
    (lookAgain s).fsc = s.fsc ∧
    (lookAgain s).dck = s.dck ∧
    (lookAgain s).qlc = s.qlc ∧
    (lookAgain s).tpc = s.tpc ∧
    (lookAgain s).cfl = s.cfl := by
  simp [lookAgain]

@[simp] theorem report_frame (r : Report) (s : State) :
    (report r s).pending = s.pending ∧
    (report r s).now = s.now ∧
    (report r s).free = s.free ∧
    (report r s).cfg = s.cfg ∧
    (report r s).door1 = s.door1 ∧
    (report r s).door2 = s.door2 ∧
    (report r s).minuteAt = s.minuteAt ∧
    (report r s).store = s.store ∧
    (report r s).bst = s.bst ∧
    (report r s).alc = s.alc ∧
    (report r s).lsu = s.lsu ∧
    (report r s).pbc = s.pbc ∧
    (report r s).acu = s.acu ∧
    (report r s).gtc = s.gtc ∧
    (report r s).fsc = s.fsc ∧
    (report r s).dck = s.dck ∧
    (report r s).qlc = s.qlc ∧
    (report r s).tpc = s.tpc ∧
    (report r s).cfl = s.cfl := by
  simp [report]

@[simp] theorem onBerth_frame (n : Nat) (g : Berth → Berth) (s : State) :
    (onBerth n g s).pending = s.pending ∧
    (onBerth n g s).now = s.now ∧
    (onBerth n g s).free = s.free ∧
    (onBerth n g s).cfg = s.cfg ∧
    (onBerth n g s).door1 = s.door1 ∧
    (onBerth n g s).door2 = s.door2 ∧
    (onBerth n g s).minuteAt = s.minuteAt ∧
    (onBerth n g s).store = s.store ∧
    (onBerth n g s).alc = s.alc ∧
    (onBerth n g s).lsu = s.lsu ∧
    (onBerth n g s).pbc = s.pbc ∧
    (onBerth n g s).acu = s.acu ∧
    (onBerth n g s).gtc = s.gtc ∧
    (onBerth n g s).fsc = s.fsc ∧
    (onBerth n g s).dck = s.dck ∧
    (onBerth n g s).qlc = s.qlc ∧
    (onBerth n g s).tpc = s.tpc ∧
    (onBerth n g s).evj = s.evj ∧
    (onBerth n g s).cfl = s.cfl := by
  simp [onBerth]

@[simp] theorem onBooking_frame (n k : Nat) (g : Booking → Booking) (s : State) :
    (onBooking n k g s).pending = s.pending ∧
    (onBooking n k g s).now = s.now ∧
    (onBooking n k g s).free = s.free ∧
    (onBooking n k g s).cfg = s.cfg ∧
    (onBooking n k g s).door1 = s.door1 ∧
    (onBooking n k g s).door2 = s.door2 ∧
    (onBooking n k g s).minuteAt = s.minuteAt ∧
    (onBooking n k g s).store = s.store ∧
    (onBooking n k g s).alc = s.alc ∧
    (onBooking n k g s).lsu = s.lsu ∧
    (onBooking n k g s).pbc = s.pbc ∧
    (onBooking n k g s).acu = s.acu ∧
    (onBooking n k g s).gtc = s.gtc ∧
    (onBooking n k g s).fsc = s.fsc ∧
    (onBooking n k g s).dck = s.dck ∧
    (onBooking n k g s).qlc = s.qlc ∧
    (onBooking n k g s).tpc = s.tpc ∧
    (onBooking n k g s).evj = s.evj ∧
    (onBooking n k g s).cfl = s.cfl := by
  simp [onBooking]

@[simp] theorem queueRecord_frame (id : RecordId) (s : State) :
    (queueRecord id s).pending = s.pending ∧
    (queueRecord id s).now = s.now ∧
    (queueRecord id s).free = s.free ∧
    (queueRecord id s).cfg = s.cfg ∧
    (queueRecord id s).door1 = s.door1 ∧
    (queueRecord id s).door2 = s.door2 ∧
    (queueRecord id s).minuteAt = s.minuteAt ∧
    (queueRecord id s).store = s.store ∧
    (queueRecord id s).alc = s.alc ∧
    (queueRecord id s).lsu = s.lsu ∧
    (queueRecord id s).pbc = s.pbc ∧
    (queueRecord id s).acu = s.acu ∧
    (queueRecord id s).gtc = s.gtc ∧
    (queueRecord id s).fsc = s.fsc ∧
    (queueRecord id s).dck = s.dck ∧
    (queueRecord id s).qlc = s.qlc ∧
    (queueRecord id s).tpc = s.tpc ∧
    (queueRecord id s).evj = s.evj ∧
    (queueRecord id s).cfl = s.cfl := by
  generalize h : queueRecord id s = t; unfold queueRecord at h; (repeat' split at h) <;> subst h <;> simp

@[simp] theorem queueSlot_frame (n : Option Nat) (s : State) :
    (queueSlot n s).pending = s.pending ∧
    (queueSlot n s).now = s.now ∧
    (queueSlot n s).free = s.free ∧
    (queueSlot n s).cfg = s.cfg ∧
    (queueSlot n s).door1 = s.door1 ∧
    (queueSlot n s).door2 = s.door2 ∧
    (queueSlot n s).minuteAt = s.minuteAt ∧
    (queueSlot n s).store = s.store ∧
    (queueSlot n s).alc = s.alc ∧
    (queueSlot n s).lsu = s.lsu ∧
    (queueSlot n s).pbc = s.pbc ∧
    (queueSlot n s).acu = s.acu ∧
    (queueSlot n s).gtc = s.gtc ∧
    (queueSlot n s).fsc = s.fsc ∧
    (queueSlot n s).dck = s.dck ∧
    (queueSlot n s).qlc = s.qlc ∧
    (queueSlot n s).tpc = s.tpc ∧
    (queueSlot n s).evj = s.evj ∧
    (queueSlot n s).cfl = s.cfl := by
  generalize h : queueSlot n s = t; unfold queueSlot at h; split at h <;> subst h <;> simp

@[simp] theorem changeBooking_frame (n k : Nat) (g : Booking → Booking) (s : State) :
    (changeBooking n k g s).pending = s.pending ∧
    (changeBooking n k g s).now = s.now ∧
    (changeBooking n k g s).free = s.free ∧
    (changeBooking n k g s).cfg = s.cfg ∧
    (changeBooking n k g s).door1 = s.door1 ∧
    (changeBooking n k g s).door2 = s.door2 ∧
    (changeBooking n k g s).minuteAt = s.minuteAt ∧
    (changeBooking n k g s).store = s.store ∧
    (changeBooking n k g s).alc = s.alc ∧
    (changeBooking n k g s).lsu = s.lsu ∧
    (changeBooking n k g s).pbc = s.pbc ∧
    (changeBooking n k g s).acu = s.acu ∧
    (changeBooking n k g s).gtc = s.gtc ∧
    (changeBooking n k g s).fsc = s.fsc ∧
    (changeBooking n k g s).dck = s.dck ∧
    (changeBooking n k g s).qlc = s.qlc ∧
    (changeBooking n k g s).tpc = s.tpc ∧
    (changeBooking n k g s).evj = s.evj ∧
    (changeBooking n k g s).cfl = s.cfl := by
  generalize h : changeBooking n k g s = t; unfold changeBooking at h; split at h <;> subst h <;> simp

end Sys2Proof.Machine
end

