-- ==== Sys2Proof/Laws/Frame/Quayline.lean ====
section
/-! SUPPORT. Frames of QLC: the fields of the state each operation leaves as they were. -/

namespace Sys2Proof.Machine

@[simp] theorem onLine_frame (c : Channel) (g : Line → Line) (s : State) :
    (onLine c g s).pending = s.pending ∧
    (onLine c g s).now = s.now ∧
    (onLine c g s).free = s.free ∧
    (onLine c g s).cfg = s.cfg ∧
    (onLine c g s).door1 = s.door1 ∧
    (onLine c g s).door2 = s.door2 ∧
    (onLine c g s).minuteAt = s.minuteAt ∧
    (onLine c g s).store = s.store ∧
    (onLine c g s).bst = s.bst ∧
    (onLine c g s).alc = s.alc ∧
    (onLine c g s).lsu = s.lsu ∧
    (onLine c g s).pbc = s.pbc ∧
    (onLine c g s).acu = s.acu ∧
    (onLine c g s).gtc = s.gtc ∧
    (onLine c g s).fsc = s.fsc ∧
    (onLine c g s).dck = s.dck ∧
    (onLine c g s).tpc = s.tpc ∧
    (onLine c g s).evj = s.evj ∧
    (onLine c g s).cfl = s.cfl := by
  simp [onLine]

@[simp] theorem enqueue_frame (fr : Frame) (a b : Bool) (s : State) :
    ((enqueue fr a b s).1).pending = s.pending ∧
    ((enqueue fr a b s).1).now = s.now ∧
    ((enqueue fr a b s).1).free = s.free ∧
    ((enqueue fr a b s).1).cfg = s.cfg ∧
    ((enqueue fr a b s).1).door1 = s.door1 ∧
    ((enqueue fr a b s).1).door2 = s.door2 ∧
    ((enqueue fr a b s).1).minuteAt = s.minuteAt ∧
    ((enqueue fr a b s).1).store = s.store ∧
    ((enqueue fr a b s).1).bst = s.bst ∧
    ((enqueue fr a b s).1).alc = s.alc ∧
    ((enqueue fr a b s).1).lsu = s.lsu ∧
    ((enqueue fr a b s).1).pbc = s.pbc ∧
    ((enqueue fr a b s).1).acu = s.acu ∧
    ((enqueue fr a b s).1).gtc = s.gtc ∧
    ((enqueue fr a b s).1).fsc = s.fsc ∧
    ((enqueue fr a b s).1).dck = s.dck ∧
    ((enqueue fr a b s).1).tpc = s.tpc ∧
    ((enqueue fr a b s).1).evj = s.evj ∧
    ((enqueue fr a b s).1).cfl = s.cfl := by
  generalize h : enqueue fr a b s = t; unfold enqueue at h; split at h <;> subst h <;> simp

@[simp] theorem enqueueOn_frame (c : Channel) (fr : Frame) (s : State) :
    ((enqueueOn c fr s).1).pending = s.pending ∧
    ((enqueueOn c fr s).1).now = s.now ∧
    ((enqueueOn c fr s).1).free = s.free ∧
    ((enqueueOn c fr s).1).cfg = s.cfg ∧
    ((enqueueOn c fr s).1).door1 = s.door1 ∧
    ((enqueueOn c fr s).1).door2 = s.door2 ∧
    ((enqueueOn c fr s).1).minuteAt = s.minuteAt ∧
    ((enqueueOn c fr s).1).store = s.store ∧
    ((enqueueOn c fr s).1).bst = s.bst ∧
    ((enqueueOn c fr s).1).alc = s.alc ∧
    ((enqueueOn c fr s).1).lsu = s.lsu ∧
    ((enqueueOn c fr s).1).pbc = s.pbc ∧
    ((enqueueOn c fr s).1).acu = s.acu ∧
    ((enqueueOn c fr s).1).gtc = s.gtc ∧
    ((enqueueOn c fr s).1).fsc = s.fsc ∧
    ((enqueueOn c fr s).1).dck = s.dck ∧
    ((enqueueOn c fr s).1).tpc = s.tpc ∧
    ((enqueueOn c fr s).1).evj = s.evj ∧
    ((enqueueOn c fr s).1).cfl = s.cfl := by
  simp [enqueueOn]

@[simp] theorem broadcast_frame (b : FrameBody) (s : State) :
    ((broadcast b s).1).pending = s.pending ∧
    ((broadcast b s).1).now = s.now ∧
    ((broadcast b s).1).free = s.free ∧
    ((broadcast b s).1).cfg = s.cfg ∧
    ((broadcast b s).1).door1 = s.door1 ∧
    ((broadcast b s).1).door2 = s.door2 ∧
    ((broadcast b s).1).minuteAt = s.minuteAt ∧
    ((broadcast b s).1).store = s.store ∧
    ((broadcast b s).1).bst = s.bst ∧
    ((broadcast b s).1).alc = s.alc ∧
    ((broadcast b s).1).lsu = s.lsu ∧
    ((broadcast b s).1).pbc = s.pbc ∧
    ((broadcast b s).1).acu = s.acu ∧
    ((broadcast b s).1).gtc = s.gtc ∧
    ((broadcast b s).1).fsc = s.fsc ∧
    ((broadcast b s).1).dck = s.dck ∧
    ((broadcast b s).1).tpc = s.tpc ∧
    ((broadcast b s).1).evj = s.evj ∧
    ((broadcast b s).1).cfl = s.cfl := by
  simp [broadcast]

@[simp] theorem sendAnswer_frame (c : Channel) (n : Nat) (q : Num8) (b : FrameBody) (s : State) :
    (sendAnswer c n q b s).pending = s.pending ∧
    (sendAnswer c n q b s).now = s.now ∧
    (sendAnswer c n q b s).free = s.free ∧
    (sendAnswer c n q b s).cfg = s.cfg ∧
    (sendAnswer c n q b s).door1 = s.door1 ∧
    (sendAnswer c n q b s).door2 = s.door2 ∧
    (sendAnswer c n q b s).minuteAt = s.minuteAt ∧
    (sendAnswer c n q b s).store = s.store ∧
    (sendAnswer c n q b s).bst = s.bst ∧
    (sendAnswer c n q b s).alc = s.alc ∧
    (sendAnswer c n q b s).lsu = s.lsu ∧
    (sendAnswer c n q b s).pbc = s.pbc ∧
    (sendAnswer c n q b s).acu = s.acu ∧
    (sendAnswer c n q b s).gtc = s.gtc ∧
    (sendAnswer c n q b s).fsc = s.fsc ∧
    (sendAnswer c n q b s).dck = s.dck ∧
    (sendAnswer c n q b s).tpc = s.tpc ∧
    (sendAnswer c n q b s).evj = s.evj ∧
    (sendAnswer c n q b s).cfl = s.cfl := by
  simp [sendAnswer]

@[simp] theorem adjust_frame (c : Channel) (p : Entry → Bool) (s : State) :
    (adjust c p s).pending = s.pending ∧
    (adjust c p s).now = s.now ∧
    (adjust c p s).free = s.free ∧
    (adjust c p s).cfg = s.cfg ∧
    (adjust c p s).door1 = s.door1 ∧
    (adjust c p s).door2 = s.door2 ∧
    (adjust c p s).minuteAt = s.minuteAt ∧
    (adjust c p s).store = s.store ∧
    (adjust c p s).bst = s.bst ∧
    (adjust c p s).alc = s.alc ∧
    (adjust c p s).lsu = s.lsu ∧
    (adjust c p s).pbc = s.pbc ∧
    (adjust c p s).acu = s.acu ∧
    (adjust c p s).gtc = s.gtc ∧
    (adjust c p s).fsc = s.fsc ∧
    (adjust c p s).dck = s.dck ∧
    (adjust c p s).tpc = s.tpc ∧
    (adjust c p s).evj = s.evj ∧
    (adjust c p s).cfl = s.cfl := by
  generalize h : adjust c p s = t; unfold adjust at h; split at h <;> subst h <;> simp

@[simp] theorem channelDown_frame (c : Channel) (d : DownCause) (s : State) :
    (channelDown c d s).pending = s.pending ∧
    (channelDown c d s).now = s.now ∧
    (channelDown c d s).free = s.free ∧
    (channelDown c d s).cfg = s.cfg ∧
    (channelDown c d s).door1 = s.door1 ∧
    (channelDown c d s).door2 = s.door2 ∧
    (channelDown c d s).minuteAt = s.minuteAt ∧
    (channelDown c d s).store = s.store ∧
    (channelDown c d s).bst = s.bst ∧
    (channelDown c d s).alc = s.alc ∧
    (channelDown c d s).lsu = s.lsu ∧
    (channelDown c d s).pbc = s.pbc ∧
    (channelDown c d s).acu = s.acu ∧
    (channelDown c d s).gtc = s.gtc ∧
    (channelDown c d s).fsc = s.fsc ∧
    (channelDown c d s).dck = s.dck ∧
    (channelDown c d s).tpc = s.tpc ∧
    (channelDown c d s).cfl = s.cfl := by
  generalize h : channelDown c d s = t; unfold channelDown at h; split at h <;> subst h <;> simp

@[simp] theorem heardOn_frame (c : Channel) (s : State) :
    (heardOn c s).pending = s.pending ∧
    (heardOn c s).now = s.now ∧
    (heardOn c s).free = s.free ∧
    (heardOn c s).cfg = s.cfg ∧
    (heardOn c s).door1 = s.door1 ∧
    (heardOn c s).door2 = s.door2 ∧
    (heardOn c s).minuteAt = s.minuteAt ∧
    (heardOn c s).store = s.store ∧
    (heardOn c s).bst = s.bst ∧
    (heardOn c s).alc = s.alc ∧
    (heardOn c s).lsu = s.lsu ∧
    (heardOn c s).pbc = s.pbc ∧
    (heardOn c s).acu = s.acu ∧
    (heardOn c s).gtc = s.gtc ∧
    (heardOn c s).fsc = s.fsc ∧
    (heardOn c s).dck = s.dck ∧
    (heardOn c s).tpc = s.tpc ∧
    (heardOn c s).cfl = s.cfl := by
  generalize h : heardOn c s = t; unfold heardOn at h; (try dsimp only at h); (repeat' split at h) <;> subst h <;> simp

@[simp] theorem ask_frame (n : Nat) (b : FrameBody) (o : Originator) (s : State) :
    ((ask n b o s).1).pending = s.pending ∧
    ((ask n b o s).1).now = s.now ∧
    ((ask n b o s).1).free = s.free ∧
    ((ask n b o s).1).cfg = s.cfg ∧
    ((ask n b o s).1).door1 = s.door1 ∧
    ((ask n b o s).1).door2 = s.door2 ∧
    ((ask n b o s).1).minuteAt = s.minuteAt ∧
    ((ask n b o s).1).store = s.store ∧
    ((ask n b o s).1).bst = s.bst ∧
    ((ask n b o s).1).alc = s.alc ∧
    ((ask n b o s).1).lsu = s.lsu ∧
    ((ask n b o s).1).pbc = s.pbc ∧
    ((ask n b o s).1).acu = s.acu ∧
    ((ask n b o s).1).gtc = s.gtc ∧
    ((ask n b o s).1).fsc = s.fsc ∧
    ((ask n b o s).1).dck = s.dck ∧
    ((ask n b o s).1).tpc = s.tpc ∧
    ((ask n b o s).1).evj = s.evj ∧
    ((ask n b o s).1).cfl = s.cfl := by
  generalize h : ask n b o s = t; unfold ask at h; (try dsimp only at h); (repeat' split at h) <;> subst h <;> simp

@[simp] theorem onRequest_frame (q : Num8) (g : Pending → Pending) (s : State) :
    (onRequest q g s).pending = s.pending ∧
    (onRequest q g s).now = s.now ∧
    (onRequest q g s).free = s.free ∧
    (onRequest q g s).cfg = s.cfg ∧
    (onRequest q g s).door1 = s.door1 ∧
    (onRequest q g s).door2 = s.door2 ∧
    (onRequest q g s).minuteAt = s.minuteAt ∧
    (onRequest q g s).store = s.store ∧
    (onRequest q g s).bst = s.bst ∧
    (onRequest q g s).alc = s.alc ∧
    (onRequest q g s).lsu = s.lsu ∧
    (onRequest q g s).pbc = s.pbc ∧
    (onRequest q g s).acu = s.acu ∧
    (onRequest q g s).gtc = s.gtc ∧
    (onRequest q g s).fsc = s.fsc ∧
    (onRequest q g s).dck = s.dck ∧
    (onRequest q g s).tpc = s.tpc ∧
    (onRequest q g s).evj = s.evj ∧
    (onRequest q g s).cfl = s.cfl := by
  simp [onRequest]

@[simp] theorem closeRequest_frame (p : Pending) (s : State) :
    (closeRequest p s).pending = s.pending ∧
    (closeRequest p s).now = s.now ∧
    (closeRequest p s).free = s.free ∧
    (closeRequest p s).cfg = s.cfg ∧
    (closeRequest p s).door1 = s.door1 ∧
    (closeRequest p s).door2 = s.door2 ∧
    (closeRequest p s).minuteAt = s.minuteAt ∧
    (closeRequest p s).store = s.store ∧
    (closeRequest p s).bst = s.bst ∧
    (closeRequest p s).alc = s.alc ∧
    (closeRequest p s).lsu = s.lsu ∧
    (closeRequest p s).pbc = s.pbc ∧
    (closeRequest p s).acu = s.acu ∧
    (closeRequest p s).gtc = s.gtc ∧
    (closeRequest p s).fsc = s.fsc ∧
    (closeRequest p s).dck = s.dck ∧
    (closeRequest p s).tpc = s.tpc ∧
    (closeRequest p s).evj = s.evj ∧
    (closeRequest p s).cfl = s.cfl := by
  simp [closeRequest]

@[simp] theorem nextAttempt_frame (p : Pending) (s : State) :
    (nextAttempt p s).pending = s.pending ∧
    (nextAttempt p s).now = s.now ∧
    (nextAttempt p s).free = s.free ∧
    (nextAttempt p s).cfg = s.cfg ∧
    (nextAttempt p s).door1 = s.door1 ∧
    (nextAttempt p s).door2 = s.door2 ∧
    (nextAttempt p s).minuteAt = s.minuteAt ∧
    (nextAttempt p s).store = s.store ∧
    (nextAttempt p s).bst = s.bst ∧
    (nextAttempt p s).alc = s.alc ∧
    (nextAttempt p s).lsu = s.lsu ∧
    (nextAttempt p s).pbc = s.pbc ∧
    (nextAttempt p s).acu = s.acu ∧
    (nextAttempt p s).gtc = s.gtc ∧
    (nextAttempt p s).fsc = s.fsc ∧
    (nextAttempt p s).dck = s.dck ∧
    (nextAttempt p s).tpc = s.tpc ∧
    (nextAttempt p s).evj = s.evj ∧
    (nextAttempt p s).cfl = s.cfl := by
  simp [nextAttempt]

@[simp] theorem generateAnnounce_frame (s : State) :
    (generateAnnounce s).pending = s.pending ∧
    (generateAnnounce s).now = s.now ∧
    (generateAnnounce s).free = s.free ∧
    (generateAnnounce s).cfg = s.cfg ∧
    (generateAnnounce s).door1 = s.door1 ∧
    (generateAnnounce s).door2 = s.door2 ∧
    (generateAnnounce s).minuteAt = s.minuteAt ∧
    (generateAnnounce s).store = s.store ∧
    (generateAnnounce s).bst = s.bst ∧
    (generateAnnounce s).alc = s.alc ∧
    (generateAnnounce s).lsu = s.lsu ∧
    (generateAnnounce s).pbc = s.pbc ∧
    (generateAnnounce s).acu = s.acu ∧
    (generateAnnounce s).gtc = s.gtc ∧
    (generateAnnounce s).fsc = s.fsc ∧
    (generateAnnounce s).dck = s.dck ∧
    (generateAnnounce s).tpc = s.tpc ∧
    (generateAnnounce s).evj = s.evj ∧
    (generateAnnounce s).cfl = s.cfl := by
  generalize h : generateAnnounce s = t; unfold generateAnnounce at h; (try dsimp only at h); (repeat' split at h) <;> subst h <;> simp

@[simp] theorem beginSending_frame (c : Channel) (s : State) :
    (beginSending c s).pending = s.pending ∧
    (beginSending c s).now = s.now ∧
    (beginSending c s).free = s.free ∧
    (beginSending c s).cfg = s.cfg ∧
    (beginSending c s).door1 = s.door1 ∧
    (beginSending c s).door2 = s.door2 ∧
    (beginSending c s).minuteAt = s.minuteAt ∧
    (beginSending c s).store = s.store ∧
    (beginSending c s).bst = s.bst ∧
    (beginSending c s).alc = s.alc ∧
    (beginSending c s).lsu = s.lsu ∧
    (beginSending c s).pbc = s.pbc ∧
    (beginSending c s).acu = s.acu ∧
    (beginSending c s).gtc = s.gtc ∧
    (beginSending c s).fsc = s.fsc ∧
    (beginSending c s).dck = s.dck ∧
    (beginSending c s).tpc = s.tpc ∧
    (beginSending c s).evj = s.evj ∧
    (beginSending c s).cfl = s.cfl := by
  generalize h : beginSending c s = t; unfold beginSending at h; (repeat' split at h) <;> subst h <;> simp

@[simp] theorem yieldAnnounce_frame (c : Channel) (s : State) :
    (yieldAnnounce c s).pending = s.pending ∧
    (yieldAnnounce c s).now = s.now ∧
    (yieldAnnounce c s).free = s.free ∧
    (yieldAnnounce c s).cfg = s.cfg ∧
    (yieldAnnounce c s).door1 = s.door1 ∧
    (yieldAnnounce c s).door2 = s.door2 ∧
    (yieldAnnounce c s).minuteAt = s.minuteAt ∧
    (yieldAnnounce c s).store = s.store ∧
    (yieldAnnounce c s).bst = s.bst ∧
    (yieldAnnounce c s).alc = s.alc ∧
    (yieldAnnounce c s).lsu = s.lsu ∧
    (yieldAnnounce c s).pbc = s.pbc ∧
    (yieldAnnounce c s).acu = s.acu ∧
    (yieldAnnounce c s).gtc = s.gtc ∧
    (yieldAnnounce c s).fsc = s.fsc ∧
    (yieldAnnounce c s).dck = s.dck ∧
    (yieldAnnounce c s).tpc = s.tpc ∧
    (yieldAnnounce c s).evj = s.evj ∧
    (yieldAnnounce c s).cfl = s.cfl := by
  unfold yieldAnnounce; (repeat' split) <;> simp

@[simp] theorem endSending_frame (c : Channel) (s : State) :
    (endSending c s).pending = s.pending ∧
    (endSending c s).now = s.now ∧
    (endSending c s).free = s.free ∧
    (endSending c s).cfg = s.cfg ∧
    (endSending c s).door1 = s.door1 ∧
    (endSending c s).door2 = s.door2 ∧
    (endSending c s).minuteAt = s.minuteAt ∧
    (endSending c s).store = s.store ∧
    (endSending c s).bst = s.bst ∧
    (endSending c s).alc = s.alc ∧
    (endSending c s).lsu = s.lsu ∧
    (endSending c s).pbc = s.pbc ∧
    (endSending c s).acu = s.acu ∧
    (endSending c s).gtc = s.gtc ∧
    (endSending c s).fsc = s.fsc ∧
    (endSending c s).dck = s.dck ∧
    (endSending c s).tpc = s.tpc ∧
    (endSending c s).evj = s.evj ∧
    (endSending c s).cfl = s.cfl := by
  generalize h : endSending c s = t; unfold endSending at h; (repeat' split at h) <;> subst h <;> simp

@[simp] theorem sendingFault_frame (c : Channel) (n : Nat) (s : State) :
    (sendingFault c n s).pending = s.pending ∧
    (sendingFault c n s).now = s.now ∧
    (sendingFault c n s).free = s.free ∧
    (sendingFault c n s).cfg = s.cfg ∧
    (sendingFault c n s).door1 = s.door1 ∧
    (sendingFault c n s).door2 = s.door2 ∧
    (sendingFault c n s).minuteAt = s.minuteAt ∧
    (sendingFault c n s).store = s.store ∧
    (sendingFault c n s).bst = s.bst ∧
    (sendingFault c n s).alc = s.alc ∧
    (sendingFault c n s).lsu = s.lsu ∧
    (sendingFault c n s).pbc = s.pbc ∧
    (sendingFault c n s).acu = s.acu ∧
    (sendingFault c n s).gtc = s.gtc ∧
    (sendingFault c n s).fsc = s.fsc ∧
    (sendingFault c n s).dck = s.dck ∧
    (sendingFault c n s).tpc = s.tpc ∧
    (sendingFault c n s).cfl = s.cfl := by
  generalize h : sendingFault c n s = t; unfold sendingFault at h; (try dsimp only at h); (repeat' split at h) <;> subst h <;> simp

end Sys2Proof.Machine
end

