-- ==== Sys2Proof/Laws/Frame/Cache.lean ====
section
/-! SUPPORT. Frames of ACU's cache: the fields of the state each operation leaves as they were. -/

namespace Sys2Proof.Machine

@[simp] theorem touchEntry_frame (e : CacheEntry) (s : State) :
    (touchEntry e s).pending = s.pending ∧
    (touchEntry e s).now = s.now ∧
    (touchEntry e s).free = s.free ∧
    (touchEntry e s).cfg = s.cfg ∧
    (touchEntry e s).door1 = s.door1 ∧
    (touchEntry e s).door2 = s.door2 ∧
    (touchEntry e s).minuteAt = s.minuteAt ∧
    (touchEntry e s).store = s.store ∧
    (touchEntry e s).bst = s.bst ∧
    (touchEntry e s).alc = s.alc ∧
    (touchEntry e s).lsu = s.lsu ∧
    (touchEntry e s).pbc = s.pbc ∧
    (touchEntry e s).gtc = s.gtc ∧
    (touchEntry e s).fsc = s.fsc ∧
    (touchEntry e s).dck = s.dck ∧
    (touchEntry e s).qlc = s.qlc ∧
    (touchEntry e s).tpc = s.tpc ∧
    (touchEntry e s).evj = s.evj ∧
    (touchEntry e s).cfl = s.cfl := by
  simp [touchEntry]

@[simp] theorem dropTags_frame (ts : List Tag) (s : State) :
    (dropTags ts s).pending = s.pending ∧
    (dropTags ts s).now = s.now ∧
    (dropTags ts s).free = s.free ∧
    (dropTags ts s).cfg = s.cfg ∧
    (dropTags ts s).door1 = s.door1 ∧
    (dropTags ts s).door2 = s.door2 ∧
    (dropTags ts s).minuteAt = s.minuteAt ∧
    (dropTags ts s).store = s.store ∧
    (dropTags ts s).bst = s.bst ∧
    (dropTags ts s).alc = s.alc ∧
    (dropTags ts s).lsu = s.lsu ∧
    (dropTags ts s).pbc = s.pbc ∧
    (dropTags ts s).gtc = s.gtc ∧
    (dropTags ts s).fsc = s.fsc ∧
    (dropTags ts s).dck = s.dck ∧
    (dropTags ts s).qlc = s.qlc ∧
    (dropTags ts s).tpc = s.tpc ∧
    (dropTags ts s).evj = s.evj ∧
    (dropTags ts s).cfl = s.cfl := by
  simp [dropTags]

@[simp] theorem markLookups_frame (ts : List Tag) (s : State) :
    (markLookups ts s).pending = s.pending ∧
    (markLookups ts s).now = s.now ∧
    (markLookups ts s).free = s.free ∧
    (markLookups ts s).cfg = s.cfg ∧
    (markLookups ts s).door1 = s.door1 ∧
    (markLookups ts s).door2 = s.door2 ∧
    (markLookups ts s).minuteAt = s.minuteAt ∧
    (markLookups ts s).store = s.store ∧
    (markLookups ts s).bst = s.bst ∧
    (markLookups ts s).alc = s.alc ∧
    (markLookups ts s).lsu = s.lsu ∧
    (markLookups ts s).pbc = s.pbc ∧
    (markLookups ts s).gtc = s.gtc ∧
    (markLookups ts s).fsc = s.fsc ∧
    (markLookups ts s).dck = s.dck ∧
    (markLookups ts s).qlc = s.qlc ∧
    (markLookups ts s).tpc = s.tpc ∧
    (markLookups ts s).evj = s.evj ∧
    (markLookups ts s).cfl = s.cfl := by
  simp [markLookups]

@[simp] theorem revoke_frame (ts : List Tag) (s : State) :
    (revoke ts s).pending = s.pending ∧
    (revoke ts s).now = s.now ∧
    (revoke ts s).free = s.free ∧
    (revoke ts s).cfg = s.cfg ∧
    (revoke ts s).door1 = s.door1 ∧
    (revoke ts s).door2 = s.door2 ∧
    (revoke ts s).minuteAt = s.minuteAt ∧
    (revoke ts s).store = s.store ∧
    (revoke ts s).bst = s.bst ∧
    (revoke ts s).alc = s.alc ∧
    (revoke ts s).lsu = s.lsu ∧
    (revoke ts s).pbc = s.pbc ∧
    (revoke ts s).gtc = s.gtc ∧
    (revoke ts s).fsc = s.fsc ∧
    (revoke ts s).dck = s.dck ∧
    (revoke ts s).tpc = s.tpc ∧
    (revoke ts s).cfl = s.cfl := by
  generalize h : revoke ts s = t; unfold revoke at h; (try dsimp only at h); (repeat' split at h) <;> subst h <;> simp

@[simp] theorem fillCache_frame (c : Credential) (d : Nat) (s : State) :
    (fillCache c d s).pending = s.pending ∧
    (fillCache c d s).now = s.now ∧
    (fillCache c d s).free = s.free ∧
    (fillCache c d s).cfg = s.cfg ∧
    (fillCache c d s).door1 = s.door1 ∧
    (fillCache c d s).door2 = s.door2 ∧
    (fillCache c d s).minuteAt = s.minuteAt ∧
    (fillCache c d s).store = s.store ∧
    (fillCache c d s).bst = s.bst ∧
    (fillCache c d s).alc = s.alc ∧
    (fillCache c d s).lsu = s.lsu ∧
    (fillCache c d s).pbc = s.pbc ∧
    (fillCache c d s).gtc = s.gtc ∧
    (fillCache c d s).fsc = s.fsc ∧
    (fillCache c d s).dck = s.dck ∧
    (fillCache c d s).qlc = s.qlc ∧
    (fillCache c d s).tpc = s.tpc ∧
    (fillCache c d s).evj = s.evj ∧
    (fillCache c d s).cfl = s.cfl := by
  generalize h : fillCache c d s = t; unfold fillCache at h; split at h <;> subst h <;> simp

@[simp] theorem pinTag_frame (p : PinCfg) (s : State) :
    (pinTag p s).pending = s.pending ∧
    (pinTag p s).now = s.now ∧
    (pinTag p s).free = s.free ∧
    (pinTag p s).cfg = s.cfg ∧
    (pinTag p s).door1 = s.door1 ∧
    (pinTag p s).door2 = s.door2 ∧
    (pinTag p s).minuteAt = s.minuteAt ∧
    (pinTag p s).store = s.store ∧
    (pinTag p s).bst = s.bst ∧
    (pinTag p s).alc = s.alc ∧
    (pinTag p s).lsu = s.lsu ∧
    (pinTag p s).pbc = s.pbc ∧
    (pinTag p s).gtc = s.gtc ∧
    (pinTag p s).fsc = s.fsc ∧
    (pinTag p s).dck = s.dck ∧
    (pinTag p s).qlc = s.qlc ∧
    (pinTag p s).tpc = s.tpc ∧
    (pinTag p s).cfl = s.cfl := by
  generalize h : pinTag p s = t; unfold pinTag at h; (try dsimp only at h); (repeat' split at h) <;> subst h <;> simp

@[simp] theorem onTagQuery_frame (c : Channel) (n : Nat) (q : Num8) (t : Tag) (s : State) :
    (onTagQuery c n q t s).pending = s.pending ∧
    (onTagQuery c n q t s).now = s.now ∧
    (onTagQuery c n q t s).free = s.free ∧
    (onTagQuery c n q t s).cfg = s.cfg ∧
    (onTagQuery c n q t s).door1 = s.door1 ∧
    (onTagQuery c n q t s).door2 = s.door2 ∧
    (onTagQuery c n q t s).minuteAt = s.minuteAt ∧
    (onTagQuery c n q t s).store = s.store ∧
    (onTagQuery c n q t s).bst = s.bst ∧
    (onTagQuery c n q t s).alc = s.alc ∧
    (onTagQuery c n q t s).lsu = s.lsu ∧
    (onTagQuery c n q t s).pbc = s.pbc ∧
    (onTagQuery c n q t s).acu = s.acu ∧
    (onTagQuery c n q t s).gtc = s.gtc ∧
    (onTagQuery c n q t s).fsc = s.fsc ∧
    (onTagQuery c n q t s).dck = s.dck ∧
    (onTagQuery c n q t s).tpc = s.tpc ∧
    (onTagQuery c n q t s).evj = s.evj ∧
    (onTagQuery c n q t s).cfl = s.cfl := by
  generalize h : onTagQuery c n q t s = t; unfold onTagQuery at h; split at h <;> subst h <;> simp

@[simp] theorem onTagRevoke_frame (ts : List Tag) (s : State) :
    (onTagRevoke ts s).pending = s.pending ∧
    (onTagRevoke ts s).now = s.now ∧
    (onTagRevoke ts s).free = s.free ∧
    (onTagRevoke ts s).cfg = s.cfg ∧
    (onTagRevoke ts s).door1 = s.door1 ∧
    (onTagRevoke ts s).door2 = s.door2 ∧
    (onTagRevoke ts s).minuteAt = s.minuteAt ∧
    (onTagRevoke ts s).store = s.store ∧
    (onTagRevoke ts s).bst = s.bst ∧
    (onTagRevoke ts s).alc = s.alc ∧
    (onTagRevoke ts s).lsu = s.lsu ∧
    (onTagRevoke ts s).pbc = s.pbc ∧
    (onTagRevoke ts s).gtc = s.gtc ∧
    (onTagRevoke ts s).fsc = s.fsc ∧
    (onTagRevoke ts s).dck = s.dck ∧
    (onTagRevoke ts s).qlc = s.qlc ∧
    (onTagRevoke ts s).tpc = s.tpc ∧
    (onTagRevoke ts s).evj = s.evj ∧
    (onTagRevoke ts s).cfl = s.cfl := by
  simp [onTagRevoke]

end Sys2Proof.Machine
end

