-- ==== Sys2Proof/Laws/Frame/LoadShare.lean ====
section
/-! SUPPORT. Frames of LSU: the fields of the state each operation leaves as they were. -/

namespace Sys2Proof.Machine

@[simp] theorem noteFloors_frame (n : Nat) (s : State) :
    (noteFloors n s).pending = s.pending ∧
    (noteFloors n s).now = s.now ∧
    (noteFloors n s).free = s.free ∧
    (noteFloors n s).cfg = s.cfg ∧
    (noteFloors n s).door1 = s.door1 ∧
    (noteFloors n s).door2 = s.door2 ∧
    (noteFloors n s).minuteAt = s.minuteAt ∧
    (noteFloors n s).store = s.store ∧
    (noteFloors n s).bst = s.bst ∧
    (noteFloors n s).alc = s.alc ∧
    (noteFloors n s).pbc = s.pbc ∧
    (noteFloors n s).acu = s.acu ∧
    (noteFloors n s).gtc = s.gtc ∧
    (noteFloors n s).fsc = s.fsc ∧
    (noteFloors n s).dck = s.dck ∧
    (noteFloors n s).qlc = s.qlc ∧
    (noteFloors n s).tpc = s.tpc ∧
    (noteFloors n s).cfl = s.cfl := by
  generalize h : noteFloors n s = t; unfold noteFloors at h; (try dsimp only at h); (repeat' split at h) <;> subst h <;> simp

@[simp] theorem applyComputed_frame (n : Nat) (s : State) :
    (applyComputed n s).pending = s.pending ∧
    (applyComputed n s).now = s.now ∧
    (applyComputed n s).free = s.free ∧
    (applyComputed n s).cfg = s.cfg ∧
    (applyComputed n s).door1 = s.door1 ∧
    (applyComputed n s).door2 = s.door2 ∧
    (applyComputed n s).minuteAt = s.minuteAt ∧
    (applyComputed n s).store = s.store ∧
    (applyComputed n s).bst = s.bst ∧
    (applyComputed n s).alc = s.alc ∧
    (applyComputed n s).pbc = s.pbc ∧
    (applyComputed n s).acu = s.acu ∧
    (applyComputed n s).gtc = s.gtc ∧
    (applyComputed n s).fsc = s.fsc ∧
    (applyComputed n s).dck = s.dck ∧
    (applyComputed n s).qlc = s.qlc ∧
    (applyComputed n s).tpc = s.tpc ∧
    (applyComputed n s).cfl = s.cfl := by
  generalize h : applyComputed n s = t; unfold applyComputed at h; (try dsimp only at h); (repeat' split at h) <;> subst h <;> simp

@[simp] theorem compute_frame (n : Nat) (s : State) :
    (compute n s).pending = s.pending ∧
    (compute n s).now = s.now ∧
    (compute n s).free = s.free ∧
    (compute n s).cfg = s.cfg ∧
    (compute n s).door1 = s.door1 ∧
    (compute n s).door2 = s.door2 ∧
    (compute n s).minuteAt = s.minuteAt ∧
    (compute n s).store = s.store ∧
    (compute n s).bst = s.bst ∧
    (compute n s).alc = s.alc ∧
    (compute n s).pbc = s.pbc ∧
    (compute n s).acu = s.acu ∧
    (compute n s).gtc = s.gtc ∧
    (compute n s).fsc = s.fsc ∧
    (compute n s).dck = s.dck ∧
    (compute n s).qlc = s.qlc ∧
    (compute n s).tpc = s.tpc ∧
    (compute n s).cfl = s.cfl := by
  simp [compute]

@[simp] theorem declare_frame (n : Nat) (s : State) :
    (declare n s).pending = s.pending ∧
    (declare n s).now = s.now ∧
    (declare n s).free = s.free ∧
    (declare n s).cfg = s.cfg ∧
    (declare n s).door1 = s.door1 ∧
    (declare n s).door2 = s.door2 ∧
    (declare n s).minuteAt = s.minuteAt ∧
    (declare n s).store = s.store ∧
    (declare n s).bst = s.bst ∧
    (declare n s).alc = s.alc ∧
    (declare n s).pbc = s.pbc ∧
    (declare n s).acu = s.acu ∧
    (declare n s).gtc = s.gtc ∧
    (declare n s).fsc = s.fsc ∧
    (declare n s).dck = s.dck ∧
    (declare n s).qlc = s.qlc ∧
    (declare n s).tpc = s.tpc ∧
    (declare n s).cfl = s.cfl := by
  simp [declare]

@[simp] theorem noteLoad_frame (s : State) :
    (noteLoad s).pending = s.pending ∧
    (noteLoad s).now = s.now ∧
    (noteLoad s).free = s.free ∧
    (noteLoad s).cfg = s.cfg ∧
    (noteLoad s).door1 = s.door1 ∧
    (noteLoad s).door2 = s.door2 ∧
    (noteLoad s).minuteAt = s.minuteAt ∧
    (noteLoad s).store = s.store ∧
    (noteLoad s).bst = s.bst ∧
    (noteLoad s).alc = s.alc ∧
    (noteLoad s).pbc = s.pbc ∧
    (noteLoad s).acu = s.acu ∧
    (noteLoad s).gtc = s.gtc ∧
    (noteLoad s).fsc = s.fsc ∧
    (noteLoad s).dck = s.dck ∧
    (noteLoad s).tpc = s.tpc ∧
    (noteLoad s).cfl = s.cfl := by
  generalize h : noteLoad s = t; unfold noteLoad at h; (try dsimp only at h); (repeat' split at h) <;> subst h <;> simp

end Sys2Proof.Machine
end

