-- ==== Sys2Proof/Laws/Frame/Posts.lean ====
section
/-! SUPPORT. Frames of PBC but for metering: the fields of the state each operation leaves as they were. -/

namespace Sys2Proof.Machine

@[simp] theorem patchOutlet_frame (n : Nat) (g : Outlet → Outlet) (s : State) :
    (patchOutlet n g s).pending = s.pending ∧
    (patchOutlet n g s).now = s.now ∧
    (patchOutlet n g s).free = s.free ∧
    (patchOutlet n g s).cfg = s.cfg ∧
    (patchOutlet n g s).door1 = s.door1 ∧
    (patchOutlet n g s).door2 = s.door2 ∧
    (patchOutlet n g s).minuteAt = s.minuteAt ∧
    (patchOutlet n g s).store = s.store ∧
    (patchOutlet n g s).bst = s.bst ∧
    (patchOutlet n g s).alc = s.alc ∧
    (patchOutlet n g s).lsu = s.lsu ∧
    (patchOutlet n g s).acu = s.acu ∧
    (patchOutlet n g s).gtc = s.gtc ∧
    (patchOutlet n g s).fsc = s.fsc ∧
    (patchOutlet n g s).dck = s.dck ∧
    (patchOutlet n g s).qlc = s.qlc ∧
    (patchOutlet n g s).tpc = s.tpc ∧
    (patchOutlet n g s).evj = s.evj ∧
    (patchOutlet n g s).cfl = s.cfl := by
  simp [patchOutlet]

@[simp] theorem changeOutlet_frame (n : Nat) (g : Outlet → Outlet) (s : State) :
    (changeOutlet n g s).pending = s.pending ∧
    (changeOutlet n g s).now = s.now ∧
    (changeOutlet n g s).free = s.free ∧
    (changeOutlet n g s).cfg = s.cfg ∧
    (changeOutlet n g s).door1 = s.door1 ∧
    (changeOutlet n g s).door2 = s.door2 ∧
    (changeOutlet n g s).minuteAt = s.minuteAt ∧
    (changeOutlet n g s).store = s.store ∧
    (changeOutlet n g s).bst = s.bst ∧
    (changeOutlet n g s).alc = s.alc ∧
    (changeOutlet n g s).acu = s.acu ∧
    (changeOutlet n g s).gtc = s.gtc ∧
    (changeOutlet n g s).fsc = s.fsc ∧
    (changeOutlet n g s).dck = s.dck ∧
    (changeOutlet n g s).tpc = s.tpc ∧
    (changeOutlet n g s).cfl = s.cfl := by
  simp [changeOutlet]

@[simp] theorem changeTap_frame (n : Nat) (g : Tap → Tap) (s : State) :
    (changeTap n g s).pending = s.pending ∧
    (changeTap n g s).now = s.now ∧
    (changeTap n g s).free = s.free ∧
    (changeTap n g s).cfg = s.cfg ∧
    (changeTap n g s).door1 = s.door1 ∧
    (changeTap n g s).door2 = s.door2 ∧
    (changeTap n g s).minuteAt = s.minuteAt ∧
    (changeTap n g s).store = s.store ∧
    (changeTap n g s).bst = s.bst ∧
    (changeTap n g s).alc = s.alc ∧
    (changeTap n g s).lsu = s.lsu ∧
    (changeTap n g s).acu = s.acu ∧
    (changeTap n g s).gtc = s.gtc ∧
    (changeTap n g s).fsc = s.fsc ∧
    (changeTap n g s).dck = s.dck ∧
    (changeTap n g s).qlc = s.qlc ∧
    (changeTap n g s).tpc = s.tpc ∧
    (changeTap n g s).evj = s.evj ∧
    (changeTap n g s).cfl = s.cfl := by
  simp [changeTap]

@[simp] theorem changePost_frame (n : Nat) (g : Post → Post) (s : State) :
    (changePost n g s).pending = s.pending ∧
    (changePost n g s).now = s.now ∧
    (changePost n g s).free = s.free ∧
    (changePost n g s).cfg = s.cfg ∧
    (changePost n g s).door1 = s.door1 ∧
    (changePost n g s).door2 = s.door2 ∧
    (changePost n g s).minuteAt = s.minuteAt ∧
    (changePost n g s).store = s.store ∧
    (changePost n g s).bst = s.bst ∧
    (changePost n g s).alc = s.alc ∧
    (changePost n g s).lsu = s.lsu ∧
    (changePost n g s).acu = s.acu ∧
    (changePost n g s).gtc = s.gtc ∧
    (changePost n g s).fsc = s.fsc ∧
    (changePost n g s).dck = s.dck ∧
    (changePost n g s).qlc = s.qlc ∧
    (changePost n g s).tpc = s.tpc ∧
    (changePost n g s).evj = s.evj ∧
    (changePost n g s).cfl = s.cfl := by
  simp [changePost]

@[simp] theorem takeNumber_frame (s : State) :
    ((takeNumber s).2).pending = s.pending ∧
    ((takeNumber s).2).now = s.now ∧
    ((takeNumber s).2).free = s.free ∧
    ((takeNumber s).2).cfg = s.cfg ∧
    ((takeNumber s).2).door1 = s.door1 ∧
    ((takeNumber s).2).door2 = s.door2 ∧
    ((takeNumber s).2).minuteAt = s.minuteAt ∧
    ((takeNumber s).2).store = s.store ∧
    ((takeNumber s).2).bst = s.bst ∧
    ((takeNumber s).2).alc = s.alc ∧
    ((takeNumber s).2).lsu = s.lsu ∧
    ((takeNumber s).2).acu = s.acu ∧
    ((takeNumber s).2).gtc = s.gtc ∧
    ((takeNumber s).2).fsc = s.fsc ∧
    ((takeNumber s).2).dck = s.dck ∧
    ((takeNumber s).2).qlc = s.qlc ∧
    ((takeNumber s).2).tpc = s.tpc ∧
    ((takeNumber s).2).evj = s.evj ∧
    ((takeNumber s).2).cfl = s.cfl := by
  simp [takeNumber]

@[simp] theorem setWanted_frame (o : Outlet) (v : Bool) (s : State) :
    (setWanted o v s).pending = s.pending ∧
    (setWanted o v s).now = s.now ∧
    (setWanted o v s).free = s.free ∧
    (setWanted o v s).cfg = s.cfg ∧
    (setWanted o v s).door1 = s.door1 ∧
    (setWanted o v s).door2 = s.door2 ∧
    (setWanted o v s).minuteAt = s.minuteAt ∧
    (setWanted o v s).store = s.store ∧
    (setWanted o v s).alc = s.alc ∧
    (setWanted o v s).lsu = s.lsu ∧
    (setWanted o v s).pbc = s.pbc ∧
    (setWanted o v s).acu = s.acu ∧
    (setWanted o v s).gtc = s.gtc ∧
    (setWanted o v s).fsc = s.fsc ∧
    (setWanted o v s).dck = s.dck ∧
    (setWanted o v s).qlc = s.qlc ∧
    (setWanted o v s).tpc = s.tpc ∧
    (setWanted o v s).evj = s.evj ∧
    (setWanted o v s).cfl = s.cfl := by
  generalize h : setWanted o v s = t; unfold setWanted at h; (try dsimp only at h); (repeat' split at h) <;> subst h <;> simp

@[simp] theorem outletWaits_frame (n : Nat) (s : State) :
    (outletWaits n s).pending = s.pending ∧
    (outletWaits n s).now = s.now ∧
    (outletWaits n s).free = s.free ∧
    (outletWaits n s).cfg = s.cfg ∧
    (outletWaits n s).door1 = s.door1 ∧
    (outletWaits n s).door2 = s.door2 ∧
    (outletWaits n s).minuteAt = s.minuteAt ∧
    (outletWaits n s).store = s.store ∧
    (outletWaits n s).bst = s.bst ∧
    (outletWaits n s).alc = s.alc ∧
    (outletWaits n s).acu = s.acu ∧
    (outletWaits n s).gtc = s.gtc ∧
    (outletWaits n s).fsc = s.fsc ∧
    (outletWaits n s).dck = s.dck ∧
    (outletWaits n s).tpc = s.tpc ∧
    (outletWaits n s).cfl = s.cfl := by
  simp [outletWaits]

@[simp] theorem outletOff_frame (n : Nat) (s : State) :
    (outletOff n s).pending = s.pending ∧
    (outletOff n s).now = s.now ∧
    (outletOff n s).free = s.free ∧
    (outletOff n s).cfg = s.cfg ∧
    (outletOff n s).door1 = s.door1 ∧
    (outletOff n s).door2 = s.door2 ∧
    (outletOff n s).minuteAt = s.minuteAt ∧
    (outletOff n s).store = s.store ∧
    (outletOff n s).bst = s.bst ∧
    (outletOff n s).alc = s.alc ∧
    (outletOff n s).acu = s.acu ∧
    (outletOff n s).gtc = s.gtc ∧
    (outletOff n s).fsc = s.fsc ∧
    (outletOff n s).dck = s.dck ∧
    (outletOff n s).tpc = s.tpc ∧
    (outletOff n s).cfl = s.cfl := by
  simp [outletOff]

@[simp] theorem outletSuspended_frame (n : Nat) (s : State) :
    (outletSuspended n s).pending = s.pending ∧
    (outletSuspended n s).now = s.now ∧
    (outletSuspended n s).free = s.free ∧
    (outletSuspended n s).cfg = s.cfg ∧
    (outletSuspended n s).door1 = s.door1 ∧
    (outletSuspended n s).door2 = s.door2 ∧
    (outletSuspended n s).minuteAt = s.minuteAt ∧
    (outletSuspended n s).store = s.store ∧
    (outletSuspended n s).bst = s.bst ∧
    (outletSuspended n s).alc = s.alc ∧
    (outletSuspended n s).acu = s.acu ∧
    (outletSuspended n s).gtc = s.gtc ∧
    (outletSuspended n s).fsc = s.fsc ∧
    (outletSuspended n s).dck = s.dck ∧
    (outletSuspended n s).tpc = s.tpc ∧
    (outletSuspended n s).cfl = s.cfl := by
  simp [outletSuspended]

@[simp] theorem outletLive_frame (n : Nat) (s : State) :
    (outletLive n s).pending = s.pending ∧
    (outletLive n s).now = s.now ∧
    (outletLive n s).free = s.free ∧
    (outletLive n s).cfg = s.cfg ∧
    (outletLive n s).door1 = s.door1 ∧
    (outletLive n s).door2 = s.door2 ∧
    (outletLive n s).minuteAt = s.minuteAt ∧
    (outletLive n s).store = s.store ∧
    (outletLive n s).bst = s.bst ∧
    (outletLive n s).alc = s.alc ∧
    (outletLive n s).acu = s.acu ∧
    (outletLive n s).gtc = s.gtc ∧
    (outletLive n s).fsc = s.fsc ∧
    (outletLive n s).dck = s.dck ∧
    (outletLive n s).tpc = s.tpc ∧
    (outletLive n s).cfl = s.cfl := by
  simp [outletLive]

@[simp] theorem outletShed_frame (n : Nat) (s : State) :
    (outletShed n s).pending = s.pending ∧
    (outletShed n s).now = s.now ∧
    (outletShed n s).free = s.free ∧
    (outletShed n s).cfg = s.cfg ∧
    (outletShed n s).door1 = s.door1 ∧
    (outletShed n s).door2 = s.door2 ∧
    (outletShed n s).minuteAt = s.minuteAt ∧
    (outletShed n s).store = s.store ∧
    (outletShed n s).bst = s.bst ∧
    (outletShed n s).alc = s.alc ∧
    (outletShed n s).acu = s.acu ∧
    (outletShed n s).gtc = s.gtc ∧
    (outletShed n s).fsc = s.fsc ∧
    (outletShed n s).dck = s.dck ∧
    (outletShed n s).tpc = s.tpc ∧
    (outletShed n s).cfl = s.cfl := by
  simp [outletShed]

@[simp] theorem outletTrips_frame (o : Outlet) (c : TripCause) (m : Nat) (s : State) :
    (outletTrips o c m s).pending = s.pending ∧
    (outletTrips o c m s).now = s.now ∧
    (outletTrips o c m s).free = s.free ∧
    (outletTrips o c m s).cfg = s.cfg ∧
    (outletTrips o c m s).door1 = s.door1 ∧
    (outletTrips o c m s).door2 = s.door2 ∧
    (outletTrips o c m s).minuteAt = s.minuteAt ∧
    (outletTrips o c m s).store = s.store ∧
    (outletTrips o c m s).alc = s.alc ∧
    (outletTrips o c m s).acu = s.acu ∧
    (outletTrips o c m s).gtc = s.gtc ∧
    (outletTrips o c m s).fsc = s.fsc ∧
    (outletTrips o c m s).dck = s.dck ∧
    (outletTrips o c m s).tpc = s.tpc ∧
    (outletTrips o c m s).cfl = s.cfl := by
  simp [outletTrips]

@[simp] theorem switchOff_frame (o : Outlet) (s : State) :
    (switchOff o s).pending = s.pending ∧
    (switchOff o s).now = s.now ∧
    (switchOff o s).free = s.free ∧
    (switchOff o s).cfg = s.cfg ∧
    (switchOff o s).door1 = s.door1 ∧
    (switchOff o s).door2 = s.door2 ∧
    (switchOff o s).minuteAt = s.minuteAt ∧
    (switchOff o s).store = s.store ∧
    (switchOff o s).alc = s.alc ∧
    (switchOff o s).acu = s.acu ∧
    (switchOff o s).gtc = s.gtc ∧
    (switchOff o s).fsc = s.fsc ∧
    (switchOff o s).dck = s.dck ∧
    (switchOff o s).tpc = s.tpc ∧
    (switchOff o s).cfl = s.cfl := by
  simp [switchOff]

@[simp] theorem requestOutlet_frame (o : Outlet) (s : State) :
    ((requestOutlet o s).1).pending = s.pending ∧
    ((requestOutlet o s).1).now = s.now ∧
    ((requestOutlet o s).1).free = s.free ∧
    ((requestOutlet o s).1).cfg = s.cfg ∧
    ((requestOutlet o s).1).door1 = s.door1 ∧
    ((requestOutlet o s).1).door2 = s.door2 ∧
    ((requestOutlet o s).1).minuteAt = s.minuteAt ∧
    ((requestOutlet o s).1).store = s.store ∧
    ((requestOutlet o s).1).alc = s.alc ∧
    ((requestOutlet o s).1).acu = s.acu ∧
    ((requestOutlet o s).1).gtc = s.gtc ∧
    ((requestOutlet o s).1).fsc = s.fsc ∧
    ((requestOutlet o s).1).dck = s.dck ∧
    ((requestOutlet o s).1).tpc = s.tpc ∧
    ((requestOutlet o s).1).cfl = s.cfl := by
  generalize h : requestOutlet o s = t; unfold requestOutlet at h; split at h <;> subst h <;> simp

@[simp] theorem pressOutlet_frame (n : Nat) (s : State) :
    (pressOutlet n s).pending = s.pending ∧
    (pressOutlet n s).now = s.now ∧
    (pressOutlet n s).free = s.free ∧
    (pressOutlet n s).cfg = s.cfg ∧
    (pressOutlet n s).door1 = s.door1 ∧
    (pressOutlet n s).door2 = s.door2 ∧
    (pressOutlet n s).minuteAt = s.minuteAt ∧
    (pressOutlet n s).store = s.store ∧
    (pressOutlet n s).alc = s.alc ∧
    (pressOutlet n s).acu = s.acu ∧
    (pressOutlet n s).gtc = s.gtc ∧
    (pressOutlet n s).fsc = s.fsc ∧
    (pressOutlet n s).dck = s.dck ∧
    (pressOutlet n s).tpc = s.tpc ∧
    (pressOutlet n s).cfl = s.cfl := by
  generalize h : pressOutlet n s = t; unfold pressOutlet at h; (repeat' split at h) <;> subst h <;> simp

@[simp] theorem pressReset_frame (n : Nat) (s : State) :
    (pressReset n s).pending = s.pending ∧
    (pressReset n s).now = s.now ∧
    (pressReset n s).free = s.free ∧
    (pressReset n s).cfg = s.cfg ∧
    (pressReset n s).door1 = s.door1 ∧
    (pressReset n s).door2 = s.door2 ∧
    (pressReset n s).minuteAt = s.minuteAt ∧
    (pressReset n s).store = s.store ∧
    (pressReset n s).bst = s.bst ∧
    (pressReset n s).alc = s.alc ∧
    (pressReset n s).acu = s.acu ∧
    (pressReset n s).gtc = s.gtc ∧
    (pressReset n s).fsc = s.fsc ∧
    (pressReset n s).dck = s.dck ∧
    (pressReset n s).tpc = s.tpc ∧
    (pressReset n s).cfl = s.cfl := by
  generalize h : pressReset n s = t; unfold pressReset at h; (repeat' split at h) <;> subst h <;> simp

@[simp] theorem moveTap_frame (n : Nat) (g : TapState) (r : Option Nat) (s : State) :
    (moveTap n g r s).pending = s.pending ∧
    (moveTap n g r s).now = s.now ∧
    (moveTap n g r s).free = s.free ∧
    (moveTap n g r s).cfg = s.cfg ∧
    (moveTap n g r s).door1 = s.door1 ∧
    (moveTap n g r s).door2 = s.door2 ∧
    (moveTap n g r s).minuteAt = s.minuteAt ∧
    (moveTap n g r s).store = s.store ∧
    (moveTap n g r s).bst = s.bst ∧
    (moveTap n g r s).alc = s.alc ∧
    (moveTap n g r s).lsu = s.lsu ∧
    (moveTap n g r s).acu = s.acu ∧
    (moveTap n g r s).gtc = s.gtc ∧
    (moveTap n g r s).fsc = s.fsc ∧
    (moveTap n g r s).dck = s.dck ∧
    (moveTap n g r s).qlc = s.qlc ∧
    (moveTap n g r s).tpc = s.tpc ∧
    (moveTap n g r s).evj = s.evj ∧
    (moveTap n g r s).cfl = s.cfl := by
  simp [moveTap]

@[simp] theorem pressTap_frame (n : Nat) (s : State) :
    (pressTap n s).pending = s.pending ∧
    (pressTap n s).now = s.now ∧
    (pressTap n s).free = s.free ∧
    (pressTap n s).cfg = s.cfg ∧
    (pressTap n s).door1 = s.door1 ∧
    (pressTap n s).door2 = s.door2 ∧
    (pressTap n s).minuteAt = s.minuteAt ∧
    (pressTap n s).store = s.store ∧
    (pressTap n s).bst = s.bst ∧
    (pressTap n s).alc = s.alc ∧
    (pressTap n s).lsu = s.lsu ∧
    (pressTap n s).acu = s.acu ∧
    (pressTap n s).gtc = s.gtc ∧
    (pressTap n s).fsc = s.fsc ∧
    (pressTap n s).dck = s.dck ∧
    (pressTap n s).qlc = s.qlc ∧
    (pressTap n s).tpc = s.tpc ∧
    (pressTap n s).cfl = s.cfl := by
  generalize h : pressTap n s = t; unfold pressTap at h; (repeat' split at h) <;> subst h <;> simp

/-- What every step of a fold leaves, the fold leaves. -/
theorem foldl_same {α β : Type} (π : State → β) (f : State → α → State) (h : ∀ x a, π (f x a) = π x) (l : List α)
    (s : State) : π (l.foldl f s) = π s := by
  induction l generalizing s with
  | nil => rfl
  | cons a l ih => exact (ih _).trans (h s a)

@[simp] theorem foldl_outletOff_frame (l : List Nat) (s : State) :
    (l.foldl (fun x n => outletOff n x) s).pending = s.pending ∧
    (l.foldl (fun x n => outletOff n x) s).now = s.now ∧
    (l.foldl (fun x n => outletOff n x) s).free = s.free ∧
    (l.foldl (fun x n => outletOff n x) s).cfg = s.cfg ∧
    (l.foldl (fun x n => outletOff n x) s).door1 = s.door1 ∧
    (l.foldl (fun x n => outletOff n x) s).door2 = s.door2 ∧
    (l.foldl (fun x n => outletOff n x) s).minuteAt = s.minuteAt ∧
    (l.foldl (fun x n => outletOff n x) s).store = s.store ∧
    (l.foldl (fun x n => outletOff n x) s).bst = s.bst ∧
    (l.foldl (fun x n => outletOff n x) s).alc = s.alc ∧
    (l.foldl (fun x n => outletOff n x) s).acu = s.acu ∧
    (l.foldl (fun x n => outletOff n x) s).gtc = s.gtc ∧
    (l.foldl (fun x n => outletOff n x) s).fsc = s.fsc ∧
    (l.foldl (fun x n => outletOff n x) s).dck = s.dck ∧
    (l.foldl (fun x n => outletOff n x) s).tpc = s.tpc ∧
    (l.foldl (fun x n => outletOff n x) s).cfl = s.cfl := by
  refine ⟨?_, ?_, ?_, ?_, ?_, ?_, ?_, ?_, ?_, ?_, ?_, ?_, ?_, ?_, ?_, ?_⟩ <;> exact foldl_same _ _ (fun _ _ => by simp) _ _

@[simp] theorem berthOff_frame (n : Nat) (s : State) :
    (berthOff n s).pending = s.pending ∧
    (berthOff n s).now = s.now ∧
    (berthOff n s).free = s.free ∧
    (berthOff n s).cfg = s.cfg ∧
    (berthOff n s).door1 = s.door1 ∧
    (berthOff n s).door2 = s.door2 ∧
    (berthOff n s).minuteAt = s.minuteAt ∧
    (berthOff n s).store = s.store ∧
    (berthOff n s).bst = s.bst ∧
    (berthOff n s).alc = s.alc ∧
    (berthOff n s).acu = s.acu ∧
    (berthOff n s).gtc = s.gtc ∧
    (berthOff n s).fsc = s.fsc ∧
    (berthOff n s).dck = s.dck ∧
    (berthOff n s).tpc = s.tpc ∧
    (berthOff n s).cfl = s.cfl := by
  generalize h : berthOff n s = t; unfold berthOff at h; (repeat' split at h) <;> subst h <;> simp

@[simp] theorem displaced_frame (n : Nat) (b : Booking) (s : State) :
    (displaced n b s).pending = s.pending ∧
    (displaced n b s).now = s.now ∧
    (displaced n b s).free = s.free ∧
    (displaced n b s).cfg = s.cfg ∧
    (displaced n b s).door1 = s.door1 ∧
    (displaced n b s).door2 = s.door2 ∧
    (displaced n b s).minuteAt = s.minuteAt ∧
    (displaced n b s).store = s.store ∧
    (displaced n b s).alc = s.alc ∧
    (displaced n b s).acu = s.acu ∧
    (displaced n b s).gtc = s.gtc ∧
    (displaced n b s).fsc = s.fsc ∧
    (displaced n b s).dck = s.dck ∧
    (displaced n b s).tpc = s.tpc ∧
    (displaced n b s).cfl = s.cfl := by
  simp [displaced]

@[simp] theorem afterCurrent_frame (n : Nat) (b : State) (s : State) :
    (afterCurrent n b s).pending = s.pending ∧
    (afterCurrent n b s).now = s.now ∧
    (afterCurrent n b s).free = s.free ∧
    (afterCurrent n b s).cfg = s.cfg ∧
    (afterCurrent n b s).door1 = s.door1 ∧
    (afterCurrent n b s).door2 = s.door2 ∧
    (afterCurrent n b s).minuteAt = s.minuteAt ∧
    (afterCurrent n b s).store = s.store ∧
    (afterCurrent n b s).alc = s.alc ∧
    (afterCurrent n b s).acu = s.acu ∧
    (afterCurrent n b s).gtc = s.gtc ∧
    (afterCurrent n b s).fsc = s.fsc ∧
    (afterCurrent n b s).dck = s.dck ∧
    (afterCurrent n b s).tpc = s.tpc ∧
    (afterCurrent n b s).cfl = s.cfl := by
  generalize h : afterCurrent n b s = t; unfold afterCurrent at h; (repeat' split at h) <;> subst h <;> simp

@[simp] theorem noticeOutlet_frame (o w : Standing) (n : Nat) (s : State) :
    (noticeOutlet o w n s).pending = s.pending ∧
    (noticeOutlet o w n s).now = s.now ∧
    (noticeOutlet o w n s).free = s.free ∧
    (noticeOutlet o w n s).cfg = s.cfg ∧
    (noticeOutlet o w n s).door1 = s.door1 ∧
    (noticeOutlet o w n s).door2 = s.door2 ∧
    (noticeOutlet o w n s).minuteAt = s.minuteAt ∧
    (noticeOutlet o w n s).store = s.store ∧
    (noticeOutlet o w n s).bst = s.bst ∧
    (noticeOutlet o w n s).alc = s.alc ∧
    (noticeOutlet o w n s).acu = s.acu ∧
    (noticeOutlet o w n s).gtc = s.gtc ∧
    (noticeOutlet o w n s).fsc = s.fsc ∧
    (noticeOutlet o w n s).dck = s.dck ∧
    (noticeOutlet o w n s).tpc = s.tpc ∧
    (noticeOutlet o w n s).cfl = s.cfl := by
  generalize h : noticeOutlet o w n s = t; unfold noticeOutlet at h; (repeat' split at h) <;> subst h <;> simp

@[simp] theorem noticeTap_frame (o w : Standing) (n : Nat) (s : State) :
    (noticeTap o w n s).pending = s.pending ∧
    (noticeTap o w n s).now = s.now ∧
    (noticeTap o w n s).free = s.free ∧
    (noticeTap o w n s).cfg = s.cfg ∧
    (noticeTap o w n s).door1 = s.door1 ∧
    (noticeTap o w n s).door2 = s.door2 ∧
    (noticeTap o w n s).minuteAt = s.minuteAt ∧
    (noticeTap o w n s).store = s.store ∧
    (noticeTap o w n s).bst = s.bst ∧
    (noticeTap o w n s).alc = s.alc ∧
    (noticeTap o w n s).lsu = s.lsu ∧
    (noticeTap o w n s).acu = s.acu ∧
    (noticeTap o w n s).gtc = s.gtc ∧
    (noticeTap o w n s).fsc = s.fsc ∧
    (noticeTap o w n s).dck = s.dck ∧
    (noticeTap o w n s).qlc = s.qlc ∧
    (noticeTap o w n s).tpc = s.tpc ∧
    (noticeTap o w n s).evj = s.evj ∧
    (noticeTap o w n s).cfl = s.cfl := by
  generalize h : noticeTap o w n s = t; unfold noticeTap at h; (repeat' split at h) <;> subst h <;> simp

@[simp] theorem foldl_noticeOutlet_frame (o w : Standing) (l : List Nat) (s : State) :
    (l.foldl (fun x n => noticeOutlet o w n x) s).pending = s.pending ∧
    (l.foldl (fun x n => noticeOutlet o w n x) s).now = s.now ∧
    (l.foldl (fun x n => noticeOutlet o w n x) s).free = s.free ∧
    (l.foldl (fun x n => noticeOutlet o w n x) s).cfg = s.cfg ∧
    (l.foldl (fun x n => noticeOutlet o w n x) s).door1 = s.door1 ∧
    (l.foldl (fun x n => noticeOutlet o w n x) s).door2 = s.door2 ∧
    (l.foldl (fun x n => noticeOutlet o w n x) s).minuteAt = s.minuteAt ∧
    (l.foldl (fun x n => noticeOutlet o w n x) s).store = s.store ∧
    (l.foldl (fun x n => noticeOutlet o w n x) s).bst = s.bst ∧
    (l.foldl (fun x n => noticeOutlet o w n x) s).alc = s.alc ∧
    (l.foldl (fun x n => noticeOutlet o w n x) s).acu = s.acu ∧
    (l.foldl (fun x n => noticeOutlet o w n x) s).gtc = s.gtc ∧
    (l.foldl (fun x n => noticeOutlet o w n x) s).fsc = s.fsc ∧
    (l.foldl (fun x n => noticeOutlet o w n x) s).dck = s.dck ∧
    (l.foldl (fun x n => noticeOutlet o w n x) s).tpc = s.tpc ∧
    (l.foldl (fun x n => noticeOutlet o w n x) s).cfl = s.cfl := by
  refine ⟨?_, ?_, ?_, ?_, ?_, ?_, ?_, ?_, ?_, ?_, ?_, ?_, ?_, ?_, ?_, ?_⟩ <;> exact foldl_same _ _ (fun _ _ => by simp) _ _

@[simp] theorem postsNotice_frame (n k : Nat) (o w : Standing) (s : State) :
    (postsNotice n k o w s).pending = s.pending ∧
    (postsNotice n k o w s).now = s.now ∧
    (postsNotice n k o w s).free = s.free ∧
    (postsNotice n k o w s).cfg = s.cfg ∧
    (postsNotice n k o w s).door1 = s.door1 ∧
    (postsNotice n k o w s).door2 = s.door2 ∧
    (postsNotice n k o w s).minuteAt = s.minuteAt ∧
    (postsNotice n k o w s).store = s.store ∧
    (postsNotice n k o w s).bst = s.bst ∧
    (postsNotice n k o w s).alc = s.alc ∧
    (postsNotice n k o w s).acu = s.acu ∧
    (postsNotice n k o w s).gtc = s.gtc ∧
    (postsNotice n k o w s).fsc = s.fsc ∧
    (postsNotice n k o w s).dck = s.dck ∧
    (postsNotice n k o w s).tpc = s.tpc ∧
    (postsNotice n k o w s).cfl = s.cfl := by
  generalize h : postsNotice n k o w s = t; unfold postsNotice at h; (repeat' split at h) <;> subst h <;> simp

@[simp] theorem shedLoop_frame (n : Nat) (s : State) :
    (shedLoop n s).pending = s.pending ∧
    (shedLoop n s).now = s.now ∧
    (shedLoop n s).free = s.free ∧
    (shedLoop n s).cfg = s.cfg ∧
    (shedLoop n s).door1 = s.door1 ∧
    (shedLoop n s).door2 = s.door2 ∧
    (shedLoop n s).minuteAt = s.minuteAt ∧
    (shedLoop n s).store = s.store ∧
    (shedLoop n s).bst = s.bst ∧
    (shedLoop n s).alc = s.alc ∧
    (shedLoop n s).acu = s.acu ∧
    (shedLoop n s).gtc = s.gtc ∧
    (shedLoop n s).fsc = s.fsc ∧
    (shedLoop n s).dck = s.dck ∧
    (shedLoop n s).tpc = s.tpc ∧
    (shedLoop n s).cfl = s.cfl := by
  induction n generalizing s with
  | zero => simp [shedLoop]
  | succ n ih => unfold shedLoop; (repeat' split) <;> simp [ih]

@[simp] theorem restoreWalk_frame (l : List Nat) (s : State) :
    (restoreWalk l s).pending = s.pending ∧
    (restoreWalk l s).now = s.now ∧
    (restoreWalk l s).free = s.free ∧
    (restoreWalk l s).cfg = s.cfg ∧
    (restoreWalk l s).door1 = s.door1 ∧
    (restoreWalk l s).door2 = s.door2 ∧
    (restoreWalk l s).minuteAt = s.minuteAt ∧
    (restoreWalk l s).store = s.store ∧
    (restoreWalk l s).bst = s.bst ∧
    (restoreWalk l s).alc = s.alc ∧
    (restoreWalk l s).acu = s.acu ∧
    (restoreWalk l s).gtc = s.gtc ∧
    (restoreWalk l s).fsc = s.fsc ∧
    (restoreWalk l s).dck = s.dck ∧
    (restoreWalk l s).tpc = s.tpc ∧
    (restoreWalk l s).cfl = s.cfl := by
  induction l generalizing s with
  | nil => simp [restoreWalk]
  | cons n l ih => unfold restoreWalk; (repeat' split) <;> simp [ih]

@[simp] theorem settleRounds_frame (n : Nat) (s : State) :
    (settleRounds n s).pending = s.pending ∧
    (settleRounds n s).now = s.now ∧
    (settleRounds n s).free = s.free ∧
    (settleRounds n s).cfg = s.cfg ∧
    (settleRounds n s).door1 = s.door1 ∧
    (settleRounds n s).door2 = s.door2 ∧
    (settleRounds n s).minuteAt = s.minuteAt ∧
    (settleRounds n s).store = s.store ∧
    (settleRounds n s).bst = s.bst ∧
    (settleRounds n s).alc = s.alc ∧
    (settleRounds n s).acu = s.acu ∧
    (settleRounds n s).gtc = s.gtc ∧
    (settleRounds n s).fsc = s.fsc ∧
    (settleRounds n s).dck = s.dck ∧
    (settleRounds n s).tpc = s.tpc ∧
    (settleRounds n s).cfl = s.cfl := by
  induction n generalizing s with
  | zero => simp [settleRounds, shedAll]
  | succ n ih => simp only [settleRounds]; split <;> simp [ih, shedAll, restorePass]

@[simp] theorem settlePosts_frame (s : State) :
    (settlePosts s).pending = s.pending ∧
    (settlePosts s).now = s.now ∧
    (settlePosts s).free = s.free ∧
    (settlePosts s).cfg = s.cfg ∧
    (settlePosts s).door1 = s.door1 ∧
    (settlePosts s).door2 = s.door2 ∧
    (settlePosts s).minuteAt = s.minuteAt ∧
    (settlePosts s).store = s.store ∧
    (settlePosts s).bst = s.bst ∧
    (settlePosts s).alc = s.alc ∧
    (settlePosts s).acu = s.acu ∧
    (settlePosts s).gtc = s.gtc ∧
    (settlePosts s).fsc = s.fsc ∧
    (settlePosts s).dck = s.dck ∧
    (settlePosts s).tpc = s.tpc ∧
    (settlePosts s).cfl = s.cfl := by
  simp [settlePosts]

@[simp] theorem settled_frame (b s : State) :
    (settled b s).pending = s.pending ∧
    (settled b s).now = s.now ∧
    (settled b s).free = s.free ∧
    (settled b s).cfg = s.cfg ∧
    (settled b s).door1 = s.door1 ∧
    (settled b s).door2 = s.door2 ∧
    (settled b s).minuteAt = s.minuteAt ∧
    (settled b s).store = s.store ∧
    (settled b s).bst = s.bst ∧
    (settled b s).alc = s.alc ∧
    (settled b s).acu = s.acu ∧
    (settled b s).gtc = s.gtc ∧
    (settled b s).fsc = s.fsc ∧
    (settled b s).dck = s.dck ∧
    (settled b s).tpc = s.tpc ∧
    (settled b s).cfl = s.cfl := by
  unfold settled; split <;> simp

@[simp] theorem event_frame (f : State → State) (s : State) :
    (event f s).pending = (f s).pending ∧
    (event f s).now = (f s).now ∧
    (event f s).free = (f s).free ∧
    (event f s).cfg = (f s).cfg ∧
    (event f s).door1 = (f s).door1 ∧
    (event f s).door2 = (f s).door2 ∧
    (event f s).minuteAt = (f s).minuteAt ∧
    (event f s).store = (f s).store ∧
    (event f s).bst = (f s).bst ∧
    (event f s).alc = (f s).alc ∧
    (event f s).acu = (f s).acu ∧
    (event f s).gtc = (f s).gtc ∧
    (event f s).fsc = (f s).fsc ∧
    (event f s).dck = (f s).dck ∧
    (event f s).tpc = (f s).tpc ∧
    (event f s).cfl = (f s).cfl := by
  simp [event]

@[simp] theorem firstRoundDone_frame (s : State) :
    (firstRoundDone s).pending = s.pending ∧
    (firstRoundDone s).now = s.now ∧
    (firstRoundDone s).free = s.free ∧
    (firstRoundDone s).cfg = s.cfg ∧
    (firstRoundDone s).door1 = s.door1 ∧
    (firstRoundDone s).door2 = s.door2 ∧
    (firstRoundDone s).minuteAt = s.minuteAt ∧
    (firstRoundDone s).store = s.store ∧
    (firstRoundDone s).bst = s.bst ∧
    (firstRoundDone s).alc = s.alc ∧
    (firstRoundDone s).acu = s.acu ∧
    (firstRoundDone s).gtc = s.gtc ∧
    (firstRoundDone s).fsc = s.fsc ∧
    (firstRoundDone s).dck = s.dck ∧
    (firstRoundDone s).tpc = s.tpc ∧
    (firstRoundDone s).cfl = s.cfl := by
  generalize h : firstRoundDone s = t; unfold firstRoundDone at h; split at h <;> subst h <;> simp

@[simp] theorem nextPoll_frame (s : State) :
    (nextPoll s).pending = s.pending ∧
    (nextPoll s).now = s.now ∧
    (nextPoll s).free = s.free ∧
    (nextPoll s).cfg = s.cfg ∧
    (nextPoll s).door1 = s.door1 ∧
    (nextPoll s).door2 = s.door2 ∧
    (nextPoll s).minuteAt = s.minuteAt ∧
    (nextPoll s).store = s.store ∧
    (nextPoll s).bst = s.bst ∧
    (nextPoll s).alc = s.alc ∧
    (nextPoll s).acu = s.acu ∧
    (nextPoll s).gtc = s.gtc ∧
    (nextPoll s).fsc = s.fsc ∧
    (nextPoll s).dck = s.dck ∧
    (nextPoll s).tpc = s.tpc ∧
    (nextPoll s).cfl = s.cfl := by
  generalize h : nextPoll s = t; unfold nextPoll at h; (repeat' split at h) <;> subst h <;> simp

@[simp] theorem missPost_frame (n : Nat) (s : State) :
    (missPost n s).pending = s.pending ∧
    (missPost n s).now = s.now ∧
    (missPost n s).free = s.free ∧
    (missPost n s).cfg = s.cfg ∧
    (missPost n s).door1 = s.door1 ∧
    (missPost n s).door2 = s.door2 ∧
    (missPost n s).minuteAt = s.minuteAt ∧
    (missPost n s).store = s.store ∧
    (missPost n s).bst = s.bst ∧
    (missPost n s).alc = s.alc ∧
    (missPost n s).acu = s.acu ∧
    (missPost n s).gtc = s.gtc ∧
    (missPost n s).fsc = s.fsc ∧
    (missPost n s).dck = s.dck ∧
    (missPost n s).tpc = s.tpc ∧
    (missPost n s).cfl = s.cfl := by
  generalize h : missPost n s = t; unfold missPost at h; (repeat' split at h) <;> subst h <;> simp

/-- Where neither A nor the outlets have changed and K is within A, the end of an event does nothing (R100, R101). -/
theorem settled_same (s t : State) (hp : t.pbc = s.pbc) (hl : t.lsu.applied = s.lsu.applied)
    (hc : t.classOf = s.classOf) (h : s.pbc.committed ≤ s.lsu.applied) : settled s t = t := by
  have e : t.aheadOf = s.aheadOf := by funext x y; simp [State.aheadOf, hc]
  have hq : t.restoreQueue = s.restoreQueue := by simp [State.restoreQueue, e, hp]
  simp [settled, hp, hl, hq, h]

/-- The same where only taps, polls or meters of PBC have changed. -/
theorem settled_same_outlets (s t : State) (ho : t.pbc.outlets = s.pbc.outlets) (hp : t.pbc.posts = s.pbc.posts)
    (hl : t.lsu.applied = s.lsu.applied) (hc : t.classOf = s.classOf) (h : s.pbc.committed ≤ s.lsu.applied) :
    settled s t = t := by
  have e : t.aheadOf = s.aheadOf := by funext x y; simp [State.aheadOf, hc]
  have hq : t.restoreQueue = s.restoreQueue := by simp [State.restoreQueue, e, ho]
  have hk : t.pbc.committed = s.pbc.committed := by
    have : t.pbc.claim = s.pbc.claim := by funext o; simp [Pbc.claim, Pbc.postOffline, hp]
    simp [Pbc.committed, ho, this]
  simp [settled, hk, hl, hq, h]

/-- The priority classes of outlets are those of the berth table. -/
theorem classOf_same (s t : State) (hb : t.bst.berths = s.bst.berths) : t.classOf = s.classOf := by
  have e : t.berth? = s.berth? := by funext n; simp [State.berth?, hb]
  funext o; simp [State.classOf, e]

end Sys2Proof.Machine
end

