-- ==== Sys2Proof/Laws/Frame/Purse.lean ====
section
/-! SUPPORT. Frames of PRS: the fields of the state each operation leaves as they were. -/

namespace Sys2Proof.Machine

@[simp] theorem notice_frame (n k : Nat) (o w : Standing) (s : State) :
    (notice n k o w s).pending = s.pending ∧
    (notice n k o w s).now = s.now ∧
    (notice n k o w s).free = s.free ∧
    (notice n k o w s).cfg = s.cfg ∧
    (notice n k o w s).door1 = s.door1 ∧
    (notice n k o w s).door2 = s.door2 ∧
    (notice n k o w s).minuteAt = s.minuteAt ∧
    (notice n k o w s).store = s.store ∧
    (notice n k o w s).alc = s.alc ∧
    (notice n k o w s).gtc = s.gtc ∧
    (notice n k o w s).fsc = s.fsc ∧
    (notice n k o w s).dck = s.dck ∧
    (notice n k o w s).tpc = s.tpc ∧
    (notice n k o w s).cfl = s.cfl := by
  generalize h : notice n k o w s = t; unfold notice at h; split at h <;> subst h <;> simp

@[simp] theorem restand_frame (n k : Nat) (s : State) :
    (restand n k s).pending = s.pending ∧
    (restand n k s).now = s.now ∧
    (restand n k s).free = s.free ∧
    (restand n k s).cfg = s.cfg ∧
    (restand n k s).door1 = s.door1 ∧
    (restand n k s).door2 = s.door2 ∧
    (restand n k s).minuteAt = s.minuteAt ∧
    (restand n k s).store = s.store ∧
    (restand n k s).alc = s.alc ∧
    (restand n k s).gtc = s.gtc ∧
    (restand n k s).fsc = s.fsc ∧
    (restand n k s).dck = s.dck ∧
    (restand n k s).tpc = s.tpc ∧
    (restand n k s).cfl = s.cfl := by
  generalize h : restand n k s = t; unfold restand at h; (try dsimp only at h); (repeat' split at h) <;> subst h <;> simp

@[simp] theorem debit_frame (n k : Nat) (c : Charge) (d : Nat) (s : State) :
    (debit n k c d s).pending = s.pending ∧
    (debit n k c d s).now = s.now ∧
    (debit n k c d s).free = s.free ∧
    (debit n k c d s).cfg = s.cfg ∧
    (debit n k c d s).door1 = s.door1 ∧
    (debit n k c d s).door2 = s.door2 ∧
    (debit n k c d s).minuteAt = s.minuteAt ∧
    (debit n k c d s).store = s.store ∧
    (debit n k c d s).alc = s.alc ∧
    (debit n k c d s).lsu = s.lsu ∧
    (debit n k c d s).pbc = s.pbc ∧
    (debit n k c d s).acu = s.acu ∧
    (debit n k c d s).gtc = s.gtc ∧
    (debit n k c d s).fsc = s.fsc ∧
    (debit n k c d s).dck = s.dck ∧
    (debit n k c d s).qlc = s.qlc ∧
    (debit n k c d s).tpc = s.tpc ∧
    (debit n k c d s).cfl = s.cfl := by
  generalize h : debit n k c d s = t; unfold debit at h; (try dsimp only at h); (repeat' split at h) <;> subst h <;> simp

@[simp] theorem meterCharge_frame (n k : Nat) (c : Charge) (u r : Nat) (s : State) :
    (meterCharge n k c u r s).pending = s.pending ∧
    (meterCharge n k c u r s).now = s.now ∧
    (meterCharge n k c u r s).free = s.free ∧
    (meterCharge n k c u r s).cfg = s.cfg ∧
    (meterCharge n k c u r s).door1 = s.door1 ∧
    (meterCharge n k c u r s).door2 = s.door2 ∧
    (meterCharge n k c u r s).minuteAt = s.minuteAt ∧
    (meterCharge n k c u r s).store = s.store ∧
    (meterCharge n k c u r s).alc = s.alc ∧
    (meterCharge n k c u r s).gtc = s.gtc ∧
    (meterCharge n k c u r s).fsc = s.fsc ∧
    (meterCharge n k c u r s).dck = s.dck ∧
    (meterCharge n k c u r s).tpc = s.tpc ∧
    (meterCharge n k c u r s).cfl = s.cfl := by
  generalize h : meterCharge n k c u r s = t; unfold meterCharge at h; (try dsimp only at h); (repeat' split at h) <;> subst h <;> simp

@[simp] theorem changeHolds_frame (n k : Nat) (g : List Hold → List Hold) (s : State) :
    (changeHolds n k g s).pending = s.pending ∧
    (changeHolds n k g s).now = s.now ∧
    (changeHolds n k g s).free = s.free ∧
    (changeHolds n k g s).cfg = s.cfg ∧
    (changeHolds n k g s).door1 = s.door1 ∧
    (changeHolds n k g s).door2 = s.door2 ∧
    (changeHolds n k g s).minuteAt = s.minuteAt ∧
    (changeHolds n k g s).store = s.store ∧
    (changeHolds n k g s).alc = s.alc ∧
    (changeHolds n k g s).lsu = s.lsu ∧
    (changeHolds n k g s).pbc = s.pbc ∧
    (changeHolds n k g s).acu = s.acu ∧
    (changeHolds n k g s).gtc = s.gtc ∧
    (changeHolds n k g s).fsc = s.fsc ∧
    (changeHolds n k g s).dck = s.dck ∧
    (changeHolds n k g s).qlc = s.qlc ∧
    (changeHolds n k g s).tpc = s.tpc ∧
    (changeHolds n k g s).evj = s.evj ∧
    (changeHolds n k g s).cfl = s.cfl := by
  simp [changeHolds]

@[simp] theorem newHold_frame (n k : Nat) (id : HoldId) (a : Nat) (s : State) :
    ((newHold n k id a s).1).pending = s.pending ∧
    ((newHold n k id a s).1).now = s.now ∧
    ((newHold n k id a s).1).free = s.free ∧
    ((newHold n k id a s).1).cfg = s.cfg ∧
    ((newHold n k id a s).1).door1 = s.door1 ∧
    ((newHold n k id a s).1).door2 = s.door2 ∧
    ((newHold n k id a s).1).minuteAt = s.minuteAt ∧
    ((newHold n k id a s).1).store = s.store ∧
    ((newHold n k id a s).1).alc = s.alc ∧
    ((newHold n k id a s).1).gtc = s.gtc ∧
    ((newHold n k id a s).1).fsc = s.fsc ∧
    ((newHold n k id a s).1).dck = s.dck ∧
    ((newHold n k id a s).1).tpc = s.tpc ∧
    ((newHold n k id a s).1).cfl = s.cfl := by
  generalize h : newHold n k id a s = t; unfold newHold at h; (repeat' split at h) <;> subst h <;> simp

@[simp] theorem ownerHold_frame (id : HoldId) (t : Tag) (k a : Nat) (s : State) :
    ((ownerHold id t k a s).1).pending = s.pending ∧
    ((ownerHold id t k a s).1).now = s.now ∧
    ((ownerHold id t k a s).1).free = s.free ∧
    ((ownerHold id t k a s).1).cfg = s.cfg ∧
    ((ownerHold id t k a s).1).door1 = s.door1 ∧
    ((ownerHold id t k a s).1).door2 = s.door2 ∧
    ((ownerHold id t k a s).1).minuteAt = s.minuteAt ∧
    ((ownerHold id t k a s).1).store = s.store ∧
    ((ownerHold id t k a s).1).alc = s.alc ∧
    ((ownerHold id t k a s).1).gtc = s.gtc ∧
    ((ownerHold id t k a s).1).fsc = s.fsc ∧
    ((ownerHold id t k a s).1).dck = s.dck ∧
    ((ownerHold id t k a s).1).tpc = s.tpc ∧
    ((ownerHold id t k a s).1).cfl = s.cfl := by
  generalize h : ownerHold id t k a s = t; unfold ownerHold at h; (repeat' split at h) <;> subst h <;> simp

@[simp] theorem ownerSettle_frame (id : HoldId) (k a : Nat) (s : State) :
    ((ownerSettle id k a s).1).pending = s.pending ∧
    ((ownerSettle id k a s).1).now = s.now ∧
    ((ownerSettle id k a s).1).free = s.free ∧
    ((ownerSettle id k a s).1).cfg = s.cfg ∧
    ((ownerSettle id k a s).1).door1 = s.door1 ∧
    ((ownerSettle id k a s).1).door2 = s.door2 ∧
    ((ownerSettle id k a s).1).minuteAt = s.minuteAt ∧
    ((ownerSettle id k a s).1).store = s.store ∧
    ((ownerSettle id k a s).1).alc = s.alc ∧
    ((ownerSettle id k a s).1).gtc = s.gtc ∧
    ((ownerSettle id k a s).1).fsc = s.fsc ∧
    ((ownerSettle id k a s).1).dck = s.dck ∧
    ((ownerSettle id k a s).1).tpc = s.tpc ∧
    ((ownerSettle id k a s).1).cfl = s.cfl := by
  generalize h : ownerSettle id k a s = t; unfold ownerSettle at h; (repeat' split at h) <;> subst h <;> simp

@[simp] theorem reportExpired_frame (n : Nat) (hs : List Hold) (s : State) :
    (reportExpired n hs s).pending = s.pending ∧
    (reportExpired n hs s).now = s.now ∧
    (reportExpired n hs s).free = s.free ∧
    (reportExpired n hs s).cfg = s.cfg ∧
    (reportExpired n hs s).door1 = s.door1 ∧
    (reportExpired n hs s).door2 = s.door2 ∧
    (reportExpired n hs s).minuteAt = s.minuteAt ∧
    (reportExpired n hs s).store = s.store ∧
    (reportExpired n hs s).bst = s.bst ∧
    (reportExpired n hs s).alc = s.alc ∧
    (reportExpired n hs s).lsu = s.lsu ∧
    (reportExpired n hs s).pbc = s.pbc ∧
    (reportExpired n hs s).acu = s.acu ∧
    (reportExpired n hs s).gtc = s.gtc ∧
    (reportExpired n hs s).fsc = s.fsc ∧
    (reportExpired n hs s).dck = s.dck ∧
    (reportExpired n hs s).qlc = s.qlc ∧
    (reportExpired n hs s).tpc = s.tpc ∧
    (reportExpired n hs s).cfl = s.cfl := by
  unfold reportExpired
  refine ⟨?_, ?_, ?_, ?_, ?_, ?_, ?_, ?_, ?_, ?_, ?_, ?_, ?_, ?_, ?_, ?_, ?_, ?_, ?_⟩ <;> exact foldl_same _ _ (fun _ _ => by simp) _ _

@[simp] theorem ageBooking_frame (n : Nat) (b : Booking) (s : State) :
    (ageBooking n b s).pending = s.pending ∧
    (ageBooking n b s).now = s.now ∧
    (ageBooking n b s).free = s.free ∧
    (ageBooking n b s).cfg = s.cfg ∧
    (ageBooking n b s).door1 = s.door1 ∧
    (ageBooking n b s).door2 = s.door2 ∧
    (ageBooking n b s).minuteAt = s.minuteAt ∧
    (ageBooking n b s).store = s.store ∧
    (ageBooking n b s).alc = s.alc ∧
    (ageBooking n b s).gtc = s.gtc ∧
    (ageBooking n b s).fsc = s.fsc ∧
    (ageBooking n b s).dck = s.dck ∧
    (ageBooking n b s).tpc = s.tpc ∧
    (ageBooking n b s).cfl = s.cfl := by
  generalize h : ageBooking n b s = t; unfold ageBooking at h; (try dsimp only at h); (repeat' split at h) <;> subst h <;> simp

@[simp] theorem onHoldRequest_frame (c : Channel) (m : Nat) (q : Num8) (id : HoldId) (t : Tag) (k a : Nat) (s : State) :
    (onHoldRequest c m q id t k a s).pending = s.pending ∧
    (onHoldRequest c m q id t k a s).now = s.now ∧
    (onHoldRequest c m q id t k a s).free = s.free ∧
    (onHoldRequest c m q id t k a s).cfg = s.cfg ∧
    (onHoldRequest c m q id t k a s).door1 = s.door1 ∧
    (onHoldRequest c m q id t k a s).door2 = s.door2 ∧
    (onHoldRequest c m q id t k a s).minuteAt = s.minuteAt ∧
    (onHoldRequest c m q id t k a s).store = s.store ∧
    (onHoldRequest c m q id t k a s).alc = s.alc ∧
    (onHoldRequest c m q id t k a s).gtc = s.gtc ∧
    (onHoldRequest c m q id t k a s).fsc = s.fsc ∧
    (onHoldRequest c m q id t k a s).dck = s.dck ∧
    (onHoldRequest c m q id t k a s).tpc = s.tpc ∧
    (onHoldRequest c m q id t k a s).cfl = s.cfl := by
  simp [onHoldRequest]

@[simp] theorem onSettleRequest_frame (c : Channel) (m : Nat) (q : Num8) (id : HoldId) (k a : Nat) (s : State) :
    (onSettleRequest c m q id k a s).pending = s.pending ∧
    (onSettleRequest c m q id k a s).now = s.now ∧
    (onSettleRequest c m q id k a s).free = s.free ∧
    (onSettleRequest c m q id k a s).cfg = s.cfg ∧
    (onSettleRequest c m q id k a s).door1 = s.door1 ∧
    (onSettleRequest c m q id k a s).door2 = s.door2 ∧
    (onSettleRequest c m q id k a s).minuteAt = s.minuteAt ∧
    (onSettleRequest c m q id k a s).store = s.store ∧
    (onSettleRequest c m q id k a s).alc = s.alc ∧
    (onSettleRequest c m q id k a s).gtc = s.gtc ∧
    (onSettleRequest c m q id k a s).fsc = s.fsc ∧
    (onSettleRequest c m q id k a s).dck = s.dck ∧
    (onSettleRequest c m q id k a s).tpc = s.tpc ∧
    (onSettleRequest c m q id k a s).cfl = s.cfl := by
  simp [onSettleRequest]

@[simp] theorem doCredit_frame (n k a : Nat) (s : State) :
    ((doCredit n k a s).1).pending = s.pending ∧
    ((doCredit n k a s).1).now = s.now ∧
    ((doCredit n k a s).1).free = s.free ∧
    ((doCredit n k a s).1).cfg = s.cfg ∧
    ((doCredit n k a s).1).door1 = s.door1 ∧
    ((doCredit n k a s).1).door2 = s.door2 ∧
    ((doCredit n k a s).1).minuteAt = s.minuteAt ∧
    ((doCredit n k a s).1).store = s.store ∧
    ((doCredit n k a s).1).alc = s.alc ∧
    ((doCredit n k a s).1).gtc = s.gtc ∧
    ((doCredit n k a s).1).fsc = s.fsc ∧
    ((doCredit n k a s).1).dck = s.dck ∧
    ((doCredit n k a s).1).tpc = s.tpc ∧
    ((doCredit n k a s).1).cfl = s.cfl := by
  generalize h : doCredit n k a s = t; unfold doCredit at h; (try unfold onAddressed at h); (try unfold onNamedOutlet at h); (try dsimp only at h); (repeat' split at h) <;> subst h <;> simp

@[simp] theorem doBarMark_frame (c : CmdKind) (v : Bool) (n k : Nat) (s : State) :
    ((doBarMark c v n k s).1).pending = s.pending ∧
    ((doBarMark c v n k s).1).now = s.now ∧
    ((doBarMark c v n k s).1).free = s.free ∧
    ((doBarMark c v n k s).1).cfg = s.cfg ∧
    ((doBarMark c v n k s).1).door1 = s.door1 ∧
    ((doBarMark c v n k s).1).door2 = s.door2 ∧
    ((doBarMark c v n k s).1).minuteAt = s.minuteAt ∧
    ((doBarMark c v n k s).1).store = s.store ∧
    ((doBarMark c v n k s).1).alc = s.alc ∧
    ((doBarMark c v n k s).1).gtc = s.gtc ∧
    ((doBarMark c v n k s).1).fsc = s.fsc ∧
    ((doBarMark c v n k s).1).dck = s.dck ∧
    ((doBarMark c v n k s).1).tpc = s.tpc ∧
    ((doBarMark c v n k s).1).cfl = s.cfl := by
  generalize h : doBarMark c v n k s = t; unfold doBarMark at h; (try unfold onAddressed at h); (try unfold onNamedOutlet at h); (try dsimp only at h); (repeat' split at h) <;> subst h <;> simp

@[simp] theorem doSetMarks_frame (n k l c : Nat) (s : State) :
    ((doSetMarks n k l c s).1).pending = s.pending ∧
    ((doSetMarks n k l c s).1).now = s.now ∧
    ((doSetMarks n k l c s).1).free = s.free ∧
    ((doSetMarks n k l c s).1).cfg = s.cfg ∧
    ((doSetMarks n k l c s).1).door1 = s.door1 ∧
    ((doSetMarks n k l c s).1).door2 = s.door2 ∧
    ((doSetMarks n k l c s).1).minuteAt = s.minuteAt ∧
    ((doSetMarks n k l c s).1).store = s.store ∧
    ((doSetMarks n k l c s).1).alc = s.alc ∧
    ((doSetMarks n k l c s).1).gtc = s.gtc ∧
    ((doSetMarks n k l c s).1).fsc = s.fsc ∧
    ((doSetMarks n k l c s).1).dck = s.dck ∧
    ((doSetMarks n k l c s).1).tpc = s.tpc ∧
    ((doSetMarks n k l c s).1).cfl = s.cfl := by
  generalize h : doSetMarks n k l c s = t; unfold doSetMarks at h; (try unfold onAddressed at h); (try unfold onNamedOutlet at h); (try dsimp only at h); (repeat' split at h) <;> subst h <;> simp

@[simp] theorem doDropHold_frame (n k : Nat) (id : HoldId) (s : State) :
    ((doDropHold n k id s).1).pending = s.pending ∧
    ((doDropHold n k id s).1).now = s.now ∧
    ((doDropHold n k id s).1).free = s.free ∧
    ((doDropHold n k id s).1).cfg = s.cfg ∧
    ((doDropHold n k id s).1).door1 = s.door1 ∧
    ((doDropHold n k id s).1).door2 = s.door2 ∧
    ((doDropHold n k id s).1).minuteAt = s.minuteAt ∧
    ((doDropHold n k id s).1).store = s.store ∧
    ((doDropHold n k id s).1).alc = s.alc ∧
    ((doDropHold n k id s).1).gtc = s.gtc ∧
    ((doDropHold n k id s).1).fsc = s.fsc ∧
    ((doDropHold n k id s).1).dck = s.dck ∧
    ((doDropHold n k id s).1).tpc = s.tpc ∧
    ((doDropHold n k id s).1).cfl = s.cfl := by
  generalize h : doDropHold n k id s = t; unfold doDropHold at h; (try unfold onAddressed at h); (try unfold onNamedOutlet at h); (try dsimp only at h); (repeat' split at h) <;> subst h <;> simp

end Sys2Proof.Machine
end

