-- ==== Sys2Proof/Laws/Frame/Bookings.lean ====
section
/-! SUPPORT. Frames of BST: the fields of the state each operation leaves as they were. -/

namespace Sys2Proof.Machine

@[simp] theorem makeCurrent_frame (n k : Nat) (s : State) :
    (makeCurrent n k s).pending = s.pending ∧
    (makeCurrent n k s).now = s.now ∧
    (makeCurrent n k s).free = s.free ∧
    (makeCurrent n k s).cfg = s.cfg ∧
    (makeCurrent n k s).door1 = s.door1 ∧
    (makeCurrent n k s).door2 = s.door2 ∧
    (makeCurrent n k s).minuteAt = s.minuteAt ∧
    (makeCurrent n k s).store = s.store ∧
    (makeCurrent n k s).alc = s.alc ∧
    (makeCurrent n k s).acu = s.acu ∧
    (makeCurrent n k s).gtc = s.gtc ∧
    (makeCurrent n k s).fsc = s.fsc ∧
    (makeCurrent n k s).dck = s.dck ∧
    (makeCurrent n k s).tpc = s.tpc ∧
    (makeCurrent n k s).cfl = s.cfl := by
  simp [makeCurrent]

@[simp] theorem arrivals_frame (n d : Nat) (s : State) :
    (arrivals n d s).pending = s.pending ∧
    (arrivals n d s).now = s.now ∧
    (arrivals n d s).free = s.free ∧
    (arrivals n d s).cfg = s.cfg ∧
    (arrivals n d s).door1 = s.door1 ∧
    (arrivals n d s).door2 = s.door2 ∧
    (arrivals n d s).minuteAt = s.minuteAt ∧
    (arrivals n d s).store = s.store ∧
    (arrivals n d s).alc = s.alc ∧
    (arrivals n d s).acu = s.acu ∧
    (arrivals n d s).gtc = s.gtc ∧
    (arrivals n d s).fsc = s.fsc ∧
    (arrivals n d s).dck = s.dck ∧
    (arrivals n d s).tpc = s.tpc ∧
    (arrivals n d s).cfl = s.cfl := by
  refine ⟨?_, ?_, ?_, ?_, ?_, ?_, ?_, ?_, ?_, ?_, ?_, ?_, ?_, ?_, ?_⟩ <;> (unfold arrivals; (repeat' split) <;> first | rfl | exact foldl_same _ _ (fun _ _ => by simp) _ _)

@[simp] theorem examine_frame (d : Nat) (s : State) :
    (examine d s).pending = s.pending ∧
    (examine d s).now = s.now ∧
    (examine d s).free = s.free ∧
    (examine d s).cfg = s.cfg ∧
    (examine d s).door1 = s.door1 ∧
    (examine d s).door2 = s.door2 ∧
    (examine d s).minuteAt = s.minuteAt ∧
    (examine d s).store = s.store ∧
    (examine d s).alc = s.alc ∧
    (examine d s).acu = s.acu ∧
    (examine d s).gtc = s.gtc ∧
    (examine d s).fsc = s.fsc ∧
    (examine d s).dck = s.dck ∧
    (examine d s).tpc = s.tpc ∧
    (examine d s).cfl = s.cfl := by
  refine ⟨?_, ?_, ?_, ?_, ?_, ?_, ?_, ?_, ?_, ?_, ?_, ?_, ?_, ?_, ?_⟩ <;> (unfold examine; (repeat' split) <;> first | rfl | exact foldl_same _ _ (fun _ _ => by simp) _ _)

@[simp] theorem convert_frame (n : Nat) (r : CallRef) (y : Stay) (ts : List Tag) (m : Option BoatName) (s : State) :
    ((convert n r y ts m s).1).pending = s.pending ∧
    ((convert n r y ts m s).1).now = s.now ∧
    ((convert n r y ts m s).1).free = s.free ∧
    ((convert n r y ts m s).1).cfg = s.cfg ∧
    ((convert n r y ts m s).1).door1 = s.door1 ∧
    ((convert n r y ts m s).1).door2 = s.door2 ∧
    ((convert n r y ts m s).1).minuteAt = s.minuteAt ∧
    ((convert n r y ts m s).1).store = s.store ∧
    ((convert n r y ts m s).1).alc = s.alc ∧
    ((convert n r y ts m s).1).acu = s.acu ∧
    ((convert n r y ts m s).1).gtc = s.gtc ∧
    ((convert n r y ts m s).1).fsc = s.fsc ∧
    ((convert n r y ts m s).1).dck = s.dck ∧
    ((convert n r y ts m s).1).tpc = s.tpc ∧
    ((convert n r y ts m s).1).cfl = s.cfl := by
  simp [convert]

@[simp] theorem dropTentative_frame (n : Nat) (r : CallRef) (p : Booking → Bool) (s : State) :
    (dropTentative n r p s).pending = s.pending ∧
    (dropTentative n r p s).now = s.now ∧
    (dropTentative n r p s).free = s.free ∧
    (dropTentative n r p s).cfg = s.cfg ∧
    (dropTentative n r p s).door1 = s.door1 ∧
    (dropTentative n r p s).door2 = s.door2 ∧
    (dropTentative n r p s).minuteAt = s.minuteAt ∧
    (dropTentative n r p s).store = s.store ∧
    (dropTentative n r p s).alc = s.alc ∧
    (dropTentative n r p s).lsu = s.lsu ∧
    (dropTentative n r p s).pbc = s.pbc ∧
    (dropTentative n r p s).acu = s.acu ∧
    (dropTentative n r p s).gtc = s.gtc ∧
    (dropTentative n r p s).fsc = s.fsc ∧
    (dropTentative n r p s).dck = s.dck ∧
    (dropTentative n r p s).qlc = s.qlc ∧
    (dropTentative n r p s).tpc = s.tpc ∧
    (dropTentative n r p s).evj = s.evj ∧
    (dropTentative n r p s).cfl = s.cfl := by
  simp [dropTentative]

@[simp] theorem addStatement_frame (n : Nat) (k : EndKind) (b : Booking) (s : State) :
    (addStatement n k b s).pending = s.pending ∧
    (addStatement n k b s).now = s.now ∧
    (addStatement n k b s).free = s.free ∧
    (addStatement n k b s).cfg = s.cfg ∧
    (addStatement n k b s).door1 = s.door1 ∧
    (addStatement n k b s).door2 = s.door2 ∧
    (addStatement n k b s).minuteAt = s.minuteAt ∧
    (addStatement n k b s).store = s.store ∧
    (addStatement n k b s).alc = s.alc ∧
    (addStatement n k b s).lsu = s.lsu ∧
    (addStatement n k b s).pbc = s.pbc ∧
    (addStatement n k b s).acu = s.acu ∧
    (addStatement n k b s).gtc = s.gtc ∧
    (addStatement n k b s).fsc = s.fsc ∧
    (addStatement n k b s).dck = s.dck ∧
    (addStatement n k b s).qlc = s.qlc ∧
    (addStatement n k b s).tpc = s.tpc ∧
    (addStatement n k b s).cfl = s.cfl := by
  generalize h : addStatement n k b s = t; unfold addStatement at h; (try dsimp only at h); (repeat' split at h) <;> subst h <;> simp

@[simp] theorem endBooking_frame (n : Nat) (b : Booking) (k : Option EndKind) (s : State) :
    (endBooking n b k s).pending = s.pending ∧
    (endBooking n b k s).now = s.now ∧
    (endBooking n b k s).free = s.free ∧
    (endBooking n b k s).cfg = s.cfg ∧
    (endBooking n b k s).door1 = s.door1 ∧
    (endBooking n b k s).door2 = s.door2 ∧
    (endBooking n b k s).minuteAt = s.minuteAt ∧
    (endBooking n b k s).store = s.store ∧
    (endBooking n b k s).alc = s.alc ∧
    (endBooking n b k s).gtc = s.gtc ∧
    (endBooking n b k s).fsc = s.fsc ∧
    (endBooking n b k s).dck = s.dck ∧
    (endBooking n b k s).tpc = s.tpc ∧
    (endBooking n b k s).cfl = s.cfl := by
  generalize h : endBooking n b k s = t; unfold endBooking at h; (try dsimp only at h); (repeat' split at h) <;> subst h <;> simp

@[simp] theorem doCheckOut_frame (n k : Nat) (s : State) :
    ((doCheckOut n k s).1).pending = s.pending ∧
    ((doCheckOut n k s).1).now = s.now ∧
    ((doCheckOut n k s).1).free = s.free ∧
    ((doCheckOut n k s).1).cfg = s.cfg ∧
    ((doCheckOut n k s).1).door1 = s.door1 ∧
    ((doCheckOut n k s).1).door2 = s.door2 ∧
    ((doCheckOut n k s).1).minuteAt = s.minuteAt ∧
    ((doCheckOut n k s).1).store = s.store ∧
    ((doCheckOut n k s).1).alc = s.alc ∧
    ((doCheckOut n k s).1).gtc = s.gtc ∧
    ((doCheckOut n k s).1).fsc = s.fsc ∧
    ((doCheckOut n k s).1).dck = s.dck ∧
    ((doCheckOut n k s).1).tpc = s.tpc ∧
    ((doCheckOut n k s).1).cfl = s.cfl := by
  generalize h : doCheckOut n k s = t; unfold doCheckOut at h; (try unfold onAddressed at h); (try unfold onNamedOutlet at h); (try dsimp only at h); (repeat' split at h) <;> subst h <;> simp

@[simp] theorem doCancel_frame (n k : Nat) (s : State) :
    ((doCancel n k s).1).pending = s.pending ∧
    ((doCancel n k s).1).now = s.now ∧
    ((doCancel n k s).1).free = s.free ∧
    ((doCancel n k s).1).cfg = s.cfg ∧
    ((doCancel n k s).1).door1 = s.door1 ∧
    ((doCancel n k s).1).door2 = s.door2 ∧
    ((doCancel n k s).1).minuteAt = s.minuteAt ∧
    ((doCancel n k s).1).store = s.store ∧
    ((doCancel n k s).1).alc = s.alc ∧
    ((doCancel n k s).1).gtc = s.gtc ∧
    ((doCancel n k s).1).fsc = s.fsc ∧
    ((doCancel n k s).1).dck = s.dck ∧
    ((doCancel n k s).1).tpc = s.tpc ∧
    ((doCancel n k s).1).cfl = s.cfl := by
  generalize h : doCancel n k s = t; unfold doCancel at h; (try unfold onAddressed at h); (try unfold onNamedOutlet at h); (try dsimp only at h); (repeat' split at h) <;> subst h <;> simp

@[simp] theorem doExtend_frame (n k d : Nat) (s : State) :
    ((doExtend n k d s).1).pending = s.pending ∧
    ((doExtend n k d s).1).now = s.now ∧
    ((doExtend n k d s).1).free = s.free ∧
    ((doExtend n k d s).1).cfg = s.cfg ∧
    ((doExtend n k d s).1).door1 = s.door1 ∧
    ((doExtend n k d s).1).door2 = s.door2 ∧
    ((doExtend n k d s).1).minuteAt = s.minuteAt ∧
    ((doExtend n k d s).1).store = s.store ∧
    ((doExtend n k d s).1).alc = s.alc ∧
    ((doExtend n k d s).1).gtc = s.gtc ∧
    ((doExtend n k d s).1).fsc = s.fsc ∧
    ((doExtend n k d s).1).dck = s.dck ∧
    ((doExtend n k d s).1).tpc = s.tpc ∧
    ((doExtend n k d s).1).cfl = s.cfl := by
  generalize h : doExtend n k d s = t; unfold doExtend at h; (try unfold onAddressed at h); (try unfold onNamedOutlet at h); (try dsimp only at h); (repeat' split at h) <;> subst h <;> simp

@[simp] theorem doSetTags_frame (n k : Nat) (ts : List Tag) (s : State) :
    ((doSetTags n k ts s).1).pending = s.pending ∧
    ((doSetTags n k ts s).1).now = s.now ∧
    ((doSetTags n k ts s).1).free = s.free ∧
    ((doSetTags n k ts s).1).cfg = s.cfg ∧
    ((doSetTags n k ts s).1).door1 = s.door1 ∧
    ((doSetTags n k ts s).1).door2 = s.door2 ∧
    ((doSetTags n k ts s).1).minuteAt = s.minuteAt ∧
    ((doSetTags n k ts s).1).store = s.store ∧
    ((doSetTags n k ts s).1).alc = s.alc ∧
    ((doSetTags n k ts s).1).gtc = s.gtc ∧
    ((doSetTags n k ts s).1).fsc = s.fsc ∧
    ((doSetTags n k ts s).1).dck = s.dck ∧
    ((doSetTags n k ts s).1).tpc = s.tpc ∧
    ((doSetTags n k ts s).1).cfl = s.cfl := by
  generalize h : doSetTags n k ts s = t; unfold doSetTags at h; (try unfold onAddressed at h); (try unfold onNamedOutlet at h); (try dsimp only at h); (repeat' split at h) <;> subst h <;> simp

@[simp] theorem doReadBooking_frame (n k r l : Nat) (s : State) :
    ((doReadBooking n k r l s).1).pending = s.pending ∧
    ((doReadBooking n k r l s).1).now = s.now ∧
    ((doReadBooking n k r l s).1).free = s.free ∧
    ((doReadBooking n k r l s).1).cfg = s.cfg ∧
    ((doReadBooking n k r l s).1).door1 = s.door1 ∧
    ((doReadBooking n k r l s).1).door2 = s.door2 ∧
    ((doReadBooking n k r l s).1).minuteAt = s.minuteAt ∧
    ((doReadBooking n k r l s).1).store = s.store ∧
    ((doReadBooking n k r l s).1).bst = s.bst ∧
    ((doReadBooking n k r l s).1).alc = s.alc ∧
    ((doReadBooking n k r l s).1).lsu = s.lsu ∧
    ((doReadBooking n k r l s).1).pbc = s.pbc ∧
    ((doReadBooking n k r l s).1).acu = s.acu ∧
    ((doReadBooking n k r l s).1).gtc = s.gtc ∧
    ((doReadBooking n k r l s).1).fsc = s.fsc ∧
    ((doReadBooking n k r l s).1).dck = s.dck ∧
    ((doReadBooking n k r l s).1).qlc = s.qlc ∧
    ((doReadBooking n k r l s).1).tpc = s.tpc ∧
    ((doReadBooking n k r l s).1).evj = s.evj ∧
    ((doReadBooking n k r l s).1).cfl = s.cfl := by
  generalize h : doReadBooking n k r l s = t; unfold doReadBooking at h; (try unfold onAddressed at h); (try unfold onNamedOutlet at h); (try dsimp only at h); (repeat' split at h) <;> subst h <;> simp

@[simp] theorem markRead_frame (e : Nat) (s : State) :
    (markRead e s).pending = s.pending ∧
    (markRead e s).now = s.now ∧
    (markRead e s).free = s.free ∧
    (markRead e s).cfg = s.cfg ∧
    (markRead e s).door1 = s.door1 ∧
    (markRead e s).door2 = s.door2 ∧
    (markRead e s).minuteAt = s.minuteAt ∧
    (markRead e s).store = s.store ∧
    (markRead e s).alc = s.alc ∧
    (markRead e s).lsu = s.lsu ∧
    (markRead e s).pbc = s.pbc ∧
    (markRead e s).acu = s.acu ∧
    (markRead e s).gtc = s.gtc ∧
    (markRead e s).fsc = s.fsc ∧
    (markRead e s).dck = s.dck ∧
    (markRead e s).qlc = s.qlc ∧
    (markRead e s).tpc = s.tpc ∧
    (markRead e s).evj = s.evj ∧
    (markRead e s).cfl = s.cfl := by
  generalize h : markRead e s = t; unfold markRead at h; split at h <;> subst h <;> simp

@[simp] theorem foldl_markRead_frame (l : List Nat) (s : State) :
    (l.foldl (fun x n => markRead n x) s).pending = s.pending ∧
    (l.foldl (fun x n => markRead n x) s).now = s.now ∧
    (l.foldl (fun x n => markRead n x) s).free = s.free ∧
    (l.foldl (fun x n => markRead n x) s).cfg = s.cfg ∧
    (l.foldl (fun x n => markRead n x) s).door1 = s.door1 ∧
    (l.foldl (fun x n => markRead n x) s).door2 = s.door2 ∧
    (l.foldl (fun x n => markRead n x) s).minuteAt = s.minuteAt ∧
    (l.foldl (fun x n => markRead n x) s).store = s.store ∧
    (l.foldl (fun x n => markRead n x) s).alc = s.alc ∧
    (l.foldl (fun x n => markRead n x) s).lsu = s.lsu ∧
    (l.foldl (fun x n => markRead n x) s).pbc = s.pbc ∧
    (l.foldl (fun x n => markRead n x) s).acu = s.acu ∧
    (l.foldl (fun x n => markRead n x) s).gtc = s.gtc ∧
    (l.foldl (fun x n => markRead n x) s).fsc = s.fsc ∧
    (l.foldl (fun x n => markRead n x) s).dck = s.dck ∧
    (l.foldl (fun x n => markRead n x) s).qlc = s.qlc ∧
    (l.foldl (fun x n => markRead n x) s).tpc = s.tpc ∧
    (l.foldl (fun x n => markRead n x) s).evj = s.evj ∧
    (l.foldl (fun x n => markRead n x) s).cfl = s.cfl := by
  refine ⟨?_, ?_, ?_, ?_, ?_, ?_, ?_, ?_, ?_, ?_, ?_, ?_, ?_, ?_, ?_, ?_, ?_, ?_, ?_⟩ <;> exact foldl_same _ _ (fun _ _ => by simp) _ _

@[simp] theorem doReadStatements_frame (e : StatementSelector) (r l : Nat) (s : State) :
    ((doReadStatements e r l s).1).pending = s.pending ∧
    ((doReadStatements e r l s).1).now = s.now ∧
    ((doReadStatements e r l s).1).free = s.free ∧
    ((doReadStatements e r l s).1).cfg = s.cfg ∧
    ((doReadStatements e r l s).1).door1 = s.door1 ∧
    ((doReadStatements e r l s).1).door2 = s.door2 ∧
    ((doReadStatements e r l s).1).minuteAt = s.minuteAt ∧
    ((doReadStatements e r l s).1).store = s.store ∧
    ((doReadStatements e r l s).1).alc = s.alc ∧
    ((doReadStatements e r l s).1).lsu = s.lsu ∧
    ((doReadStatements e r l s).1).pbc = s.pbc ∧
    ((doReadStatements e r l s).1).acu = s.acu ∧
    ((doReadStatements e r l s).1).gtc = s.gtc ∧
    ((doReadStatements e r l s).1).fsc = s.fsc ∧
    ((doReadStatements e r l s).1).dck = s.dck ∧
    ((doReadStatements e r l s).1).qlc = s.qlc ∧
    ((doReadStatements e r l s).1).tpc = s.tpc ∧
    ((doReadStatements e r l s).1).evj = s.evj ∧
    ((doReadStatements e r l s).1).cfl = s.cfl := by
  generalize h : doReadStatements e r l s = t; unfold doReadStatements at h; (try unfold onAddressed at h); (try unfold onNamedOutlet at h); (try dsimp only at h); (repeat' split at h) <;> subst h <;> simp

end Sys2Proof.Machine
end

