-- ==== Sys2Proof/Laws/Bookings.lean ====
section
/-! SUPPORT. What the berth table and the bookings read after each operation on them: the lemmas that later proofs cite in
place of unfolding `onBerth`, `changeBooking`, `queueRecord`, `notice`, `restand` and `debit`. -/

namespace Sys2Proof.Machine

/-! ### Lists -/

/-- An element found under a test is found changed, where the change keeps the test. -/
theorem find?_updWhere {α : Type} (p q : α → Bool) (f : α → α) (l : List α) (h : ∀ x, q x = true → p (f x) = p x) :
    (updWhere q f l).find? p = (l.find? p).map fun x => if q x then f x else x := by
  induction l with
  | nil => rfl
  | cons x l ih =>
    simp only [updWhere, List.map_cons] at ih ⊢
    by_cases hq : q x
    · by_cases hp : p x
      · simp [List.find?_cons, hq, h x hq, hp]
      · simpa [List.find?_cons, hq, h x hq, hp] using ih
    · by_cases hp : p x
      · simp [List.find?_cons, hq, hp]
      · simpa [List.find?_cons, hq, hp] using ih

@[simp] theorem updFirst_length {α : Type} (q : α → Bool) (f : α → α) (l : List α) :
    (updFirst q f l).length = l.length := by
  induction l with
  | nil => rfl
  | cons x l ih => simp only [updFirst]; split <;> simp [ih]

/-- Changing the first element that meets a test replaces that one and keeps the rest as they stand. -/
theorem updFirst_cases {α : Type} (q : α → Bool) (f : α → α) (l : List α) :
    (updFirst q f l = l ∧ ∀ x ∈ l, q x = false) ∨
    ∃ before x after, l = before ++ x :: after ∧ q x = true ∧ (∀ y ∈ before, q y = false) ∧
      updFirst q f l = before ++ f x :: after := by
  induction l with
  | nil => exact .inl ⟨rfl, by simp⟩
  | cons x l ih =>
    cases hq : q x with
    | true => exact .inr ⟨[], x, l, rfl, hq, by simp, by simp [updFirst, hq]⟩
    | false =>
      rcases ih with ⟨h1, h2⟩ | ⟨before, y, after, h1, h2, h3, h4⟩
      · exact .inl ⟨by simp [updFirst, hq, h1], by simpa [hq] using h2⟩
      · exact .inr ⟨x :: before, y, after, by simp [h1], h2, by simpa [hq] using h3, by simp [updFirst, hq, h4]⟩

@[simp] theorem updWhere_length {α : Type} (q : α → Bool) (f : α → α) (l : List α) :
    (updWhere q f l).length = l.length := by simp [updWhere]

/-! ### The write queue -/

section
variable (id : RecordId) (s : State)
@[simp] theorem queueRecord_berths : (queueRecord id s).bst.berths = s.bst.berths := by
  unfold queueRecord; (repeat' split) <;> simp
@[simp] theorem queueRecord_statements : (queueRecord id s).bst.statements = s.bst.statements := by
  unfold queueRecord; (repeat' split) <;> simp
@[simp] theorem queueRecord_nextSerial : (queueRecord id s).bst.nextSerial = s.bst.nextSerial := by
  unfold queueRecord; (repeat' split) <;> simp
@[simp] theorem queueRecord_lastEnding : (queueRecord id s).bst.lastEnding = s.bst.lastEnding := by
  unfold queueRecord; (repeat' split) <;> simp
@[simp] theorem queueRecord_fault : (queueRecord id s).bst.fault = s.bst.fault := by
  unfold queueRecord; (repeat' split) <;> simp
@[simp] theorem queueRecord_retryAt : (queueRecord id s).bst.retryAt = s.bst.retryAt := by
  unfold queueRecord; (repeat' split) <;> simp

/-- A record that is queued waits, or its write in flight is marked changed (R20). -/
theorem queueRecord_waits : (queueRecord id s).bst.queue.contains id = true ∨
    ∃ w, (queueRecord id s).bst.inFlight = some w ∧ w.id = id ∧ w.changed = true := by
  unfold queueRecord
  (repeat' split) <;> simp_all

/-- A record that waits keeps waiting (R20). -/
theorem queueRecord_keeps (other : RecordId) (h : s.bst.queue.contains other = true) :
    (queueRecord id s).bst.queue.contains other = true := by
  unfold queueRecord
  (repeat' split) <;> simp_all
end

@[simp] theorem queueSlot_berths (n : Option Nat) (s : State) : (queueSlot n s).bst.berths = s.bst.berths := by
  cases n <;> simp [queueSlot]

/-! ### Berths -/

/-- Reading a berth of a state depends on the berth table alone. -/
theorem berth?_same (s t : State) (h : t.bst.berths = s.bst.berths) : t.berth? = s.berth? := by
  funext n; simp [State.berth?, h]

@[simp] theorem onBerth_berths (n : Nat) (f : Berth → Berth) (s : State) :
    (onBerth n f s).bst.berths = updWhere (fun b => b.cfg.number == n) f s.bst.berths := rfl

/-- A berth is read changed after a change of it, and as it was after a change of another. -/
theorem berth?_onBerth (n m : Nat) (f : Berth → Berth) (s : State) (h : ∀ b, (f b).cfg = b.cfg) :
    (onBerth n f s).berth? m = (s.berth? m).map fun b => if b.cfg.number == n then f b else b := by
  simp only [State.berth?, onBerth_berths]
  exact find?_updWhere _ _ _ _ fun x _ => by simp [h]

/-- The berth of a number has that number. -/
theorem berth?_number {s : State} {n : Nat} {b : Berth} (h : s.berth? n = some b) : b.cfg.number = n := by
  have := List.find?_some h
  simpa using this

/-- A change of booking lists leaves the priority classes of outlets. -/
theorem classOf_onBerth (n : Nat) (f : Berth → Berth) (s : State) (h : ∀ b, (f b).cfg = b.cfg) :
    (onBerth n f s).classOf = s.classOf := by
  funext o
  cases ho : o.berth with
  | none => simp [State.classOf, ho]
  | some m =>
    simp only [State.classOf, ho, Option.bind_some, berth?_onBerth n m f s h, Option.map_map]
    cases s.berth? m with
    | none => rfl
    | some b =>
      simp only [Option.map_some, Option.getD_some, Function.comp_apply]
      split <;> simp [h]

@[simp] theorem onBooking_classOf (n k : Nat) (f : Booking → Booking) (s : State) :
    (onBooking n k f s).classOf = s.classOf := classOf_onBerth _ _ _ fun _ => rfl

@[simp] theorem queueRecord_classOf (id : RecordId) (s : State) : (queueRecord id s).classOf = s.classOf :=
  classOf_same _ _ (by simp)

@[simp] theorem queueSlot_classOf (n : Option Nat) (s : State) : (queueSlot n s).classOf = s.classOf :=
  classOf_same _ _ (by simp)

@[simp] theorem changeBooking_classOf (n k : Nat) (f : Booking → Booking) (s : State) :
    (changeBooking n k f s).classOf = s.classOf := by
  unfold changeBooking
  split <;> simp

/-- A step that leaves BST leaves the priority classes. -/
theorem classOf_bst (s t : State) (h : t.bst = s.bst) : t.classOf = s.classOf := classOf_same _ _ (by rw [h])

/-! ### Bookings -/

/-- A change of a booking that keeps its serial and whether it is live. -/
abbrev Keeps (f : Booking → Booking) : Prop := ∀ b, (f b).serial = b.serial ∧ (f b).live = b.live

/-- Reading a booking of a state depends on the berth table alone. -/
theorem booking?_same (s t : State) (h : t.bst.berths = s.bst.berths) : t.booking? = s.booking? := by
  funext n k; simp [State.booking?, berth?_same s t h]

@[simp] theorem queueRecord_booking? (id : RecordId) (s : State) : (queueRecord id s).booking? = s.booking? :=
  booking?_same _ _ (by simp)

@[simp] theorem queueSlot_booking? (n : Option Nat) (s : State) : (queueSlot n s).booking? = s.booking? :=
  booking?_same _ _ (by simp)

/-- The bookings after a change of one. -/
theorem booking?_onBooking (n k m j : Nat) (f : Booking → Booking) (s : State) (hf : Keeps f) :
    (onBooking n k f s).booking? m j =
      if m = n ∧ j = k then (s.booking? m j).map f else s.booking? m j := by
  unfold onBooking State.booking?
  rw [berth?_onBerth _ _ _ _ (by simp)]
  cases hb : s.berth? m with
  | none => simp
  | some b =>
    simp only [Option.map_some, Option.bind_some, berth?_number hb]
    by_cases hm : m = n
    · subst hm
      simp only [beq_self_eq_true, if_true, Berth.live?]
      rw [find?_updWhere _ _ _ _ (fun x _ => by simp [hf x])]
      by_cases hj : j = k
      · subst hj
        simp only [and_self, if_true]
        cases hl : b.bookings.find? fun x => x.live && x.serial == some j with
        | none => rfl
        | some x =>
          have := List.find?_some hl
          simp_all
      · simp only [hj, and_false, if_false]
        cases hl : b.bookings.find? fun x => x.live && x.serial == some j with
        | none => rfl
        | some x =>
          have := List.find?_some hl
          simp_all
    · simp [hm]

/-- The bookings after a change of one whose record is queued. -/
theorem booking?_changeBooking (n k m j : Nat) (f : Booking → Booking) (s : State) (hf : Keeps f) :
    (changeBooking n k f s).booking? m j =
      if m = n ∧ j = k then (s.booking? m j).map f else s.booking? m j := by
  unfold changeBooking
  split
  · simp [booking?_onBooking _ _ _ _ _ _ hf]
  · split
    · simp_all
    · rfl

/-- The fields of the booking store but for the berths and the queue, after a change of a booking. -/
@[simp] theorem changeBooking_statements (n k : Nat) (f : Booking → Booking) (s : State) :
    (changeBooking n k f s).bst.statements = s.bst.statements ∧
    (changeBooking n k f s).bst.nextSerial = s.bst.nextSerial ∧
    (changeBooking n k f s).bst.lastEnding = s.bst.lastEnding ∧
    (changeBooking n k f s).bst.fault = s.bst.fault ∧
    (changeBooking n k f s).bst.retryAt = s.bst.retryAt := by
  unfold changeBooking queueSlot
  (repeat' split) <;> simp [onBooking, onBerth]

/-! ### Fields that hold no booking -/

section
variable (s : State)
@[simp] theorem setNow_booking? (v : Nat) : (s.setNow v).booking? = s.booking? := rfl
@[simp] theorem setStore_booking? (v : Store) : (s.setStore v).booking? = s.booking? := rfl
@[simp] theorem setAlc_booking? (v : Alc) : (s.setAlc v).booking? = s.booking? := rfl
@[simp] theorem setLsu_booking? (v : Lsu) : (s.setLsu v).booking? = s.booking? := rfl
@[simp] theorem setPbc_booking? (v : Pbc) : (s.setPbc v).booking? = s.booking? := rfl
@[simp] theorem setAcu_booking? (v : Acu) : (s.setAcu v).booking? = s.booking? := rfl
@[simp] theorem setGtc_booking? (v : Gtc) : (s.setGtc v).booking? = s.booking? := rfl
@[simp] theorem setFsc_booking? (v : Fsc) : (s.setFsc v).booking? = s.booking? := rfl
@[simp] theorem setDck_booking? (v : Dck) : (s.setDck v).booking? = s.booking? := rfl
@[simp] theorem setQlc_booking? (v : Qlc) : (s.setQlc v).booking? = s.booking? := rfl
@[simp] theorem setTpc_booking? (v : Tpc) : (s.setTpc v).booking? = s.booking? := rfl
@[simp] theorem setEvj_booking? (v : Evj) : (s.setEvj v).booking? = s.booking? := rfl
@[simp] theorem setCfl_booking? (v : Cfl) : (s.setCfl v).booking? = s.booking? := rfl
@[simp] theorem report_booking? (r : Report) : (report r s).booking? = s.booking? := booking?_same _ _ (by simp)
@[simp] theorem revoke_booking? (ts : List Tag) : (revoke ts s).booking? = s.booking? := booking?_same _ _ (by simp)
@[simp] theorem settlePosts_booking?  : (settlePosts s).booking? = s.booking? := booking?_same _ _ (by simp)
@[simp] theorem postsNotice_booking? (n k : Nat) (o w : Standing) : (postsNotice n k o w s).booking? = s.booking? := booking?_same _ _ (by simp)
@[simp] theorem berthOff_booking? (n : Nat) : (berthOff n s).booking? = s.booking? := booking?_same _ _ (by simp)
@[simp] theorem sendAnswer_booking? (c : Channel) (n : Nat) (q : Num8) (b : FrameBody) : (sendAnswer c n q b s).booking? = s.booking? := booking?_same _ _ (by simp)
@[simp] theorem heardOn_booking? (c : Channel) : (heardOn c s).booking? = s.booking? := booking?_same _ _ (by simp)
@[simp] theorem reach_booking? (d : Nat) : (reach d s).booking? = s.booking? := booking?_same _ _ (by simp)
@[simp] theorem settled_booking? (b : State) : (settled b s).booking? = s.booking? := booking?_same _ _ (by simp)
@[simp] theorem event_booking? (f : State → State) : (event f s).booking? = (f s).booking? := booking?_same _ _ (by simp)
end

/-! ### Standing -/

/-- What a standing-change notice leaves of a booking: its epoch advanced. -/
theorem booking?_notice (n k m j : Nat) (o w : Standing) (s : State) :
    (notice n k o w s).booking? m j =
      if m = n ∧ j = k then (s.booking? m j).map fun b => { b with epoch := b.epoch + 1 } else s.booking? m j := by
  unfold notice
  split
  · split
    · simp_all
    · rfl
  · dsimp only
    rw [show ∀ x : State, (report (.standingChanged n o w k) x).booking? = x.booking? from
      fun x => booking?_same _ _ (by simp)]
    rw [booking?_same _ _ (congrArg Bst.berths (postsNotice_frame n k o w _).2.2.2.2.2.2.2.2.1),
      booking?_same _ _ (congrArg Bst.berths (revoke_frame _ _).2.2.2.2.2.2.2.2.1),
      booking?_changeBooking]
    exact fun _ => ⟨rfl, rfl⟩

/-- A booking as its purse's standing is worked out again: the standing stored, the epoch advanced where it differs. -/
def restood (b : Booking) : Booking :=
  if b.purse.standing == b.purse.standingNow then b
  else { b with purse := { b.purse with standing := b.purse.standingNow }, epoch := b.epoch + 1 }

/-- The bookings after a standing is worked out again (R27). -/
theorem booking?_restand (n k m j : Nat) (s : State) :
    (restand n k s).booking? m j = if m = n ∧ j = k then (s.booking? m j).map restood else s.booking? m j := by
  unfold restand
  split
  · split
    · simp_all
    · rfl
  · rename_i b hb
    dsimp only
    split
    · rename_i h
      split
      · rename_i e; obtain ⟨rfl, rfl⟩ := e
        simp [hb, restood, h]
      · rfl
    · rename_i h
      rw [booking?_notice, booking?_changeBooking]
      · split
        · rename_i e; obtain ⟨rfl, rfl⟩ := e
          simp [hb, restood, h, Booking.onPurse]
        · rfl
      · exact fun _ => ⟨rfl, rfl⟩

/-- The stored standing is the one the purse gives after it has been worked out (R26, R27). -/
theorem restood_standing (b : Booking) : (restood b).purse.standing = (restood b).purse.standingNow := by
  unfold restood
  split
  · rename_i h
    exact eq_of_beq h
  · rfl

end Sys2Proof.Machine
end

