-- ==== Sys2Proof/Laws/Frame/RecordStore.lean ====
section
/-! SUPPORT. Frames of the record store: the fields of the state each operation leaves as they were. -/

namespace Sys2Proof.Machine

@[simp] theorem startWrite_frame (r : Bool) (s : State) :
    (startWrite r s).pending = s.pending ∧
    (startWrite r s).now = s.now ∧
    (startWrite r s).free = s.free ∧
    (startWrite r s).cfg = s.cfg ∧
    (startWrite r s).door1 = s.door1 ∧
    (startWrite r s).door2 = s.door2 ∧
    (startWrite r s).minuteAt = s.minuteAt ∧
    (startWrite r s).store = s.store ∧
    (startWrite r s).alc = s.alc ∧
    (startWrite r s).lsu = s.lsu ∧
    (startWrite r s).pbc = s.pbc ∧
    (startWrite r s).acu = s.acu ∧
    (startWrite r s).gtc = s.gtc ∧
    (startWrite r s).fsc = s.fsc ∧
    (startWrite r s).dck = s.dck ∧
    (startWrite r s).qlc = s.qlc ∧
    (startWrite r s).tpc = s.tpc ∧
    (startWrite r s).evj = s.evj ∧
    (startWrite r s).cfl = s.cfl := by
  generalize h : startWrite r s = t; unfold startWrite at h; split at h <;> subst h <;> simp

@[simp] theorem writeDone_frame (w : WriteInFlight) (s : State) :
    (writeDone w s).pending = s.pending ∧
    (writeDone w s).now = s.now ∧
    (writeDone w s).free = s.free ∧
    (writeDone w s).cfg = s.cfg ∧
    (writeDone w s).door1 = s.door1 ∧
    (writeDone w s).door2 = s.door2 ∧
    (writeDone w s).minuteAt = s.minuteAt ∧
    (writeDone w s).alc = s.alc ∧
    (writeDone w s).lsu = s.lsu ∧
    (writeDone w s).pbc = s.pbc ∧
    (writeDone w s).acu = s.acu ∧
    (writeDone w s).gtc = s.gtc ∧
    (writeDone w s).fsc = s.fsc ∧
    (writeDone w s).dck = s.dck ∧
    (writeDone w s).qlc = s.qlc ∧
    (writeDone w s).tpc = s.tpc ∧
    (writeDone w s).cfl = s.cfl := by
  generalize h : writeDone w s = t; unfold writeDone at h; (repeat' split at h) <;> subst h <;> simp

@[simp] theorem breakSlot_frame (id : RecordId) (s : State) :
    (breakSlot id s).pending = s.pending ∧
    (breakSlot id s).now = s.now ∧
    (breakSlot id s).cfg = s.cfg ∧
    (breakSlot id s).door1 = s.door1 ∧
    (breakSlot id s).door2 = s.door2 ∧
    (breakSlot id s).minuteAt = s.minuteAt ∧
    (breakSlot id s).bst = s.bst ∧
    (breakSlot id s).alc = s.alc ∧
    (breakSlot id s).lsu = s.lsu ∧
    (breakSlot id s).pbc = s.pbc ∧
    (breakSlot id s).acu = s.acu ∧
    (breakSlot id s).gtc = s.gtc ∧
    (breakSlot id s).fsc = s.fsc ∧
    (breakSlot id s).dck = s.dck ∧
    (breakSlot id s).qlc = s.qlc ∧
    (breakSlot id s).tpc = s.tpc ∧
    (breakSlot id s).evj = s.evj ∧
    (breakSlot id s).cfl = s.cfl := by
  simp [breakSlot]

@[simp] theorem breakImage_frame (s : State) :
    (breakImage s).pending = s.pending ∧
    (breakImage s).now = s.now ∧
    (breakImage s).cfg = s.cfg ∧
    (breakImage s).door1 = s.door1 ∧
    (breakImage s).door2 = s.door2 ∧
    (breakImage s).minuteAt = s.minuteAt ∧
    (breakImage s).bst = s.bst ∧
    (breakImage s).alc = s.alc ∧
    (breakImage s).lsu = s.lsu ∧
    (breakImage s).pbc = s.pbc ∧
    (breakImage s).acu = s.acu ∧
    (breakImage s).gtc = s.gtc ∧
    (breakImage s).fsc = s.fsc ∧
    (breakImage s).dck = s.dck ∧
    (breakImage s).qlc = s.qlc ∧
    (breakImage s).tpc = s.tpc ∧
    (breakImage s).evj = s.evj ∧
    (breakImage s).cfl = s.cfl := by
  simp [breakImage]

@[simp] theorem writeFailed_frame (w : WriteInFlight) (s : State) :
    (writeFailed w s).pending = s.pending ∧
    (writeFailed w s).now = s.now ∧
    (writeFailed w s).cfg = s.cfg ∧
    (writeFailed w s).door1 = s.door1 ∧
    (writeFailed w s).door2 = s.door2 ∧
    (writeFailed w s).minuteAt = s.minuteAt ∧
    (writeFailed w s).alc = s.alc ∧
    (writeFailed w s).lsu = s.lsu ∧
    (writeFailed w s).pbc = s.pbc ∧
    (writeFailed w s).acu = s.acu ∧
    (writeFailed w s).gtc = s.gtc ∧
    (writeFailed w s).fsc = s.fsc ∧
    (writeFailed w s).dck = s.dck ∧
    (writeFailed w s).qlc = s.qlc ∧
    (writeFailed w s).tpc = s.tpc ∧
    (writeFailed w s).cfl = s.cfl := by
  generalize h : writeFailed w s = t; unfold writeFailed at h; split at h <;> subst h <;> simp

@[simp] theorem sendReply_frame (r : Reply) (s : State) :
    (sendReply r s).pending = s.pending ∧
    (sendReply r s).now = s.now ∧
    (sendReply r s).free = s.free ∧
    (sendReply r s).cfg = s.cfg ∧
    (sendReply r s).door1 = s.door1 ∧
    (sendReply r s).door2 = s.door2 ∧
    (sendReply r s).minuteAt = s.minuteAt ∧
    (sendReply r s).store = s.store ∧
    (sendReply r s).bst = s.bst ∧
    (sendReply r s).alc = s.alc ∧
    (sendReply r s).lsu = s.lsu ∧
    (sendReply r s).pbc = s.pbc ∧
    (sendReply r s).acu = s.acu ∧
    (sendReply r s).gtc = s.gtc ∧
    (sendReply r s).fsc = s.fsc ∧
    (sendReply r s).dck = s.dck ∧
    (sendReply r s).qlc = s.qlc ∧
    (sendReply r s).evj = s.evj ∧
    (sendReply r s).cfl = s.cfl := by
  simp [sendReply]

@[simp] theorem imageDone_frame (s : State) :
    (imageDone s).pending = s.pending ∧
    (imageDone s).now = s.now ∧
    (imageDone s).free = s.free ∧
    (imageDone s).cfg = s.cfg ∧
    (imageDone s).door1 = s.door1 ∧
    (imageDone s).door2 = s.door2 ∧
    (imageDone s).minuteAt = s.minuteAt ∧
    (imageDone s).bst = s.bst ∧
    (imageDone s).alc = s.alc ∧
    (imageDone s).lsu = s.lsu ∧
    (imageDone s).pbc = s.pbc ∧
    (imageDone s).acu = s.acu ∧
    (imageDone s).gtc = s.gtc ∧
    (imageDone s).fsc = s.fsc ∧
    (imageDone s).dck = s.dck ∧
    (imageDone s).qlc = s.qlc := by
  simp [imageDone]

@[simp] theorem imageFailed_frame (s : State) :
    (imageFailed s).pending = s.pending ∧
    (imageFailed s).now = s.now ∧
    (imageFailed s).cfg = s.cfg ∧
    (imageFailed s).door1 = s.door1 ∧
    (imageFailed s).door2 = s.door2 ∧
    (imageFailed s).minuteAt = s.minuteAt ∧
    (imageFailed s).bst = s.bst ∧
    (imageFailed s).alc = s.alc ∧
    (imageFailed s).lsu = s.lsu ∧
    (imageFailed s).pbc = s.pbc ∧
    (imageFailed s).acu = s.acu ∧
    (imageFailed s).gtc = s.gtc ∧
    (imageFailed s).fsc = s.fsc ∧
    (imageFailed s).dck = s.dck ∧
    (imageFailed s).qlc = s.qlc := by
  simp [imageFailed]

end Sys2Proof.Machine
end

