-- ==== Sys2Proof/Laws/Memory.lean ====
section
/-! SUPPORT. The record store's memory: reading after writing, and that every write keeps the canonical form (section 1.6,
R196). -/

namespace Sys2Proof.Machine

section
variable {α : Type} [DecidableEq α] (d v : α) (k : Nat)

/-- Reading a key after it is set gives the value set. -/
@[simp] theorem mapGet_mapSet_same (m : List (Nat × α)) (h : (m.map Prod.fst).Pairwise (· < ·)) :
    mapGet d k (mapSet d k v m) = v := by
  induction m with
  | nil =>
    simp only [mapSet]
    split <;> simp_all [mapGet]
  | cons p m ih =>
    obtain ⟨j, w⟩ := p
    simp only [List.map_cons, List.pairwise_cons] at h
    have away : ∀ n : List (Nat × α), (∀ x ∈ n.map Prod.fst, k < x) → mapGet d k n = d := by
      intro n hn
      induction n with
      | nil => rfl
      | cons q n ihn =>
        have : k < q.1 := hn q.1 (by simp)
        simp only [mapGet, show q.1 ≠ k from by omega, if_false]
        exact ihn fun x hx => hn x (by simp at hx ⊢; exact .inr hx)
    simp only [mapSet]
    by_cases h1 : j < k
    · simp only [h1, if_true, mapGet, show j ≠ k from by omega, if_false]
      exact ih h.2
    · simp only [h1, if_false]
      by_cases h2 : j = k
      · subst h2
        by_cases h3 : v = d
        · simpa [h3] using away m fun x hx => h.1 x hx
        · simp [h3, mapGet]
      · by_cases h3 : v = d
        · simp only [h2, h3, if_false, if_true, mapGet]
          exact away m fun x hx => by have := h.1 x hx; omega
        · simp [h2, h3, mapGet]

/-- Setting a key leaves every other key. -/
theorem mapGet_mapSet_other (j : Nat) (h : j ≠ k) (m : List (Nat × α)) :
    mapGet d j (mapSet d k v m) = mapGet d j m := by
  induction m with
  | nil =>
    simp only [mapSet]
    split <;> simp [mapGet, h.symm]
  | cons p m ih =>
    obtain ⟨i, w⟩ := p
    simp only [mapSet]
    split
    · simp only [mapGet]
      split <;> simp_all
    · by_cases h2 : i = k
      · subst h2
        by_cases h3 : v = d <;> simp [h3, mapGet, h.symm]
      · by_cases h3 : v = d <;> simp [h2, h3, mapGet, h.symm]

/-- The keys after a set are the key and those there before. -/
theorem mem_mapSet_keys (m : List (Nat × α)) (x : Nat) (h : x ∈ (mapSet d k v m).map Prod.fst) :
    x = k ∨ x ∈ m.map Prod.fst := by
  induction m with
  | nil =>
    simp only [mapSet] at h
    split at h <;> simp_all
  | cons p m ih =>
    obtain ⟨j, w⟩ := p
    simp only [mapSet] at h
    by_cases h1 : j < k
    · simp only [h1, if_true, List.map_cons, List.mem_cons] at h ⊢
      rcases h with h | h
      · exact .inr (.inl h)
      · exact (ih h).imp_right .inr
    · by_cases h2 : j = k <;> by_cases h3 : v = d <;> simp_all

/-- Setting a key keeps the canonical form. -/
theorem mapSet_wf (m : List (Nat × α)) (h : mapWf d m) : mapWf d (mapSet d k v m) := by
  induction m with
  | nil =>
    simp only [mapSet]
    split <;> simp_all [mapWf]
  | cons p m ih =>
    obtain ⟨j, w⟩ := p
    obtain ⟨hk, hv⟩ := h
    simp only [List.map_cons, List.pairwise_cons] at hk
    have tail : mapWf d m := ⟨hk.2, fun q hq => hv q (by simp [hq])⟩
    have hw : w ≠ d := hv (j, w) (by simp)
    simp only [mapSet]
    by_cases h1 : j < k
    · simp only [h1, if_true]
      refine ⟨?_, ?_⟩
      · simp only [List.map_cons, List.pairwise_cons]
        refine ⟨fun x hx => ?_, (ih tail).1⟩
        rcases mem_mapSet_keys d v k m x hx with rfl | hx
        · exact h1
        · exact hk.1 x hx
      · intro q hq
        simp only [List.mem_cons] at hq
        rcases hq with rfl | hq
        · exact hw
        · exact (ih tail).2 q hq
    · by_cases h2 : j = k
      · subst h2
        by_cases h3 : v = d
        · simpa [h3] using tail
        · refine ⟨?_, ?_⟩
          · simpa [h3] using hk
          · intro q hq
            simp [h3] at hq
            rcases hq with rfl | hq
            · exact h3
            · exact tail.2 q hq
      · have lt : k < j := by omega
        by_cases h3 : v = d
        · simp only [h1, h2, h3, if_false, if_true]
          exact ⟨by simpa using hk, hv⟩
        · simp only [h1, h2, h3, if_false]
          refine ⟨?_, ?_⟩
          · simp only [List.map_cons, List.pairwise_cons, List.mem_cons]
            refine ⟨?_, hk⟩
            rintro x (rfl | hx)
            · exact lt
            · exact lt.trans (hk.1 x hx)
          · intro q hq
            simp only [List.mem_cons] at hq
            rcases hq with rfl | rfl | hq
            · exact h3
            · exact hw
            · exact tail.2 q hq
end

/-- The reading of the default as a slot's good EMPTY record undoes itself. -/
@[simp] theorem swapBlank_swapBlank (id : RecordId) (r : StoredRecord) : swapBlank id (swapBlank id r) = r := by
  unfold swapBlank
  by_cases h : emptyRecord id = blankRecord <;> (repeat' split) <;> simp_all

/-- A record written is read back. -/
theorem storedAt_storeRecord (id : RecordId) (r : StoredRecord) (st : Store) (h : st.wf) :
    storedAt id (storeRecord id r st) = r := by
  simp [storedAt, storeRecord, h.2.1]

/-- Writing a record leaves every record of another place. -/
theorem storedAt_storeRecord_other (id other : RecordId) (r : StoredRecord) (st : Store) (h : placeOf other ≠ placeOf id) :
    storedAt other (storeRecord id r st) = storedAt other st := by
  simp [storedAt, storeRecord, mapGet_mapSet_other _ _ _ _ h]

@[simp] theorem storeRecord_region (id : RecordId) (r : StoredRecord) (st : Store) :
    (storeRecord id r st).region = st.region := rfl

@[simp] theorem writeRegion_slots (bytes : List Byte) (st : Store) : (writeRegion bytes st).slots = st.slots := rfl

/-- Writing a record keeps the canonical form. -/
theorem storeRecord_wf (id : RecordId) (r : StoredRecord) (st : Store) (h : st.wf) : (storeRecord id r st).wf :=
  ⟨h.1, mapSet_wf _ _ _ _ h.2⟩

/-- Writing bytes keeps the canonical form. -/
theorem writeBytes_wf (bs : List Byte) (i : Nat) (m : List (Nat × Byte)) (h : mapWf (0 : Byte) m) :
    mapWf (0 : Byte) (writeBytes i bs m) := by
  induction bs generalizing i m with
  | nil => exact h
  | cons b bs ih => exact ih _ _ (mapSet_wf _ _ _ _ h)

/-- Writing bytes leaves every byte outside them. -/
theorem mapGet_writeBytes_outside (bs : List Byte) (i j : Nat) (m : List (Nat × Byte))
    (h : j < i ∨ i + bs.length ≤ j) : mapGet (0 : Byte) j (writeBytes i bs m) = mapGet (0 : Byte) j m := by
  induction bs generalizing i m with
  | nil => rfl
  | cons b bs ih =>
    simp only [List.length_cons] at h
    rw [writeBytes, ih _ _ (by omega), mapGet_mapSet_other _ _ _ _ (by omega)]

/-- Writing bytes stores each at its place. -/
theorem mapGet_writeBytes_inside (bs : List Byte) (i k : Nat) (m : List (Nat × Byte)) (hm : mapWf (0 : Byte) m)
    (h : k < bs.length) : mapGet (0 : Byte) (i + k) (writeBytes i bs m) = bs[k] := by
  induction bs generalizing i k m with
  | nil => simp at h
  | cons b bs ih =>
    cases k with
    | zero => rw [writeBytes, mapGet_writeBytes_outside _ _ _ _ (by omega)]; simp [hm.1]
    | succ k =>
      rw [writeBytes, show i + (k + 1) = i + 1 + k from by omega, ih _ _ _ (mapSet_wf _ _ _ _ hm) (by simpa using h)]
      simp

/-- Writing the image region keeps the canonical form. -/
theorem writeRegion_wf (bytes : List Byte) (st : Store) (h : st.wf) : (writeRegion bytes st).wf :=
  ⟨writeBytes_wf _ _ _ h.1, h.2⟩

/-- The store after reset is in canonical form. -/
theorem reset_store_wf : State.reset.store.wf := by
  refine ⟨⟨?_, ?_⟩, ?_, ?_⟩ <;> simp [State.reset]

end Sys2Proof.Machine
end

