-- ==== Sys2Proof/Laws/BrokenWrites.lean ====
section
/-! SUPPORT. What a write that failed or was cut off leaves of the record store (R22, R197): everything a broken record write
and a broken image write can do. -/

namespace Sys2Proof.Machine

/-- A slot after a broken write holds what it held or a damaged record (R22). -/
theorem afterBrokenWrite_cases (free : Nat) (old : StoredRecord) :
    afterBrokenWrite free old = old ∨ (afterBrokenWrite free old).good = false := by
  unfold afterBrokenWrite
  split
  · exact .inr rfl
  · exact .inl rfl

/-- A broken record write: its slot holds what it held or a damaged record (R22). -/
theorem storedAt_breakSlot (id : RecordId) (s : State) (h : s.store.wf) :
    storedAt id (breakSlot id s).store = storedAt id s.store ∨ (storedAt id (breakSlot id s).store).good = false := by
  simp only [breakSlot, takeFree, State.setStore_store, storedAt_storeRecord _ _ _ h]
  exact afterBrokenWrite_cases _ _

/-- A broken record write leaves every other slot. -/
theorem storedAt_breakSlot_other (id other : RecordId) (s : State) (h : placeOf other ≠ placeOf id) :
    storedAt other (breakSlot id s).store = storedAt other s.store := by
  simp [breakSlot, takeFree, storedAt_storeRecord_other _ _ _ _ h]

/-- A broken record write leaves the image region. -/
@[simp] theorem breakSlot_region (id : RecordId) (s : State) : (breakSlot id s).store.region = s.store.region := rfl

/-- A broken record write keeps the canonical form. -/
theorem breakSlot_wf (id : RecordId) (s : State) (h : s.store.wf) : (breakSlot id s).store.wf := storeRecord_wf _ _ _ h

@[simp] theorem invertFirst_length (bs : List Byte) : (invertFirst bs).length = bs.length := by cases bs <;> rfl

@[simp] theorem brokenBytes_length (free n : Nat) : (brokenBytes free n).length = n := by simp [brokenBytes]

/-- A broken image write leaves every record. -/
@[simp] theorem breakRegion_slots (free n : Nat) (st : Store) : (breakRegion free n st).slots = st.slots := by
  simp only [breakRegion]; split <;> rfl

/-- A broken image write keeps the canonical form. -/
theorem breakRegion_wf (free n : Nat) (st : Store) (h : st.wf) : (breakRegion free n st).wf := by
  simp only [breakRegion]; split <;> exact writeRegion_wf _ _ h

/-- A broken image write leaves the bytes past its length (R197). -/
theorem regionByte_breakRegion (free n i : Nat) (st : Store) (h : n ≤ i) :
    regionByte (breakRegion free n st) i = regionByte st i := by
  have w : ∀ bs : List Byte, bs.length = n → regionByte (writeRegion bs st) i = regionByte st i := fun bs hb =>
    mapGet_writeBytes_outside _ _ _ _ (by omega)
  simp only [breakRegion]
  split
  · exact w _ (by simp)
  · exact w _ (by simp)

/-- The first byte of the image as it stands in the region is the region's first byte. -/
theorem byteAt_imageBytes (st : Store) : byteAt (imageBytes st) 0 = regionByte st 0 := by
  have : imageBytes st = regionByte st 0 ::
      (List.range (5 + min 8184 (imageLength (regionBytes st 0 6)))).map fun i => regionByte st (i + 1) := by
    unfold imageBytes
    generalize min 8184 _ = k
    rw [show 6 + k = (5 + k) + 1 by omega]
    simp [regionBytes, List.range_succ_eq_map, Function.comp_def]
  rw [this]; rfl

/-- An image whose first byte is not that of the format is rejected (R196). -/
theorem checkImage_first (bytes : List Byte) (h : byteAt bytes 0 ≠ 0x5C#8) : ∃ e, checkImage bytes = .error e := by
  have : imageFormat bytes ≠ 0x5C21#16 := by
    intro hf
    apply h
    have := congrArg (fun w : BitVec 16 => (w >>> 8).setWidth 8) hf
    simp only [imageFormat, word16] at this
    revert this
    generalize byteAt bytes 0 = a
    generalize byteAt bytes 1 = b
    intro this
    have e : ((a ++ b : BitVec 16) >>> 8).setWidth 8 = a := by
      ext i hi
      have g : (a ++ b : BitVec (8 + 8)).getLsbD (8 + i) = a[i] := by rw [BitVec.getLsbD_append]; simp [hi]
      simpa using g
    rw [e] at this
    exact this
  exact ⟨_, by simp [checkImage, this]; rfl⟩

/-- A broken image write over at least one byte leaves no image that is accepted (R197). -/
theorem checkImage_breakRegion (free n : Nat) (st : Store) (h : st.wf) (hn : 0 < n) :
    ∃ e, checkImage (imageBytes (breakRegion free n st)) = .error e := by
  simp only [breakRegion]
  split
  · rename_i ok
    have first : ∀ bs : List Byte, (hb : 0 < bs.length) → regionByte (writeRegion bs st) 0 = bs[0] := fun bs hb =>
      mapGet_writeBytes_inside bs 0 0 st.region h.1 hb
    have hb : 0 < (brokenBytes free n).length := by simpa using hn
    refine checkImage_first _ fun hf => ?_
    have g : byteAt (imageBytes (writeRegion (brokenBytes free n) st)) 0 = 0x5C#8 := by
      by_contra g
      obtain ⟨e, he⟩ := checkImage_first _ g
      simp [ok] at he
    rw [byteAt_imageBytes, first _ (by simpa using hn)] at hf
    rw [byteAt_imageBytes, first _ hb] at g
    cases hl : brokenBytes free n with
    | nil => simp [hl] at hb
    | cons b rest =>
      simp only [hl, invertFirst, List.getElem_cons_zero] at hf g
      subst g
      exact absurd hf (by decide)
  · exact ⟨_, by assumption⟩

end Sys2Proof.Machine
end

