-- ==== Sys2Proof/Laws/Frame/Metering.lean ====
section
/-! SUPPORT. Frames of the taking of a good Answer: the fields of the state each operation leaves as they were. -/

namespace Sys2Proof.Machine

@[simp] theorem addUnassigned_frame (m : Meter) (n : Nat) (s : State) :
    (addUnassigned m n s).pending = s.pending ∧
    (addUnassigned m n s).now = s.now ∧
    (addUnassigned m n s).free = s.free ∧
    (addUnassigned m n s).cfg = s.cfg ∧
    (addUnassigned m n s).door1 = s.door1 ∧
    (addUnassigned m n s).door2 = s.door2 ∧
    (addUnassigned m n s).minuteAt = s.minuteAt ∧
    (addUnassigned m n s).store = s.store ∧
    (addUnassigned m n s).bst = s.bst ∧
    (addUnassigned m n s).alc = s.alc ∧
    (addUnassigned m n s).lsu = s.lsu ∧
    (addUnassigned m n s).acu = s.acu ∧
    (addUnassigned m n s).gtc = s.gtc ∧
    (addUnassigned m n s).fsc = s.fsc ∧
    (addUnassigned m n s).dck = s.dck ∧
    (addUnassigned m n s).qlc = s.qlc ∧
    (addUnassigned m n s).tpc = s.tpc ∧
    (addUnassigned m n s).evj = s.evj ∧
    (addUnassigned m n s).cfl = s.cfl := by
  generalize h : addUnassigned m n s = t; unfold addUnassigned at h; split at h <;> subst h <;> simp

@[simp] theorem chargeUnits_frame (m : Meter) (b : Option Nat) (n : Nat) (s : State) :
    (chargeUnits m b n s).pending = s.pending ∧
    (chargeUnits m b n s).now = s.now ∧
    (chargeUnits m b n s).free = s.free ∧
    (chargeUnits m b n s).cfg = s.cfg ∧
    (chargeUnits m b n s).door1 = s.door1 ∧
    (chargeUnits m b n s).door2 = s.door2 ∧
    (chargeUnits m b n s).minuteAt = s.minuteAt ∧
    (chargeUnits m b n s).store = s.store ∧
    (chargeUnits m b n s).alc = s.alc ∧
    (chargeUnits m b n s).gtc = s.gtc ∧
    (chargeUnits m b n s).fsc = s.fsc ∧
    (chargeUnits m b n s).dck = s.dck ∧
    (chargeUnits m b n s).tpc = s.tpc ∧
    (chargeUnits m b n s).cfl = s.cfl := by
  generalize h : chargeUnits m b n s = t; unfold chargeUnits at h; (repeat' split at h) <;> subst h <;> simp

@[simp] theorem meterOutlet_frame (r : Bool) (e n : Nat) (v : Count16) (s : State) :
    (meterOutlet r e n v s).pending = s.pending ∧
    (meterOutlet r e n v s).now = s.now ∧
    (meterOutlet r e n v s).free = s.free ∧
    (meterOutlet r e n v s).cfg = s.cfg ∧
    (meterOutlet r e n v s).door1 = s.door1 ∧
    (meterOutlet r e n v s).door2 = s.door2 ∧
    (meterOutlet r e n v s).minuteAt = s.minuteAt ∧
    (meterOutlet r e n v s).store = s.store ∧
    (meterOutlet r e n v s).alc = s.alc ∧
    (meterOutlet r e n v s).gtc = s.gtc ∧
    (meterOutlet r e n v s).fsc = s.fsc ∧
    (meterOutlet r e n v s).dck = s.dck ∧
    (meterOutlet r e n v s).tpc = s.tpc ∧
    (meterOutlet r e n v s).cfl = s.cfl := by
  generalize h : meterOutlet r e n v s = t; unfold meterOutlet at h; (repeat' split at h) <;> subst h <;> simp

@[simp] theorem countLeak_frame (t : Tap) (n : Nat) (s : State) :
    (countLeak t n s).pending = s.pending ∧
    (countLeak t n s).now = s.now ∧
    (countLeak t n s).free = s.free ∧
    (countLeak t n s).cfg = s.cfg ∧
    (countLeak t n s).door1 = s.door1 ∧
    (countLeak t n s).door2 = s.door2 ∧
    (countLeak t n s).minuteAt = s.minuteAt ∧
    (countLeak t n s).store = s.store ∧
    (countLeak t n s).bst = s.bst ∧
    (countLeak t n s).alc = s.alc ∧
    (countLeak t n s).lsu = s.lsu ∧
    (countLeak t n s).acu = s.acu ∧
    (countLeak t n s).gtc = s.gtc ∧
    (countLeak t n s).fsc = s.fsc ∧
    (countLeak t n s).dck = s.dck ∧
    (countLeak t n s).qlc = s.qlc ∧
    (countLeak t n s).tpc = s.tpc ∧
    (countLeak t n s).cfl = s.cfl := by
  generalize h : countLeak t n s = u; unfold countLeak at h; (try dsimp only at h); (repeat' split at h) <;> subst h <;> simp

@[simp] theorem meterTap_frame (r : Bool) (e n : Nat) (v : Count16) (s : State) :
    (meterTap r e n v s).pending = s.pending ∧
    (meterTap r e n v s).now = s.now ∧
    (meterTap r e n v s).free = s.free ∧
    (meterTap r e n v s).cfg = s.cfg ∧
    (meterTap r e n v s).door1 = s.door1 ∧
    (meterTap r e n v s).door2 = s.door2 ∧
    (meterTap r e n v s).minuteAt = s.minuteAt ∧
    (meterTap r e n v s).store = s.store ∧
    (meterTap r e n v s).alc = s.alc ∧
    (meterTap r e n v s).gtc = s.gtc ∧
    (meterTap r e n v s).fsc = s.fsc ∧
    (meterTap r e n v s).dck = s.dck ∧
    (meterTap r e n v s).tpc = s.tpc ∧
    (meterTap r e n v s).cfl = s.cfl := by
  generalize h : meterTap r e n v s = t; unfold meterTap at h; (repeat' split at h) <;> subst h <;> simp

@[simp] theorem currentOutlet_frame (n : Nat) (r : OutletReading) (s : State) :
    (currentOutlet n r s).pending = s.pending ∧
    (currentOutlet n r s).now = s.now ∧
    (currentOutlet n r s).free = s.free ∧
    (currentOutlet n r s).cfg = s.cfg ∧
    (currentOutlet n r s).door1 = s.door1 ∧
    (currentOutlet n r s).door2 = s.door2 ∧
    (currentOutlet n r s).minuteAt = s.minuteAt ∧
    (currentOutlet n r s).store = s.store ∧
    (currentOutlet n r s).alc = s.alc ∧
    (currentOutlet n r s).acu = s.acu ∧
    (currentOutlet n r s).gtc = s.gtc ∧
    (currentOutlet n r s).fsc = s.fsc ∧
    (currentOutlet n r s).dck = s.dck ∧
    (currentOutlet n r s).tpc = s.tpc ∧
    (currentOutlet n r s).cfl = s.cfl := by
  generalize h : currentOutlet n r s = t; unfold currentOutlet at h; (try dsimp only at h); (repeat' split at h) <;> subst h <;> simp

/-- What a step leaves, its repetition leaves. -/
theorem times_frame (f : State → State) (n : Nat) (s : State)
    {β : Type} (π : State → β) (h : ∀ x, π (f x) = π x) : π (times f n s) = π s := by
  induction n generalizing s with
  | zero => rfl
  | succ n ih => exact (ih _).trans (h s)

@[simp] theorem pressesOutlet_frame (b : Bool) (n : Nat) (r : OutletReading) (s : State) :
    (pressesOutlet b n r s).pending = s.pending ∧
    (pressesOutlet b n r s).now = s.now ∧
    (pressesOutlet b n r s).free = s.free ∧
    (pressesOutlet b n r s).cfg = s.cfg ∧
    (pressesOutlet b n r s).door1 = s.door1 ∧
    (pressesOutlet b n r s).door2 = s.door2 ∧
    (pressesOutlet b n r s).minuteAt = s.minuteAt ∧
    (pressesOutlet b n r s).store = s.store ∧
    (pressesOutlet b n r s).alc = s.alc ∧
    (pressesOutlet b n r s).acu = s.acu ∧
    (pressesOutlet b n r s).gtc = s.gtc ∧
    (pressesOutlet b n r s).fsc = s.fsc ∧
    (pressesOutlet b n r s).dck = s.dck ∧
    (pressesOutlet b n r s).tpc = s.tpc ∧
    (pressesOutlet b n r s).cfl = s.cfl := by
  generalize h : pressesOutlet b n r s = u; unfold pressesOutlet at h; (try dsimp only at h); split at h <;> subst h
  · simp
  · refine ⟨?_, ?_, ?_, ?_, ?_, ?_, ?_, ?_, ?_, ?_, ?_, ?_, ?_, ?_, ?_⟩ <;> repeat (first | rfl | refine (times_frame _ _ _ _ (fun _ => by simp)).trans ?_ | simp)

@[simp] theorem pressesTap_frame (b : Bool) (n : Nat) (r : TapReading) (s : State) :
    (pressesTap b n r s).pending = s.pending ∧
    (pressesTap b n r s).now = s.now ∧
    (pressesTap b n r s).free = s.free ∧
    (pressesTap b n r s).cfg = s.cfg ∧
    (pressesTap b n r s).door1 = s.door1 ∧
    (pressesTap b n r s).door2 = s.door2 ∧
    (pressesTap b n r s).minuteAt = s.minuteAt ∧
    (pressesTap b n r s).store = s.store ∧
    (pressesTap b n r s).bst = s.bst ∧
    (pressesTap b n r s).alc = s.alc ∧
    (pressesTap b n r s).lsu = s.lsu ∧
    (pressesTap b n r s).acu = s.acu ∧
    (pressesTap b n r s).gtc = s.gtc ∧
    (pressesTap b n r s).fsc = s.fsc ∧
    (pressesTap b n r s).dck = s.dck ∧
    (pressesTap b n r s).qlc = s.qlc ∧
    (pressesTap b n r s).tpc = s.tpc ∧
    (pressesTap b n r s).cfl = s.cfl := by
  generalize h : pressesTap b n r s = u; unfold pressesTap at h; (try dsimp only at h); split at h <;> subst h
  · simp
  · refine ⟨?_, ?_, ?_, ?_, ?_, ?_, ?_, ?_, ?_, ?_, ?_, ?_, ?_, ?_, ?_, ?_, ?_, ?_⟩ <;> repeat (first | rfl | refine (times_frame _ _ _ _ (fun _ => by simp)).trans ?_ | simp)

@[simp] theorem postHeard_frame (p : Post) (r : Num8) (s : State) :
    (postHeard p r s).pending = s.pending ∧
    (postHeard p r s).now = s.now ∧
    (postHeard p r s).free = s.free ∧
    (postHeard p r s).cfg = s.cfg ∧
    (postHeard p r s).door1 = s.door1 ∧
    (postHeard p r s).door2 = s.door2 ∧
    (postHeard p r s).minuteAt = s.minuteAt ∧
    (postHeard p r s).store = s.store ∧
    (postHeard p r s).bst = s.bst ∧
    (postHeard p r s).alc = s.alc ∧
    (postHeard p r s).acu = s.acu ∧
    (postHeard p r s).gtc = s.gtc ∧
    (postHeard p r s).fsc = s.fsc ∧
    (postHeard p r s).dck = s.dck ∧
    (postHeard p r s).tpc = s.tpc ∧
    (postHeard p r s).cfl = s.cfl := by
  generalize h : postHeard p r s = t; unfold postHeard at h; (repeat' split at h) <;> subst h <;> simp

@[simp] theorem answerSteps_frame (p : Post) (a : PostAnswer) (s : State) :
    (answerSteps p a s).pending = s.pending ∧
    (answerSteps p a s).now = s.now ∧
    (answerSteps p a s).free = s.free ∧
    (answerSteps p a s).cfg = s.cfg ∧
    (answerSteps p a s).door1 = s.door1 ∧
    (answerSteps p a s).door2 = s.door2 ∧
    (answerSteps p a s).minuteAt = s.minuteAt ∧
    (answerSteps p a s).store = s.store ∧
    (answerSteps p a s).alc = s.alc ∧
    (answerSteps p a s).gtc = s.gtc ∧
    (answerSteps p a s).fsc = s.fsc ∧
    (answerSteps p a s).dck = s.dck ∧
    (answerSteps p a s).tpc = s.tpc ∧
    (answerSteps p a s).cfl = s.cfl := by
  unfold answerSteps
  dsimp only
  refine ⟨?_, ?_, ?_, ?_, ?_, ?_, ?_, ?_, ?_, ?_, ?_, ?_, ?_, ?_⟩ <;>
    refine (foldl_same _ _ (fun _ _ => by simp) _ _).trans ((foldl_same _ _ (fun _ _ => by simp) _ _).trans
      ((foldl_same _ _ (fun _ _ => by simp) _ _).trans ((foldl_same _ _ (fun _ _ => by simp) _ _).trans
        ((foldl_same _ _ (fun _ _ => by simp) _ _).trans (by simp)))))

@[simp] theorem takePostAnswer_frame (p : Post) (a : PostAnswer) (s : State) :
    (takePostAnswer p a s).pending = s.pending ∧
    (takePostAnswer p a s).now = s.now ∧
    (takePostAnswer p a s).free = s.free ∧
    (takePostAnswer p a s).cfg = s.cfg ∧
    (takePostAnswer p a s).door1 = s.door1 ∧
    (takePostAnswer p a s).door2 = s.door2 ∧
    (takePostAnswer p a s).minuteAt = s.minuteAt ∧
    (takePostAnswer p a s).store = s.store ∧
    (takePostAnswer p a s).alc = s.alc ∧
    (takePostAnswer p a s).gtc = s.gtc ∧
    (takePostAnswer p a s).fsc = s.fsc ∧
    (takePostAnswer p a s).dck = s.dck ∧
    (takePostAnswer p a s).tpc = s.tpc ∧
    (takePostAnswer p a s).cfl = s.cfl := by
  simp [takePostAnswer]

end Sys2Proof.Machine
end

