-- ==== Sys2Proof/Laws/Frame/Allocation.lean ====
section
/-! SUPPORT. Frames of ALC: the fields of the state each operation leaves as they were. -/

namespace Sys2Proof.Machine

@[simp] theorem evaluate_frame (r : CallRef) (c : CallBody) (s : State) :
    ((evaluate r c s).1).pending = s.pending ∧
    ((evaluate r c s).1).now = s.now ∧
    ((evaluate r c s).1).free = s.free ∧
    ((evaluate r c s).1).cfg = s.cfg ∧
    ((evaluate r c s).1).door1 = s.door1 ∧
    ((evaluate r c s).1).door2 = s.door2 ∧
    ((evaluate r c s).1).minuteAt = s.minuteAt ∧
    ((evaluate r c s).1).store = s.store ∧
    ((evaluate r c s).1).alc = s.alc ∧
    ((evaluate r c s).1).lsu = s.lsu ∧
    ((evaluate r c s).1).pbc = s.pbc ∧
    ((evaluate r c s).1).acu = s.acu ∧
    ((evaluate r c s).1).gtc = s.gtc ∧
    ((evaluate r c s).1).fsc = s.fsc ∧
    ((evaluate r c s).1).dck = s.dck ∧
    ((evaluate r c s).1).qlc = s.qlc ∧
    ((evaluate r c s).1).tpc = s.tpc ∧
    ((evaluate r c s).1).evj = s.evj ∧
    ((evaluate r c s).1).cfl = s.cfl := by
  generalize h : evaluate r c s = t; unfold evaluate at h; (repeat' split at h) <;> subst h <;> simp

@[simp] theorem applyClose_frame (r : CallRef) (w : Option (Nat × Nat)) (s : State) :
    (applyClose r w s).pending = s.pending ∧
    (applyClose r w s).now = s.now ∧
    (applyClose r w s).free = s.free ∧
    (applyClose r w s).cfg = s.cfg ∧
    (applyClose r w s).door1 = s.door1 ∧
    (applyClose r w s).door2 = s.door2 ∧
    (applyClose r w s).minuteAt = s.minuteAt ∧
    (applyClose r w s).store = s.store ∧
    (applyClose r w s).alc = s.alc ∧
    (applyClose r w s).lsu = s.lsu ∧
    (applyClose r w s).pbc = s.pbc ∧
    (applyClose r w s).acu = s.acu ∧
    (applyClose r w s).gtc = s.gtc ∧
    (applyClose r w s).fsc = s.fsc ∧
    (applyClose r w s).dck = s.dck ∧
    (applyClose r w s).qlc = s.qlc ∧
    (applyClose r w s).tpc = s.tpc ∧
    (applyClose r w s).evj = s.evj ∧
    (applyClose r w s).cfl = s.cfl := by
  unfold applyClose
  refine ⟨?_, ?_, ?_, ?_, ?_, ?_, ?_, ?_, ?_, ?_, ?_, ?_, ?_, ?_, ?_, ?_, ?_, ?_, ?_⟩ <;>
    exact foldl_same _ _ (fun _ _ => by split <;> simp) _ _

@[simp] theorem ownerTake_frame (r : CallRef) (n : Nat) (y : Stay) (ts : List Tag) (m : Option BoatName) (s : State) :
    ((ownerTake r n y ts m s).1).pending = s.pending ∧
    ((ownerTake r n y ts m s).1).now = s.now ∧
    ((ownerTake r n y ts m s).1).free = s.free ∧
    ((ownerTake r n y ts m s).1).cfg = s.cfg ∧
    ((ownerTake r n y ts m s).1).door1 = s.door1 ∧
    ((ownerTake r n y ts m s).1).door2 = s.door2 ∧
    ((ownerTake r n y ts m s).1).minuteAt = s.minuteAt ∧
    ((ownerTake r n y ts m s).1).store = s.store ∧
    ((ownerTake r n y ts m s).1).alc = s.alc ∧
    ((ownerTake r n y ts m s).1).acu = s.acu ∧
    ((ownerTake r n y ts m s).1).gtc = s.gtc ∧
    ((ownerTake r n y ts m s).1).fsc = s.fsc ∧
    ((ownerTake r n y ts m s).1).dck = s.dck ∧
    ((ownerTake r n y ts m s).1).tpc = s.tpc ∧
    ((ownerTake r n y ts m s).1).cfl = s.cfl := by
  generalize h : ownerTake r n y ts m s = t; unfold ownerTake at h; (repeat' split at h) <;> subst h <;> simp

@[simp] theorem changeCall_frame (n : Num8) (g : Call → Call) (s : State) :
    (changeCall n g s).pending = s.pending ∧
    (changeCall n g s).now = s.now ∧
    (changeCall n g s).free = s.free ∧
    (changeCall n g s).cfg = s.cfg ∧
    (changeCall n g s).door1 = s.door1 ∧
    (changeCall n g s).door2 = s.door2 ∧
    (changeCall n g s).minuteAt = s.minuteAt ∧
    (changeCall n g s).store = s.store ∧
    (changeCall n g s).bst = s.bst ∧
    (changeCall n g s).lsu = s.lsu ∧
    (changeCall n g s).pbc = s.pbc ∧
    (changeCall n g s).acu = s.acu ∧
    (changeCall n g s).gtc = s.gtc ∧
    (changeCall n g s).fsc = s.fsc ∧
    (changeCall n g s).dck = s.dck ∧
    (changeCall n g s).qlc = s.qlc ∧
    (changeCall n g s).tpc = s.tpc ∧
    (changeCall n g s).evj = s.evj ∧
    (changeCall n g s).cfl = s.cfl := by
  simp [changeCall]

@[simp] theorem finishCall_frame (n : Num8) (o : CallOutcome) (s : State) :
    (finishCall n o s).pending = s.pending ∧
    (finishCall n o s).now = s.now ∧
    (finishCall n o s).free = s.free ∧
    (finishCall n o s).cfg = s.cfg ∧
    (finishCall n o s).door1 = s.door1 ∧
    (finishCall n o s).door2 = s.door2 ∧
    (finishCall n o s).minuteAt = s.minuteAt ∧
    (finishCall n o s).store = s.store ∧
    (finishCall n o s).lsu = s.lsu ∧
    (finishCall n o s).pbc = s.pbc ∧
    (finishCall n o s).acu = s.acu ∧
    (finishCall n o s).gtc = s.gtc ∧
    (finishCall n o s).fsc = s.fsc ∧
    (finishCall n o s).dck = s.dck ∧
    (finishCall n o s).tpc = s.tpc ∧
    (finishCall n o s).cfl = s.cfl := by
  simp [finishCall]

@[simp] theorem dropHead_frame (n : Num8) (s : State) :
    (dropHead n s).pending = s.pending ∧
    (dropHead n s).now = s.now ∧
    (dropHead n s).free = s.free ∧
    (dropHead n s).cfg = s.cfg ∧
    (dropHead n s).door1 = s.door1 ∧
    (dropHead n s).door2 = s.door2 ∧
    (dropHead n s).minuteAt = s.minuteAt ∧
    (dropHead n s).store = s.store ∧
    (dropHead n s).bst = s.bst ∧
    (dropHead n s).lsu = s.lsu ∧
    (dropHead n s).pbc = s.pbc ∧
    (dropHead n s).acu = s.acu ∧
    (dropHead n s).gtc = s.gtc ∧
    (dropHead n s).fsc = s.fsc ∧
    (dropHead n s).dck = s.dck ∧
    (dropHead n s).qlc = s.qlc ∧
    (dropHead n s).tpc = s.tpc ∧
    (dropHead n s).evj = s.evj ∧
    (dropHead n s).cfl = s.cfl := by
  simp [dropHead]

@[simp] theorem takeHead_frame (k : Nat) (n : Num8) (s : State) :
    (takeHead k n s).pending = s.pending ∧
    (takeHead k n s).now = s.now ∧
    (takeHead k n s).free = s.free ∧
    (takeHead k n s).cfg = s.cfg ∧
    (takeHead k n s).door1 = s.door1 ∧
    (takeHead k n s).door2 = s.door2 ∧
    (takeHead k n s).minuteAt = s.minuteAt ∧
    (takeHead k n s).store = s.store ∧
    (takeHead k n s).acu = s.acu ∧
    (takeHead k n s).gtc = s.gtc ∧
    (takeHead k n s).fsc = s.fsc ∧
    (takeHead k n s).dck = s.dck ∧
    (takeHead k n s).tpc = s.tpc ∧
    (takeHead k n s).cfl = s.cfl := by
  induction k generalizing s with
  | zero => simp [takeHead]
  | succ k ih =>
    generalize h : takeHead (k + 1) n s = t
    unfold takeHead at h
    (try dsimp only at h)
    (repeat' split at h) <;> subst h <;> simp [ih]

@[simp] theorem takeNext_frame (n : Num8) (s : State) :
    (takeNext n s).pending = s.pending ∧
    (takeNext n s).now = s.now ∧
    (takeNext n s).free = s.free ∧
    (takeNext n s).cfg = s.cfg ∧
    (takeNext n s).door1 = s.door1 ∧
    (takeNext n s).door2 = s.door2 ∧
    (takeNext n s).minuteAt = s.minuteAt ∧
    (takeNext n s).store = s.store ∧
    (takeNext n s).acu = s.acu ∧
    (takeNext n s).gtc = s.gtc ∧
    (takeNext n s).fsc = s.fsc ∧
    (takeNext n s).dck = s.dck ∧
    (takeNext n s).tpc = s.tpc ∧
    (takeNext n s).cfl = s.cfl := by
  simp [takeNext]

@[simp] theorem takeResult_frame (n : Num8) (r : TakeResult) (s : State) :
    (takeResult n r s).pending = s.pending ∧
    (takeResult n r s).now = s.now ∧
    (takeResult n r s).free = s.free ∧
    (takeResult n r s).cfg = s.cfg ∧
    (takeResult n r s).door1 = s.door1 ∧
    (takeResult n r s).door2 = s.door2 ∧
    (takeResult n r s).minuteAt = s.minuteAt ∧
    (takeResult n r s).store = s.store ∧
    (takeResult n r s).acu = s.acu ∧
    (takeResult n r s).gtc = s.gtc ∧
    (takeResult n r s).fsc = s.fsc ∧
    (takeResult n r s).dck = s.dck ∧
    (takeResult n r s).tpc = s.tpc ∧
    (takeResult n r s).cfl = s.cfl := by
  generalize h : takeResult n r s = t; unfold takeResult at h; (repeat' split at h) <;> subst h <;> simp

@[simp] theorem takeTimedOut_frame (n : Num8) (s : State) :
    (takeTimedOut n s).pending = s.pending ∧
    (takeTimedOut n s).now = s.now ∧
    (takeTimedOut n s).free = s.free ∧
    (takeTimedOut n s).cfg = s.cfg ∧
    (takeTimedOut n s).door1 = s.door1 ∧
    (takeTimedOut n s).door2 = s.door2 ∧
    (takeTimedOut n s).minuteAt = s.minuteAt ∧
    (takeTimedOut n s).store = s.store ∧
    (takeTimedOut n s).acu = s.acu ∧
    (takeTimedOut n s).gtc = s.gtc ∧
    (takeTimedOut n s).fsc = s.fsc ∧
    (takeTimedOut n s).dck = s.dck ∧
    (takeTimedOut n s).tpc = s.tpc ∧
    (takeTimedOut n s).cfl = s.cfl := by
  generalize h : takeTimedOut n s = t; unfold takeTimedOut at h; (repeat' split at h) <;> subst h <;> simp

@[simp] theorem openCall_frame (n : Num8) (r : CallRequest) (s : State) :
    (openCall n r s).pending = s.pending ∧
    (openCall n r s).now = s.now ∧
    (openCall n r s).free = s.free ∧
    (openCall n r s).cfg = s.cfg ∧
    (openCall n r s).door1 = s.door1 ∧
    (openCall n r s).door2 = s.door2 ∧
    (openCall n r s).minuteAt = s.minuteAt ∧
    (openCall n r s).store = s.store ∧
    (openCall n r s).acu = s.acu ∧
    (openCall n r s).gtc = s.gtc ∧
    (openCall n r s).fsc = s.fsc ∧
    (openCall n r s).dck = s.dck ∧
    (openCall n r s).tpc = s.tpc ∧
    (openCall n r s).cfl = s.cfl := by
  generalize h : openCall n r s = t; unfold openCall at h; (try dsimp only at h); (repeat' split at h) <;> subst h <;> simp

@[simp] theorem doAllocate_frame (g : AllocateForm) (s : State) :
    ((doAllocate g s).1).pending = s.pending ∧
    ((doAllocate g s).1).now = s.now ∧
    ((doAllocate g s).1).free = s.free ∧
    ((doAllocate g s).1).cfg = s.cfg ∧
    ((doAllocate g s).1).door1 = s.door1 ∧
    ((doAllocate g s).1).door2 = s.door2 ∧
    ((doAllocate g s).1).minuteAt = s.minuteAt ∧
    ((doAllocate g s).1).store = s.store ∧
    ((doAllocate g s).1).acu = s.acu ∧
    ((doAllocate g s).1).gtc = s.gtc ∧
    ((doAllocate g s).1).fsc = s.fsc ∧
    ((doAllocate g s).1).dck = s.dck ∧
    ((doAllocate g s).1).tpc = s.tpc ∧
    ((doAllocate g s).1).cfl = s.cfl := by
  generalize h : doAllocate g s = t; unfold doAllocate at h; (try unfold onAddressed at h); (try unfold onNamedOutlet at h); (try dsimp only at h); (repeat' split at h) <;> subst h <;> simp

@[simp] theorem doCallStatus_frame (c : Option Num8) (r l : Nat) (s : State) :
    ((doCallStatus c r l s).1).pending = s.pending ∧
    ((doCallStatus c r l s).1).now = s.now ∧
    ((doCallStatus c r l s).1).free = s.free ∧
    ((doCallStatus c r l s).1).cfg = s.cfg ∧
    ((doCallStatus c r l s).1).door1 = s.door1 ∧
    ((doCallStatus c r l s).1).door2 = s.door2 ∧
    ((doCallStatus c r l s).1).minuteAt = s.minuteAt ∧
    ((doCallStatus c r l s).1).store = s.store ∧
    ((doCallStatus c r l s).1).bst = s.bst ∧
    ((doCallStatus c r l s).1).alc = s.alc ∧
    ((doCallStatus c r l s).1).lsu = s.lsu ∧
    ((doCallStatus c r l s).1).pbc = s.pbc ∧
    ((doCallStatus c r l s).1).acu = s.acu ∧
    ((doCallStatus c r l s).1).gtc = s.gtc ∧
    ((doCallStatus c r l s).1).fsc = s.fsc ∧
    ((doCallStatus c r l s).1).dck = s.dck ∧
    ((doCallStatus c r l s).1).qlc = s.qlc ∧
    ((doCallStatus c r l s).1).tpc = s.tpc ∧
    ((doCallStatus c r l s).1).evj = s.evj ∧
    ((doCallStatus c r l s).1).cfl = s.cfl := by
  generalize h : doCallStatus c r l s = t; unfold doCallStatus at h; (try unfold onAddressed at h); (try unfold onNamedOutlet at h); (try dsimp only at h); (repeat' split at h) <;> subst h <;> simp

@[simp] theorem onBerthCall_frame (c : Channel) (r : CallRef) (b : CallBody) (s : State) :
    (onBerthCall c r b s).pending = s.pending ∧
    (onBerthCall c r b s).now = s.now ∧
    (onBerthCall c r b s).free = s.free ∧
    (onBerthCall c r b s).cfg = s.cfg ∧
    (onBerthCall c r b s).door1 = s.door1 ∧
    (onBerthCall c r b s).door2 = s.door2 ∧
    (onBerthCall c r b s).minuteAt = s.minuteAt ∧
    (onBerthCall c r b s).store = s.store ∧
    (onBerthCall c r b s).alc = s.alc ∧
    (onBerthCall c r b s).lsu = s.lsu ∧
    (onBerthCall c r b s).pbc = s.pbc ∧
    (onBerthCall c r b s).acu = s.acu ∧
    (onBerthCall c r b s).gtc = s.gtc ∧
    (onBerthCall c r b s).fsc = s.fsc ∧
    (onBerthCall c r b s).dck = s.dck ∧
    (onBerthCall c r b s).tpc = s.tpc ∧
    (onBerthCall c r b s).evj = s.evj ∧
    (onBerthCall c r b s).cfl = s.cfl := by
  generalize h : onBerthCall c r b s = t; unfold onBerthCall at h; (try dsimp only at h); (repeat' split at h) <;> subst h <;> simp

@[simp] theorem onBerthOffer_frame (n : Nat) (r : CallRef) (b c : Nat) (s : State) :
    (onBerthOffer n r b c s).pending = s.pending ∧
    (onBerthOffer n r b c s).now = s.now ∧
    (onBerthOffer n r b c s).free = s.free ∧
    (onBerthOffer n r b c s).cfg = s.cfg ∧
    (onBerthOffer n r b c s).door1 = s.door1 ∧
    (onBerthOffer n r b c s).door2 = s.door2 ∧
    (onBerthOffer n r b c s).minuteAt = s.minuteAt ∧
    (onBerthOffer n r b c s).store = s.store ∧
    (onBerthOffer n r b c s).bst = s.bst ∧
    (onBerthOffer n r b c s).lsu = s.lsu ∧
    (onBerthOffer n r b c s).pbc = s.pbc ∧
    (onBerthOffer n r b c s).acu = s.acu ∧
    (onBerthOffer n r b c s).gtc = s.gtc ∧
    (onBerthOffer n r b c s).fsc = s.fsc ∧
    (onBerthOffer n r b c s).dck = s.dck ∧
    (onBerthOffer n r b c s).qlc = s.qlc ∧
    (onBerthOffer n r b c s).tpc = s.tpc ∧
    (onBerthOffer n r b c s).evj = s.evj ∧
    (onBerthOffer n r b c s).cfl = s.cfl := by
  generalize h : onBerthOffer n r b c s = t; unfold onBerthOffer at h; (repeat' split at h) <;> subst h <;> simp

@[simp] theorem onBerthTake_frame (c : Channel) (m : Nat) (q : Num8) (r : CallRef) (n : Nat) (y : Stay) (ts : List Tag) (b : Option BoatName) (s : State) :
    (onBerthTake c m q r n y ts b s).pending = s.pending ∧
    (onBerthTake c m q r n y ts b s).now = s.now ∧
    (onBerthTake c m q r n y ts b s).free = s.free ∧
    (onBerthTake c m q r n y ts b s).cfg = s.cfg ∧
    (onBerthTake c m q r n y ts b s).door1 = s.door1 ∧
    (onBerthTake c m q r n y ts b s).door2 = s.door2 ∧
    (onBerthTake c m q r n y ts b s).minuteAt = s.minuteAt ∧
    (onBerthTake c m q r n y ts b s).store = s.store ∧
    (onBerthTake c m q r n y ts b s).alc = s.alc ∧
    (onBerthTake c m q r n y ts b s).acu = s.acu ∧
    (onBerthTake c m q r n y ts b s).gtc = s.gtc ∧
    (onBerthTake c m q r n y ts b s).fsc = s.fsc ∧
    (onBerthTake c m q r n y ts b s).dck = s.dck ∧
    (onBerthTake c m q r n y ts b s).tpc = s.tpc ∧
    (onBerthTake c m q r n y ts b s).cfl = s.cfl := by
  simp [onBerthTake]

end Sys2Proof.Machine
end

