-- ==== Sys2Proof/Laws/Frame/Day.lean ====
section
/-! SUPPORT. Frames of DCK: the fields of the state each operation leaves as they were. -/

namespace Sys2Proof.Machine

@[simp] theorem setClock_frame (d k : Nat) (s : State) :
    (setClock d k s).pending = s.pending ∧
    (setClock d k s).now = s.now ∧
    (setClock d k s).free = s.free ∧
    (setClock d k s).cfg = s.cfg ∧
    (setClock d k s).door1 = s.door1 ∧
    (setClock d k s).door2 = s.door2 ∧
    (setClock d k s).minuteAt = s.minuteAt ∧
    (setClock d k s).store = s.store ∧
    (setClock d k s).bst = s.bst ∧
    (setClock d k s).alc = s.alc ∧
    (setClock d k s).lsu = s.lsu ∧
    (setClock d k s).pbc = s.pbc ∧
    (setClock d k s).acu = s.acu ∧
    (setClock d k s).gtc = s.gtc ∧
    (setClock d k s).fsc = s.fsc ∧
    (setClock d k s).qlc = s.qlc ∧
    (setClock d k s).tpc = s.tpc ∧
    (setClock d k s).evj = s.evj ∧
    (setClock d k s).cfl = s.cfl := by
  simp [setClock]

@[simp] theorem doSetTime_frame (d k : Nat) (s : State) :
    ((doSetTime d k s).1).pending = s.pending ∧
    ((doSetTime d k s).1).now = s.now ∧
    ((doSetTime d k s).1).free = s.free ∧
    ((doSetTime d k s).1).cfg = s.cfg ∧
    ((doSetTime d k s).1).door1 = s.door1 ∧
    ((doSetTime d k s).1).door2 = s.door2 ∧
    ((doSetTime d k s).1).minuteAt = s.minuteAt ∧
    ((doSetTime d k s).1).store = s.store ∧
    ((doSetTime d k s).1).alc = s.alc ∧
    ((doSetTime d k s).1).gtc = s.gtc ∧
    ((doSetTime d k s).1).fsc = s.fsc ∧
    ((doSetTime d k s).1).tpc = s.tpc ∧
    ((doSetTime d k s).1).cfl = s.cfl := by
  generalize h : doSetTime d k s = t; unfold doSetTime at h; (try unfold onAddressed at h); (try unfold onNamedOutlet at h); (try dsimp only at h); (repeat' split at h) <;> subst h <;> simp

@[simp] theorem adoptTime_frame (n d k : Nat) (s : State) :
    (adoptTime n d k s).pending = s.pending ∧
    (adoptTime n d k s).now = s.now ∧
    (adoptTime n d k s).free = s.free ∧
    (adoptTime n d k s).cfg = s.cfg ∧
    (adoptTime n d k s).door1 = s.door1 ∧
    (adoptTime n d k s).door2 = s.door2 ∧
    (adoptTime n d k s).minuteAt = s.minuteAt ∧
    (adoptTime n d k s).store = s.store ∧
    (adoptTime n d k s).alc = s.alc ∧
    (adoptTime n d k s).gtc = s.gtc ∧
    (adoptTime n d k s).fsc = s.fsc ∧
    (adoptTime n d k s).tpc = s.tpc ∧
    (adoptTime n d k s).cfl = s.cfl := by
  simp [adoptTime]

@[simp] theorem doSelectTariff_frame (n : Nat) (s : State) :
    ((doSelectTariff n s).1).pending = s.pending ∧
    ((doSelectTariff n s).1).now = s.now ∧
    ((doSelectTariff n s).1).free = s.free ∧
    ((doSelectTariff n s).1).cfg = s.cfg ∧
    ((doSelectTariff n s).1).door1 = s.door1 ∧
    ((doSelectTariff n s).1).door2 = s.door2 ∧
    ((doSelectTariff n s).1).minuteAt = s.minuteAt ∧
    ((doSelectTariff n s).1).store = s.store ∧
    ((doSelectTariff n s).1).bst = s.bst ∧
    ((doSelectTariff n s).1).alc = s.alc ∧
    ((doSelectTariff n s).1).lsu = s.lsu ∧
    ((doSelectTariff n s).1).pbc = s.pbc ∧
    ((doSelectTariff n s).1).acu = s.acu ∧
    ((doSelectTariff n s).1).gtc = s.gtc ∧
    ((doSelectTariff n s).1).fsc = s.fsc ∧
    ((doSelectTariff n s).1).qlc = s.qlc ∧
    ((doSelectTariff n s).1).tpc = s.tpc ∧
    ((doSelectTariff n s).1).cfl = s.cfl := by
  generalize h : doSelectTariff n s = t; unfold doSelectTariff at h; (try unfold onAddressed at h); (try unfold onNamedOutlet at h); (try dsimp only at h); (repeat' split at h) <;> subst h <;> simp

@[simp] theorem doDayStatus_frame (s : State) :
    ((doDayStatus s).1).pending = s.pending ∧
    ((doDayStatus s).1).now = s.now ∧
    ((doDayStatus s).1).free = s.free ∧
    ((doDayStatus s).1).cfg = s.cfg ∧
    ((doDayStatus s).1).door1 = s.door1 ∧
    ((doDayStatus s).1).door2 = s.door2 ∧
    ((doDayStatus s).1).minuteAt = s.minuteAt ∧
    ((doDayStatus s).1).store = s.store ∧
    ((doDayStatus s).1).bst = s.bst ∧
    ((doDayStatus s).1).alc = s.alc ∧
    ((doDayStatus s).1).lsu = s.lsu ∧
    ((doDayStatus s).1).pbc = s.pbc ∧
    ((doDayStatus s).1).acu = s.acu ∧
    ((doDayStatus s).1).gtc = s.gtc ∧
    ((doDayStatus s).1).fsc = s.fsc ∧
    ((doDayStatus s).1).dck = s.dck ∧
    ((doDayStatus s).1).qlc = s.qlc ∧
    ((doDayStatus s).1).tpc = s.tpc ∧
    ((doDayStatus s).1).evj = s.evj ∧
    ((doDayStatus s).1).cfl = s.cfl := by
  generalize h : doDayStatus s = t; unfold doDayStatus at h; (try unfold onAddressed at h); (try unfold onNamedOutlet at h); (try dsimp only at h); (repeat' split at h) <;> subst h <;> simp

@[simp] theorem chargeNight_frame (r : Rollover) (n : Nat) (b : Booking) (s : State) :
    (chargeNight r n b s).pending = s.pending ∧
    (chargeNight r n b s).now = s.now ∧
    (chargeNight r n b s).free = s.free ∧
    (chargeNight r n b s).cfg = s.cfg ∧
    (chargeNight r n b s).door1 = s.door1 ∧
    (chargeNight r n b s).door2 = s.door2 ∧
    (chargeNight r n b s).minuteAt = s.minuteAt ∧
    (chargeNight r n b s).store = s.store ∧
    (chargeNight r n b s).alc = s.alc ∧
    (chargeNight r n b s).gtc = s.gtc ∧
    (chargeNight r n b s).fsc = s.fsc ∧
    (chargeNight r n b s).dck = s.dck ∧
    (chargeNight r n b s).tpc = s.tpc ∧
    (chargeNight r n b s).cfl = s.cfl := by
  generalize h : chargeNight r n b s = t; unfold chargeNight at h; (try dsimp only at h); (repeat' split at h) <;> subst h <;> simp

@[simp] theorem depart_frame (r : Rollover) (n k : Nat) (p : State × Nat) :
    ((depart r n k p).1).pending = p.1.pending ∧
    ((depart r n k p).1).now = p.1.now ∧
    ((depart r n k p).1).free = p.1.free ∧
    ((depart r n k p).1).cfg = p.1.cfg ∧
    ((depart r n k p).1).door1 = p.1.door1 ∧
    ((depart r n k p).1).door2 = p.1.door2 ∧
    ((depart r n k p).1).minuteAt = p.1.minuteAt ∧
    ((depart r n k p).1).store = p.1.store ∧
    ((depart r n k p).1).alc = p.1.alc ∧
    ((depart r n k p).1).gtc = p.1.gtc ∧
    ((depart r n k p).1).fsc = p.1.fsc ∧
    ((depart r n k p).1).dck = p.1.dck ∧
    ((depart r n k p).1).tpc = p.1.tpc ∧
    ((depart r n k p).1).cfl = p.1.cfl := by
  generalize h : depart r n k p = t; unfold depart at h; (try dsimp only at h); (repeat' split at h) <;> subst h <;> simp

@[simp] theorem rollBooking_frame (r : Rollover) (n : Nat) (b : Booking) (p : State × Nat) :
    ((rollBooking r n b p).1).pending = p.1.pending ∧
    ((rollBooking r n b p).1).now = p.1.now ∧
    ((rollBooking r n b p).1).free = p.1.free ∧
    ((rollBooking r n b p).1).cfg = p.1.cfg ∧
    ((rollBooking r n b p).1).door1 = p.1.door1 ∧
    ((rollBooking r n b p).1).door2 = p.1.door2 ∧
    ((rollBooking r n b p).1).minuteAt = p.1.minuteAt ∧
    ((rollBooking r n b p).1).store = p.1.store ∧
    ((rollBooking r n b p).1).alc = p.1.alc ∧
    ((rollBooking r n b p).1).gtc = p.1.gtc ∧
    ((rollBooking r n b p).1).fsc = p.1.fsc ∧
    ((rollBooking r n b p).1).dck = p.1.dck ∧
    ((rollBooking r n b p).1).tpc = p.1.tpc ∧
    ((rollBooking r n b p).1).cfl = p.1.cfl := by
  simp [rollBooking]

/-- What every step of a counting fold leaves of the state, the fold leaves. -/
theorem foldl_pair_same {α β : Type} (π : State → β) (f : State × Nat → α → State × Nat)
    (h : ∀ x a, π (f x a).1 = π x.1) (l : List α) (p : State × Nat) : π (l.foldl f p).1 = π p.1 := by
  induction l generalizing p with
  | nil => rfl
  | cons a l ih => exact (ih _).trans (h p a)

@[simp] theorem rollBerth_frame (r : Rollover) (n : Nat) (p : State × Nat) :
    ((rollBerth r n p).1).pending = p.1.pending ∧
    ((rollBerth r n p).1).now = p.1.now ∧
    ((rollBerth r n p).1).free = p.1.free ∧
    ((rollBerth r n p).1).cfg = p.1.cfg ∧
    ((rollBerth r n p).1).door1 = p.1.door1 ∧
    ((rollBerth r n p).1).door2 = p.1.door2 ∧
    ((rollBerth r n p).1).minuteAt = p.1.minuteAt ∧
    ((rollBerth r n p).1).store = p.1.store ∧
    ((rollBerth r n p).1).alc = p.1.alc ∧
    ((rollBerth r n p).1).gtc = p.1.gtc ∧
    ((rollBerth r n p).1).fsc = p.1.fsc ∧
    ((rollBerth r n p).1).dck = p.1.dck ∧
    ((rollBerth r n p).1).tpc = p.1.tpc ∧
    ((rollBerth r n p).1).cfl = p.1.cfl := by
  unfold rollBerth
  split
  · simp
  · dsimp only
    simp only [arrivals_frame, true_and]
    refine ⟨?_, ?_, ?_, ?_, ?_, ?_, ?_, ?_, ?_, ?_, ?_, ?_, ?_, ?_⟩ <;>
      exact foldl_pair_same _ _ (fun _ _ => by simp) _ _

@[simp] theorem installTariff_frame (s : State) :
    (installTariff s).pending = s.pending ∧
    (installTariff s).now = s.now ∧
    (installTariff s).free = s.free ∧
    (installTariff s).cfg = s.cfg ∧
    (installTariff s).door1 = s.door1 ∧
    (installTariff s).door2 = s.door2 ∧
    (installTariff s).minuteAt = s.minuteAt ∧
    (installTariff s).store = s.store ∧
    (installTariff s).bst = s.bst ∧
    (installTariff s).alc = s.alc ∧
    (installTariff s).lsu = s.lsu ∧
    (installTariff s).pbc = s.pbc ∧
    (installTariff s).acu = s.acu ∧
    (installTariff s).gtc = s.gtc ∧
    (installTariff s).fsc = s.fsc ∧
    (installTariff s).qlc = s.qlc ∧
    (installTariff s).tpc = s.tpc ∧
    (installTariff s).evj = s.evj ∧
    (installTariff s).cfl = s.cfl := by
  simp [installTariff]

@[simp] theorem rollover_frame (d k : Nat) (s : State) :
    (rollover d k s).pending = s.pending ∧
    (rollover d k s).now = s.now ∧
    (rollover d k s).free = s.free ∧
    (rollover d k s).cfg = s.cfg ∧
    (rollover d k s).door1 = s.door1 ∧
    (rollover d k s).door2 = s.door2 ∧
    (rollover d k s).minuteAt = s.minuteAt ∧
    (rollover d k s).store = s.store ∧
    (rollover d k s).alc = s.alc ∧
    (rollover d k s).gtc = s.gtc ∧
    (rollover d k s).fsc = s.fsc ∧
    (rollover d k s).tpc = s.tpc ∧
    (rollover d k s).cfl = s.cfl := by
  unfold rollover
  dsimp only
  simp only [report_frame, installTariff_frame]
  refine ⟨?_, ?_, ?_, ?_, ?_, ?_, ?_, ?_, ?_, ?_, ?_, ?_, ?_⟩ <;>
    exact foldl_pair_same _ _ (fun _ _ => by simp) _ _

@[simp] theorem advance_frame (t : DayTime) (s : State) :
    (advance t s).pending = s.pending ∧
    (advance t s).free = s.free ∧
    (advance t s).cfg = s.cfg ∧
    (advance t s).door1 = s.door1 ∧
    (advance t s).door2 = s.door2 ∧
    (advance t s).minuteAt = s.minuteAt ∧
    (advance t s).store = s.store ∧
    (advance t s).alc = s.alc ∧
    (advance t s).gtc = s.gtc ∧
    (advance t s).fsc = s.fsc ∧
    (advance t s).tpc = s.tpc ∧
    (advance t s).cfl = s.cfl := by
  generalize h : advance t s = u; unfold advance at h; (try dsimp only at h); (repeat' split at h) <;> subst h <;> simp

end Sys2Proof.Machine
end

