-- ==== Sys2Proof/Laws/Frame/Fuel.lean ====
section
/-! SUPPORT. Frames of FSC: the fields of the state each operation leaves as they were. -/

namespace Sys2Proof.Machine

@[simp] theorem changePump_frame (n : Nat) (g : Pump → Pump) (s : State) :
    (changePump n g s).pending = s.pending ∧
    (changePump n g s).now = s.now ∧
    (changePump n g s).free = s.free ∧
    (changePump n g s).cfg = s.cfg ∧
    (changePump n g s).door1 = s.door1 ∧
    (changePump n g s).door2 = s.door2 ∧
    (changePump n g s).minuteAt = s.minuteAt ∧
    (changePump n g s).store = s.store ∧
    (changePump n g s).bst = s.bst ∧
    (changePump n g s).alc = s.alc ∧
    (changePump n g s).lsu = s.lsu ∧
    (changePump n g s).pbc = s.pbc ∧
    (changePump n g s).acu = s.acu ∧
    (changePump n g s).gtc = s.gtc ∧
    (changePump n g s).dck = s.dck ∧
    (changePump n g s).qlc = s.qlc ∧
    (changePump n g s).tpc = s.tpc ∧
    (changePump n g s).evj = s.evj ∧
    (changePump n g s).cfl = s.cfl := by
  simp [changePump]

@[simp] theorem changeSale_frame (n : Nat) (g : Sale → Sale) (s : State) :
    (changeSale n g s).pending = s.pending ∧
    (changeSale n g s).now = s.now ∧
    (changeSale n g s).free = s.free ∧
    (changeSale n g s).cfg = s.cfg ∧
    (changeSale n g s).door1 = s.door1 ∧
    (changeSale n g s).door2 = s.door2 ∧
    (changeSale n g s).minuteAt = s.minuteAt ∧
    (changeSale n g s).store = s.store ∧
    (changeSale n g s).alc = s.alc ∧
    (changeSale n g s).lsu = s.lsu ∧
    (changeSale n g s).pbc = s.pbc ∧
    (changeSale n g s).acu = s.acu ∧
    (changeSale n g s).gtc = s.gtc ∧
    (changeSale n g s).dck = s.dck ∧
    (changeSale n g s).qlc = s.qlc ∧
    (changeSale n g s).tpc = s.tpc ∧
    (changeSale n g s).evj = s.evj ∧
    (changeSale n g s).cfl = s.cfl := by
  simp [changeSale]

@[simp] theorem takeSaleNumber_frame (p : Pump) (s : State) :
    (takeSaleNumber p s).pending = s.pending ∧
    (takeSaleNumber p s).now = s.now ∧
    (takeSaleNumber p s).free = s.free ∧
    (takeSaleNumber p s).cfg = s.cfg ∧
    (takeSaleNumber p s).door1 = s.door1 ∧
    (takeSaleNumber p s).door2 = s.door2 ∧
    (takeSaleNumber p s).minuteAt = s.minuteAt ∧
    (takeSaleNumber p s).store = s.store ∧
    (takeSaleNumber p s).bst = s.bst ∧
    (takeSaleNumber p s).alc = s.alc ∧
    (takeSaleNumber p s).lsu = s.lsu ∧
    (takeSaleNumber p s).pbc = s.pbc ∧
    (takeSaleNumber p s).acu = s.acu ∧
    (takeSaleNumber p s).gtc = s.gtc ∧
    (takeSaleNumber p s).dck = s.dck ∧
    (takeSaleNumber p s).qlc = s.qlc ∧
    (takeSaleNumber p s).tpc = s.tpc ∧
    (takeSaleNumber p s).evj = s.evj ∧
    (takeSaleNumber p s).cfl = s.cfl := by
  simp [takeSaleNumber]

@[simp] theorem showRefused_frame (n : Nat) (r : SaleRefusal) (s : State) :
    (showRefused n r s).pending = s.pending ∧
    (showRefused n r s).now = s.now ∧
    (showRefused n r s).free = s.free ∧
    (showRefused n r s).cfg = s.cfg ∧
    (showRefused n r s).door1 = s.door1 ∧
    (showRefused n r s).door2 = s.door2 ∧
    (showRefused n r s).minuteAt = s.minuteAt ∧
    (showRefused n r s).store = s.store ∧
    (showRefused n r s).bst = s.bst ∧
    (showRefused n r s).alc = s.alc ∧
    (showRefused n r s).lsu = s.lsu ∧
    (showRefused n r s).pbc = s.pbc ∧
    (showRefused n r s).acu = s.acu ∧
    (showRefused n r s).gtc = s.gtc ∧
    (showRefused n r s).dck = s.dck ∧
    (showRefused n r s).qlc = s.qlc ∧
    (showRefused n r s).tpc = s.tpc ∧
    (showRefused n r s).evj = s.evj ∧
    (showRefused n r s).cfl = s.cfl := by
  simp [showRefused]

@[simp] theorem leavePump_frame (n : Nat) (g : Sale → Sale) (s : State) :
    (leavePump n g s).pending = s.pending ∧
    (leavePump n g s).now = s.now ∧
    (leavePump n g s).free = s.free ∧
    (leavePump n g s).cfg = s.cfg ∧
    (leavePump n g s).door1 = s.door1 ∧
    (leavePump n g s).door2 = s.door2 ∧
    (leavePump n g s).minuteAt = s.minuteAt ∧
    (leavePump n g s).store = s.store ∧
    (leavePump n g s).alc = s.alc ∧
    (leavePump n g s).lsu = s.lsu ∧
    (leavePump n g s).pbc = s.pbc ∧
    (leavePump n g s).acu = s.acu ∧
    (leavePump n g s).gtc = s.gtc ∧
    (leavePump n g s).dck = s.dck ∧
    (leavePump n g s).qlc = s.qlc ∧
    (leavePump n g s).tpc = s.tpc ∧
    (leavePump n g s).evj = s.evj ∧
    (leavePump n g s).cfl = s.cfl := by
  simp [leavePump]

@[simp] theorem refuseSale_frame (n : Nat) (x : Sale) (r : SaleRefusal) (s : State) :
    (refuseSale n x r s).pending = s.pending ∧
    (refuseSale n x r s).now = s.now ∧
    (refuseSale n x r s).free = s.free ∧
    (refuseSale n x r s).cfg = s.cfg ∧
    (refuseSale n x r s).door1 = s.door1 ∧
    (refuseSale n x r s).door2 = s.door2 ∧
    (refuseSale n x r s).minuteAt = s.minuteAt ∧
    (refuseSale n x r s).store = s.store ∧
    (refuseSale n x r s).alc = s.alc ∧
    (refuseSale n x r s).lsu = s.lsu ∧
    (refuseSale n x r s).pbc = s.pbc ∧
    (refuseSale n x r s).acu = s.acu ∧
    (refuseSale n x r s).gtc = s.gtc ∧
    (refuseSale n x r s).dck = s.dck ∧
    (refuseSale n x r s).qlc = s.qlc ∧
    (refuseSale n x r s).tpc = s.tpc ∧
    (refuseSale n x r s).cfl = s.cfl := by
  simp [refuseSale]

@[simp] theorem closeSale_frame (n : Nat) (s : State) :
    (closeSale n s).pending = s.pending ∧
    (closeSale n s).now = s.now ∧
    (closeSale n s).free = s.free ∧
    (closeSale n s).cfg = s.cfg ∧
    (closeSale n s).door1 = s.door1 ∧
    (closeSale n s).door2 = s.door2 ∧
    (closeSale n s).minuteAt = s.minuteAt ∧
    (closeSale n s).store = s.store ∧
    (closeSale n s).alc = s.alc ∧
    (closeSale n s).lsu = s.lsu ∧
    (closeSale n s).pbc = s.pbc ∧
    (closeSale n s).acu = s.acu ∧
    (closeSale n s).gtc = s.gtc ∧
    (closeSale n s).dck = s.dck ∧
    (closeSale n s).qlc = s.qlc ∧
    (closeSale n s).tpc = s.tpc ∧
    (closeSale n s).evj = s.evj ∧
    (closeSale n s).cfl = s.cfl := by
  simp [closeSale]

@[simp] theorem enterReady_frame (n g : Nat) (s : State) :
    (enterReady n g s).pending = s.pending ∧
    (enterReady n g s).now = s.now ∧
    (enterReady n g s).free = s.free ∧
    (enterReady n g s).cfg = s.cfg ∧
    (enterReady n g s).door1 = s.door1 ∧
    (enterReady n g s).door2 = s.door2 ∧
    (enterReady n g s).minuteAt = s.minuteAt ∧
    (enterReady n g s).store = s.store ∧
    (enterReady n g s).alc = s.alc ∧
    (enterReady n g s).lsu = s.lsu ∧
    (enterReady n g s).pbc = s.pbc ∧
    (enterReady n g s).acu = s.acu ∧
    (enterReady n g s).gtc = s.gtc ∧
    (enterReady n g s).dck = s.dck ∧
    (enterReady n g s).qlc = s.qlc ∧
    (enterReady n g s).tpc = s.tpc ∧
    (enterReady n g s).cfl = s.cfl := by
  generalize h : enterReady n g s = t; unfold enterReady at h; (repeat' split at h) <;> subst h <;> simp

@[simp] theorem toList_frame (n : Nat) (s : State) :
    (toList n s).pending = s.pending ∧
    (toList n s).now = s.now ∧
    (toList n s).free = s.free ∧
    (toList n s).cfg = s.cfg ∧
    (toList n s).door1 = s.door1 ∧
    (toList n s).door2 = s.door2 ∧
    (toList n s).minuteAt = s.minuteAt ∧
    (toList n s).store = s.store ∧
    (toList n s).alc = s.alc ∧
    (toList n s).lsu = s.lsu ∧
    (toList n s).pbc = s.pbc ∧
    (toList n s).acu = s.acu ∧
    (toList n s).gtc = s.gtc ∧
    (toList n s).dck = s.dck ∧
    (toList n s).qlc = s.qlc ∧
    (toList n s).tpc = s.tpc ∧
    (toList n s).cfl = s.cfl := by
  generalize h : toList n s = t; unfold toList at h; (repeat' split at h) <;> subst h <;> simp

@[simp] theorem changeListed_frame (id : HoldId) (g : Unsettled → Unsettled) (s : State) :
    (changeListed id g s).pending = s.pending ∧
    (changeListed id g s).now = s.now ∧
    (changeListed id g s).free = s.free ∧
    (changeListed id g s).cfg = s.cfg ∧
    (changeListed id g s).door1 = s.door1 ∧
    (changeListed id g s).door2 = s.door2 ∧
    (changeListed id g s).minuteAt = s.minuteAt ∧
    (changeListed id g s).store = s.store ∧
    (changeListed id g s).bst = s.bst ∧
    (changeListed id g s).alc = s.alc ∧
    (changeListed id g s).lsu = s.lsu ∧
    (changeListed id g s).pbc = s.pbc ∧
    (changeListed id g s).acu = s.acu ∧
    (changeListed id g s).gtc = s.gtc ∧
    (changeListed id g s).dck = s.dck ∧
    (changeListed id g s).qlc = s.qlc ∧
    (changeListed id g s).tpc = s.tpc ∧
    (changeListed id g s).evj = s.evj ∧
    (changeListed id g s).cfl = s.cfl := by
  simp [changeListed]

@[simp] theorem queueSlots_frame (l : List Nat) (s : State) :
    (queueSlots l s).pending = s.pending ∧
    (queueSlots l s).now = s.now ∧
    (queueSlots l s).free = s.free ∧
    (queueSlots l s).cfg = s.cfg ∧
    (queueSlots l s).door1 = s.door1 ∧
    (queueSlots l s).door2 = s.door2 ∧
    (queueSlots l s).minuteAt = s.minuteAt ∧
    (queueSlots l s).store = s.store ∧
    (queueSlots l s).alc = s.alc ∧
    (queueSlots l s).lsu = s.lsu ∧
    (queueSlots l s).pbc = s.pbc ∧
    (queueSlots l s).acu = s.acu ∧
    (queueSlots l s).gtc = s.gtc ∧
    (queueSlots l s).fsc = s.fsc ∧
    (queueSlots l s).dck = s.dck ∧
    (queueSlots l s).qlc = s.qlc ∧
    (queueSlots l s).tpc = s.tpc ∧
    (queueSlots l s).evj = s.evj ∧
    (queueSlots l s).cfl = s.cfl := by
  induction l generalizing s with
  | nil => simp [queueSlots]
  | cons n l ih => simpa [queueSlots] using ih (queueRecord (.sale n) s)

@[simp] theorem leaveList_frame (id : HoldId) (o : SaleOutcome) (s : State) :
    (leaveList id o s).pending = s.pending ∧
    (leaveList id o s).now = s.now ∧
    (leaveList id o s).free = s.free ∧
    (leaveList id o s).cfg = s.cfg ∧
    (leaveList id o s).door1 = s.door1 ∧
    (leaveList id o s).door2 = s.door2 ∧
    (leaveList id o s).minuteAt = s.minuteAt ∧
    (leaveList id o s).store = s.store ∧
    (leaveList id o s).alc = s.alc ∧
    (leaveList id o s).lsu = s.lsu ∧
    (leaveList id o s).pbc = s.pbc ∧
    (leaveList id o s).acu = s.acu ∧
    (leaveList id o s).gtc = s.gtc ∧
    (leaveList id o s).dck = s.dck ∧
    (leaveList id o s).qlc = s.qlc ∧
    (leaveList id o s).tpc = s.tpc ∧
    (leaveList id o s).evj = s.evj ∧
    (leaveList id o s).cfl = s.cfl := by
  generalize h : leaveList id o s = t; unfold leaveList at h; (try dsimp only at h); (repeat' split at h) <;> subst h <;> simp

@[simp] theorem reportSettled_frame (x : Sale) (r : SettleResult) (s : State) :
    (reportSettled x r s).pending = s.pending ∧
    (reportSettled x r s).now = s.now ∧
    (reportSettled x r s).free = s.free ∧
    (reportSettled x r s).cfg = s.cfg ∧
    (reportSettled x r s).door1 = s.door1 ∧
    (reportSettled x r s).door2 = s.door2 ∧
    (reportSettled x r s).minuteAt = s.minuteAt ∧
    (reportSettled x r s).store = s.store ∧
    (reportSettled x r s).bst = s.bst ∧
    (reportSettled x r s).alc = s.alc ∧
    (reportSettled x r s).lsu = s.lsu ∧
    (reportSettled x r s).pbc = s.pbc ∧
    (reportSettled x r s).acu = s.acu ∧
    (reportSettled x r s).gtc = s.gtc ∧
    (reportSettled x r s).fsc = s.fsc ∧
    (reportSettled x r s).dck = s.dck ∧
    (reportSettled x r s).qlc = s.qlc ∧
    (reportSettled x r s).tpc = s.tpc ∧
    (reportSettled x r s).cfl = s.cfl := by
  generalize h : reportSettled x r s = t; unfold reportSettled at h; (repeat' split at h) <;> subst h <;> simp

@[simp] theorem endReading_frame (n : Nat) (t : Totaliser) (s : State) :
    (endReading n t s).pending = s.pending ∧
    (endReading n t s).now = s.now ∧
    (endReading n t s).free = s.free ∧
    (endReading n t s).cfg = s.cfg ∧
    (endReading n t s).door1 = s.door1 ∧
    (endReading n t s).door2 = s.door2 ∧
    (endReading n t s).minuteAt = s.minuteAt ∧
    (endReading n t s).store = s.store ∧
    (endReading n t s).alc = s.alc ∧
    (endReading n t s).lsu = s.lsu ∧
    (endReading n t s).pbc = s.pbc ∧
    (endReading n t s).acu = s.acu ∧
    (endReading n t s).gtc = s.gtc ∧
    (endReading n t s).dck = s.dck ∧
    (endReading n t s).tpc = s.tpc ∧
    (endReading n t s).cfl = s.cfl := by
  generalize h : endReading n t s = u; unfold endReading at h; (try dsimp only at h); (repeat' split at h) <;> subst h <;> simp

@[simp] theorem holdResult_frame (id : HoldId) (r : HoldResult) (s : State) :
    (holdResult id r s).pending = s.pending ∧
    (holdResult id r s).now = s.now ∧
    (holdResult id r s).free = s.free ∧
    (holdResult id r s).cfg = s.cfg ∧
    (holdResult id r s).door1 = s.door1 ∧
    (holdResult id r s).door2 = s.door2 ∧
    (holdResult id r s).minuteAt = s.minuteAt ∧
    (holdResult id r s).store = s.store ∧
    (holdResult id r s).alc = s.alc ∧
    (holdResult id r s).lsu = s.lsu ∧
    (holdResult id r s).pbc = s.pbc ∧
    (holdResult id r s).acu = s.acu ∧
    (holdResult id r s).gtc = s.gtc ∧
    (holdResult id r s).dck = s.dck ∧
    (holdResult id r s).tpc = s.tpc ∧
    (holdResult id r s).cfl = s.cfl := by
  generalize h : holdResult id r s = t; unfold holdResult at h; (repeat' split at h) <;> subst h <;> simp

@[simp] theorem pumpSettled_frame (id : HoldId) (r : SettleResult) (s : State) :
    (pumpSettled id r s).pending = s.pending ∧
    (pumpSettled id r s).now = s.now ∧
    (pumpSettled id r s).free = s.free ∧
    (pumpSettled id r s).cfg = s.cfg ∧
    (pumpSettled id r s).door1 = s.door1 ∧
    (pumpSettled id r s).door2 = s.door2 ∧
    (pumpSettled id r s).minuteAt = s.minuteAt ∧
    (pumpSettled id r s).store = s.store ∧
    (pumpSettled id r s).alc = s.alc ∧
    (pumpSettled id r s).lsu = s.lsu ∧
    (pumpSettled id r s).pbc = s.pbc ∧
    (pumpSettled id r s).acu = s.acu ∧
    (pumpSettled id r s).gtc = s.gtc ∧
    (pumpSettled id r s).dck = s.dck ∧
    (pumpSettled id r s).tpc = s.tpc ∧
    (pumpSettled id r s).cfl = s.cfl := by
  generalize h : pumpSettled id r s = t; unfold pumpSettled at h; split at h <;> subst h <;> simp

@[simp] theorem listSettled_frame (id : HoldId) (r : SettleResult) (s : State) :
    (listSettled id r s).pending = s.pending ∧
    (listSettled id r s).now = s.now ∧
    (listSettled id r s).free = s.free ∧
    (listSettled id r s).cfg = s.cfg ∧
    (listSettled id r s).door1 = s.door1 ∧
    (listSettled id r s).door2 = s.door2 ∧
    (listSettled id r s).minuteAt = s.minuteAt ∧
    (listSettled id r s).store = s.store ∧
    (listSettled id r s).alc = s.alc ∧
    (listSettled id r s).lsu = s.lsu ∧
    (listSettled id r s).pbc = s.pbc ∧
    (listSettled id r s).acu = s.acu ∧
    (listSettled id r s).gtc = s.gtc ∧
    (listSettled id r s).dck = s.dck ∧
    (listSettled id r s).tpc = s.tpc ∧
    (listSettled id r s).cfl = s.cfl := by
  generalize h : listSettled id r s = t; unfold listSettled at h; split at h <;> subst h <;> simp

@[simp] theorem pumpTimedOut_frame (id : HoldId) (s : State) :
    (pumpTimedOut id s).pending = s.pending ∧
    (pumpTimedOut id s).now = s.now ∧
    (pumpTimedOut id s).free = s.free ∧
    (pumpTimedOut id s).cfg = s.cfg ∧
    (pumpTimedOut id s).door1 = s.door1 ∧
    (pumpTimedOut id s).door2 = s.door2 ∧
    (pumpTimedOut id s).minuteAt = s.minuteAt ∧
    (pumpTimedOut id s).store = s.store ∧
    (pumpTimedOut id s).alc = s.alc ∧
    (pumpTimedOut id s).lsu = s.lsu ∧
    (pumpTimedOut id s).pbc = s.pbc ∧
    (pumpTimedOut id s).acu = s.acu ∧
    (pumpTimedOut id s).gtc = s.gtc ∧
    (pumpTimedOut id s).dck = s.dck ∧
    (pumpTimedOut id s).tpc = s.tpc ∧
    (pumpTimedOut id s).cfl = s.cfl := by
  generalize h : pumpTimedOut id s = t; unfold pumpTimedOut at h; (repeat' split at h) <;> subst h <;> simp

@[simp] theorem listTimedOut_frame (id : HoldId) (s : State) :
    (listTimedOut id s).pending = s.pending ∧
    (listTimedOut id s).now = s.now ∧
    (listTimedOut id s).free = s.free ∧
    (listTimedOut id s).cfg = s.cfg ∧
    (listTimedOut id s).door1 = s.door1 ∧
    (listTimedOut id s).door2 = s.door2 ∧
    (listTimedOut id s).minuteAt = s.minuteAt ∧
    (listTimedOut id s).store = s.store ∧
    (listTimedOut id s).bst = s.bst ∧
    (listTimedOut id s).alc = s.alc ∧
    (listTimedOut id s).lsu = s.lsu ∧
    (listTimedOut id s).pbc = s.pbc ∧
    (listTimedOut id s).acu = s.acu ∧
    (listTimedOut id s).gtc = s.gtc ∧
    (listTimedOut id s).dck = s.dck ∧
    (listTimedOut id s).qlc = s.qlc ∧
    (listTimedOut id s).tpc = s.tpc ∧
    (listTimedOut id s).evj = s.evj ∧
    (listTimedOut id s).cfl = s.cfl := by
  simp [listTimedOut]

@[simp] theorem beginSale_frame (p : Pump) (t : Tag) (c : Credential) (s : State) :
    (beginSale p t c s).pending = s.pending ∧
    (beginSale p t c s).now = s.now ∧
    (beginSale p t c s).free = s.free ∧
    (beginSale p t c s).cfg = s.cfg ∧
    (beginSale p t c s).door1 = s.door1 ∧
    (beginSale p t c s).door2 = s.door2 ∧
    (beginSale p t c s).minuteAt = s.minuteAt ∧
    (beginSale p t c s).store = s.store ∧
    (beginSale p t c s).alc = s.alc ∧
    (beginSale p t c s).lsu = s.lsu ∧
    (beginSale p t c s).pbc = s.pbc ∧
    (beginSale p t c s).acu = s.acu ∧
    (beginSale p t c s).gtc = s.gtc ∧
    (beginSale p t c s).dck = s.dck ∧
    (beginSale p t c s).tpc = s.tpc ∧
    (beginSale p t c s).cfl = s.cfl := by
  generalize h : beginSale p t c s = u; unfold beginSale at h; (try dsimp only at h); (repeat' split at h) <;> subst h <;> simp

@[simp] theorem deliverPump_frame (n : Nat) (t : Tag) (r : LookupResult) (s : State) :
    (deliverPump n t r s).pending = s.pending ∧
    (deliverPump n t r s).now = s.now ∧
    (deliverPump n t r s).free = s.free ∧
    (deliverPump n t r s).cfg = s.cfg ∧
    (deliverPump n t r s).door1 = s.door1 ∧
    (deliverPump n t r s).door2 = s.door2 ∧
    (deliverPump n t r s).minuteAt = s.minuteAt ∧
    (deliverPump n t r s).store = s.store ∧
    (deliverPump n t r s).alc = s.alc ∧
    (deliverPump n t r s).lsu = s.lsu ∧
    (deliverPump n t r s).pbc = s.pbc ∧
    (deliverPump n t r s).acu = s.acu ∧
    (deliverPump n t r s).gtc = s.gtc ∧
    (deliverPump n t r s).dck = s.dck ∧
    (deliverPump n t r s).tpc = s.tpc ∧
    (deliverPump n t r s).cfl = s.cfl := by
  generalize h : deliverPump n t r s = u; unfold deliverPump at h; (try dsimp only at h); (repeat' split at h) <;> subst h <;> simp

@[simp] theorem noteFlow_frame (n : Nat) (b : Option PumpReading) (w : PumpReading) (s : State) :
    (noteFlow n b w s).pending = s.pending ∧
    (noteFlow n b w s).now = s.now ∧
    (noteFlow n b w s).free = s.free ∧
    (noteFlow n b w s).cfg = s.cfg ∧
    (noteFlow n b w s).door1 = s.door1 ∧
    (noteFlow n b w s).door2 = s.door2 ∧
    (noteFlow n b w s).minuteAt = s.minuteAt ∧
    (noteFlow n b w s).store = s.store ∧
    (noteFlow n b w s).bst = s.bst ∧
    (noteFlow n b w s).alc = s.alc ∧
    (noteFlow n b w s).lsu = s.lsu ∧
    (noteFlow n b w s).pbc = s.pbc ∧
    (noteFlow n b w s).acu = s.acu ∧
    (noteFlow n b w s).gtc = s.gtc ∧
    (noteFlow n b w s).fsc = s.fsc ∧
    (noteFlow n b w s).dck = s.dck ∧
    (noteFlow n b w s).qlc = s.qlc ∧
    (noteFlow n b w s).tpc = s.tpc ∧
    (noteFlow n b w s).cfl = s.cfl := by
  generalize h : noteFlow n b w s = t; unfold noteFlow at h; (repeat' split at h) <;> subst h <;> simp

@[simp] theorem leaveFault_frame (p : Pump) (r : PumpReading) (s : State) :
    (leaveFault p r s).pending = s.pending ∧
    (leaveFault p r s).now = s.now ∧
    (leaveFault p r s).free = s.free ∧
    (leaveFault p r s).cfg = s.cfg ∧
    (leaveFault p r s).door1 = s.door1 ∧
    (leaveFault p r s).door2 = s.door2 ∧
    (leaveFault p r s).minuteAt = s.minuteAt ∧
    (leaveFault p r s).store = s.store ∧
    (leaveFault p r s).alc = s.alc ∧
    (leaveFault p r s).lsu = s.lsu ∧
    (leaveFault p r s).pbc = s.pbc ∧
    (leaveFault p r s).acu = s.acu ∧
    (leaveFault p r s).gtc = s.gtc ∧
    (leaveFault p r s).dck = s.dck ∧
    (leaveFault p r s).tpc = s.tpc ∧
    (leaveFault p r s).cfl = s.cfl := by
  generalize h : leaveFault p r s = t; unfold leaveFault at h; (repeat' split at h) <;> subst h <;> simp

@[simp] theorem pumpState_frame (p : Pump) (c : PumpCommand) (r : PumpReading) (s : State) :
    (pumpState p c r s).pending = s.pending ∧
    (pumpState p c r s).now = s.now ∧
    (pumpState p c r s).free = s.free ∧
    (pumpState p c r s).cfg = s.cfg ∧
    (pumpState p c r s).door1 = s.door1 ∧
    (pumpState p c r s).door2 = s.door2 ∧
    (pumpState p c r s).minuteAt = s.minuteAt ∧
    (pumpState p c r s).store = s.store ∧
    (pumpState p c r s).alc = s.alc ∧
    (pumpState p c r s).lsu = s.lsu ∧
    (pumpState p c r s).pbc = s.pbc ∧
    (pumpState p c r s).acu = s.acu ∧
    (pumpState p c r s).gtc = s.gtc ∧
    (pumpState p c r s).dck = s.dck ∧
    (pumpState p c r s).tpc = s.tpc ∧
    (pumpState p c r s).cfl = s.cfl := by
  generalize h : pumpState p c r s = t; unfold pumpState at h; (repeat' split at h) <;> subst h <;> simp

@[simp] theorem enterFault_frame (p : Pump) (s : State) :
    (enterFault p s).pending = s.pending ∧
    (enterFault p s).now = s.now ∧
    (enterFault p s).free = s.free ∧
    (enterFault p s).cfg = s.cfg ∧
    (enterFault p s).door1 = s.door1 ∧
    (enterFault p s).door2 = s.door2 ∧
    (enterFault p s).minuteAt = s.minuteAt ∧
    (enterFault p s).store = s.store ∧
    (enterFault p s).alc = s.alc ∧
    (enterFault p s).lsu = s.lsu ∧
    (enterFault p s).pbc = s.pbc ∧
    (enterFault p s).acu = s.acu ∧
    (enterFault p s).gtc = s.gtc ∧
    (enterFault p s).dck = s.dck ∧
    (enterFault p s).tpc = s.tpc ∧
    (enterFault p s).cfl = s.cfl := by
  generalize h : enterFault p s = t; unfold enterFault at h; (repeat' split at h) <;> subst h <;> simp

@[simp] theorem doDirectAuthorise_frame (n a : Nat) (s : State) :
    ((doDirectAuthorise n a s).1).pending = s.pending ∧
    ((doDirectAuthorise n a s).1).now = s.now ∧
    ((doDirectAuthorise n a s).1).free = s.free ∧
    ((doDirectAuthorise n a s).1).cfg = s.cfg ∧
    ((doDirectAuthorise n a s).1).door1 = s.door1 ∧
    ((doDirectAuthorise n a s).1).door2 = s.door2 ∧
    ((doDirectAuthorise n a s).1).minuteAt = s.minuteAt ∧
    ((doDirectAuthorise n a s).1).store = s.store ∧
    ((doDirectAuthorise n a s).1).alc = s.alc ∧
    ((doDirectAuthorise n a s).1).lsu = s.lsu ∧
    ((doDirectAuthorise n a s).1).pbc = s.pbc ∧
    ((doDirectAuthorise n a s).1).acu = s.acu ∧
    ((doDirectAuthorise n a s).1).gtc = s.gtc ∧
    ((doDirectAuthorise n a s).1).dck = s.dck ∧
    ((doDirectAuthorise n a s).1).tpc = s.tpc ∧
    ((doDirectAuthorise n a s).1).cfl = s.cfl := by
  generalize h : doDirectAuthorise n a s = t; unfold doDirectAuthorise at h; (try unfold onAddressed at h); (try unfold onNamedOutlet at h); (try dsimp only at h); (repeat' split at h) <;> subst h <;> simp

@[simp] theorem doCancelSale_frame (n : Nat) (s : State) :
    ((doCancelSale n s).1).pending = s.pending ∧
    ((doCancelSale n s).1).now = s.now ∧
    ((doCancelSale n s).1).free = s.free ∧
    ((doCancelSale n s).1).cfg = s.cfg ∧
    ((doCancelSale n s).1).door1 = s.door1 ∧
    ((doCancelSale n s).1).door2 = s.door2 ∧
    ((doCancelSale n s).1).minuteAt = s.minuteAt ∧
    ((doCancelSale n s).1).store = s.store ∧
    ((doCancelSale n s).1).alc = s.alc ∧
    ((doCancelSale n s).1).lsu = s.lsu ∧
    ((doCancelSale n s).1).pbc = s.pbc ∧
    ((doCancelSale n s).1).acu = s.acu ∧
    ((doCancelSale n s).1).gtc = s.gtc ∧
    ((doCancelSale n s).1).dck = s.dck ∧
    ((doCancelSale n s).1).tpc = s.tpc ∧
    ((doCancelSale n s).1).cfl = s.cfl := by
  generalize h : doCancelSale n s = t; unfold doCancelSale at h; (try unfold onAddressed at h); (try unfold onNamedOutlet at h); (try dsimp only at h); (repeat' split at h) <;> subst h <;> simp

@[simp] theorem doWriteOffSale_frame (n : Nat) (x : Num8) (s : State) :
    ((doWriteOffSale n x s).1).pending = s.pending ∧
    ((doWriteOffSale n x s).1).now = s.now ∧
    ((doWriteOffSale n x s).1).free = s.free ∧
    ((doWriteOffSale n x s).1).cfg = s.cfg ∧
    ((doWriteOffSale n x s).1).door1 = s.door1 ∧
    ((doWriteOffSale n x s).1).door2 = s.door2 ∧
    ((doWriteOffSale n x s).1).minuteAt = s.minuteAt ∧
    ((doWriteOffSale n x s).1).store = s.store ∧
    ((doWriteOffSale n x s).1).alc = s.alc ∧
    ((doWriteOffSale n x s).1).lsu = s.lsu ∧
    ((doWriteOffSale n x s).1).pbc = s.pbc ∧
    ((doWriteOffSale n x s).1).acu = s.acu ∧
    ((doWriteOffSale n x s).1).gtc = s.gtc ∧
    ((doWriteOffSale n x s).1).dck = s.dck ∧
    ((doWriteOffSale n x s).1).tpc = s.tpc ∧
    ((doWriteOffSale n x s).1).cfl = s.cfl := by
  generalize h : doWriteOffSale n x s = t; unfold doWriteOffSale at h; (try unfold onAddressed at h); (try unfold onNamedOutlet at h); (try dsimp only at h); (repeat' split at h) <;> subst h <;> simp

@[simp] theorem doSaleStatus_frame (r l : Nat) (s : State) :
    ((doSaleStatus r l s).1).pending = s.pending ∧
    ((doSaleStatus r l s).1).now = s.now ∧
    ((doSaleStatus r l s).1).free = s.free ∧
    ((doSaleStatus r l s).1).cfg = s.cfg ∧
    ((doSaleStatus r l s).1).door1 = s.door1 ∧
    ((doSaleStatus r l s).1).door2 = s.door2 ∧
    ((doSaleStatus r l s).1).minuteAt = s.minuteAt ∧
    ((doSaleStatus r l s).1).store = s.store ∧
    ((doSaleStatus r l s).1).bst = s.bst ∧
    ((doSaleStatus r l s).1).alc = s.alc ∧
    ((doSaleStatus r l s).1).lsu = s.lsu ∧
    ((doSaleStatus r l s).1).pbc = s.pbc ∧
    ((doSaleStatus r l s).1).acu = s.acu ∧
    ((doSaleStatus r l s).1).gtc = s.gtc ∧
    ((doSaleStatus r l s).1).fsc = s.fsc ∧
    ((doSaleStatus r l s).1).dck = s.dck ∧
    ((doSaleStatus r l s).1).qlc = s.qlc ∧
    ((doSaleStatus r l s).1).tpc = s.tpc ∧
    ((doSaleStatus r l s).1).evj = s.evj ∧
    ((doSaleStatus r l s).1).cfl = s.cfl := by
  generalize h : doSaleStatus r l s = t; unfold doSaleStatus at h; (try unfold onAddressed at h); (try unfold onNamedOutlet at h); (try dsimp only at h); (repeat' split at h) <;> subst h <;> simp

@[simp] theorem retryWalk_frame (l : List HoldId) (s : State) :
    (retryWalk l s).pending = s.pending ∧
    (retryWalk l s).now = s.now ∧
    (retryWalk l s).free = s.free ∧
    (retryWalk l s).cfg = s.cfg ∧
    (retryWalk l s).door1 = s.door1 ∧
    (retryWalk l s).door2 = s.door2 ∧
    (retryWalk l s).minuteAt = s.minuteAt ∧
    (retryWalk l s).store = s.store ∧
    (retryWalk l s).alc = s.alc ∧
    (retryWalk l s).lsu = s.lsu ∧
    (retryWalk l s).pbc = s.pbc ∧
    (retryWalk l s).acu = s.acu ∧
    (retryWalk l s).gtc = s.gtc ∧
    (retryWalk l s).dck = s.dck ∧
    (retryWalk l s).tpc = s.tpc ∧
    (retryWalk l s).cfl = s.cfl := by
  induction l generalizing s with
  | nil => simp [retryWalk]
  | cons n l ih =>
    generalize h : retryWalk (n :: l) s = t
    unfold retryWalk at h
    (try dsimp only at h)
    (repeat' split at h) <;> subst h <;> simp [ih]

end Sys2Proof.Machine
end

