-- ==== Sys2Proof/Laws/Frame/Gates.lean ====
section
/-! SUPPORT. Frames of GTC: the fields of the state each operation leaves as they were. -/

namespace Sys2Proof.Machine

@[simp] theorem changeGate_frame (n : Nat) (g : Gate → Gate) (s : State) :
    (changeGate n g s).pending = s.pending ∧
    (changeGate n g s).now = s.now ∧
    (changeGate n g s).free = s.free ∧
    (changeGate n g s).cfg = s.cfg ∧
    (changeGate n g s).door1 = s.door1 ∧
    (changeGate n g s).door2 = s.door2 ∧
    (changeGate n g s).minuteAt = s.minuteAt ∧
    (changeGate n g s).store = s.store ∧
    (changeGate n g s).bst = s.bst ∧
    (changeGate n g s).alc = s.alc ∧
    (changeGate n g s).lsu = s.lsu ∧
    (changeGate n g s).pbc = s.pbc ∧
    (changeGate n g s).acu = s.acu ∧
    (changeGate n g s).fsc = s.fsc ∧
    (changeGate n g s).dck = s.dck ∧
    (changeGate n g s).qlc = s.qlc ∧
    (changeGate n g s).tpc = s.tpc ∧
    (changeGate n g s).evj = s.evj ∧
    (changeGate n g s).cfl = s.cfl := by
  simp [changeGate]

@[simp] theorem raiseEscort_frame (n : Nat) (c : Credential) (s : State) :
    (raiseEscort n c s).pending = s.pending ∧
    (raiseEscort n c s).now = s.now ∧
    (raiseEscort n c s).free = s.free ∧
    (raiseEscort n c s).cfg = s.cfg ∧
    (raiseEscort n c s).door1 = s.door1 ∧
    (raiseEscort n c s).door2 = s.door2 ∧
    (raiseEscort n c s).minuteAt = s.minuteAt ∧
    (raiseEscort n c s).store = s.store ∧
    (raiseEscort n c s).bst = s.bst ∧
    (raiseEscort n c s).alc = s.alc ∧
    (raiseEscort n c s).lsu = s.lsu ∧
    (raiseEscort n c s).pbc = s.pbc ∧
    (raiseEscort n c s).acu = s.acu ∧
    (raiseEscort n c s).fsc = s.fsc ∧
    (raiseEscort n c s).dck = s.dck ∧
    (raiseEscort n c s).qlc = s.qlc ∧
    (raiseEscort n c s).tpc = s.tpc ∧
    (raiseEscort n c s).cfl = s.cfl := by
  generalize h : raiseEscort n c s = t; unfold raiseEscort at h; split at h <;> subst h <;> simp

@[simp] theorem raiseAjar_frame (g : Gate) (s : State) :
    (raiseAjar g s).pending = s.pending ∧
    (raiseAjar g s).now = s.now ∧
    (raiseAjar g s).free = s.free ∧
    (raiseAjar g s).cfg = s.cfg ∧
    (raiseAjar g s).door1 = s.door1 ∧
    (raiseAjar g s).door2 = s.door2 ∧
    (raiseAjar g s).minuteAt = s.minuteAt ∧
    (raiseAjar g s).store = s.store ∧
    (raiseAjar g s).bst = s.bst ∧
    (raiseAjar g s).alc = s.alc ∧
    (raiseAjar g s).lsu = s.lsu ∧
    (raiseAjar g s).pbc = s.pbc ∧
    (raiseAjar g s).acu = s.acu ∧
    (raiseAjar g s).fsc = s.fsc ∧
    (raiseAjar g s).dck = s.dck ∧
    (raiseAjar g s).qlc = s.qlc ∧
    (raiseAjar g s).tpc = s.tpc ∧
    (raiseAjar g s).cfl = s.cfl := by
  simp [raiseAjar]

@[simp] theorem record_frame (n : Nat) (t : Tag) (r : LookupResult) (d : Decision) (s : State) :
    (record n t r d s).pending = s.pending ∧
    (record n t r d s).now = s.now ∧
    (record n t r d s).free = s.free ∧
    (record n t r d s).cfg = s.cfg ∧
    (record n t r d s).door1 = s.door1 ∧
    (record n t r d s).door2 = s.door2 ∧
    (record n t r d s).minuteAt = s.minuteAt ∧
    (record n t r d s).store = s.store ∧
    (record n t r d s).bst = s.bst ∧
    (record n t r d s).alc = s.alc ∧
    (record n t r d s).lsu = s.lsu ∧
    (record n t r d s).pbc = s.pbc ∧
    (record n t r d s).acu = s.acu ∧
    (record n t r d s).fsc = s.fsc ∧
    (record n t r d s).dck = s.dck ∧
    (record n t r d s).qlc = s.qlc ∧
    (record n t r d s).tpc = s.tpc ∧
    (record n t r d s).cfl = s.cfl := by
  generalize h : record n t r d s = t; unfold record at h; (repeat' split at h) <;> subst h <;> simp

@[simp] theorem releaseGate_frame (n : Nat) (s : State) :
    (releaseGate n s).pending = s.pending ∧
    (releaseGate n s).now = s.now ∧
    (releaseGate n s).free = s.free ∧
    (releaseGate n s).cfg = s.cfg ∧
    (releaseGate n s).door1 = s.door1 ∧
    (releaseGate n s).door2 = s.door2 ∧
    (releaseGate n s).minuteAt = s.minuteAt ∧
    (releaseGate n s).store = s.store ∧
    (releaseGate n s).bst = s.bst ∧
    (releaseGate n s).alc = s.alc ∧
    (releaseGate n s).lsu = s.lsu ∧
    (releaseGate n s).pbc = s.pbc ∧
    (releaseGate n s).acu = s.acu ∧
    (releaseGate n s).fsc = s.fsc ∧
    (releaseGate n s).dck = s.dck ∧
    (releaseGate n s).qlc = s.qlc ∧
    (releaseGate n s).tpc = s.tpc ∧
    (releaseGate n s).evj = s.evj ∧
    (releaseGate n s).cfl = s.cfl := by
  simp [releaseGate]

@[simp] theorem deliverGate_frame (n : Nat) (t : Tag) (r : LookupResult) (s : State) :
    (deliverGate n t r s).pending = s.pending ∧
    (deliverGate n t r s).now = s.now ∧
    (deliverGate n t r s).free = s.free ∧
    (deliverGate n t r s).cfg = s.cfg ∧
    (deliverGate n t r s).door1 = s.door1 ∧
    (deliverGate n t r s).door2 = s.door2 ∧
    (deliverGate n t r s).minuteAt = s.minuteAt ∧
    (deliverGate n t r s).store = s.store ∧
    (deliverGate n t r s).bst = s.bst ∧
    (deliverGate n t r s).alc = s.alc ∧
    (deliverGate n t r s).lsu = s.lsu ∧
    (deliverGate n t r s).pbc = s.pbc ∧
    (deliverGate n t r s).acu = s.acu ∧
    (deliverGate n t r s).fsc = s.fsc ∧
    (deliverGate n t r s).dck = s.dck ∧
    (deliverGate n t r s).qlc = s.qlc ∧
    (deliverGate n t r s).tpc = s.tpc ∧
    (deliverGate n t r s).cfl = s.cfl := by
  generalize h : deliverGate n t r s = t; unfold deliverGate at h; (try dsimp only at h); (repeat' split at h) <;> subst h <;> simp

@[simp] theorem doorOpens_frame (g : Gate) (s : State) :
    (doorOpens g s).pending = s.pending ∧
    (doorOpens g s).now = s.now ∧
    (doorOpens g s).free = s.free ∧
    (doorOpens g s).cfg = s.cfg ∧
    (doorOpens g s).door1 = s.door1 ∧
    (doorOpens g s).door2 = s.door2 ∧
    (doorOpens g s).minuteAt = s.minuteAt ∧
    (doorOpens g s).store = s.store ∧
    (doorOpens g s).bst = s.bst ∧
    (doorOpens g s).alc = s.alc ∧
    (doorOpens g s).lsu = s.lsu ∧
    (doorOpens g s).pbc = s.pbc ∧
    (doorOpens g s).acu = s.acu ∧
    (doorOpens g s).fsc = s.fsc ∧
    (doorOpens g s).dck = s.dck ∧
    (doorOpens g s).qlc = s.qlc ∧
    (doorOpens g s).tpc = s.tpc ∧
    (doorOpens g s).cfl = s.cfl := by
  generalize h : doorOpens g s = t; unfold doorOpens at h; split at h <;> subst h <;> simp

@[simp] theorem doorCloses_frame (g : Gate) (s : State) :
    (doorCloses g s).pending = s.pending ∧
    (doorCloses g s).now = s.now ∧
    (doorCloses g s).free = s.free ∧
    (doorCloses g s).cfg = s.cfg ∧
    (doorCloses g s).door1 = s.door1 ∧
    (doorCloses g s).door2 = s.door2 ∧
    (doorCloses g s).minuteAt = s.minuteAt ∧
    (doorCloses g s).store = s.store ∧
    (doorCloses g s).bst = s.bst ∧
    (doorCloses g s).alc = s.alc ∧
    (doorCloses g s).lsu = s.lsu ∧
    (doorCloses g s).pbc = s.pbc ∧
    (doorCloses g s).acu = s.acu ∧
    (doorCloses g s).fsc = s.fsc ∧
    (doorCloses g s).dck = s.dck ∧
    (doorCloses g s).qlc = s.qlc ∧
    (doorCloses g s).tpc = s.tpc ∧
    (doorCloses g s).cfl = s.cfl := by
  generalize h : doorCloses g s = t; unfold doorCloses at h; split at h <;> subst h <;> simp

@[simp] theorem moveMode_frame (g : Gate) (m : GateMode) (s : State) :
    (moveMode g m s).pending = s.pending ∧
    (moveMode g m s).now = s.now ∧
    (moveMode g m s).free = s.free ∧
    (moveMode g m s).cfg = s.cfg ∧
    (moveMode g m s).door1 = s.door1 ∧
    (moveMode g m s).door2 = s.door2 ∧
    (moveMode g m s).minuteAt = s.minuteAt ∧
    (moveMode g m s).store = s.store ∧
    (moveMode g m s).bst = s.bst ∧
    (moveMode g m s).alc = s.alc ∧
    (moveMode g m s).lsu = s.lsu ∧
    (moveMode g m s).pbc = s.pbc ∧
    (moveMode g m s).acu = s.acu ∧
    (moveMode g m s).fsc = s.fsc ∧
    (moveMode g m s).dck = s.dck ∧
    (moveMode g m s).qlc = s.qlc ∧
    (moveMode g m s).tpc = s.tpc ∧
    (moveMode g m s).cfl = s.cfl := by
  generalize h : moveMode g m s = t; unfold moveMode at h; (repeat' split at h) <;> subst h <;> simp

@[simp] theorem doSetGateMode_frame (n : Nat) (m : Option GateMode) (s : State) :
    ((doSetGateMode n m s).1).pending = s.pending ∧
    ((doSetGateMode n m s).1).now = s.now ∧
    ((doSetGateMode n m s).1).free = s.free ∧
    ((doSetGateMode n m s).1).cfg = s.cfg ∧
    ((doSetGateMode n m s).1).door1 = s.door1 ∧
    ((doSetGateMode n m s).1).door2 = s.door2 ∧
    ((doSetGateMode n m s).1).minuteAt = s.minuteAt ∧
    ((doSetGateMode n m s).1).store = s.store ∧
    ((doSetGateMode n m s).1).bst = s.bst ∧
    ((doSetGateMode n m s).1).alc = s.alc ∧
    ((doSetGateMode n m s).1).lsu = s.lsu ∧
    ((doSetGateMode n m s).1).pbc = s.pbc ∧
    ((doSetGateMode n m s).1).acu = s.acu ∧
    ((doSetGateMode n m s).1).fsc = s.fsc ∧
    ((doSetGateMode n m s).1).dck = s.dck ∧
    ((doSetGateMode n m s).1).qlc = s.qlc ∧
    ((doSetGateMode n m s).1).tpc = s.tpc ∧
    ((doSetGateMode n m s).1).cfl = s.cfl := by
  generalize h : doSetGateMode n m s = t; unfold doSetGateMode at h; (try unfold onAddressed at h); (try unfold onNamedOutlet at h); (try dsimp only at h); (repeat' split at h) <;> subst h <;> simp

@[simp] theorem doGateStatus_frame (r l : Nat) (s : State) :
    ((doGateStatus r l s).1).pending = s.pending ∧
    ((doGateStatus r l s).1).now = s.now ∧
    ((doGateStatus r l s).1).free = s.free ∧
    ((doGateStatus r l s).1).cfg = s.cfg ∧
    ((doGateStatus r l s).1).door1 = s.door1 ∧
    ((doGateStatus r l s).1).door2 = s.door2 ∧
    ((doGateStatus r l s).1).minuteAt = s.minuteAt ∧
    ((doGateStatus r l s).1).store = s.store ∧
    ((doGateStatus r l s).1).bst = s.bst ∧
    ((doGateStatus r l s).1).alc = s.alc ∧
    ((doGateStatus r l s).1).lsu = s.lsu ∧
    ((doGateStatus r l s).1).pbc = s.pbc ∧
    ((doGateStatus r l s).1).acu = s.acu ∧
    ((doGateStatus r l s).1).gtc = s.gtc ∧
    ((doGateStatus r l s).1).fsc = s.fsc ∧
    ((doGateStatus r l s).1).dck = s.dck ∧
    ((doGateStatus r l s).1).qlc = s.qlc ∧
    ((doGateStatus r l s).1).tpc = s.tpc ∧
    ((doGateStatus r l s).1).evj = s.evj ∧
    ((doGateStatus r l s).1).cfl = s.cfl := by
  generalize h : doGateStatus r l s = t; unfold doGateStatus at h; (try unfold onAddressed at h); (try unfold onNamedOutlet at h); (try dsimp only at h); (repeat' split at h) <;> subst h <;> simp

@[simp] theorem doGateAck_frame (n : Nat) (k : NoticeKind) (s : State) :
    ((doGateAck n k s).1).pending = s.pending ∧
    ((doGateAck n k s).1).now = s.now ∧
    ((doGateAck n k s).1).free = s.free ∧
    ((doGateAck n k s).1).cfg = s.cfg ∧
    ((doGateAck n k s).1).door1 = s.door1 ∧
    ((doGateAck n k s).1).door2 = s.door2 ∧
    ((doGateAck n k s).1).minuteAt = s.minuteAt ∧
    ((doGateAck n k s).1).store = s.store ∧
    ((doGateAck n k s).1).bst = s.bst ∧
    ((doGateAck n k s).1).alc = s.alc ∧
    ((doGateAck n k s).1).lsu = s.lsu ∧
    ((doGateAck n k s).1).pbc = s.pbc ∧
    ((doGateAck n k s).1).acu = s.acu ∧
    ((doGateAck n k s).1).fsc = s.fsc ∧
    ((doGateAck n k s).1).dck = s.dck ∧
    ((doGateAck n k s).1).qlc = s.qlc ∧
    ((doGateAck n k s).1).tpc = s.tpc ∧
    ((doGateAck n k s).1).cfl = s.cfl := by
  generalize h : doGateAck n k s = t; unfold doGateAck at h; (try unfold onAddressed at h); (try unfold onNamedOutlet at h); (try dsimp only at h); (repeat' split at h) <;> subst h <;> simp

@[simp] theorem pressExit_frame (g : Gate) (s : State) :
    (pressExit g s).pending = s.pending ∧
    (pressExit g s).now = s.now ∧
    (pressExit g s).free = s.free ∧
    (pressExit g s).cfg = s.cfg ∧
    (pressExit g s).door1 = s.door1 ∧
    (pressExit g s).door2 = s.door2 ∧
    (pressExit g s).minuteAt = s.minuteAt ∧
    (pressExit g s).store = s.store ∧
    (pressExit g s).bst = s.bst ∧
    (pressExit g s).alc = s.alc ∧
    (pressExit g s).lsu = s.lsu ∧
    (pressExit g s).pbc = s.pbc ∧
    (pressExit g s).acu = s.acu ∧
    (pressExit g s).fsc = s.fsc ∧
    (pressExit g s).dck = s.dck ∧
    (pressExit g s).qlc = s.qlc ∧
    (pressExit g s).tpc = s.tpc ∧
    (pressExit g s).evj = s.evj ∧
    (pressExit g s).cfl = s.cfl := by
  generalize h : pressExit g s = t; unfold pressExit at h; split at h <;> subst h <;> simp

@[simp] theorem pressFaultExit_frame (n : Nat) (s : State) :
    (pressFaultExit n s).pending = s.pending ∧
    (pressFaultExit n s).now = s.now ∧
    (pressFaultExit n s).free = s.free ∧
    (pressFaultExit n s).cfg = s.cfg ∧
    (pressFaultExit n s).door1 = s.door1 ∧
    (pressFaultExit n s).door2 = s.door2 ∧
    (pressFaultExit n s).minuteAt = s.minuteAt ∧
    (pressFaultExit n s).store = s.store ∧
    (pressFaultExit n s).bst = s.bst ∧
    (pressFaultExit n s).alc = s.alc ∧
    (pressFaultExit n s).lsu = s.lsu ∧
    (pressFaultExit n s).pbc = s.pbc ∧
    (pressFaultExit n s).acu = s.acu ∧
    (pressFaultExit n s).fsc = s.fsc ∧
    (pressFaultExit n s).dck = s.dck ∧
    (pressFaultExit n s).qlc = s.qlc ∧
    (pressFaultExit n s).tpc = s.tpc ∧
    (pressFaultExit n s).evj = s.evj ∧
    (pressFaultExit n s).cfl = s.cfl := by
  generalize h : pressFaultExit n s = t; unfold pressFaultExit at h; (repeat' split at h) <;> subst h <;> simp

@[simp] theorem setDoorLine_frame (n : Nat) (d : Door) (s : State) :
    (setDoorLine n d s).pending = s.pending ∧
    (setDoorLine n d s).now = s.now ∧
    (setDoorLine n d s).free = s.free ∧
    (setDoorLine n d s).cfg = s.cfg ∧
    (setDoorLine n d s).minuteAt = s.minuteAt ∧
    (setDoorLine n d s).store = s.store ∧
    (setDoorLine n d s).bst = s.bst ∧
    (setDoorLine n d s).alc = s.alc ∧
    (setDoorLine n d s).lsu = s.lsu ∧
    (setDoorLine n d s).pbc = s.pbc ∧
    (setDoorLine n d s).acu = s.acu ∧
    (setDoorLine n d s).gtc = s.gtc ∧
    (setDoorLine n d s).fsc = s.fsc ∧
    (setDoorLine n d s).dck = s.dck ∧
    (setDoorLine n d s).qlc = s.qlc ∧
    (setDoorLine n d s).tpc = s.tpc ∧
    (setDoorLine n d s).evj = s.evj ∧
    (setDoorLine n d s).cfl = s.cfl := by
  generalize h : setDoorLine n d s = t; unfold setDoorLine at h; (repeat' split at h) <;> subst h <;> simp

end Sys2Proof.Machine
end

