-- ==== Sys2Proof/Laws/Frame/Lookups.lean ====
section
/-! SUPPORT. Frames of ACU's lookups: the fields of the state each operation leaves as they were. -/

namespace Sys2Proof.Machine

@[simp] theorem onCounts_frame (g : CacheCounts → CacheCounts) (s : State) :
    (onCounts g s).pending = s.pending ∧
    (onCounts g s).now = s.now ∧
    (onCounts g s).free = s.free ∧
    (onCounts g s).cfg = s.cfg ∧
    (onCounts g s).door1 = s.door1 ∧
    (onCounts g s).door2 = s.door2 ∧
    (onCounts g s).minuteAt = s.minuteAt ∧
    (onCounts g s).store = s.store ∧
    (onCounts g s).bst = s.bst ∧
    (onCounts g s).alc = s.alc ∧
    (onCounts g s).lsu = s.lsu ∧
    (onCounts g s).pbc = s.pbc ∧
    (onCounts g s).gtc = s.gtc ∧
    (onCounts g s).fsc = s.fsc ∧
    (onCounts g s).dck = s.dck ∧
    (onCounts g s).qlc = s.qlc ∧
    (onCounts g s).tpc = s.tpc ∧
    (onCounts g s).evj = s.evj ∧
    (onCounts g s).cfl = s.cfl := by
  simp [onCounts]

@[simp] theorem deliver_frame (t : Tag) (r : LookupResult) (d : Reader) (s : State) :
    (deliver t r d s).pending = s.pending ∧
    (deliver t r d s).now = s.now ∧
    (deliver t r d s).free = s.free ∧
    (deliver t r d s).cfg = s.cfg ∧
    (deliver t r d s).door1 = s.door1 ∧
    (deliver t r d s).door2 = s.door2 ∧
    (deliver t r d s).minuteAt = s.minuteAt ∧
    (deliver t r d s).store = s.store ∧
    (deliver t r d s).alc = s.alc ∧
    (deliver t r d s).lsu = s.lsu ∧
    (deliver t r d s).pbc = s.pbc ∧
    (deliver t r d s).acu = s.acu ∧
    (deliver t r d s).dck = s.dck ∧
    (deliver t r d s).tpc = s.tpc ∧
    (deliver t r d s).cfl = s.cfl := by
  generalize h : deliver t r d s = t; unfold deliver at h; split at h <;> subst h <;> simp

@[simp] theorem deliverAll_frame (t : Tag) (r : LookupResult) (l : List Reader) (s : State) :
    (deliverAll t r l s).pending = s.pending ∧
    (deliverAll t r l s).now = s.now ∧
    (deliverAll t r l s).free = s.free ∧
    (deliverAll t r l s).cfg = s.cfg ∧
    (deliverAll t r l s).door1 = s.door1 ∧
    (deliverAll t r l s).door2 = s.door2 ∧
    (deliverAll t r l s).minuteAt = s.minuteAt ∧
    (deliverAll t r l s).store = s.store ∧
    (deliverAll t r l s).alc = s.alc ∧
    (deliverAll t r l s).lsu = s.lsu ∧
    (deliverAll t r l s).pbc = s.pbc ∧
    (deliverAll t r l s).dck = s.dck ∧
    (deliverAll t r l s).tpc = s.tpc ∧
    (deliverAll t r l s).cfl = s.cfl := by
  refine ⟨?_, ?_, ?_, ?_, ?_, ?_, ?_, ?_, ?_, ?_, ?_, ?_, ?_, ?_⟩ <;> (unfold deliverAll; (repeat' split) <;> first | rfl | exact foldl_same _ _ (fun _ _ => by simp) _ _)

@[simp] theorem dropLookup_frame (t : Tag) (s : State) :
    (dropLookup t s).pending = s.pending ∧
    (dropLookup t s).now = s.now ∧
    (dropLookup t s).free = s.free ∧
    (dropLookup t s).cfg = s.cfg ∧
    (dropLookup t s).door1 = s.door1 ∧
    (dropLookup t s).door2 = s.door2 ∧
    (dropLookup t s).minuteAt = s.minuteAt ∧
    (dropLookup t s).store = s.store ∧
    (dropLookup t s).bst = s.bst ∧
    (dropLookup t s).alc = s.alc ∧
    (dropLookup t s).lsu = s.lsu ∧
    (dropLookup t s).pbc = s.pbc ∧
    (dropLookup t s).gtc = s.gtc ∧
    (dropLookup t s).fsc = s.fsc ∧
    (dropLookup t s).dck = s.dck ∧
    (dropLookup t s).qlc = s.qlc ∧
    (dropLookup t s).tpc = s.tpc ∧
    (dropLookup t s).evj = s.evj ∧
    (dropLookup t s).cfl = s.cfl := by
  simp [dropLookup]

@[simp] theorem changeLookup_frame (t : Tag) (g : Lookup → Lookup) (s : State) :
    (changeLookup t g s).pending = s.pending ∧
    (changeLookup t g s).now = s.now ∧
    (changeLookup t g s).free = s.free ∧
    (changeLookup t g s).cfg = s.cfg ∧
    (changeLookup t g s).door1 = s.door1 ∧
    (changeLookup t g s).door2 = s.door2 ∧
    (changeLookup t g s).minuteAt = s.minuteAt ∧
    (changeLookup t g s).store = s.store ∧
    (changeLookup t g s).bst = s.bst ∧
    (changeLookup t g s).alc = s.alc ∧
    (changeLookup t g s).lsu = s.lsu ∧
    (changeLookup t g s).pbc = s.pbc ∧
    (changeLookup t g s).gtc = s.gtc ∧
    (changeLookup t g s).fsc = s.fsc ∧
    (changeLookup t g s).dck = s.dck ∧
    (changeLookup t g s).qlc = s.qlc ∧
    (changeLookup t g s).tpc = s.tpc ∧
    (changeLookup t g s).evj = s.evj ∧
    (changeLookup t g s).cfl = s.cfl := by
  simp [changeLookup]

@[simp] theorem missLookup_frame (t : Tag) (r : Reader) (s : State) :
    (missLookup t r s).pending = s.pending ∧
    (missLookup t r s).now = s.now ∧
    (missLookup t r s).free = s.free ∧
    (missLookup t r s).cfg = s.cfg ∧
    (missLookup t r s).door1 = s.door1 ∧
    (missLookup t r s).door2 = s.door2 ∧
    (missLookup t r s).minuteAt = s.minuteAt ∧
    (missLookup t r s).store = s.store ∧
    (missLookup t r s).alc = s.alc ∧
    (missLookup t r s).lsu = s.lsu ∧
    (missLookup t r s).pbc = s.pbc ∧
    (missLookup t r s).dck = s.dck ∧
    (missLookup t r s).tpc = s.tpc ∧
    (missLookup t r s).cfl = s.cfl := by
  generalize h : missLookup t r s = u; unfold missLookup at h; (try dsimp only at h); (repeat' split at h) <;> subst h <;> simp

@[simp] theorem cacheStep_frame (t : Tag) (r : Reader) (s : State) :
    (cacheStep t r s).pending = s.pending ∧
    (cacheStep t r s).now = s.now ∧
    (cacheStep t r s).free = s.free ∧
    (cacheStep t r s).cfg = s.cfg ∧
    (cacheStep t r s).door1 = s.door1 ∧
    (cacheStep t r s).door2 = s.door2 ∧
    (cacheStep t r s).minuteAt = s.minuteAt ∧
    (cacheStep t r s).store = s.store ∧
    (cacheStep t r s).alc = s.alc ∧
    (cacheStep t r s).lsu = s.lsu ∧
    (cacheStep t r s).pbc = s.pbc ∧
    (cacheStep t r s).dck = s.dck ∧
    (cacheStep t r s).tpc = s.tpc ∧
    (cacheStep t r s).cfl = s.cfl := by
  generalize h : cacheStep t r s = u; unfold cacheStep at h; (try dsimp only at h); (repeat' split at h) <;> subst h <;> simp

@[simp] theorem present_frame (r : Reader) (t : Tag) (s : State) :
    (present r t s).pending = s.pending ∧
    (present r t s).now = s.now ∧
    (present r t s).free = s.free ∧
    (present r t s).cfg = s.cfg ∧
    (present r t s).door1 = s.door1 ∧
    (present r t s).door2 = s.door2 ∧
    (present r t s).minuteAt = s.minuteAt ∧
    (present r t s).store = s.store ∧
    (present r t s).alc = s.alc ∧
    (present r t s).lsu = s.lsu ∧
    (present r t s).pbc = s.pbc ∧
    (present r t s).dck = s.dck ∧
    (present r t s).tpc = s.tpc ∧
    (present r t s).cfl = s.cfl := by
  generalize h : present r t s = u; unfold present at h; (try dsimp only at h); (repeat' split at h) <;> subst h <;> simp

@[simp] theorem requery_frame (l : Lookup) (s : State) :
    (requery l s).pending = s.pending ∧
    (requery l s).now = s.now ∧
    (requery l s).free = s.free ∧
    (requery l s).cfg = s.cfg ∧
    (requery l s).door1 = s.door1 ∧
    (requery l s).door2 = s.door2 ∧
    (requery l s).minuteAt = s.minuteAt ∧
    (requery l s).store = s.store ∧
    (requery l s).alc = s.alc ∧
    (requery l s).lsu = s.lsu ∧
    (requery l s).pbc = s.pbc ∧
    (requery l s).dck = s.dck ∧
    (requery l s).tpc = s.tpc ∧
    (requery l s).cfl = s.cfl := by
  generalize h : requery l s = u; unfold requery at h; (try dsimp only at h); (repeat' split at h) <;> subst h <;> simp

@[simp] theorem lookupAnswered_frame (r : Credential) (d : Nat) (s : State) :
    (lookupAnswered r d s).pending = s.pending ∧
    (lookupAnswered r d s).now = s.now ∧
    (lookupAnswered r d s).free = s.free ∧
    (lookupAnswered r d s).cfg = s.cfg ∧
    (lookupAnswered r d s).door1 = s.door1 ∧
    (lookupAnswered r d s).door2 = s.door2 ∧
    (lookupAnswered r d s).minuteAt = s.minuteAt ∧
    (lookupAnswered r d s).store = s.store ∧
    (lookupAnswered r d s).alc = s.alc ∧
    (lookupAnswered r d s).lsu = s.lsu ∧
    (lookupAnswered r d s).pbc = s.pbc ∧
    (lookupAnswered r d s).dck = s.dck ∧
    (lookupAnswered r d s).tpc = s.tpc ∧
    (lookupAnswered r d s).cfl = s.cfl := by
  generalize h : lookupAnswered r d s = u; unfold lookupAnswered at h; (try dsimp only at h); (repeat' split at h) <;> subst h <;> simp

@[simp] theorem lookupTimedOut_frame (t : Tag) (s : State) :
    (lookupTimedOut t s).pending = s.pending ∧
    (lookupTimedOut t s).now = s.now ∧
    (lookupTimedOut t s).free = s.free ∧
    (lookupTimedOut t s).cfg = s.cfg ∧
    (lookupTimedOut t s).door1 = s.door1 ∧
    (lookupTimedOut t s).door2 = s.door2 ∧
    (lookupTimedOut t s).minuteAt = s.minuteAt ∧
    (lookupTimedOut t s).store = s.store ∧
    (lookupTimedOut t s).alc = s.alc ∧
    (lookupTimedOut t s).lsu = s.lsu ∧
    (lookupTimedOut t s).pbc = s.pbc ∧
    (lookupTimedOut t s).dck = s.dck ∧
    (lookupTimedOut t s).tpc = s.tpc ∧
    (lookupTimedOut t s).cfl = s.cfl := by
  generalize h : lookupTimedOut t s = u; unfold lookupTimedOut at h; (try dsimp only at h); (repeat' split at h) <;> subst h <;> simp

@[simp] theorem doTagStatus_frame (t : Tag) (s : State) :
    ((doTagStatus t s).1).pending = s.pending ∧
    ((doTagStatus t s).1).now = s.now ∧
    ((doTagStatus t s).1).free = s.free ∧
    ((doTagStatus t s).1).cfg = s.cfg ∧
    ((doTagStatus t s).1).door1 = s.door1 ∧
    ((doTagStatus t s).1).door2 = s.door2 ∧
    ((doTagStatus t s).1).minuteAt = s.minuteAt ∧
    ((doTagStatus t s).1).store = s.store ∧
    ((doTagStatus t s).1).bst = s.bst ∧
    ((doTagStatus t s).1).alc = s.alc ∧
    ((doTagStatus t s).1).lsu = s.lsu ∧
    ((doTagStatus t s).1).pbc = s.pbc ∧
    ((doTagStatus t s).1).acu = s.acu ∧
    ((doTagStatus t s).1).gtc = s.gtc ∧
    ((doTagStatus t s).1).fsc = s.fsc ∧
    ((doTagStatus t s).1).dck = s.dck ∧
    ((doTagStatus t s).1).qlc = s.qlc ∧
    ((doTagStatus t s).1).tpc = s.tpc ∧
    ((doTagStatus t s).1).evj = s.evj ∧
    ((doTagStatus t s).1).cfl = s.cfl := by
  generalize h : doTagStatus t s = t; unfold doTagStatus at h; (try unfold onAddressed at h); (try unfold onNamedOutlet at h); (try dsimp only at h); (repeat' split at h) <;> subst h <;> simp

@[simp] theorem doCacheStatus_frame (s : State) :
    ((doCacheStatus s).1).pending = s.pending ∧
    ((doCacheStatus s).1).now = s.now ∧
    ((doCacheStatus s).1).free = s.free ∧
    ((doCacheStatus s).1).cfg = s.cfg ∧
    ((doCacheStatus s).1).door1 = s.door1 ∧
    ((doCacheStatus s).1).door2 = s.door2 ∧
    ((doCacheStatus s).1).minuteAt = s.minuteAt ∧
    ((doCacheStatus s).1).store = s.store ∧
    ((doCacheStatus s).1).bst = s.bst ∧
    ((doCacheStatus s).1).alc = s.alc ∧
    ((doCacheStatus s).1).lsu = s.lsu ∧
    ((doCacheStatus s).1).pbc = s.pbc ∧
    ((doCacheStatus s).1).acu = s.acu ∧
    ((doCacheStatus s).1).gtc = s.gtc ∧
    ((doCacheStatus s).1).fsc = s.fsc ∧
    ((doCacheStatus s).1).dck = s.dck ∧
    ((doCacheStatus s).1).qlc = s.qlc ∧
    ((doCacheStatus s).1).tpc = s.tpc ∧
    ((doCacheStatus s).1).evj = s.evj ∧
    ((doCacheStatus s).1).cfl = s.cfl := by
  generalize h : doCacheStatus s = t; unfold doCacheStatus at h; (try unfold onAddressed at h); (try unfold onNamedOutlet at h); (try dsimp only at h); (repeat' split at h) <;> subst h <;> simp

@[simp] theorem doFlushCache_frame (s : State) :
    ((doFlushCache s).1).pending = s.pending ∧
    ((doFlushCache s).1).now = s.now ∧
    ((doFlushCache s).1).free = s.free ∧
    ((doFlushCache s).1).cfg = s.cfg ∧
    ((doFlushCache s).1).door1 = s.door1 ∧
    ((doFlushCache s).1).door2 = s.door2 ∧
    ((doFlushCache s).1).minuteAt = s.minuteAt ∧
    ((doFlushCache s).1).store = s.store ∧
    ((doFlushCache s).1).bst = s.bst ∧
    ((doFlushCache s).1).alc = s.alc ∧
    ((doFlushCache s).1).lsu = s.lsu ∧
    ((doFlushCache s).1).pbc = s.pbc ∧
    ((doFlushCache s).1).gtc = s.gtc ∧
    ((doFlushCache s).1).fsc = s.fsc ∧
    ((doFlushCache s).1).dck = s.dck ∧
    ((doFlushCache s).1).qlc = s.qlc ∧
    ((doFlushCache s).1).tpc = s.tpc ∧
    ((doFlushCache s).1).cfl = s.cfl := by
  generalize h : doFlushCache s = t; unfold doFlushCache at h; (try unfold onAddressed at h); (try unfold onNamedOutlet at h); (try dsimp only at h); (repeat' split at h) <;> subst h <;> simp

end Sys2Proof.Machine
end

