-- ==== Sys2Proof/Laws/Frame/PostCommands.lean ====
section
/-! SUPPORT. Frames of the outlet and tap commands: the fields of the state each operation leaves as they were. -/

namespace Sys2Proof.Machine

@[simp] theorem doEnergise_frame (n k : Nat) (s : State) :
    ((doEnergise n k s).1).pending = s.pending ∧
    ((doEnergise n k s).1).now = s.now ∧
    ((doEnergise n k s).1).free = s.free ∧
    ((doEnergise n k s).1).cfg = s.cfg ∧
    ((doEnergise n k s).1).door1 = s.door1 ∧
    ((doEnergise n k s).1).door2 = s.door2 ∧
    ((doEnergise n k s).1).minuteAt = s.minuteAt ∧
    ((doEnergise n k s).1).store = s.store ∧
    ((doEnergise n k s).1).alc = s.alc ∧
    ((doEnergise n k s).1).acu = s.acu ∧
    ((doEnergise n k s).1).gtc = s.gtc ∧
    ((doEnergise n k s).1).fsc = s.fsc ∧
    ((doEnergise n k s).1).dck = s.dck ∧
    ((doEnergise n k s).1).tpc = s.tpc ∧
    ((doEnergise n k s).1).cfl = s.cfl := by
  generalize h : doEnergise n k s = t; unfold doEnergise at h; (try unfold onAddressed at h); (try unfold onNamedOutlet at h); (try dsimp only at h); (repeat' split at h) <;> subst h <;> simp

@[simp] theorem doOff_frame (n k : Nat) (s : State) :
    ((doOff n k s).1).pending = s.pending ∧
    ((doOff n k s).1).now = s.now ∧
    ((doOff n k s).1).free = s.free ∧
    ((doOff n k s).1).cfg = s.cfg ∧
    ((doOff n k s).1).door1 = s.door1 ∧
    ((doOff n k s).1).door2 = s.door2 ∧
    ((doOff n k s).1).minuteAt = s.minuteAt ∧
    ((doOff n k s).1).store = s.store ∧
    ((doOff n k s).1).alc = s.alc ∧
    ((doOff n k s).1).acu = s.acu ∧
    ((doOff n k s).1).gtc = s.gtc ∧
    ((doOff n k s).1).fsc = s.fsc ∧
    ((doOff n k s).1).dck = s.dck ∧
    ((doOff n k s).1).tpc = s.tpc ∧
    ((doOff n k s).1).cfl = s.cfl := by
  generalize h : doOff n k s = t; unfold doOff at h; (try unfold onAddressed at h); (try unfold onNamedOutlet at h); (try dsimp only at h); (repeat' split at h) <;> subst h <;> simp

@[simp] theorem doResetOutlet_frame (n k : Nat) (s : State) :
    ((doResetOutlet n k s).1).pending = s.pending ∧
    ((doResetOutlet n k s).1).now = s.now ∧
    ((doResetOutlet n k s).1).free = s.free ∧
    ((doResetOutlet n k s).1).cfg = s.cfg ∧
    ((doResetOutlet n k s).1).door1 = s.door1 ∧
    ((doResetOutlet n k s).1).door2 = s.door2 ∧
    ((doResetOutlet n k s).1).minuteAt = s.minuteAt ∧
    ((doResetOutlet n k s).1).store = s.store ∧
    ((doResetOutlet n k s).1).alc = s.alc ∧
    ((doResetOutlet n k s).1).acu = s.acu ∧
    ((doResetOutlet n k s).1).gtc = s.gtc ∧
    ((doResetOutlet n k s).1).fsc = s.fsc ∧
    ((doResetOutlet n k s).1).dck = s.dck ∧
    ((doResetOutlet n k s).1).tpc = s.tpc ∧
    ((doResetOutlet n k s).1).cfl = s.cfl := by
  generalize h : doResetOutlet n k s = t; unfold doResetOutlet at h; (try unfold onAddressed at h); (try unfold onNamedOutlet at h); (try dsimp only at h); (repeat' split at h) <;> subst h <;> simp

@[simp] theorem doClearLeak_frame (n : Nat) (s : State) :
    ((doClearLeak n s).1).pending = s.pending ∧
    ((doClearLeak n s).1).now = s.now ∧
    ((doClearLeak n s).1).free = s.free ∧
    ((doClearLeak n s).1).cfg = s.cfg ∧
    ((doClearLeak n s).1).door1 = s.door1 ∧
    ((doClearLeak n s).1).door2 = s.door2 ∧
    ((doClearLeak n s).1).minuteAt = s.minuteAt ∧
    ((doClearLeak n s).1).store = s.store ∧
    ((doClearLeak n s).1).alc = s.alc ∧
    ((doClearLeak n s).1).acu = s.acu ∧
    ((doClearLeak n s).1).gtc = s.gtc ∧
    ((doClearLeak n s).1).fsc = s.fsc ∧
    ((doClearLeak n s).1).dck = s.dck ∧
    ((doClearLeak n s).1).tpc = s.tpc ∧
    ((doClearLeak n s).1).cfl = s.cfl := by
  generalize h : doClearLeak n s = t; unfold doClearLeak at h; (try unfold onAddressed at h); (try unfold onNamedOutlet at h); (try dsimp only at h); (repeat' split at h) <;> subst h <;> simp

end Sys2Proof.Machine
end

