-- ==== Sys2Proof/Laws/Frame/Status.lean ====
section
/-! SUPPORT. Frames of STATUS, LINK_STATUS and the journal commands: the fields of the state each operation leaves as they were. -/

namespace Sys2Proof.Machine

@[simp] theorem doStatus_frame (s : State) :
    ((doStatus s).1).pending = s.pending ∧
    ((doStatus s).1).now = s.now ∧
    ((doStatus s).1).free = s.free ∧
    ((doStatus s).1).cfg = s.cfg ∧
    ((doStatus s).1).door1 = s.door1 ∧
    ((doStatus s).1).door2 = s.door2 ∧
    ((doStatus s).1).minuteAt = s.minuteAt ∧
    ((doStatus s).1).store = s.store ∧
    ((doStatus s).1).bst = s.bst ∧
    ((doStatus s).1).alc = s.alc ∧
    ((doStatus s).1).lsu = s.lsu ∧
    ((doStatus s).1).pbc = s.pbc ∧
    ((doStatus s).1).acu = s.acu ∧
    ((doStatus s).1).gtc = s.gtc ∧
    ((doStatus s).1).fsc = s.fsc ∧
    ((doStatus s).1).dck = s.dck ∧
    ((doStatus s).1).qlc = s.qlc ∧
    ((doStatus s).1).tpc = s.tpc ∧
    ((doStatus s).1).evj = s.evj ∧
    ((doStatus s).1).cfl = s.cfl := by
  generalize h : doStatus s = t; unfold doStatus at h; (try unfold onAddressed at h); (try unfold onNamedOutlet at h); (try dsimp only at h); (repeat' split at h) <;> subst h <;> simp

@[simp] theorem doLinkStatus_frame (r l : Nat) (s : State) :
    ((doLinkStatus r l s).1).pending = s.pending ∧
    ((doLinkStatus r l s).1).now = s.now ∧
    ((doLinkStatus r l s).1).free = s.free ∧
    ((doLinkStatus r l s).1).cfg = s.cfg ∧
    ((doLinkStatus r l s).1).door1 = s.door1 ∧
    ((doLinkStatus r l s).1).door2 = s.door2 ∧
    ((doLinkStatus r l s).1).minuteAt = s.minuteAt ∧
    ((doLinkStatus r l s).1).store = s.store ∧
    ((doLinkStatus r l s).1).bst = s.bst ∧
    ((doLinkStatus r l s).1).alc = s.alc ∧
    ((doLinkStatus r l s).1).lsu = s.lsu ∧
    ((doLinkStatus r l s).1).pbc = s.pbc ∧
    ((doLinkStatus r l s).1).acu = s.acu ∧
    ((doLinkStatus r l s).1).gtc = s.gtc ∧
    ((doLinkStatus r l s).1).fsc = s.fsc ∧
    ((doLinkStatus r l s).1).dck = s.dck ∧
    ((doLinkStatus r l s).1).qlc = s.qlc ∧
    ((doLinkStatus r l s).1).tpc = s.tpc ∧
    ((doLinkStatus r l s).1).evj = s.evj ∧
    ((doLinkStatus r l s).1).cfl = s.cfl := by
  generalize h : doLinkStatus r l s = t; unfold doLinkStatus at h; (try unfold onAddressed at h); (try unfold onNamedOutlet at h); (try dsimp only at h); (repeat' split at h) <;> subst h <;> simp

@[simp] theorem doSetReplyLimit_frame (n : Nat) (s : State) :
    ((doSetReplyLimit n s).1).pending = s.pending ∧
    ((doSetReplyLimit n s).1).now = s.now ∧
    ((doSetReplyLimit n s).1).free = s.free ∧
    ((doSetReplyLimit n s).1).cfg = s.cfg ∧
    ((doSetReplyLimit n s).1).door1 = s.door1 ∧
    ((doSetReplyLimit n s).1).door2 = s.door2 ∧
    ((doSetReplyLimit n s).1).minuteAt = s.minuteAt ∧
    ((doSetReplyLimit n s).1).store = s.store ∧
    ((doSetReplyLimit n s).1).bst = s.bst ∧
    ((doSetReplyLimit n s).1).alc = s.alc ∧
    ((doSetReplyLimit n s).1).lsu = s.lsu ∧
    ((doSetReplyLimit n s).1).pbc = s.pbc ∧
    ((doSetReplyLimit n s).1).acu = s.acu ∧
    ((doSetReplyLimit n s).1).gtc = s.gtc ∧
    ((doSetReplyLimit n s).1).fsc = s.fsc ∧
    ((doSetReplyLimit n s).1).dck = s.dck ∧
    ((doSetReplyLimit n s).1).qlc = s.qlc ∧
    ((doSetReplyLimit n s).1).evj = s.evj ∧
    ((doSetReplyLimit n s).1).cfl = s.cfl := by
  generalize h : doSetReplyLimit n s = t; unfold doSetReplyLimit at h; (try unfold onAddressed at h); (try unfold onNamedOutlet at h); (try dsimp only at h); (repeat' split at h) <;> subst h <;> simp

@[simp] theorem doJournalRead_frame (n l : Nat) (s : State) :
    ((doJournalRead n l s).1).pending = s.pending ∧
    ((doJournalRead n l s).1).now = s.now ∧
    ((doJournalRead n l s).1).free = s.free ∧
    ((doJournalRead n l s).1).cfg = s.cfg ∧
    ((doJournalRead n l s).1).door1 = s.door1 ∧
    ((doJournalRead n l s).1).door2 = s.door2 ∧
    ((doJournalRead n l s).1).minuteAt = s.minuteAt ∧
    ((doJournalRead n l s).1).store = s.store ∧
    ((doJournalRead n l s).1).bst = s.bst ∧
    ((doJournalRead n l s).1).alc = s.alc ∧
    ((doJournalRead n l s).1).lsu = s.lsu ∧
    ((doJournalRead n l s).1).pbc = s.pbc ∧
    ((doJournalRead n l s).1).acu = s.acu ∧
    ((doJournalRead n l s).1).gtc = s.gtc ∧
    ((doJournalRead n l s).1).fsc = s.fsc ∧
    ((doJournalRead n l s).1).dck = s.dck ∧
    ((doJournalRead n l s).1).qlc = s.qlc ∧
    ((doJournalRead n l s).1).tpc = s.tpc ∧
    ((doJournalRead n l s).1).evj = s.evj ∧
    ((doJournalRead n l s).1).cfl = s.cfl := by
  generalize h : doJournalRead n l s = t; unfold doJournalRead at h; (try unfold onAddressed at h); (try unfold onNamedOutlet at h); (try dsimp only at h); (repeat' split at h) <;> subst h <;> simp

@[simp] theorem doJournalAck_frame (n : Nat) (s : State) :
    ((doJournalAck n s).1).pending = s.pending ∧
    ((doJournalAck n s).1).now = s.now ∧
    ((doJournalAck n s).1).free = s.free ∧
    ((doJournalAck n s).1).cfg = s.cfg ∧
    ((doJournalAck n s).1).door1 = s.door1 ∧
    ((doJournalAck n s).1).door2 = s.door2 ∧
    ((doJournalAck n s).1).minuteAt = s.minuteAt ∧
    ((doJournalAck n s).1).store = s.store ∧
    ((doJournalAck n s).1).bst = s.bst ∧
    ((doJournalAck n s).1).alc = s.alc ∧
    ((doJournalAck n s).1).lsu = s.lsu ∧
    ((doJournalAck n s).1).pbc = s.pbc ∧
    ((doJournalAck n s).1).acu = s.acu ∧
    ((doJournalAck n s).1).gtc = s.gtc ∧
    ((doJournalAck n s).1).fsc = s.fsc ∧
    ((doJournalAck n s).1).dck = s.dck ∧
    ((doJournalAck n s).1).qlc = s.qlc ∧
    ((doJournalAck n s).1).tpc = s.tpc ∧
    ((doJournalAck n s).1).cfl = s.cfl := by
  generalize h : doJournalAck n s = t; unfold doJournalAck at h; (try unfold onAddressed at h); (try unfold onNamedOutlet at h); (try dsimp only at h); (repeat' split at h) <;> subst h <;> simp

end Sys2Proof.Machine
end

