-- ==== Sys2Proof/Laws/Frame/Terminal.lean ====
section
/-! SUPPORT. Frames of TPC: the fields of the state each operation leaves as they were. -/

namespace Sys2Proof.Machine

@[simp] theorem doConfigBegin_frame (n : Nat) (s : State) :
    ((doConfigBegin n s).1).pending = s.pending ∧
    ((doConfigBegin n s).1).now = s.now ∧
    ((doConfigBegin n s).1).free = s.free ∧
    ((doConfigBegin n s).1).cfg = s.cfg ∧
    ((doConfigBegin n s).1).door1 = s.door1 ∧
    ((doConfigBegin n s).1).door2 = s.door2 ∧
    ((doConfigBegin n s).1).minuteAt = s.minuteAt ∧
    ((doConfigBegin n s).1).store = s.store ∧
    ((doConfigBegin n s).1).bst = s.bst ∧
    ((doConfigBegin n s).1).alc = s.alc ∧
    ((doConfigBegin n s).1).lsu = s.lsu ∧
    ((doConfigBegin n s).1).pbc = s.pbc ∧
    ((doConfigBegin n s).1).acu = s.acu ∧
    ((doConfigBegin n s).1).gtc = s.gtc ∧
    ((doConfigBegin n s).1).fsc = s.fsc ∧
    ((doConfigBegin n s).1).dck = s.dck ∧
    ((doConfigBegin n s).1).qlc = s.qlc ∧
    ((doConfigBegin n s).1).tpc = s.tpc ∧
    ((doConfigBegin n s).1).evj = s.evj := by
  generalize h : doConfigBegin n s = t; unfold doConfigBegin at h; (try unfold onAddressed at h); (try unfold onNamedOutlet at h); (try dsimp only at h); (repeat' split at h) <;> subst h <;> simp

@[simp] theorem doConfigData_frame (n : Nat) (b : List Byte) (s : State) :
    ((doConfigData n b s).1).pending = s.pending ∧
    ((doConfigData n b s).1).now = s.now ∧
    ((doConfigData n b s).1).free = s.free ∧
    ((doConfigData n b s).1).cfg = s.cfg ∧
    ((doConfigData n b s).1).door1 = s.door1 ∧
    ((doConfigData n b s).1).door2 = s.door2 ∧
    ((doConfigData n b s).1).minuteAt = s.minuteAt ∧
    ((doConfigData n b s).1).store = s.store ∧
    ((doConfigData n b s).1).bst = s.bst ∧
    ((doConfigData n b s).1).alc = s.alc ∧
    ((doConfigData n b s).1).lsu = s.lsu ∧
    ((doConfigData n b s).1).pbc = s.pbc ∧
    ((doConfigData n b s).1).acu = s.acu ∧
    ((doConfigData n b s).1).gtc = s.gtc ∧
    ((doConfigData n b s).1).fsc = s.fsc ∧
    ((doConfigData n b s).1).dck = s.dck ∧
    ((doConfigData n b s).1).qlc = s.qlc ∧
    ((doConfigData n b s).1).tpc = s.tpc ∧
    ((doConfigData n b s).1).evj = s.evj := by
  generalize h : doConfigData n b s = t; unfold doConfigData at h; (try unfold onAddressed at h); (try unfold onNamedOutlet at h); (try dsimp only at h); (repeat' split at h) <;> subst h <;> simp

@[simp] theorem doPostStatus_frame (r l : Nat) (s : State) :
    ((doPostStatus r l s).1).pending = s.pending ∧
    ((doPostStatus r l s).1).now = s.now ∧
    ((doPostStatus r l s).1).free = s.free ∧
    ((doPostStatus r l s).1).cfg = s.cfg ∧
    ((doPostStatus r l s).1).door1 = s.door1 ∧
    ((doPostStatus r l s).1).door2 = s.door2 ∧
    ((doPostStatus r l s).1).minuteAt = s.minuteAt ∧
    ((doPostStatus r l s).1).store = s.store ∧
    ((doPostStatus r l s).1).bst = s.bst ∧
    ((doPostStatus r l s).1).alc = s.alc ∧
    ((doPostStatus r l s).1).lsu = s.lsu ∧
    ((doPostStatus r l s).1).pbc = s.pbc ∧
    ((doPostStatus r l s).1).acu = s.acu ∧
    ((doPostStatus r l s).1).gtc = s.gtc ∧
    ((doPostStatus r l s).1).fsc = s.fsc ∧
    ((doPostStatus r l s).1).dck = s.dck ∧
    ((doPostStatus r l s).1).qlc = s.qlc ∧
    ((doPostStatus r l s).1).tpc = s.tpc ∧
    ((doPostStatus r l s).1).evj = s.evj ∧
    ((doPostStatus r l s).1).cfl = s.cfl := by
  generalize h : doPostStatus r l s = t; unfold doPostStatus at h; (try unfold onAddressed at h); (try unfold onNamedOutlet at h); (try dsimp only at h); (repeat' split at h) <;> subst h <;> simp

@[simp] theorem doLoadStatus_frame (r l : Nat) (s : State) :
    ((doLoadStatus r l s).1).pending = s.pending ∧
    ((doLoadStatus r l s).1).now = s.now ∧
    ((doLoadStatus r l s).1).free = s.free ∧
    ((doLoadStatus r l s).1).cfg = s.cfg ∧
    ((doLoadStatus r l s).1).door1 = s.door1 ∧
    ((doLoadStatus r l s).1).door2 = s.door2 ∧
    ((doLoadStatus r l s).1).minuteAt = s.minuteAt ∧
    ((doLoadStatus r l s).1).store = s.store ∧
    ((doLoadStatus r l s).1).bst = s.bst ∧
    ((doLoadStatus r l s).1).alc = s.alc ∧
    ((doLoadStatus r l s).1).lsu = s.lsu ∧
    ((doLoadStatus r l s).1).pbc = s.pbc ∧
    ((doLoadStatus r l s).1).acu = s.acu ∧
    ((doLoadStatus r l s).1).gtc = s.gtc ∧
    ((doLoadStatus r l s).1).fsc = s.fsc ∧
    ((doLoadStatus r l s).1).dck = s.dck ∧
    ((doLoadStatus r l s).1).qlc = s.qlc ∧
    ((doLoadStatus r l s).1).tpc = s.tpc ∧
    ((doLoadStatus r l s).1).evj = s.evj ∧
    ((doLoadStatus r l s).1).cfl = s.cfl := by
  generalize h : doLoadStatus r l s = t; unfold doLoadStatus at h; (try unfold onAddressed at h); (try unfold onNamedOutlet at h); (try dsimp only at h); (repeat' split at h) <;> subst h <;> simp

@[simp] theorem perform_frame (l : Nat) (c : TermCmd) (s : State) :
    ((perform l c s).1).pending = s.pending ∧
    ((perform l c s).1).now = s.now ∧
    ((perform l c s).1).free = s.free ∧
    ((perform l c s).1).cfg = s.cfg ∧
    ((perform l c s).1).door1 = s.door1 ∧
    ((perform l c s).1).door2 = s.door2 ∧
    ((perform l c s).1).minuteAt = s.minuteAt ∧
    ((perform l c s).1).store = s.store := by
  unfold perform effect; cases c <;> simp

@[simp] theorem working_frame (x : TpcState) (s : State) :
    (working x s).pending = s.pending ∧
    (working x s).now = s.now ∧
    (working x s).free = s.free ∧
    (working x s).cfg = s.cfg ∧
    (working x s).door1 = s.door1 ∧
    (working x s).door2 = s.door2 ∧
    (working x s).minuteAt = s.minuteAt ∧
    (working x s).store = s.store ∧
    (working x s).bst = s.bst ∧
    (working x s).alc = s.alc ∧
    (working x s).lsu = s.lsu ∧
    (working x s).pbc = s.pbc ∧
    (working x s).acu = s.acu ∧
    (working x s).gtc = s.gtc ∧
    (working x s).fsc = s.fsc ∧
    (working x s).dck = s.dck ∧
    (working x s).qlc = s.qlc ∧
    (working x s).evj = s.evj ∧
    (working x s).cfl = s.cfl := by
  simp [working]

@[simp] theorem performHere_frame (c : TermCmd) (s : State) :
    (performHere c s).pending = s.pending ∧
    (performHere c s).now = s.now ∧
    (performHere c s).free = s.free ∧
    (performHere c s).cfg = s.cfg ∧
    (performHere c s).door1 = s.door1 ∧
    (performHere c s).door2 = s.door2 ∧
    (performHere c s).minuteAt = s.minuteAt ∧
    (performHere c s).store = s.store := by
  simp [performHere]

@[simp] theorem forward_frame (l n : Nat) (c : TermCmd) (s : State) :
    (forward l n c s).pending = s.pending ∧
    (forward l n c s).now = s.now ∧
    (forward l n c s).free = s.free ∧
    (forward l n c s).cfg = s.cfg ∧
    (forward l n c s).door1 = s.door1 ∧
    (forward l n c s).door2 = s.door2 ∧
    (forward l n c s).minuteAt = s.minuteAt ∧
    (forward l n c s).store = s.store ∧
    (forward l n c s).bst = s.bst ∧
    (forward l n c s).alc = s.alc ∧
    (forward l n c s).lsu = s.lsu ∧
    (forward l n c s).pbc = s.pbc ∧
    (forward l n c s).acu = s.acu ∧
    (forward l n c s).gtc = s.gtc ∧
    (forward l n c s).fsc = s.fsc ∧
    (forward l n c s).dck = s.dck ∧
    (forward l n c s).evj = s.evj ∧
    (forward l n c s).cfl = s.cfl := by
  generalize h : forward l n c s = t; unfold forward at h; (try dsimp only at h); (repeat' split at h) <;> subst h <;> simp

@[simp] theorem ownRule_frame (n : Nat) (c : TermCmd) (s : State) :
    (ownRule n c s).pending = s.pending ∧
    (ownRule n c s).now = s.now ∧
    (ownRule n c s).free = s.free ∧
    (ownRule n c s).cfg = s.cfg ∧
    (ownRule n c s).door1 = s.door1 ∧
    (ownRule n c s).door2 = s.door2 ∧
    (ownRule n c s).minuteAt = s.minuteAt ∧
    (ownRule n c s).store = s.store := by
  generalize h : ownRule n c s = t; unfold ownRule at h; (try dsimp only at h); (repeat' split at h) <;> subst h <;> simp

@[simp] theorem takeCommand_frame (n : Nat) (c : TermCmd) (s : State) :
    (takeCommand n c s).pending = s.pending ∧
    (takeCommand n c s).now = s.now ∧
    (takeCommand n c s).free = s.free ∧
    (takeCommand n c s).cfg = s.cfg ∧
    (takeCommand n c s).door1 = s.door1 ∧
    (takeCommand n c s).door2 = s.door2 ∧
    (takeCommand n c s).minuteAt = s.minuteAt ∧
    (takeCommand n c s).store = s.store := by
  generalize h : takeCommand n c s = t; unfold takeCommand at h; (repeat' split at h) <;> subst h <;> simp

@[simp] theorem discard_frame (n : Nat) (s : State) :
    (discard n s).pending = s.pending ∧
    (discard n s).now = s.now ∧
    (discard n s).free = s.free ∧
    (discard n s).cfg = s.cfg ∧
    (discard n s).door1 = s.door1 ∧
    (discard n s).door2 = s.door2 ∧
    (discard n s).minuteAt = s.minuteAt ∧
    (discard n s).store = s.store ∧
    (discard n s).bst = s.bst ∧
    (discard n s).alc = s.alc ∧
    (discard n s).lsu = s.lsu ∧
    (discard n s).pbc = s.pbc ∧
    (discard n s).acu = s.acu ∧
    (discard n s).gtc = s.gtc ∧
    (discard n s).fsc = s.fsc ∧
    (discard n s).dck = s.dck ∧
    (discard n s).qlc = s.qlc ∧
    (discard n s).evj = s.evj ∧
    (discard n s).cfl = s.cfl := by
  simp [discard]

@[simp] theorem terminalCommand_frame (c : TermCmd) (s : State) :
    (terminalCommand c s).pending = s.pending ∧
    (terminalCommand c s).now = s.now ∧
    (terminalCommand c s).free = s.free ∧
    (terminalCommand c s).cfg = s.cfg ∧
    (terminalCommand c s).door1 = s.door1 ∧
    (terminalCommand c s).door2 = s.door2 ∧
    (terminalCommand c s).minuteAt = s.minuteAt ∧
    (terminalCommand c s).store = s.store := by
  unfold terminalCommand; simp only [event_frame]; split <;> simp

@[simp] theorem dropFrame_frame (s : State) :
    (dropFrame s).pending = s.pending ∧
    (dropFrame s).now = s.now ∧
    (dropFrame s).free = s.free ∧
    (dropFrame s).cfg = s.cfg ∧
    (dropFrame s).door1 = s.door1 ∧
    (dropFrame s).door2 = s.door2 ∧
    (dropFrame s).minuteAt = s.minuteAt ∧
    (dropFrame s).store = s.store ∧
    (dropFrame s).bst = s.bst ∧
    (dropFrame s).alc = s.alc ∧
    (dropFrame s).lsu = s.lsu ∧
    (dropFrame s).pbc = s.pbc ∧
    (dropFrame s).acu = s.acu ∧
    (dropFrame s).gtc = s.gtc ∧
    (dropFrame s).fsc = s.fsc ∧
    (dropFrame s).dck = s.dck ∧
    (dropFrame s).qlc = s.qlc ∧
    (dropFrame s).evj = s.evj ∧
    (dropFrame s).cfl = s.cfl := by
  simp [dropFrame]

@[simp] theorem takeFrame_frame (r : List Byte) (s : State) :
    (takeFrame r s).pending = s.pending ∧
    (takeFrame r s).now = s.now ∧
    (takeFrame r s).free = s.free ∧
    (takeFrame r s).cfg = s.cfg ∧
    (takeFrame r s).door1 = s.door1 ∧
    (takeFrame r s).door2 = s.door2 ∧
    (takeFrame r s).minuteAt = s.minuteAt ∧
    (takeFrame r s).store = s.store := by
  generalize h : takeFrame r s = t; unfold takeFrame at h; (try dsimp only at h); (repeat' split at h) <;> subst h <;> simp

@[simp] theorem frameByte_frame (b : Byte) (s : State) :
    (frameByte b s).pending = s.pending ∧
    (frameByte b s).now = s.now ∧
    (frameByte b s).free = s.free ∧
    (frameByte b s).cfg = s.cfg ∧
    (frameByte b s).door1 = s.door1 ∧
    (frameByte b s).door2 = s.door2 ∧
    (frameByte b s).minuteAt = s.minuteAt ∧
    (frameByte b s).store = s.store := by
  generalize h : frameByte b s = t; unfold frameByte at h; (try dsimp only at h); (repeat' split at h) <;> subst h <;> simp

@[simp] theorem takeByte_frame (b : Byte) (s : State) :
    (takeByte b s).pending = s.pending ∧
    (takeByte b s).now = s.now ∧
    (takeByte b s).free = s.free ∧
    (takeByte b s).cfg = s.cfg ∧
    (takeByte b s).door1 = s.door1 ∧
    (takeByte b s).door2 = s.door2 ∧
    (takeByte b s).minuteAt = s.minuteAt ∧
    (takeByte b s).store = s.store := by
  generalize h : takeByte b s = t; unfold takeByte at h; (repeat' split at h) <;> subst h <;> simp

@[simp] theorem onOfficeRequest_frame (c : Channel) (n : Nat) (q : Num8) (o : OfficeCommand) (l : Nat) (s : State) :
    (onOfficeRequest c n q o l s).pending = s.pending ∧
    (onOfficeRequest c n q o l s).now = s.now ∧
    (onOfficeRequest c n q o l s).free = s.free ∧
    (onOfficeRequest c n q o l s).cfg = s.cfg ∧
    (onOfficeRequest c n q o l s).door1 = s.door1 ∧
    (onOfficeRequest c n q o l s).door2 = s.door2 ∧
    (onOfficeRequest c n q o l s).minuteAt = s.minuteAt ∧
    (onOfficeRequest c n q o l s).store = s.store := by
  generalize h : onOfficeRequest c n q o l s = t; unfold onOfficeRequest at h; (repeat' split at h) <;> subst h <;> simp

@[simp] theorem officeTimedOut_frame (s : State) :
    (officeTimedOut s).pending = s.pending ∧
    (officeTimedOut s).now = s.now ∧
    (officeTimedOut s).free = s.free ∧
    (officeTimedOut s).cfg = s.cfg ∧
    (officeTimedOut s).door1 = s.door1 ∧
    (officeTimedOut s).door2 = s.door2 ∧
    (officeTimedOut s).minuteAt = s.minuteAt ∧
    (officeTimedOut s).store = s.store ∧
    (officeTimedOut s).bst = s.bst ∧
    (officeTimedOut s).alc = s.alc ∧
    (officeTimedOut s).lsu = s.lsu ∧
    (officeTimedOut s).pbc = s.pbc ∧
    (officeTimedOut s).acu = s.acu ∧
    (officeTimedOut s).gtc = s.gtc ∧
    (officeTimedOut s).fsc = s.fsc ∧
    (officeTimedOut s).dck = s.dck ∧
    (officeTimedOut s).qlc = s.qlc ∧
    (officeTimedOut s).cfl = s.cfl := by
  generalize h : officeTimedOut s = t; unfold officeTimedOut at h; split at h <;> subst h <;> simp

end Sys2Proof.Machine
end

