-- ==== Sys2Proof/Laws/Frame/Link.lean ====
section
/-! SUPPORT. Frames of the frames delivered, the peer table and the outcome of the load: the fields of the state each operation leaves as they were. -/

namespace Sys2Proof.Machine

@[simp] theorem onTakeAnswer_frame (n : Nat) (q : Num8) (r : CallRef) (b : Nat) (x : TakeResult) (s : State) :
    (onTakeAnswer n q r b x s).pending = s.pending ∧
    (onTakeAnswer n q r b x s).now = s.now ∧
    (onTakeAnswer n q r b x s).free = s.free ∧
    (onTakeAnswer n q r b x s).cfg = s.cfg ∧
    (onTakeAnswer n q r b x s).door1 = s.door1 ∧
    (onTakeAnswer n q r b x s).door2 = s.door2 ∧
    (onTakeAnswer n q r b x s).minuteAt = s.minuteAt ∧
    (onTakeAnswer n q r b x s).store = s.store ∧
    (onTakeAnswer n q r b x s).acu = s.acu ∧
    (onTakeAnswer n q r b x s).gtc = s.gtc ∧
    (onTakeAnswer n q r b x s).fsc = s.fsc ∧
    (onTakeAnswer n q r b x s).dck = s.dck ∧
    (onTakeAnswer n q r b x s).tpc = s.tpc ∧
    (onTakeAnswer n q r b x s).cfl = s.cfl := by
  unfold onTakeAnswer takeAnswer; split
  · rename_i p _; dsimp only; cases p.originator <;> simp
  · simp

@[simp] theorem onTagAnswer_frame (n : Nat) (q : Num8) (r : Credential) (d : Nat) (s : State) :
    (onTagAnswer n q r d s).pending = s.pending ∧
    (onTagAnswer n q r d s).now = s.now ∧
    (onTagAnswer n q r d s).free = s.free ∧
    (onTagAnswer n q r d s).cfg = s.cfg ∧
    (onTagAnswer n q r d s).door1 = s.door1 ∧
    (onTagAnswer n q r d s).door2 = s.door2 ∧
    (onTagAnswer n q r d s).minuteAt = s.minuteAt ∧
    (onTagAnswer n q r d s).store = s.store ∧
    (onTagAnswer n q r d s).alc = s.alc ∧
    (onTagAnswer n q r d s).lsu = s.lsu ∧
    (onTagAnswer n q r d s).pbc = s.pbc ∧
    (onTagAnswer n q r d s).dck = s.dck ∧
    (onTagAnswer n q r d s).tpc = s.tpc ∧
    (onTagAnswer n q r d s).cfl = s.cfl := by
  unfold onTagAnswer takeAnswer; split <;> simp

@[simp] theorem onHoldAnswer_frame (n : Nat) (q : Num8) (id : HoldId) (r : HoldResult) (s : State) :
    (onHoldAnswer n q id r s).pending = s.pending ∧
    (onHoldAnswer n q id r s).now = s.now ∧
    (onHoldAnswer n q id r s).free = s.free ∧
    (onHoldAnswer n q id r s).cfg = s.cfg ∧
    (onHoldAnswer n q id r s).door1 = s.door1 ∧
    (onHoldAnswer n q id r s).door2 = s.door2 ∧
    (onHoldAnswer n q id r s).minuteAt = s.minuteAt ∧
    (onHoldAnswer n q id r s).store = s.store ∧
    (onHoldAnswer n q id r s).alc = s.alc ∧
    (onHoldAnswer n q id r s).lsu = s.lsu ∧
    (onHoldAnswer n q id r s).pbc = s.pbc ∧
    (onHoldAnswer n q id r s).acu = s.acu ∧
    (onHoldAnswer n q id r s).gtc = s.gtc ∧
    (onHoldAnswer n q id r s).dck = s.dck ∧
    (onHoldAnswer n q id r s).tpc = s.tpc ∧
    (onHoldAnswer n q id r s).cfl = s.cfl := by
  unfold onHoldAnswer takeAnswer; split <;> simp

@[simp] theorem onSettleAnswer_frame (n : Nat) (q : Num8) (id : HoldId) (r : SettleResult) (s : State) :
    (onSettleAnswer n q id r s).pending = s.pending ∧
    (onSettleAnswer n q id r s).now = s.now ∧
    (onSettleAnswer n q id r s).free = s.free ∧
    (onSettleAnswer n q id r s).cfg = s.cfg ∧
    (onSettleAnswer n q id r s).door1 = s.door1 ∧
    (onSettleAnswer n q id r s).door2 = s.door2 ∧
    (onSettleAnswer n q id r s).minuteAt = s.minuteAt ∧
    (onSettleAnswer n q id r s).store = s.store ∧
    (onSettleAnswer n q id r s).alc = s.alc ∧
    (onSettleAnswer n q id r s).lsu = s.lsu ∧
    (onSettleAnswer n q id r s).pbc = s.pbc ∧
    (onSettleAnswer n q id r s).acu = s.acu ∧
    (onSettleAnswer n q id r s).gtc = s.gtc ∧
    (onSettleAnswer n q id r s).dck = s.dck ∧
    (onSettleAnswer n q id r s).tpc = s.tpc ∧
    (onSettleAnswer n q id r s).cfl = s.cfl := by
  unfold onSettleAnswer takeAnswer; split
  · rename_i p _; dsimp only; cases p.originator <;> simp
  · simp

@[simp] theorem onOfficeAnswer_frame (n : Nat) (q : Num8) (r : Reply) (s : State) :
    (onOfficeAnswer n q r s).pending = s.pending ∧
    (onOfficeAnswer n q r s).now = s.now ∧
    (onOfficeAnswer n q r s).free = s.free ∧
    (onOfficeAnswer n q r s).cfg = s.cfg ∧
    (onOfficeAnswer n q r s).door1 = s.door1 ∧
    (onOfficeAnswer n q r s).door2 = s.door2 ∧
    (onOfficeAnswer n q r s).minuteAt = s.minuteAt ∧
    (onOfficeAnswer n q r s).store = s.store ∧
    (onOfficeAnswer n q r s).bst = s.bst ∧
    (onOfficeAnswer n q r s).alc = s.alc ∧
    (onOfficeAnswer n q r s).lsu = s.lsu ∧
    (onOfficeAnswer n q r s).pbc = s.pbc ∧
    (onOfficeAnswer n q r s).acu = s.acu ∧
    (onOfficeAnswer n q r s).gtc = s.gtc ∧
    (onOfficeAnswer n q r s).fsc = s.fsc ∧
    (onOfficeAnswer n q r s).dck = s.dck ∧
    (onOfficeAnswer n q r s).evj = s.evj ∧
    (onOfficeAnswer n q r s).cfl = s.cfl := by
  unfold onOfficeAnswer takeAnswer; split <;> simp

@[simp] theorem handTimedOut_frame (p : Pending) (s : State) :
    (handTimedOut p s).pending = s.pending ∧
    (handTimedOut p s).now = s.now ∧
    (handTimedOut p s).free = s.free ∧
    (handTimedOut p s).cfg = s.cfg ∧
    (handTimedOut p s).door1 = s.door1 ∧
    (handTimedOut p s).door2 = s.door2 ∧
    (handTimedOut p s).minuteAt = s.minuteAt ∧
    (handTimedOut p s).store = s.store ∧
    (handTimedOut p s).dck = s.dck ∧
    (handTimedOut p s).cfl = s.cfl := by
  unfold handTimedOut; cases p.originator <;> simp

@[simp] theorem changePeer_frame (n : Nat) (g : Peer → Peer) (s : State) :
    (changePeer n g s).pending = s.pending ∧
    (changePeer n g s).now = s.now ∧
    (changePeer n g s).free = s.free ∧
    (changePeer n g s).cfg = s.cfg ∧
    (changePeer n g s).door1 = s.door1 ∧
    (changePeer n g s).door2 = s.door2 ∧
    (changePeer n g s).minuteAt = s.minuteAt ∧
    (changePeer n g s).store = s.store ∧
    (changePeer n g s).bst = s.bst ∧
    (changePeer n g s).alc = s.alc ∧
    (changePeer n g s).lsu = s.lsu ∧
    (changePeer n g s).pbc = s.pbc ∧
    (changePeer n g s).acu = s.acu ∧
    (changePeer n g s).gtc = s.gtc ∧
    (changePeer n g s).fsc = s.fsc ∧
    (changePeer n g s).dck = s.dck ∧
    (changePeer n g s).tpc = s.tpc ∧
    (changePeer n g s).evj = s.evj ∧
    (changePeer n g s).cfl = s.cfl := by
  simp [changePeer]

@[simp] theorem onAnnounce_frame (c : Channel) (n : Nat) (b : AnnounceBody) (s : State) :
    (onAnnounce c n b s).pending = s.pending ∧
    (onAnnounce c n b s).now = s.now ∧
    (onAnnounce c n b s).free = s.free ∧
    (onAnnounce c n b s).cfg = s.cfg ∧
    (onAnnounce c n b s).door1 = s.door1 ∧
    (onAnnounce c n b s).door2 = s.door2 ∧
    (onAnnounce c n b s).minuteAt = s.minuteAt ∧
    (onAnnounce c n b s).store = s.store ∧
    (onAnnounce c n b s).bst = s.bst ∧
    (onAnnounce c n b s).alc = s.alc ∧
    (onAnnounce c n b s).pbc = s.pbc ∧
    (onAnnounce c n b s).acu = s.acu ∧
    (onAnnounce c n b s).gtc = s.gtc ∧
    (onAnnounce c n b s).fsc = s.fsc ∧
    (onAnnounce c n b s).dck = s.dck ∧
    (onAnnounce c n b s).tpc = s.tpc ∧
    (onAnnounce c n b s).cfl = s.cfl := by
  generalize h : onAnnounce c n b s = t; unfold onAnnounce at h; (try dsimp only at h); (repeat' split at h) <;> subst h <;> simp

@[simp] theorem refreshDeclared_frame (s : State) :
    (refreshDeclared s).pending = s.pending ∧
    (refreshDeclared s).now = s.now ∧
    (refreshDeclared s).free = s.free ∧
    (refreshDeclared s).cfg = s.cfg ∧
    (refreshDeclared s).door1 = s.door1 ∧
    (refreshDeclared s).door2 = s.door2 ∧
    (refreshDeclared s).minuteAt = s.minuteAt ∧
    (refreshDeclared s).store = s.store ∧
    (refreshDeclared s).bst = s.bst ∧
    (refreshDeclared s).alc = s.alc ∧
    (refreshDeclared s).pbc = s.pbc ∧
    (refreshDeclared s).acu = s.acu ∧
    (refreshDeclared s).gtc = s.gtc ∧
    (refreshDeclared s).fsc = s.fsc ∧
    (refreshDeclared s).dck = s.dck ∧
    (refreshDeclared s).qlc = s.qlc ∧
    (refreshDeclared s).tpc = s.tpc ∧
    (refreshDeclared s).cfl = s.cfl := by
  unfold refreshDeclared; split <;> simp

@[simp] theorem deliverFrame_frame (c : Channel) (n : Nat) (q : Num8) (b : FrameBody) (s : State) :
    (deliverFrame c n q b s).pending = s.pending ∧
    (deliverFrame c n q b s).now = s.now ∧
    (deliverFrame c n q b s).free = s.free ∧
    (deliverFrame c n q b s).cfg = s.cfg ∧
    (deliverFrame c n q b s).door1 = s.door1 ∧
    (deliverFrame c n q b s).door2 = s.door2 ∧
    (deliverFrame c n q b s).minuteAt = s.minuteAt ∧
    (deliverFrame c n q b s).store = s.store := by
  unfold deliverFrame; cases b <;> (try (rename_i v; cases v)) <;> simp

@[simp] theorem takeWire_frame (c : Channel) (b : List Byte) (s : State) :
    (takeWire c b s).pending = s.pending ∧
    (takeWire c b s).now = s.now ∧
    (takeWire c b s).free = s.free ∧
    (takeWire c b s).cfg = s.cfg ∧
    (takeWire c b s).door1 = s.door1 ∧
    (takeWire c b s).door2 = s.door2 ∧
    (takeWire c b s).minuteAt = s.minuteAt ∧
    (takeWire c b s).store = s.store := by
  generalize h : takeWire c b s = t; unfold takeWire at h; (try dsimp only at h); (repeat' split at h) <;> subst h <;> simp

@[simp] theorem doConfigBegin_load (n : Nat) (s : State) :
    ((doConfigBegin n s).1).cfl.load = s.cfl.load ∧
    ((doConfigBegin n s).1).cfl.starting = s.cfl.starting ∧
    ((doConfigBegin n s).1).cfl.notices = s.cfl.notices := by
  generalize h : (doConfigBegin n s) = t; unfold doConfigBegin at h; (try dsimp only at h); (repeat' split at h) <;> subst h <;> simp

@[simp] theorem doConfigData_load (n : Nat) (b : List Byte) (s : State) :
    ((doConfigData n b s).1).cfl.load = s.cfl.load ∧
    ((doConfigData n b s).1).cfl.starting = s.cfl.starting ∧
    ((doConfigData n b s).1).cfl.notices = s.cfl.notices := by
  generalize h : (doConfigData n b s) = t; unfold doConfigData at h; (try dsimp only at h); (repeat' split at h) <;> subst h <;> simp

@[simp] theorem perform_load (l : Nat) (c : TermCmd) (s : State) :
    ((perform l c s).1).cfl.load = s.cfl.load ∧
    ((perform l c s).1).cfl.starting = s.cfl.starting ∧
    ((perform l c s).1).cfl.notices = s.cfl.notices := by
  unfold perform effect; cases c <;> simp

@[simp] theorem performHere_load (c : TermCmd) (s : State) :
    (performHere c s).cfl.load = s.cfl.load ∧
    (performHere c s).cfl.starting = s.cfl.starting ∧
    (performHere c s).cfl.notices = s.cfl.notices := by
  simp [performHere]

@[simp] theorem ownRule_load (n : Nat) (c : TermCmd) (s : State) :
    (ownRule n c s).cfl.load = s.cfl.load ∧
    (ownRule n c s).cfl.starting = s.cfl.starting ∧
    (ownRule n c s).cfl.notices = s.cfl.notices := by
  generalize h : ownRule n c s = t; unfold ownRule at h; (try dsimp only at h); (repeat' split at h) <;> subst h <;> simp

@[simp] theorem takeCommand_load (n : Nat) (c : TermCmd) (s : State) :
    (takeCommand n c s).cfl.load = s.cfl.load ∧
    (takeCommand n c s).cfl.starting = s.cfl.starting ∧
    (takeCommand n c s).cfl.notices = s.cfl.notices := by
  generalize h : takeCommand n c s = t; unfold takeCommand at h; (try dsimp only at h); (repeat' split at h) <;> subst h <;> simp

@[simp] theorem terminalCommand_load (c : TermCmd) (s : State) :
    (terminalCommand c s).cfl.load = s.cfl.load ∧
    (terminalCommand c s).cfl.starting = s.cfl.starting ∧
    (terminalCommand c s).cfl.notices = s.cfl.notices := by
  unfold terminalCommand; simp only [event_frame]; split <;> simp

@[simp] theorem takeFrame_load (r : List Byte) (s : State) :
    (takeFrame r s).cfl.load = s.cfl.load ∧
    (takeFrame r s).cfl.starting = s.cfl.starting ∧
    (takeFrame r s).cfl.notices = s.cfl.notices := by
  generalize h : takeFrame r s = t; unfold takeFrame at h; (try dsimp only at h); (repeat' split at h) <;> subst h <;> simp

@[simp] theorem takeByte_load (b : Byte) (s : State) :
    (takeByte b s).cfl.load = s.cfl.load ∧
    (takeByte b s).cfl.starting = s.cfl.starting ∧
    (takeByte b s).cfl.notices = s.cfl.notices := by
  generalize h : takeByte b s = t; unfold takeByte frameByte at h; (try dsimp only at h); (repeat' split at h) <;> subst h <;> simp

@[simp] theorem onOfficeRequest_load (c : Channel) (n : Nat) (q : Num8) (o : OfficeCommand) (l : Nat) (s : State) :
    (onOfficeRequest c n q o l s).cfl.load = s.cfl.load ∧
    (onOfficeRequest c n q o l s).cfl.starting = s.cfl.starting ∧
    (onOfficeRequest c n q o l s).cfl.notices = s.cfl.notices := by
  generalize h : onOfficeRequest c n q o l s = t; unfold onOfficeRequest at h; (try dsimp only at h); (repeat' split at h) <;> subst h <;> simp

@[simp] theorem deliverFrame_load (c : Channel) (n : Nat) (q : Num8) (b : FrameBody) (s : State) :
    (deliverFrame c n q b s).cfl.load = s.cfl.load ∧
    (deliverFrame c n q b s).cfl.starting = s.cfl.starting ∧
    (deliverFrame c n q b s).cfl.notices = s.cfl.notices := by
  unfold deliverFrame; cases b <;> (try (rename_i v; cases v)) <;> simp

@[simp] theorem takeWire_load (c : Channel) (b : List Byte) (s : State) :
    (takeWire c b s).cfl.load = s.cfl.load ∧
    (takeWire c b s).cfl.starting = s.cfl.starting ∧
    (takeWire c b s).cfl.notices = s.cfl.notices := by
  generalize h : takeWire c b s = t; unfold takeWire at h; (try dsimp only at h); (repeat' split at h) <;> subst h <;> simp

end Sys2Proof.Machine
end

