-- ==== Sys2Proof/Laws/Records.lean ====
section
/-! SUPPORT. What a record reads after a change of it, for the tables that are searched by a number; when two states are
equal; what a terminal command comes to at a station that takes it. -/

namespace Sys2Proof.Machine

/-- Two states that agree on every field are equal. -/
theorem State.ext_fields (s t : State) (h : s.pending = t.pending ∧ s.now = t.now ∧ s.free = t.free ∧ s.cfg = t.cfg ∧
    s.door1 = t.door1 ∧ s.door2 = t.door2 ∧ s.minuteAt = t.minuteAt ∧ s.store = t.store ∧ s.bst = t.bst ∧
    s.alc = t.alc ∧ s.lsu = t.lsu ∧ s.pbc = t.pbc ∧ s.acu = t.acu ∧ s.gtc = t.gtc ∧ s.fsc = t.fsc ∧ s.dck = t.dck ∧
    s.qlc = t.qlc ∧ s.tpc = t.tpc ∧ s.evj = t.evj ∧ s.cfl = t.cfl) : s = t := by
  cases s; cases t; simp_all

/-! ### Records by number -/

/-- An outlet read after a change of one where K and the queue stay. -/
theorem outlet?_patchOutlet (n m : Nat) (f : Outlet → Outlet) (s : State) (h : ∀ o, (f o).number = o.number) :
    (patchOutlet n f s).outlet? m = (s.outlet? m).map fun o => if o.number == n then f o else o :=
  find?_updWhere _ _ _ _ fun x _ => by simp [h]

/-- A tap read after a change of one. -/
theorem tap?_changeTap (n m : Nat) (f : Tap → Tap) (s : State) (h : ∀ t, (f t).number = t.number) :
    (changeTap n f s).tap? m = (s.tap? m).map fun t => if t.number == n then f t else t :=
  find?_updWhere _ _ _ _ fun x _ => by simp [h]

/-- A post read after a change of one. -/
theorem post?_changePost (n m : Nat) (f : Post → Post) (s : State) (h : ∀ p, (f p).cfg = p.cfg) :
    (changePost n f s).post? m = (s.post? m).map fun p => if p.cfg.number == n then f p else p :=
  find?_updWhere _ _ _ _ fun x _ => by simp [h]

/-- A gate read after a change of one. -/
theorem gate?_changeGate (n m : Nat) (f : Gate → Gate) (s : State) (h : ∀ g, (f g).cfg = g.cfg) :
    (changeGate n f s).gate? m = (s.gate? m).map fun g => if g.cfg.number == n then f g else g :=
  find?_updWhere _ _ _ _ fun x _ => by simp [h]

/-- A pump read after a change of one. -/
theorem pump?_changePump (n m : Nat) (f : Pump → Pump) (s : State) (h : ∀ p, (f p).cfg = p.cfg) :
    (changePump n f s).pump? m = (s.pump? m).map fun p => if p.cfg.number == n then f p else p :=
  find?_updWhere _ _ _ _ fun x _ => by simp [h]

/-- A call read after a change of one. -/
theorem call?_changeCall (n m : Num8) (f : Call → Call) (s : State) (h : ∀ c, (f c).number = c.number) :
    (changeCall n f s).call? m = (s.call? m).map fun c => if c.number == n then f c else c :=
  find?_updWhere _ _ _ _ fun x _ => by simp [h]

/-- A peer entry read after a change of one. -/
theorem peer?_changePeer (n m : Nat) (f : Peer → Peer) (s : State) (h : ∀ p, (f p).number = p.number) :
    (changePeer n f s).peer? m = (s.peer? m).map fun p => if p.number == n then f p else p :=
  find?_updWhere _ _ _ _ fun x _ => by simp [h]

/-- A pending request read after a change of one. -/
theorem request?_onRequest (n m : Num8) (f : Pending → Pending) (s : State) (h : ∀ p, (f p).sequence = p.sequence) :
    (onRequest n f s).request? m = (s.request? m).map fun p => if p.sequence == n then f p else p :=
  find?_updWhere _ _ _ _ fun x _ => by simp [h]

theorem gate?_number {s : State} {n : Nat} {g : Gate} (h : s.gate? n = some g) : g.cfg.number = n := by
  simpa using List.find?_some h
theorem pump?_number {s : State} {n : Nat} {p : Pump} (h : s.pump? n = some p) : p.cfg.number = n := by
  simpa using List.find?_some h
theorem outlet?_number {s : State} {n : Nat} {o : Outlet} (h : s.outlet? n = some o) : o.number = n := by
  simpa using List.find?_some h
theorem tap?_number {s : State} {n : Nat} {t : Tap} (h : s.tap? n = some t) : t.number = n := by
  simpa using List.find?_some h
theorem post?_number {s : State} {n : Nat} {p : Post} (h : s.post? n = some p) : p.cfg.number = n := by
  simpa using List.find?_some h
theorem call?_number {s : State} {n : Num8} {c : Call} (h : s.call? n = some c) : c.number = n := by
  simpa using List.find?_some h
theorem peer?_number {s : State} {n : Nat} {p : Peer} (h : s.peer? n = some p) : p.number = n := by
  simpa using List.find?_some h
theorem request?_sequence {s : State} {n : Num8} {p : Pending} (h : s.request? n = some p) : p.sequence = n := by
  simpa using List.find?_some h

/-! ### The record changed, and every other one -/

theorem outlet?_self (n : Nat) (f : Outlet → Outlet) (s : State) (h : ∀ x, (f x).number = x.number) (o : Outlet)
    (hn : s.outlet? n = some o) : (patchOutlet n f s).outlet? n = some (f o) := by
  rw [outlet?_patchOutlet _ _ _ _ h, hn]; simp [outlet?_number hn]
theorem outlet?_other (n m : Nat) (f : Outlet → Outlet) (s : State) (h : ∀ x, (f x).number = x.number) (hm : m ≠ n) :
    (patchOutlet n f s).outlet? m = s.outlet? m := by
  rw [outlet?_patchOutlet _ _ _ _ h]
  cases hx : s.outlet? m with
  | none => rfl
  | some x => simp [outlet?_number hx, hm]
theorem outlet?_same (s t : State) (h : t.pbc = s.pbc) : t.outlet? = s.outlet? := by funext n; simp [State.outlet?, h]
theorem tap?_self (n : Nat) (f : Tap → Tap) (s : State) (h : ∀ x, (f x).number = x.number) (p : Tap)
    (hn : s.tap? n = some p) : (changeTap n f s).tap? n = some (f p) := by
  rw [tap?_changeTap _ _ _ _ h, hn]; simp [tap?_number hn]
theorem tap?_other (n m : Nat) (f : Tap → Tap) (s : State) (h : ∀ x, (f x).number = x.number) (hm : m ≠ n) :
    (changeTap n f s).tap? m = s.tap? m := by
  rw [tap?_changeTap _ _ _ _ h]
  cases hx : s.tap? m with
  | none => rfl
  | some x => simp [tap?_number hx, hm]
theorem tap?_same (s t : State) (h : t.pbc = s.pbc) : t.tap? = s.tap? := by funext n; simp [State.tap?, h]
theorem gate?_self (n : Nat) (f : Gate → Gate) (s : State) (h : ∀ x, (f x).cfg = x.cfg) (g : Gate)
    (hn : s.gate? n = some g) : (changeGate n f s).gate? n = some (f g) := by
  rw [gate?_changeGate _ _ _ _ h, hn]; simp [gate?_number hn]
theorem gate?_other (n m : Nat) (f : Gate → Gate) (s : State) (h : ∀ x, (f x).cfg = x.cfg) (hm : m ≠ n) :
    (changeGate n f s).gate? m = s.gate? m := by
  rw [gate?_changeGate _ _ _ _ h]
  cases hx : s.gate? m with
  | none => rfl
  | some x => simp [gate?_number hx, hm]
theorem gate?_same (s t : State) (h : t.gtc = s.gtc) : t.gate? = s.gate? := by funext n; simp [State.gate?, h]
theorem pump?_self (n : Nat) (f : Pump → Pump) (s : State) (h : ∀ x, (f x).cfg = x.cfg) (p : Pump)
    (hn : s.pump? n = some p) : (changePump n f s).pump? n = some (f p) := by
  rw [pump?_changePump _ _ _ _ h, hn]; simp [pump?_number hn]
theorem pump?_other (n m : Nat) (f : Pump → Pump) (s : State) (h : ∀ x, (f x).cfg = x.cfg) (hm : m ≠ n) :
    (changePump n f s).pump? m = s.pump? m := by
  rw [pump?_changePump _ _ _ _ h]
  cases hx : s.pump? m with
  | none => rfl
  | some x => simp [pump?_number hx, hm]
theorem pump?_same (s t : State) (h : t.fsc = s.fsc) : t.pump? = s.pump? := by funext n; simp [State.pump?, h]

/-! ### Taking a command, taking a frame -/

theorem ready_up {s : State} (h : s.up = true) : s.cfl.starting = false ∧ s.inFault = false := by
  simp [State.up, State.inFault] at h ⊢
  exact ⟨h.2, h.1⟩

/-- A terminal command at a station that takes it is its own rule, then the end of the event (R187). -/
theorem terminal_ready (c : TermCmd) (s : State) (h : s.ready) : terminalCommand c s = settled s (ownRule (Config.payloadBytes c) c s) := by
  obtain ⟨h1, h2⟩ := ready_up h.1
  simp [terminalCommand, event, takeCommand, h.2, h1, h2]

/-- Where the command's rule moves neither A nor an outlet, nothing is added at the end of the event. -/
theorem terminal_quiet (c : TermCmd) (s : State) (h : s.ready) (hf : s.fits) (hp : (ownRule (Config.payloadBytes c) c s).pbc = s.pbc)
    (hl : (ownRule (Config.payloadBytes c) c s).lsu.applied = s.lsu.applied) (hc : (ownRule (Config.payloadBytes c) c s).classOf = s.classOf) :
    terminalCommand c s = ownRule (Config.payloadBytes c) c s := by
  rw [terminal_ready c s h, settled_same _ _ hp hl hc hf]

/-- A command that is not forwarded, or names this station, is performed here (R187, R189). -/
theorem ownRule_here (length : Nat) (c : TermCmd) (s : State) (hc : c ≠ .writeConfigCommit)
    (h : ∀ st, c.names = some st → s.isHere st) : ownRule length c s = performHere c s := by
  unfold ownRule
  split
  · exact absurd rfl hc
  · split
    · rfl
    · rename_i st hn
      obtain ⟨h1, h2, h3⟩ := h st hn
      simp [← h3, show st ≠ 0 by omega, show ¬ 30 < st by omega]

@[simp] theorem sendReply_eq (r : Reply) (s : State) : sendReply r s = s.setTpc (s.tpc.sending r) := rfl

/-- A frame of another station is delivered after its channel is heard (R170, R174). -/
theorem receive_hears (c : Channel) (n : Nat) (d : State → State) (s : State) (h : s.hears n) :
    receive c n d s = d (heardOn c s) := by
  have : (heardOn c s).cfg = s.cfg := by simp
  simp [receive, whenUp, h.1, this, h.2.2]

end Sys2Proof.Machine
end

