-- ==== Sys2Proof/Laws/Quayline.lean ====
section
/-! SUPPORT. What the operations of QLC leave of its own state, and what a delivery finds after its channel is heard. -/

namespace Sys2Proof.Machine

/-- A change of a channel's record leaves the rest of QLC. -/
@[simp] theorem onLine_qlc (c : Channel) (g : Line → Line) (s : State) :
    (onLine c g s).qlc.nextEntry = s.qlc.nextEntry ∧
    (onLine c g s).qlc.sequence = s.qlc.sequence ∧
    (onLine c g s).qlc.peers = s.qlc.peers ∧
    (onLine c g s).qlc.announceAt = s.qlc.announceAt ∧
    (onLine c g s).qlc.lastAnnounce = s.qlc.lastAnnounce ∧
    (onLine c g s).qlc.queue = s.qlc.queue ∧
    (onLine c g s).qlc.requests = s.qlc.requests ∧
    (onLine c g s).qlc.errors = s.qlc.errors := by
  cases c <;> simp [onLine, Qlc.withLine]

/-- A change of the error summary leaves the rest of QLC. -/
@[simp] theorem onErrors_qlc (g : ErrorSummary → ErrorSummary) (s : State) :
    (onErrors g s).qlc.nextEntry = s.qlc.nextEntry ∧
    (onErrors g s).qlc.sequence = s.qlc.sequence ∧
    (onErrors g s).qlc.peers = s.qlc.peers ∧
    (onErrors g s).qlc.announceAt = s.qlc.announceAt ∧
    (onErrors g s).qlc.lastAnnounce = s.qlc.lastAnnounce ∧
    (onErrors g s).qlc.queue = s.qlc.queue ∧
    (onErrors g s).qlc.requests = s.qlc.requests ∧
    (onErrors g s).qlc.lineA = s.qlc.lineA ∧
    (onErrors g s).qlc.lineB = s.qlc.lineB := by
  simp [onErrors]

/-- The frames of the transmit queue in joining order. -/
def Qlc.frames (q : Qlc) : List (Nat × Frame) := q.queue.map fun e => (e.id, e.frame)

/-- The pending requests without the channel of their attempt. -/
def Qlc.asked (q : Qlc) : List Pending := q.requests.map fun p => { p with channel := .a }

@[simp] theorem onLine_frames (c : Channel) (g : Line → Line) (s : State) :
    (onLine c g s).qlc.frames = s.qlc.frames ∧ (onLine c g s).qlc.asked = s.qlc.asked := by
  simp [Qlc.frames, Qlc.asked]

@[simp] theorem onErrors_frames (g : ErrorSummary → ErrorSummary) (s : State) :
    (onErrors g s).qlc.frames = s.qlc.frames ∧ (onErrors g s).qlc.asked = s.qlc.asked := by
  simp [Qlc.frames, Qlc.asked]

/-- A DOWN count leaves LATE_ANSWER. -/
@[simp] theorem onErrors_down_late (c : Channel) (s : State) :
    (onErrors (ErrorSummary.down c) s).qlc.errors.lateAnswer = s.qlc.errors.lateAnswer := by
  cases c <;> rfl

/-- A change that keeps what is read of each element keeps what is read of the list. -/
theorem map_updWhere {α β : Type} (g : α → β) (p : α → Bool) (f : α → α) (l : List α) (h : ∀ x, g (f x) = g x) :
    (updWhere p f l).map g = l.map g := by
  simp only [updWhere, List.map_map]
  refine List.map_congr_left fun x _ => ?_
  simp only [Function.comp_apply]
  split <;> simp [h]

/-- Adjusting the waiting entries moves channels only (R177). -/
@[simp] theorem adjust_qlc (c : Channel) (p : Entry → Bool) (s : State) :
    (adjust c p s).qlc.nextEntry = s.qlc.nextEntry ∧
    (adjust c p s).qlc.sequence = s.qlc.sequence ∧
    (adjust c p s).qlc.peers = s.qlc.peers ∧
    (adjust c p s).qlc.announceAt = s.qlc.announceAt ∧
    (adjust c p s).qlc.lastAnnounce = s.qlc.lastAnnounce ∧
    (adjust c p s).qlc.errors = s.qlc.errors ∧
    (adjust c p s).qlc.lineA = s.qlc.lineA ∧
    (adjust c p s).qlc.lineB = s.qlc.lineB ∧
    (adjust c p s).qlc.frames = s.qlc.frames ∧ (adjust c p s).qlc.asked = s.qlc.asked := by
  unfold adjust
  split
  · simp
  · simp only [State.setQlc_qlc, Qlc.frames, Qlc.asked, true_and]
    refine ⟨map_updWhere _ _ _ _ fun e => ?_, map_updWhere _ _ _ _ fun r => rfl⟩
    unfold Entry.moved
    (repeat' split) <;> cases c <;> rfl

/-- A channel going DOWN leaves the queue's frames and the requests' keys. -/
@[simp] theorem channelDown_qlc (c : Channel) (d : DownCause) (s : State) :
    (channelDown c d s).qlc.nextEntry = s.qlc.nextEntry ∧
    (channelDown c d s).qlc.sequence = s.qlc.sequence ∧
    (channelDown c d s).qlc.peers = s.qlc.peers ∧
    (channelDown c d s).qlc.announceAt = s.qlc.announceAt ∧
    (channelDown c d s).qlc.lastAnnounce = s.qlc.lastAnnounce ∧
    (channelDown c d s).qlc.frames = s.qlc.frames ∧ (channelDown c d s).qlc.asked = s.qlc.asked ∧
    (channelDown c d s).qlc.errors.lateAnswer = s.qlc.errors.lateAnswer := by
  unfold channelDown
  split
  · simp
  · simp

/-- Hearing a frame on a channel leaves the queue's frames and the requests' keys (R170, R171). -/
@[simp] theorem heardOn_qlc (c : Channel) (s : State) :
    (heardOn c s).qlc.nextEntry = s.qlc.nextEntry ∧
    (heardOn c s).qlc.sequence = s.qlc.sequence ∧
    (heardOn c s).qlc.peers = s.qlc.peers ∧
    (heardOn c s).qlc.announceAt = s.qlc.announceAt ∧
    (heardOn c s).qlc.lastAnnounce = s.qlc.lastAnnounce ∧
    (heardOn c s).qlc.frames = s.qlc.frames ∧ (heardOn c s).qlc.asked = s.qlc.asked ∧
    (heardOn c s).qlc.errors.lateAnswer = s.qlc.errors.lateAnswer := by
  unfold heardOn
  dsimp only
  (repeat' split) <;> simp

/-- Hearing a frame leaves how many entries wait. -/
@[simp] theorem heardOn_queue_length (c : Channel) (s : State) :
    (heardOn c s).qlc.queue.length = s.qlc.queue.length := by
  have := congrArg List.length (heardOn_qlc c s).2.2.2.2.2.1
  simpa [Qlc.frames] using this

/-- Hearing a frame leaves how many requests are pending. -/
@[simp] theorem heardOn_requests_length (c : Channel) (s : State) :
    (heardOn c s).qlc.requests.length = s.qlc.requests.length := by
  have := congrArg List.length (heardOn_qlc c s).2.2.2.2.2.2.1
  simpa [Qlc.asked] using this

/-- An entry's frame joins the queue when there is room (R175). -/
theorem enqueue_room (f : Frame) (a b : Bool) (s : State) (h : s.qlc.queue.length < 16) :
    (enqueue f a b s).1.qlc.queue = s.qlc.queue ++ [⟨s.qlc.nextEntry, f, a, b⟩] ∧
    (enqueue f a b s).2 = some s.qlc.nextEntry ∧ (enqueue f a b s).1.qlc.requests = s.qlc.requests ∧
    (enqueue f a b s).1.qlc.sequence = s.qlc.sequence ∧ (enqueue f a b s).1.qlc.errors = s.qlc.errors := by
  simp [enqueue, h]

/-- A full queue takes no frame; QUEUE_FULL rises (R175). -/
theorem enqueue_full (f : Frame) (a b : Bool) (s : State) (h : ¬ s.qlc.queue.length < 16) :
    enqueue f a b s = (onErrors ErrorSummary.full s, none) := by
  simp [enqueue, h]

/-- What an Announce gives way to leaves of QLC: fewer waiting Announces, and all else as it was (R183; log entry 42). -/
theorem yieldAnnounce_eq (c : Channel) (s : State) :
    yieldAnnounce c s = s ∨ (yieldAnnounce c s = s.setQlc { s.qlc with
      queue := s.qlc.queue.filter fun e => !s.qlc.announceAt? e } ∧
      (s.qlc.line c).sending.any (fun x => x.frame.body.announces) = true) := by
  unfold yieldAnnounce
  split
  · rename_i x h
    split
    · rename_i g; exact .inr ⟨rfl, by simp [h, g]⟩
    · exact .inl rfl
  · exact .inl rfl

/-! ### Frames as bytes (R172) -/

/-- The two bytes of a 16-bit number read back as it. -/
@[simp] theorem word16_highLow (w : BitVec 16) : word16 ((highLow w).getD 0 0) ((highLow w).getD 1 0) = w := by
  have g : ((w >>> 8).setWidth 8 ++ w.setWidth 8 : BitVec (8 + 8)) = w := by
    ext i hi
    rw [BitVec.getElem_append]
    split
    · simp only [BitVec.getElem_setWidth]; exact BitVec.getLsbD_eq_getElem (by omega)
    · rename_i h
      simp only [BitVec.getElem_setWidth, BitVec.getLsbD_ushiftRight, show 8 + (i - 8) = i by omega]
      exact BitVec.getLsbD_eq_getElem (by omega)
  simpa [word16, highLow] using g

/-- The header of a frame as it is sent passes its check (R172, R174). -/
theorem headerGood_wireBytes (priority : Nat) (w : WireFrame) : headerGood (wireBytes priority w) = true := by
  simp [headerGood, wireBytes, byteAt]

/-- Every kind of frame has a priority from 1 to 6 (R173). -/
theorem priority_range (b : FrameBody) : kindPriority b.code = some b.priority ∧ 1 ≤ b.priority ∧ b.priority ≤ 6 := by
  cases b <;> simp [FrameBody.priority, FrameBody.code, kindPriority]

/-- No kind of frame allows a payload above 48 bytes (R173). -/
theorem kindLengthOk_le (code n : Nat) (h : kindLengthOk code n = true) : n ≤ 48 := by
  unfold kindLengthOk at h
  split at h <;> simp at h <;> omega

/-- A frame this station sends has a payload length its kind allows (R173). -/
theorem payloadLength_ok (b : FrameBody) : kindLengthOk b.code b.payloadLength = true := by
  have held (low high n : Nat) (h : low ≤ high) : low ≤ heldTo low high n ∧ heldTo low high n ≤ high := by
    unfold heldTo; omega
  have within (low high n : Nat) (h : low ≤ high) :
      (decide (low ≤ heldTo low high n) && decide (heldTo low high n ≤ high)) = true := by simpa using held low high n h
  cases b with
  | tagRevoke _ tags =>
    have := held 1 4 tags.length (by decide)
    simp only [FrameBody.code, FrameBody.payloadLength, kindLengthOk, Bool.or_eq_true, beq_iff_eq]; omega
  | berthTake _ _ _ tags name => exact within 20 48 _ (by decide)
  | officeRequest c _ =>
    cases c with
    | known _ | misfit _ _ => exact within 2 48 _ (by decide)
    | other _ => rfl
  | officeAnswer _ => exact within 2 48 _ (by decide)
  | _ => rfl

@[simp] theorem payload_length (b : FrameBody) : b.payload.length = b.payloadLength := by simp [FrameBody.payload]

/-- An answer joins the queue when there is room, on the channel of its request if that is usable (R177, R181). -/
theorem sendAnswer_queued (c : Channel) (n : Nat) (q : Num8) (b : FrameBody) (s : State)
    (h : s.qlc.queue.length < 16) : s.queued (sendAnswer c n q b s) (s.qlc.prefer c) ⟨n, q, b⟩ := by
  refine ⟨⟨s.qlc.nextEntry, ⟨n, q, b⟩, s.qlc.prefer c == .a, s.qlc.prefer c == .b⟩, ?_, rfl, le_refl _, rfl, rfl⟩
  simp [sendAnswer, enqueueOn, (enqueue_room _ _ _ _ h).1]

/-- A delivered frame of another station, where neither A nor an outlet moves (R100, R174). -/
theorem deliver_quiet (c : Channel) (n : Nat) (d : State → State) (s : State) (h : s.hears n)
    (hp : (d (heardOn c s)).pbc = s.pbc) (hl : (d (heardOn c s)).lsu.applied = s.lsu.applied)
    (hc : (d (heardOn c s)).classOf = s.classOf) : event (receive c n d) s = d (heardOn c s) := by
  simp only [event, receive_hears c n d s h]
  exact settled_same _ _ hp hl hc h.2.1

end Sys2Proof.Machine
end

