-- ==== Sys2Proof/Laws/Commands.lean ====
section
/-! SUPPORT. What the wrappers of a command keep: an event, a delivery, an effect of a running station. A view of the state
(`π`) that the parts keep is kept by the whole; so is a property (`P`). -/

namespace Sys2Proof.Machine

/-! ### Views of the state -/

theorem whenUp_same {β : Type} (π : State → β) (f : State → State) (h : ∀ x, π (f x) = π x) (s : State) :
    π (whenUp f s) = π s := by
  unfold whenUp; split
  · exact h s
  · rfl

theorem event_same {β : Type} (π : State → β) (hs : ∀ b x, π (settled b x) = π x) (f : State → State)
    (h : ∀ x, π (f x) = π x) (s : State) : π (event f s) = π s := (hs _ _).trans (h s)

theorem receive_same {β : Type} (π : State → β) (hh : ∀ c x, π (heardOn c x) = π x) (hr : ∀ r x, π (report r x) = π x)
    (c : Channel) (n : Nat) (d : State → State) (h : ∀ x, π (d x) = π x) (s : State) :
    π (receive c n d s) = π s := by
  unfold receive
  refine whenUp_same π _ (fun x => ?_) s
  dsimp only
  split
  · exact (hr _ _).trans (hh _ _)
  · exact (h _).trans (hh _ _)

/-! ### Properties of the state -/

theorem whenUp_keeps (P : State → Prop) (f : State → State) (h : ∀ x, P x → P (f x)) (s : State) (hs : P s) :
    P (whenUp f s) := by
  unfold whenUp; split
  · exact h s hs
  · exact hs

theorem event_keeps (P : State → Prop) (hs : ∀ b x, P x → P (settled b x)) (f : State → State)
    (h : ∀ x, P x → P (f x)) (s : State) (hp : P s) : P (event f s) := hs _ _ (h s hp)

theorem receive_keeps (P : State → Prop) (hh : ∀ c x, P x → P (heardOn c x)) (hr : ∀ r x, P x → P (report r x))
    (c : Channel) (n : Nat) (d : State → State) (h : ∀ x, P x → P (d x)) (s : State) (hs : P s) :
    P (receive c n d s) := by
  unfold receive
  refine whenUp_keeps P _ (fun x hx => ?_) s hs
  dsimp only
  split
  · exact hr _ _ (hh _ _ hx)
  · exact h _ (hh _ _ hx)

theorem foldl_keeps {α : Type} (P : State → Prop) (f : State → α → State) (h : ∀ x a, P x → P (f x a)) (l : List α)
    (s : State) (hs : P s) : P (l.foldl f s) := by
  induction l generalizing s with
  | nil => exact hs
  | cons a l ih => exact ih _ (h s a hs)

end Sys2Proof.Machine
end

