-- ==== Sys2Proof/Laws/Journal.lean ====
section
/-! SUPPORT. The journal only grows within an event: what an operation leaves in it is what it held and its own entries behind
it. The lemmas that a proof that an entry was written cites. -/

namespace Sys2Proof.Machine

/-- The journal with its attention line at a level. -/
def Evj.withAttention (a : Bool) (e : Evj) : Evj := { e with attention := a }

/-- The clock of the entries is as it was, and the journal has taken some entries, the attention line apart. -/
def Grows (s t : State) : Prop :=
  t.dck = s.dck ∧
    ∃ (rs : List Report) (a : Bool), t.evj = (rs.foldl (fun e r => e.write s.dck.clock r) s.evj).withAttention a

/-! ### What growing is -/

theorem write_withAttention (time : Option DayTime) (r : Report) (e : Evj) (a : Bool) :
    Evj.write time r (e.withAttention a) = (e.write time r).withAttention a := by
  unfold Evj.write
  rcases e with ⟨_ | ⟨x, l⟩, next, mark, overflow, attention⟩
  · rfl
  · show (ite ((x :: l).length < 256) _ _ : Evj) = Evj.withAttention a (ite ((x :: l).length < 256) _ _)
    split
    · rfl
    · show (ite (mark ≤ x.sequence) _ _ : Evj) = Evj.withAttention a (ite (mark ≤ x.sequence) _ _)
      split <;> rfl

theorem writes_withAttention (time : Option DayTime) (rs : List Report) (e : Evj) (a : Bool) :
    rs.foldl (fun e r => e.write time r) (e.withAttention a) =
      (rs.foldl (fun e r => e.write time r) e).withAttention a := by
  induction rs generalizing e with
  | nil => rfl
  | cons r rs ih => simp only [List.foldl_cons, write_withAttention, ih]

theorem Grows.same {s t : State} (hd : t.dck = s.dck) (he : t.evj = s.evj) : Grows s t :=
  ⟨hd, [], s.evj.attention, by rw [he]; rfl⟩

theorem Grows.refl (s : State) : Grows s s := .same rfl rfl

theorem Grows.trans {s t u : State} (h : Grows s t) (k : Grows t u) : Grows s u := by
  obtain ⟨hd, rs, a, hr⟩ := h
  obtain ⟨kd, ks, c, hk⟩ := k
  refine ⟨kd.trans hd, rs ++ ks, c, ?_⟩
  rw [hk, hr, hd, writes_withAttention, List.foldl_append]
  rfl

/-- A change of what is neither the clock nor the journal, and then a growth. -/
theorem Grows.after {s t u : State} (k : Grows t u) (hd : t.dck = s.dck) (he : t.evj = s.evj) : Grows s u :=
  (Grows.same hd he).trans k

theorem grows_report (r : Report) (s : State) : Grows s (report r s) := ⟨rfl, [r], _, rfl⟩

theorem grows_foldl {α : Type} (f : State → α → State) (h : ∀ s x, Grows s (f s x)) (l : List α) (s : State) :
    Grows s (l.foldl f s) := by
  induction l generalizing s with
  | nil => exact .refl s
  | cons x l ih => exact (h s x).trans (ih _)

/-- What grew holds what it held and some entries behind it. -/
theorem Grows.journalled {s t : State} (h : Grows s t) : ∃ rs, s.journalledAll t rs := by
  obtain ⟨-, rs, a, hr⟩ := h
  exact ⟨rs, (congrArg Evj.entries hr).trans rfl⟩

/-- An entry written between two growths is among what the journal took. -/
theorem Grows.noted {s t u : State} {r : Report} (h : Grows s t) (k : Grows (report r t) u) : s.noted u r := by
  obtain ⟨hd, rs, a, hr⟩ := h
  obtain ⟨-, ks, c, hk⟩ := k
  refine ⟨rs, ks, ?_⟩
  have written : (report r t).evj = (Evj.write s.dck.clock r t.evj).withAttention (report r t).evj.attention := by
    rw [← hd]; rfl
  have time : (report r t).dck = s.dck := hd
  show u.evj.entries = _
  rw [hk, written, time, hr, write_withAttention, writes_withAttention, writes_withAttention, List.foldl_append]
  rfl

/-! ### The feeder and the posts -/

theorem grows_noteFloors (n : Nat) (s : State) : Grows s (noteFloors n s) := by
  simp only [noteFloors]
  (repeat' split) <;> first | exact .refl s | exact (grows_report _ _).after rfl rfl

theorem grows_applyComputed (n : Nat) (s : State) : Grows s (applyComputed n s) := by
  simp only [applyComputed]
  (repeat' split) <;> first | exact .refl s | exact (grows_report _ _).after rfl rfl

theorem grows_compute (n : Nat) (s : State) : Grows s (compute n s) :=
  (grows_noteFloors _ s).trans ((grows_applyComputed _ _).after rfl rfl)

theorem grows_generateAnnounce (s : State) : Grows s (generateAnnounce s) := .same (by simp) (by simp)

theorem grows_noteLoad (s : State) : Grows s (noteLoad s) := by
  unfold noteLoad
  split
  · dsimp only
    split
    · exact .same rfl rfl
    · split
      · exact (((grows_generateAnnounce _).trans (grows_compute _ _)).after rfl rfl)
      · split
        · exact (grows_compute _ _).after rfl rfl
        · exact .same rfl rfl
  · exact .refl s

theorem grows_changeOutlet (n : Nat) (f : Outlet → Outlet) (s : State) : Grows s (changeOutlet n f s) :=
  (grows_noteLoad _).after rfl rfl

theorem grows_noticeOutlet (old new : Standing) (n : Nat) (s : State) : Grows s (noticeOutlet old new n s) := by
  simp only [noticeOutlet, outletSuspended, outletWaits]
  (repeat' split) <;> first | exact .refl s | exact (grows_changeOutlet _ _ _).after rfl rfl

theorem grows_noticeTap (old new : Standing) (n : Nat) (s : State) : Grows s (noticeTap old new n s) := by
  unfold noticeTap; (repeat' split) <;> first | exact .refl s

theorem grows_postsNotice (n k : Nat) (old new : Standing) (s : State) : Grows s (postsNotice n k old new s) := by
  have outlets (l : List Nat) : Grows s (l.foldl (fun x n => noticeOutlet old new n x) s) :=
    grows_foldl _ (fun x n => grows_noticeOutlet old new n x) l s
  simp only [postsNotice]
  (repeat' split) <;> first | exact .refl s | exact outlets _ | exact (outlets _).trans (grows_noticeTap _ _ _ _)

theorem grows_shedLoop (n : Nat) (s : State) : Grows s (shedLoop n s) := by
  induction n generalizing s with
  | zero => exact .refl s
  | succ n ih =>
    simp only [shedLoop]
    split
    · exact .refl s
    · split
      · exact .refl s
      · exact (grows_changeOutlet _ _ s).trans ((grows_report _ _).trans (ih _))

theorem grows_restoreWalk (l : List Nat) (s : State) : Grows s (restoreWalk l s) := by
  induction l generalizing s with
  | nil => exact .refl s
  | cons n l ih =>
    simp only [restoreWalk]
    split
    · exact ih s
    · split
      · exact ih s
      · split
        · exact (((grows_changeOutlet _ _ _).after rfl rfl : Grows s (outletLive n s))).trans (ih _)
        · exact .refl s

theorem grows_settleRounds (n : Nat) (s : State) : Grows s (settleRounds n s) := by
  induction n generalizing s with
  | zero => exact grows_shedLoop _ s
  | succ n ih =>
    have passed : Grows s (restorePass (shedAll s)) := (grows_shedLoop _ s).trans (grows_restoreWalk _ _)
    simp only [settleRounds]
    split
    · exact passed
    · exact passed.trans (ih _)

theorem grows_settlePosts (s : State) : Grows s (settlePosts s) := grows_settleRounds _ s

theorem grows_settled (before s : State) : Grows s (settled before s) := by
  unfold settled; split; exacts [.refl s, grows_settlePosts s]

theorem grows_berthOff (n : Nat) (s : State) : Grows s (berthOff n s) := by
  have outlets (l : List Nat) : Grows s (l.foldl (fun x n => outletOff n x) s) :=
    grows_foldl _ (fun x n => grows_changeOutlet n _ x) l s
  simp only [berthOff]
  split
  · exact .refl s
  · split
    · exact (outlets _).trans (.same rfl rfl)
    · exact outlets _

/-! ### Bookings and purses -/

theorem grows_changeBooking (n k : Nat) (f : Booking → Booking) (s : State) : Grows s (changeBooking n k f s) :=
  .same (by simp) (by simp)

theorem grows_afterCurrent (n : Nat) (before s : State) : Grows s (afterCurrent n before s) := by
  unfold afterCurrent
  split
  · split
    · exact .refl s
    · exact (grows_changeBooking _ _ _ s).trans (grows_berthOff _ _)
  · exact .refl s

theorem grows_revoke (tags : List Tag) (s : State) : Grows s (revoke tags s) := by
  simp only [revoke]
  split
  · exact .refl s
  · split
    · exact .same (by simp) (by simp)
    · exact (grows_report _ _).after (by simp) (by simp)

theorem grows_notice (n k : Nat) (old new : Standing) (s : State) : Grows s (notice n k old new s) := by
  simp only [notice]
  split
  · exact .refl s
  · exact (grows_changeBooking _ _ _ s).trans ((grows_revoke _ _).trans ((grows_postsNotice _ _ _ _ _).trans (grows_report _ _)))

theorem grows_restand (n k : Nat) (s : State) : Grows s (restand n k s) := by
  simp only [restand]
  split
  · exact .refl s
  · split
    · exact .refl s
    · exact (grows_changeBooking _ _ _ s).trans (grows_notice _ _ _ _ _)

theorem grows_debit (n k : Nat) (c : Charge) (d : Nat) (s : State) : Grows s (debit n k c d s) := by
  simp only [debit]
  split
  · exact .refl s
  · split
    · exact .refl s
    · split
      · exact (grows_changeBooking _ _ _ s).trans (grows_report _ _)
      · exact grows_changeBooking _ _ _ s

/-- A conversion writes BOOKING_MADE (R4). -/
theorem convert_noted (n : Nat) (ref : CallRef) (stay : Stay) (tags : List Tag) (name : Option BoatName) (s : State) :
    s.noted (convert n ref stay tags name s).1 (.bookingMade n (convert n ref stay tags name s).2 stay.arrival) :=
  Grows.noted (.same (by simp) (by simp)) (grows_afterCurrent n s _)

/-- A finished call writes CALL_DONE last (R59). -/
theorem finishCall_noted (n : Num8) (o : CallOutcome) (s t : State) (h : Grows t s) : t.noted (finishCall n o s) (.callDone n o) :=
  Grows.noted (h.trans (.same (by simp) (by simp))) (.refl _)

/-! ### The Quayline -/

theorem grows_channelDown (c : Channel) (d : DownCause) (s : State) : Grows s (channelDown c d s) := by
  unfold channelDown
  split
  · exact Grows.trans (t := report (.channelDown c d)
      (onErrors (ErrorSummary.down c) (onLine c (fun l => { l with state := .down }) s)))
      ((grows_report _ _).after (by simp) (by simp)) (.same (by simp) (by simp))
  · exact .refl s

theorem grows_heardOn (c : Channel) (s : State) : Grows s (heardOn c s) := by
  simp only [heardOn]
  split
  · split
    · exact ((grows_report _ _).after (by simp) (by simp)).trans (grows_channelDown _ _ _)
    · exact (grows_report _ _).after (by simp) (by simp)
  · split
    · exact (grows_channelDown _ _ _).after (by simp) (by simp)
    · exact .same (by simp) (by simp)

end Sys2Proof.Machine
end

