-- ==== Sys2Proof/Laws/Load.lean ====
section
/-! SUPPORT. What the load at reset writes: entries in their order, and the record of a slot lost (R23, R192). -/

namespace Sys2Proof.Machine

/-- From `s` to `t` exactly these entries were written, in this order, at one clock; the attention line may differ. -/
def Wrote (s t : State) (rs : List Report) : Prop :=
  t.dck = s.dck ∧ ∃ a : Bool, t.evj = (rs.foldl (fun e r => e.write s.dck.clock r) s.evj).withAttention a

/-- What leaves the clock and the journal writes nothing. -/
theorem Wrote.same {s t : State} (hd : t.dck = s.dck) (he : t.evj = s.evj) : Wrote s t [] :=
  ⟨hd, s.evj.attention, by rw [he]; rfl⟩

/-- What two operations write, one after the other. -/
theorem Wrote.trans {s t u : State} {rs ks} (h : Wrote s t rs) (k : Wrote t u ks) : Wrote s u (rs ++ ks) := by
  obtain ⟨hd, a, hr⟩ := h
  obtain ⟨kd, c, hk⟩ := k
  refine ⟨kd.trans hd, c, ?_⟩
  rw [hk, hr, hd, writes_withAttention, List.foldl_append]
  rfl

/-- `report` writes its entry (R192). -/
theorem wrote_report (r : Report) (s : State) : Wrote s (report r s) [r] := ⟨rfl, _, rfl⟩

/-- What was written, in the words of the statements. -/
theorem Wrote.all {s t : State} {rs} (h : Wrote s t rs) : s.journalledAll t rs := by
  obtain ⟨-, a, hr⟩ := h
  exact (congrArg Evj.entries hr).trans rfl

/-- One entry for each of a list, and nothing else changes. -/
theorem wrote_reports {α : Type} (f : α → Report) (l : List α) (s : State) :
    Wrote s (l.foldl (fun x t => report (f t) x) s) (l.map f) ∧
      (l.foldl (fun x t => report (f t) x) s) = { s with evj := (l.foldl (fun x t => report (f t) x) s).evj } := by
  induction l generalizing s with
  | nil => exact ⟨.same rfl rfl, rfl⟩
  | cons x xs ih => exact ⟨(wrote_report _ _).trans (ih _).1, by
      rw [List.foldl_cons, (ih (report (f x) s)).2]; rfl⟩

/-- A change of the record queue alone. -/
def QueueOnly (s t : State) : Prop := t = s.setBst { s.bst with queue := t.bst.queue, inFlight := t.bst.inFlight }

/-- `queueRecord` changes the record queue alone (R20). -/
theorem queueRecord_only (id : RecordId) (s : State) : QueueOnly s (queueRecord id s) := by
  unfold QueueOnly queueRecord; (repeat' split) <;> rfl

/-- The record queued waits for its write (R20). -/
theorem queueRecord_dirty (id : RecordId) (s : State) : (queueRecord id s).dirtyRecord id := by
  have := queueRecord_waits (id := id) (s := s)
  exact this

/-- `loseRecord`: the record queued, RECORD_LOST written, and nothing else (R23). -/
theorem loseRecord_freed (id : RecordId) (b : Option Nat) (s : State) :
    (loseRecord id b s).dirtyRecord id ∧ Wrote s (loseRecord id b s) [.recordLost id b] ∧
    (loseRecord id b s).bst = { s.bst with queue := (loseRecord id b s).bst.queue, inFlight := (loseRecord id b s).bst.inFlight } ∧
    (loseRecord id b s) = { s with bst := (loseRecord id b s).bst, evj := (loseRecord id b s).evj } := by
  have h : QueueOnly _ _ := queueRecord_only id (report (.recordLost id b) s)
  refine ⟨queueRecord_dirty _ _, ?_, ?_, ?_⟩
  · refine (wrote_report _ s).trans (.same ?_ ?_) <;> (unfold loseRecord; rw [h]; rfl)
  · unfold loseRecord; rw [h]; rfl
  · unfold loseRecord; rw [h]; rfl

end Sys2Proof.Machine
end

