-- ==== Sys2Proof/Laws/Heard.lean ====
section
/-! SUPPORT. What a frame heard on a channel leaves in QLC and writes: the silent other channel goes DOWN, and what waited there
moves (R170, R171, R177, R178). -/

namespace Sys2Proof.Machine

/-- An entry that loses the channel gone DOWN stands on the other one: already, or from now on (R177). -/
theorem moved_eq (e : Entry) (c : Channel) :
    e.moved c.other = if e.on c.other then (e.without c.other).also c else e := by
  rcases e with ⟨id, frame, a, b⟩
  cases c <;> cases a <;> cases b <;> rfl

/-- What a frame heard on a channel leaves in the queue and the table of requests (R170, R171, R177, R178). -/
theorem heardOn_moves (c : Channel) (s : State) :
    (heardOn c s).qlc.queue = s.queueHeard c ∧ (heardOn c s).qlc.requests = s.requestsHeard c ∧
      (heardOn c s).qlc.nextEntry = s.qlc.nextEntry ∧ ∀ id, (heardOn c s).qlc.waits id = s.qlc.waits id := by
  unfold State.queueHeard State.requestsHeard State.strands State.silences
  cases c <;> cases h1 : s.qlc.lineA.state <;> cases h2 : s.qlc.lineB.state <;> cases h3 : s.qlc.lineA.silent <;>
    cases h4 : s.qlc.lineB.silent <;>
    simp [heardOn, onLine, channelDown, adjust, Qlc.usable, Qlc.line, Qlc.withLine, Channel.other, h1, h2, h3, h4, updWhere,
      Qlc.beingSent, Qlc.waits, onErrors, ErrorSummary.down]
  all_goals
    refine ⟨fun e _ => ?_, fun r _ => by simp only [and_comm]⟩
    first
      | (rw [show e.moved .b = _ from moved_eq e .a]; simp only [Channel.other]; split_ifs <;> simp_all)
      | (rw [show e.moved .a = _ from moved_eq e .b]; simp only [Channel.other]; split_ifs <;> simp_all)

/-- A channel that goes DOWN writes CHANNEL_DOWN (R171). -/
theorem wrote_channelDown (c : Channel) (cause : DownCause) (s : State) :
    Wrote s (channelDown c cause s) (if (s.qlc.line c).state = .up then [.channelDown c cause] else []) := by
  unfold channelDown
  cases h : (s.qlc.line c).state
  · exact (Wrote.same (t := onErrors (ErrorSummary.down c) (onLine c (fun l => { l with state := .down }) s)) rfl rfl).trans
      (wrote_report (.channelDown c cause) _) |>.trans (.same (by simp) (by simp))
  · exact .same rfl rfl

/-- What a frame heard on a channel writes (R170, R171). -/
theorem heardOn_wrote (c : Channel) (s : State) : Wrote s (heardOn c s) (s.heardReports c) := by
  have up : ∀ x : State, Wrote s x (if (s.qlc.line c).state = .down then [.channelUp c] else []) →
      x.qlc.line c.other = s.qlc.line c.other →
      Wrote s (if (x.qlc.line c.other).silent then channelDown c.other .silence x else x) (s.heardReports c) := by
    intro x hx hl
    unfold State.heardReports State.silences
    rw [hl]
    cases (s.qlc.line c.other).silent
    · simpa using hx
    · have := hx.trans (wrote_channelDown c.other .silence x)
      rw [hl] at this
      simpa using this
  unfold heardOn
  refine up _ ?_ ?_
  · cases (s.qlc.line c).state
    · exact .same rfl rfl
    · exact (Wrote.same (t := onLine c _ s) rfl rfl).trans (wrote_report (.channelUp c) _)
  · cases (s.qlc.line c).state <;> cases c <;> simp [onLine, Qlc.line, Qlc.withLine, Channel.other]

end Sys2Proof.Machine
end

