-- ==== Sys2Proof/Laws/Lists.lean ====
section
/-! SUPPORT. What sorting by insertion and the largest of a list give: used for the orders the rules ask for (R23, R45, R196). -/

namespace Sys2Proof.Machine

/-- Inserting keeps what the list holds, and adds the new element once. -/
theorem insertBy_perm {α : Type} (le : α → α → Bool) (x : α) (l : List α) : (insertBy le x l).Perm (x :: l) := by
  induction l with
  | nil => exact .refl _
  | cons y ys ih =>
    unfold insertBy; split
    · exact (ih.cons y).trans (.swap _ _ _)
    · exact .refl _

/-- Inserting by a number keeps an ascending list ascending. -/
theorem insertBy_sorted {α : Type} (f : α → Nat) (x : α) (l : List α) (h : l.Pairwise fun a b => f a ≤ f b) :
    (insertBy (fun a b => f a ≤ f b) x l).Pairwise fun a b => f a ≤ f b := by
  induction l with
  | nil => simp [insertBy]
  | cons y ys ih =>
    rw [List.pairwise_cons] at h
    unfold insertBy; split
    · rename_i hy
      simp at hy
      rw [List.pairwise_cons]
      refine ⟨fun z hz => ?_, ih h.2⟩
      rcases List.mem_cons.1 ((insertBy_perm _ _ _).mem_iff.1 hz) with rfl | hz
      · exact hy
      · exact h.1 z hz
    · rename_i hy
      simp at hy
      rw [List.pairwise_cons, List.pairwise_cons]
      refine ⟨fun z hz => ?_, h⟩
      rcases List.mem_cons.1 hz with rfl | hz
      · omega
      · have := h.1 z hz; omega

/-- Inserting every element of a list into an ascending one. -/
theorem sortBy_aux {α : Type} (f : α → Nat) (l acc : List α) (h : acc.Pairwise fun a b => f a ≤ f b) :
    (l.foldl (fun acc x => insertBy (fun a b => f a ≤ f b) x acc) acc).Perm (acc ++ l) ∧
    (l.foldl (fun acc x => insertBy (fun a b => f a ≤ f b) x acc) acc).Pairwise fun a b => f a ≤ f b := by
  induction l generalizing acc with
  | nil => simpa using h
  | cons x xs ih =>
    obtain ⟨a, b⟩ := ih _ (insertBy_sorted f x acc h)
    refine ⟨a.trans ?_, b⟩
    refine ((insertBy_perm _ x acc).append_right xs).trans ?_
    simpa using (List.perm_middle (l₁ := acc) (l₂ := xs) (a := x)).symm

/-- `sortBy` by a number: the same elements, ascending. -/
theorem sortBy_spec {α : Type} (f : α → Nat) (l : List α) :
    (sortBy (fun a b => f a ≤ f b) l).Perm l ∧ (sortBy (fun a b => f a ≤ f b) l).Pairwise fun a b => f a ≤ f b := by
  simpa [sortBy] using sortBy_aux f l [] .nil

/-- The largest of a list and a start value: none is above it, and it is one of them. -/
theorem foldl_max (l : List Nat) (a : Nat) : a ≤ l.foldl max a ∧ (∀ x ∈ l, x ≤ l.foldl max a) ∧ (l.foldl max a = a ∨ l.foldl max a ∈ l) := by
  induction l generalizing a with
  | nil => simp
  | cons x xs ih =>
    obtain ⟨h1, h2, h3⟩ := ih (max a x)
    simp only [List.foldl_cons]
    refine ⟨by omega, ?_, ?_⟩
    · intro y hy
      rcases List.mem_cons.1 hy with rfl | hy
      · omega
      · exact h2 y hy
    · rcases h3 with h | h
      · rw [h]
        rcases Nat.le_total a x with h' | h'
        · right; simp [Nat.max_eq_right h']
        · left; omega
      · right; exact List.mem_cons_of_mem _ h

end Sys2Proof.Machine
end

