-- ==== Sys2Proof/Laws/Replies.lean ====
section
/-! SUPPORT. What the reply size limit makes of a reply (R188), which commands are forwarded (section 11.2), and what a berth operation is answered without berths, by BST
and by the terminal (R13, R24, R187). -/

namespace Sys2Proof.Machine

/-- A reply without items is within every limit. -/
@[simp] theorem within_answer (limit : Nat) (k : CmdKind) (r : Result) : (answer k r).within limit = answer k r := rfl

/-- What fills a reply fits its room. -/
theorem fillItems_fits (room : Nat) (items : List (Nat × Item)) :
    ((fillItems room items).1.map Config.itemBytes).sum ≤ room := by
  induction items generalizing room with
  | nil => exact Nat.zero_le _
  | cons x xs ih =>
    unfold fillItems
    split
    · have := ih (room - Config.itemBytes x.2)
      simp only [List.map_cons, List.sum_cons]; omega
    · exact Nat.zero_le _

/-- A listing's reply is filled within its limit: the limit changes nothing more of it (R188). -/
theorem within_packReply (k : CmdKind) (limit : Nat) (gap : Bool) (items : List (Nat × Item)) :
    (packReply k limit gap items).within limit = packReply k limit gap items := by
  unfold packReply Reply.within
  split
  · rfl
  · split
    · rw [if_pos (fillItems_fits _ _)]
    · rename_i h
      rw [if_neg (by simpa using h)]
      simp only [cutItems, ite_self]

/-- Where the items do not fit, the last one kept is the one that reaches the room. -/
theorem cutItems_reach (room : Nat) (items : List Item) (h : room < (items.map Config.itemBytes).sum) :
    room ≤ ((cutItems room items).map Config.itemBytes).sum ∧
      (0 < room → ((cutItems room items).dropLast.map Config.itemBytes).sum < room) := by
  induction items generalizing room with
  | nil => simp at h
  | cons i rest ih =>
    unfold cutItems
    simp only [List.map_cons, List.sum_cons] at h
    split
    · rename_i hi
      obtain ⟨a, b⟩ := ih (room - Config.itemBytes i) (by omega)
      refine ⟨by simp only [List.map_cons, List.sum_cons]; omega, fun _ => ?_⟩
      have := b (by omega)
      cases hc : cutItems (room - Config.itemBytes i) rest with
      | nil => rw [hc] at a; simp at a; omega
      | cons y ys => rw [hc] at this; simp only [List.dropLast_cons_cons, List.map_cons, List.sum_cons]; omega
    · simp; omega

/-- What a limit makes of a reply that is cut only where it is longer: not cut, its items are within the limit; cut by it, the last one is the one that reaches
the limit (R188). -/
theorem within_held (limit : Nat) (r : Reply) (h : 0 < limit) (hr : r.cut = true → limit < (r.items.map Config.itemBytes).sum) :
    ((r.within limit).cut = false → ((r.within limit).items.map Config.itemBytes).sum ≤ limit) ∧
    ((r.within limit).cut = true → limit ≤ ((r.within limit).items.map Config.itemBytes).sum ∧
      ((r.within limit).items.dropLast.map Config.itemBytes).sum < limit) := by
  unfold Reply.within
  split
  · rename_i hs
    exact ⟨fun _ => hs, fun c => absurd (hr c) (by omega)⟩
  · rename_i hs
    obtain ⟨a, b⟩ := cutItems_reach limit r.items (by omega)
    refine ⟨fun c => ?_, fun _ => ⟨a, b h⟩⟩
    cases c

/-- A listing's reply is cut only where its first item is longer than the limit (R188). -/
theorem packReply_cut (k : CmdKind) (limit : Nat) (gap : Bool) (items : List (Nat × Item)) :
    (packReply k limit gap items).cut = true → limit < ((packReply k limit gap items).items.map Config.itemBytes).sum := by
  unfold packReply
  split
  · intro c; cases c
  · split
    · intro c; cases c
    · rename_i h
      intro _
      simpa using h

/-! ### Forwarding (section 11.2, R190; log entry 96) -/

/-- The commands marked as forwarded are those that name a station. -/
theorem names_isSome (c : TermCmd) : c.names.isSome = CmdKind.forwarded c.kind := by cases c <;> rfl

/-! ### Berth operations without berths (R13, R24, R187; log entry 56) -/

/-- The operations that name a berth: those of section 1.5, the purse operations, which use their addressing, and the outlet
and tap commands (R13, R40 to R43, R108). -/
def berthOperations : List CmdKind :=
  [.checkOut, .cancel, .extend, .setTags, .readBooking, .credit, .bar, .unbar, .setMarks, .dropHold, .energise, .off,
    .resetOutlet, .clearLeak]

/-- The addressing check on a station that is not a PONTOON station (R13). -/
theorem addressed_noBerth {s : State} (h : s.cfg.role ≠ .pontoon) (berth serial : Nat) :
    s.addressed berth serial = .error .noBerth := by
  simp [State.addressed, h]

/-- On a station that is not a PONTOON station a berth operation that is performed changes nothing and is answered NO_BERTH
(R13, R108). -/
theorem perform_noBerth {s : State} (h : s.cfg.role ≠ .pontoon) (limit : Nat) {c : TermCmd} (hc : c.kind ∈ berthOperations) :
    perform limit c s = (s, answer c.kind .noBerth) := by
  have he : effect limit c s = (s, answer c.kind .noBerth) := by
    cases c <;> simp [berthOperations, TermCmd.kind] at hc <;>
      simp [effect, TermCmd.kind, doCheckOut, doCancel, doExtend, doSetTags, doReadBooking, doCredit, doBarMark,
        doSetMarks, doDropHold, doEnergise, doOff, doResetOutlet, doClearLeak, onAddressed, onNamedOutlet,
        addressed_noBerth h, State.commandBerth?, h]
  simp [perform, he]

/-- Without an accepted image BST answers a berth operation NO_BERTH (R24). -/
theorem perform_noBerth_of_blank {s : State} (h : s.cfg = blankImage) (limit : Nat) {c : TermCmd}
    (hc : c.kind ∈ berthOperations) : perform limit c s = (s, answer c.kind .noBerth) :=
  perform_noBerth (by rw [h]; decide) limit hc

/-- The terminal of a station in CONFIG_FAULT answers a berth operation CONFIG_FAULT, before its own rule (R187, R197). -/
theorem takeCommand_configFault {s : State} (hs : s.cfl.starting = false) (hf : s.inFault = true) (length : Nat) {c : TermCmd}
    (hc : c.kind ∈ berthOperations) : takeCommand length c s = sendReply (answer c.kind .configFault) s := by
  have hk : CmdKind.inFault c.kind = false := by
    revert hc; cases c.kind <;> decide
  simp [takeCommand, hs, hf, hk]

end Sys2Proof.Machine
end

