-- ==== Sys2Proof/Laws/Settling.lean ====
section
/-! SUPPORT. How shedding and restoring end (R100, R101): K is within A, and the last thing done is a restore pass. -/

namespace Sys2Proof.Machine

/-! ### What a change of an outlet leaves of PBC -/

/-- A change of an outlet leaves of PBC all but that outlet. -/
theorem changeOutlet_pbc (n : Nat) (f : Outlet → Outlet) (s : State) :
    (changeOutlet n f s).pbc = { s.pbc with outlets := updWhere (fun o => o.number == n) f s.pbc.outlets } := by
  simp [changeOutlet, patchOutlet]

/-- A shed outlet rests, and all else at the posts stands. -/
theorem outletShed_outlets (n : Nat) (s : State) : (outletShed n s).pbc.outlets =
    updWhere (fun o => o.number == n)
      (fun o => { o with state := .shed, join := none, restAt := some (s.now + s.cfg.restTime * 1000) }) s.pbc.outlets := by
  simp [outletShed, changeOutlet_pbc]

/-- An outlet switched LIVE, and all else at the posts stands. -/
theorem outletLive_outlets (n : Nat) (s : State) : (outletLive n s).pbc.outlets =
    updWhere (fun o => o.number == n)
      (fun o => { o with state := .live, smoothed := o.startClaim, overCurrent := 0, energise := some s.pbc.counter
                         join := none, restAt := none }) s.pbc.outlets := by
  simp [outletLive, takeNumber, changeOutlet_pbc]

/-! ### Counting outlets -/

/-- SHED with the rest timer running: no pass and no shed moves such an outlet. -/
def Outlet.rests (o : Outlet) : Bool := o.state == .shed && o.restAt.isSome

/-- How many outlets do not rest. -/
def State.awake (s : State) : Nat := s.pbc.outlets.countP fun o => !o.rests

/-- How many outlets are LIVE. -/
def State.lives (s : State) : Nat := s.pbc.outlets.countP fun o => o.state == .live

/-- The outlets have numbers of their own. -/
abbrev State.numbered (s : State) : Prop := (s.pbc.outlets.map Outlet.number).Nodup

theorem awake_le (s : State) : s.awake ≤ s.pbc.outlets.length := List.countP_le_length

theorem lives_le_awake (s : State) : s.lives ≤ s.awake := by
  unfold State.lives State.awake
  refine List.countP_mono_left fun o _ h => ?_
  simp only [beq_iff_eq] at h
  simp [Outlet.rests, h]

/-- A change of elements by which none comes to count anew does not raise a count. -/
theorem countP_updWhere_le {α : Type} (p q : α → Bool) (f : α → α) (l : List α)
    (h : ∀ x ∈ l, q x = true → p (f x) = true → p x = true) : (updWhere q f l).countP p ≤ l.countP p := by
  induction l with
  | nil => exact Nat.le_refl _
  | cons x xs ih =>
    have ih := ih fun y hy => h y (.tail _ hy)
    have hx := h x (.head _)
    simp only [updWhere, List.map_cons, List.countP_cons] at ih ⊢
    by_cases hq : q x = true
    · by_cases hp : p (f x) = true
      · simp only [hq, if_true, hp, hx hq hp]; omega
      · simp only [hq, if_true, hp]; (split <;> simp at *) <;> omega
    · simp only [hq]; simp at *; omega

/-- Where an element stops counting by it, the count falls. -/
theorem countP_updWhere_lt {α : Type} (p q : α → Bool) (f : α → α) (l : List α)
    (h : ∀ x ∈ l, q x = true → p (f x) = false) (ho : ∃ o ∈ l, q o = true ∧ p o = true) :
    (updWhere q f l).countP p < l.countP p := by
  induction l with
  | nil => obtain ⟨o, ho, _⟩ := ho; cases ho
  | cons x xs ih =>
    have tail : (updWhere q f xs).countP p ≤ xs.countP p :=
      countP_updWhere_le p q f xs fun y hy a b => by rw [h y (.tail _ hy) a] at b; cases b
    simp only [updWhere, List.map_cons, List.countP_cons] at tail ih ⊢
    by_cases hc : q x = true ∧ p x = true
    · simp only [hc.1, if_true, h x (.head _) hc.1, hc.2]; simp at *; omega
    · obtain ⟨o, hm, a, b⟩ := ho
      have ih := ih (fun y hy => h y (.tail _ hy)) (by
        obtain _ | hm := hm
        · exact absurd ⟨a, b⟩ hc
        · exact ⟨o, ‹_›, a, b⟩)
      by_cases hq : q x = true
      · simp only [hq, if_true, h x (.head _) hq]; simp at *; omega
      · simp only [hq]; simp at *; omega

/-! ### Shedding (R100) -/

/-- Without a LIVE outlet K is 0. -/
theorem committed_eq_zero {s : State} (h : s.lives = 0) : s.pbc.committed = 0 := by
  simp only [State.lives, List.countP_eq_zero, beq_iff_eq] at h
  simp only [Pbc.committed, List.sum_eq_zero_iff_forall_eq_nat, List.mem_map, forall_exists_index, and_imp]
  rintro _ o ho rfl
  simp [Pbc.claim, h o ho]

/-- While an outlet is LIVE one is there to be shed. -/
theorem lives_eq_zero {s : State} (h : s.victim? = none) : s.lives = 0 := by
  have kept : ∀ (l : List Outlet) (b : Outlet), l.foldl (fun best o => match best with
      | none => some o
      | some b => if s.shedBefore o b then some o else some b) (some b) ≠ none := by
    intro l
    induction l with
    | nil => intro b; simp
    | cons x l ih => intro b; simp only [List.foldl_cons]; split <;> exact ih _
  unfold State.victim? at h
  simp only [State.lives, List.countP_eq_length_filter]
  cases hl : s.pbc.outlets.filter fun o => o.state == .live with
  | nil => rfl
  | cons x l => rw [hl] at h; exact absurd h (kept l x)

/-- What one shed does: fewer LIVE outlets, fewer awake ones, the same numbers. -/
theorem shed_counts {s : State} {o : Outlet} (h : s.victim? = some o) (r : Report) :
    let t := report r (outletShed o.number s)
    t.lives < s.lives ∧ t.awake < s.awake ∧ t.pbc.outlets.map Outlet.number = s.pbc.outlets.map Outlet.number := by
  obtain ⟨hm, hl, -⟩ := victim?_spec h
  refine ⟨?_, ?_, ?_⟩
  · simp only [State.lives, report_frame, outletShed_outlets]
    exact countP_updWhere_lt _ _ _ _ (fun _ _ _ => rfl) ⟨o, hm, by simp, by simp [hl]⟩
  · simp only [State.awake, report_frame, outletShed_outlets]
    exact countP_updWhere_lt _ _ _ _ (fun _ _ _ => rfl) ⟨o, hm, by simp, by simp [Outlet.rests, hl]⟩
  · simp only [report_frame, outletShed_outlets]
    exact map_updWhere _ _ _ _ fun _ => rfl

/-- Everything shedding does to the outlets: with fuel for every LIVE one K is within A after it; none comes to be LIVE or awake;
and where K was above A, one outlet fewer is awake. -/
theorem shedLoop_spec (n : Nat) (s : State) (hn : s.lives ≤ n) :
    let t := shedLoop n s
    t.pbc.committed ≤ t.lsu.applied ∧ t.awake ≤ s.awake ∧ (¬ s.pbc.committed ≤ s.lsu.applied → t.awake < s.awake) ∧
      t.pbc.outlets.map Outlet.number = s.pbc.outlets.map Outlet.number := by
  induction n generalizing s with
  | zero =>
    have h0 := committed_eq_zero (Nat.le_zero.1 hn)
    exact ⟨by simp [shedLoop, h0], Nat.le_refl _, fun h => absurd (by omega) h, rfl⟩
  | succ n ih =>
    simp only [shedLoop]
    split
    · exact ⟨‹_›, Nat.le_refl _, fun h => absurd ‹_› h, rfl⟩
    · split
      · rename_i hk _ hv
        exact absurd (by rw [committed_eq_zero (lives_eq_zero hv)]; exact Nat.zero_le _) hk
      · rename_i o hv
        obtain ⟨hl, ha, hnum⟩ := shed_counts hv (.outletShed o.number (s.pbc.claim o) s.lsu.applied)
        obtain ⟨a, b, -, d⟩ := ih _ (Nat.le_of_lt_succ (Nat.lt_of_lt_of_le hl hn))
        exact ⟨a, by omega, fun _ => by omega, d.trans hnum⟩

theorem shedAll_spec (s : State) :
    let t := shedAll s
    t.pbc.committed ≤ t.lsu.applied ∧ t.awake ≤ s.awake ∧ (¬ s.pbc.committed ≤ s.lsu.applied → t.awake < s.awake) ∧
      t.pbc.outlets.map Outlet.number = s.pbc.outlets.map Outlet.number :=
  shedLoop_spec _ s ((lives_le_awake s).trans (awake_le s))

/-! ### A restore pass (R101) -/

/-- A pass wakes no outlet that rests, and leaves the numbers. -/
theorem restoreWalk_counts (l : List Nat) (s : State) (hs : s.numbered) :
    let t := restoreWalk l s
    t.awake ≤ s.awake ∧ t.pbc.outlets.map Outlet.number = s.pbc.outlets.map Outlet.number := by
  induction l generalizing s with
  | nil => exact ⟨Nat.le_refl _, rfl⟩
  | cons n l ih =>
    simp only [restoreWalk]
    split
    · exact ih s hs
    · rename_i o ho
      split
      · exact ih s hs
      · rename_i hrest
        split
        · have hnum : (outletLive n s).pbc.outlets.map Outlet.number = s.pbc.outlets.map Outlet.number := by
            rw [outletLive_outlets]; exact map_updWhere _ _ _ _ fun _ => rfl
          have hawake : (outletLive n s).awake ≤ s.awake := by
            simp only [State.awake, outletLive_outlets]
            refine countP_updWhere_le _ _ _ _ fun x hx hxn _ => ?_
            have hon := List.find?_some ho
            have hom := List.mem_of_find?_eq_some ho
            have : x = o := List.inj_on_of_nodup_map hs hx hom (by simp at hxn hon; rw [hxn, hon])
            subst this
            simp only [Bool.or_eq_true, not_or, Bool.not_eq_true] at hrest
            simp [Outlet.rests, hrest.2]
          obtain ⟨a, b⟩ := ih (outletLive n s) (by unfold State.numbered; rw [hnum]; exact hs)
          exact ⟨a.trans hawake, b.trans hnum⟩
        · exact ⟨Nat.le_refl _, rfl⟩

/-! ### The end of an event (R100, R101) -/

/-- A round sheds and runs a pass: the numbers stay, no outlet wakes, and from K above A one outlet fewer is awake. -/
theorem round_counts {s : State} (hs : s.numbered) :
    let t := restorePass (shedAll s)
    t.pbc.outlets.map Outlet.number = s.pbc.outlets.map Outlet.number ∧
      (¬ s.pbc.committed ≤ s.lsu.applied → t.awake < s.awake) := by
  obtain ⟨-, -, hlt, hnum⟩ := shedAll_spec s
  have hs' : (shedAll s).numbered := by unfold State.numbered; rw [hnum]; exact hs
  obtain ⟨ha, hnum'⟩ := restoreWalk_counts ((shedAll s).restoreQueue.map Outlet.number) _ hs'
  exact ⟨hnum'.trans hnum, fun hk => Nat.lt_of_le_of_lt ha (hlt hk)⟩

/-- The numbers stay numbers of their own. -/
theorem round_numbered {s : State} (hs : s.numbered) : (restorePass (shedAll s)).numbered := by
  unfold State.numbered; rw [(round_counts hs).1]; exact hs

/-- With a round for every outlet that is awake, the rounds end in a pass that leaves K within A, and more rounds change nothing. -/
theorem settleRounds_ends (n : Nat) (s : State) (hs : s.numbered) (hk : ¬ s.pbc.committed ≤ s.lsu.applied) (hn : s.awake ≤ n) :
    (∃ u, settleRounds n s = restorePass (shedAll u)) ∧ settleRounds (n + 1) s = settleRounds n s := by
  induction n generalizing s with
  | zero =>
    have := committed_eq_zero (Nat.le_zero.1 ((lives_le_awake s).trans hn))
    exact absurd (by omega) hk
  | succ n ih =>
    by_cases hp : (restorePass (shedAll s)).pbc.committed ≤ (restorePass (shedAll s)).lsu.applied
    · have one (m : Nat) : settleRounds (m + 1) s = restorePass (shedAll s) := by simp only [settleRounds]; rw [if_pos hp]
      exact ⟨⟨s, one n⟩, by rw [one, one]⟩
    · have one (m : Nat) : settleRounds (m + 1) s = settleRounds m (restorePass (shedAll s)) := by
        conv_lhs => unfold settleRounds
        exact if_neg hp
      have := (round_counts hs).2 hk
      obtain ⟨hu, hm⟩ := ih _ (round_numbered hs) hp (by omega)
      exact ⟨by rw [one]; exact hu, by rw [one, hm, ← one]⟩

/-- Whatever the rounds, K is within A after them (R100). -/
theorem settleRounds_within (n : Nat) (s : State) : (settleRounds n s).pbc.committed ≤ (settleRounds n s).lsu.applied := by
  induction n generalizing s with
  | zero => exact (shedAll_spec s).1
  | succ n ih =>
    simp only [settleRounds]
    split
    · exact ‹_›
    · exact ih _

/-- What shedding and restoring come to: K within A, after a restore pass that follows all shedding (R100, R101). -/
theorem settlePosts_ends (s : State) (hs : s.numbered) :
    (settlePosts s).pbc.committed ≤ (settlePosts s).lsu.applied ∧ ∃ u, settlePosts s = restorePass (shedAll u) := by
  refine ⟨settleRounds_within _ s, ?_⟩
  by_cases hp : (restorePass (shedAll s)).pbc.committed ≤ (restorePass (shedAll s)).lsu.applied
  · exact ⟨s, by unfold settlePosts settleRounds; exact if_pos hp⟩
  · have one : settlePosts s = settleRounds s.pbc.outlets.length (restorePass (shedAll s)) := by
      unfold settlePosts; conv_lhs => unfold settleRounds
      exact if_neg hp
    have same : (restorePass (shedAll s)).pbc.outlets.length = s.pbc.outlets.length := by
      simpa using congrArg List.length (round_counts hs).1
    rw [one, ← same]
    exact (settleRounds_ends _ _ (round_numbered hs) hp (awake_le _)).1

end Sys2Proof.Machine
end

