-- ==== Sys2Proof/WellFormed.lean ====
section
/-! DEFINITION. Which operands a partner can send: frames whose fields hold values of their ranges (chapters 2, 3, 9,
10), line events of lines the station can have (chapters 5, 7, 8). Operands of terminal commands are not checked here,
because the commands' own rules answer values out of range. No meaning reads these checks. -/

namespace Sys2Proof

/-- A station number (00_scope.md section 5.2). -/
def stationOk (n : Nat) : Bool := 1 ≤ n && n ≤ 30

/-- A berth number. -/
def berthOk (n : Nat) : Bool := 1 ≤ n && n ≤ 64

/-- A booking serial. -/
def serialOk (n : Nat) : Bool := 1 ≤ n && n ≤ 65535

/-- A gate number. -/
def gateOk (n : Nat) : Bool := 1 ≤ n && n ≤ 2

/-- A pump number. -/
def pumpOk (n : Nat) : Bool := 1 ≤ n && n ≤ 4

/-- A hold ID (R31). -/
def HoldId.ok (id : HoldId) : Bool := stationOk id.station && pumpOk id.pump

/-- An amount of a hold or a settlement (R31, section 2.6). -/
def amountOk (n : Nat) : Bool := n ≤ 99999999

/-- A boat dimension (00_scope.md section 5.1). -/
def sizeOk (n : Nat) : Bool := 1 ≤ n && n ≤ 9999

/-- A stay as a Berth Call or a Berth Take carries it (R46). -/
def Stay.ok (s : Stay) : Bool :=
  sizeOk s.loa && sizeOk s.beam && sizeOk s.draught && s.departure ≤ 65535 && s.arrival < s.departure

/-- What an Office Request can carry: a payload of at most 46 bytes where its length does not fit its command (R173, R189). -/
def OfficeCommand.ok : OfficeCommand → Bool
  | .misfit _ payload => payload.length ≤ 46
  | .known _ | .other _ => true

/-- A tag list of a booking (R46, R17). -/
def tagsOk (ts : List Tag) : Bool := 1 ≤ ts.length && ts.length ≤ 4 && ts.Nodup

/-- A boat name (R46). -/
def nameOk (n : Option BoatName) : Bool :=
  match n with
  | none => true
  | some cs => 1 ≤ cs.length && cs.length ≤ 16

/-- A day and second (R160). -/
def timeOk (day second : Nat) : Bool := day ≤ 65535 && second ≤ 86399

/-- The classes and the booking part of a record a Tag Answer carries (R111, R121). -/
def Credential.ok (c : Credential) : Bool :=
  stationOk c.owner &&
    match c.cls, c.booking with
    | .resident, some b | .visitor, some b => berthOk b.berth && serialOk b.serial && b.state != .tentative
    | _, _ => false

/-- Well-formed commands. -/
def Instr.wellFormed : Instr → Bool
  | .powerOnReset _ | .frameGapTimeout | .replySent _ => true
  | .checkOut _ _ _ | .cancel _ _ _ | .extend _ _ _ _ | .setTags _ _ _ _ | .readBooking _ _ _ _ => true
  | .readStatements _ _ | .credit _ _ _ _ | .bar _ _ _ | .unbar _ _ _ | .setMarks _ _ _ _ _ | .dropHold _ _ _ _ => true
  | .allocate _ | .callStatus _ _ | .loadStatus _ | .energise _ _ _ | .off _ _ _ | .resetOutlet _ _ _ => true
  | .clearLeak _ _ | .postStatus _ | .tagStatus _ | .cacheStatus | .flushCache | .setGateMode _ _ _ => true
  | .gateStatus _ _ | .gateAck _ _ _ | .directAuthorise _ _ _ | .cancelSale _ _ | .writeOffSale _ _ _ => true
  | .saleStatus _ _ | .setTime _ _ | .dayStatus | .selectTariff _ _ | .linkStatus _ | .status _ => true
  | .setReplyLimit _ | .journalRead _ | .journalAck _ | .writeConfigBegin _ => true
  | .writeConfigData _ bytes => 1 ≤ bytes.length && bytes.length ≤ 200
  | .writeConfigCommit | .restart | .configWriteStart | .configWriteEnd _ => true
  | .storeWriteStart | .storeWriteEnd _ | .storeWriteTimeout | .storeRetryTimer => true
  | .tentativeExpiry berth _ => berthOk berth
  | .holdMinuteTimer => true
  | .holdRequest _ src _ id _ serial amount => stationOk src && id.ok && serialOk serial && amountOk amount
  | .settleRequest _ src _ id serial amount => stationOk src && id.ok && serialOk serial && amountOk amount
  | .berthCall _ src ref body => stationOk src && stationOk ref.asker && body.stay.ok && body.priority ≤ 3
  | .berthOffer _ src ref berth cost => stationOk src && stationOk ref.asker && berthOk berth && cost ≤ 65535
  | .windowExpiry _ => true
  | .berthTake _ src _ ref berth stay tags name =>
      stationOk src && stationOk ref.asker && berthOk berth && stay.ok && tagsOk tags && nameOk name
  | .takeAnswer _ src _ ref berth result =>
      stationOk src && stationOk ref.asker && berthOk berth &&
        match result with
        | .accept serial => serialOk serial
        | .refuse | .tagInUse _ => true
  | .berthClose _ src ref winner =>
      stationOk src && stationOk ref.asker &&
        match winner with
        | none => true
        | some (st, berth) => stationOk st && berthOk berth
  | .computationTimer | .raiseTimer | .pollRoundTimer => true
  | .postAnswer post answer =>
      1 ≤ post && post ≤ 16 && answer.outlets.length ≤ 4 && answer.taps.length ≤ 2 &&
        answer.outlets.all fun r => r.current ≤ 60000
  | .postMiss => true
  | .restTimer outlet => 1 ≤ outlet && outlet ≤ 64
  | .tapRunTimer tap => 1 ≤ tap && tap ≤ 32
  | .refusedLampExpiry (.outlet n) => 1 ≤ n && n ≤ 64
  | .refusedLampExpiry (.tap n) => 1 ≤ n && n ≤ 32
  | .presentation (.gate n) _ => gateOk n
  | .presentation (.pump n) _ => pumpOk n
  | .tagQuery _ src _ _ => stationOk src
  | .tagAnswer _ src _ record departure => stationOk src && record.ok && departure ≤ 65535
  | .tagRevoke _ src owner tags => stationOk src && stationOk owner && 1 ≤ tags.length && tags.length ≤ 4
  | .exitButton gate | .doorSense gate _ | .releaseTimer gate | .heldOpenTimer gate => gateOk gate
  | .faultExitReleaseExpiry gate => gateOk gate
  | .pumpPollTimer pump | .pumpAnswer pump _ | .pumpMiss pump | .pumpRefusedDisplayExpiry pump => pumpOk pump
  | .holdAnswer _ src _ id result =>
      stationOk src && id.ok &&
        match result with
        | .granted amount => amountOk amount
        | .refused _ => true
  | .readyTimer pump => pumpOk pump
  | .settleAnswer _ src _ id result =>
      stationOk src && id.ok &&
        match result with
        | .settled amount => amountOk amount
        | .noBooking => true
  | .saleRetryTimer | .clockSecond => true
  | .timeNotice _ src day second => stationOk src && timeOk day second
  | .announce _ src body => stationOk src && body.floor ≤ 65535 && body.ceiling ≤ 65535 && body.demand ≤ 65535
  | .officeRequest _ src _ command limit => stationOk src && limit ≤ 40 && command.ok
  | .officeAnswer _ src _ _ => stationOk src
  | .silenceTimer _ | .transmitStart _ | .transmitComplete _ | .arbitrationLost _ | .transmitFault _ => true
  | .mediumBusyTimeout _ | .responseTimeout _ | .attemptDrop _ | .announceTimer => true
  | .stalenessTimer peer => stationOk peer
  | .terminalByte _ => true
  | .quaylineFrameDropped _ bytes => 6 ≤ bytes.length && bytes.length ≤ 56
  | .loadEnd => true

end Sys2Proof
end

