-- ==== Sys2Proof/Tests/Slice0.lean ====
section
/-! SUPPORT. Tests: the checks of WellFormed, values the manual works out, one step of a command here and there, and for each
statement a state and operands that meet its hypotheses (`witness_…`, named after the statement). -/

set_option Elab.async false

namespace Sys2Proof.Machine

/-! ### WellFormed: a term each check refuses -/

theorem test_wf_station : Instr.wellFormed (.tagQuery .a 31 0 5) = false := by decide
theorem test_wf_berth : Instr.wellFormed (.tentativeExpiry 65 ⟨1, 0⟩) = false := by decide
theorem test_wf_serial : Instr.wellFormed (.settleRequest .a 5 0 ⟨5, 1, 0⟩ 0 100) = false := by decide
theorem test_wf_gate : Instr.wellFormed (.exitButton 3) = false := by decide
theorem test_wf_pump : Instr.wellFormed (.pumpMiss 5) = false := by decide
theorem test_wf_holdId : Instr.wellFormed (.holdRequest .a 5 0 ⟨0, 1, 0⟩ 9 7 100) = false := by decide
theorem test_wf_amount : Instr.wellFormed (.settleRequest .a 5 0 ⟨5, 1, 0⟩ 7 100000000) = false := by decide
theorem test_wf_size :
    Instr.wellFormed (.berthCall .a 5 ⟨5, 0⟩ ⟨⟨.visitor, 10000, 300, 150, 100, 101⟩, .a16, 0⟩) = false := by decide
theorem test_wf_interval :
    Instr.wellFormed (.berthCall .a 5 ⟨5, 0⟩ ⟨⟨.visitor, 900, 300, 150, 101, 101⟩, .a16, 0⟩) = false := by decide
theorem test_wf_priority :
    Instr.wellFormed (.berthCall .a 5 ⟨5, 0⟩ ⟨⟨.visitor, 900, 300, 150, 100, 101⟩, .a16, 4⟩) = false := by decide
theorem test_wf_tags :
    Instr.wellFormed (.berthTake .a 5 0 ⟨5, 0⟩ 1 ⟨.visitor, 900, 300, 150, 100, 101⟩ [4, 4] none) = false := by decide
theorem test_wf_name :
    Instr.wellFormed (.berthTake .a 5 0 ⟨5, 0⟩ 1 ⟨.visitor, 900, 300, 150, 100, 101⟩ [4] (some [])) = false := by decide
theorem test_wf_cost : Instr.wellFormed (.berthOffer .a 5 ⟨3, 0⟩ 1 65536) = false := by decide
theorem test_wf_time : Instr.wellFormed (.timeNotice .a 5 100 86400) = false := by decide
theorem test_wf_record :
    Instr.wellFormed (.tagAnswer .a 5 0 { tag := 4, owner := 5, cls := .staff } 100) = false := by decide
theorem test_wf_revoke : Instr.wellFormed (.tagRevoke .a 5 5 []) = false := by decide
theorem test_wf_post : Instr.wellFormed (.postAnswer 17 ⟨0, [], []⟩) = false := by decide
theorem test_wf_outlet : Instr.wellFormed (.restTimer 65) = false := by decide
theorem test_wf_tap : Instr.wellFormed (.tapRunTimer 0) = false := by decide
theorem test_wf_announce : Instr.wellFormed (.announce .a 5 ⟨.gate, 65536, 0, 0, {}⟩) = false := by decide
theorem test_wf_limit : Instr.wellFormed (.officeRequest .a 5 0 (.other 1) 41) = false := by decide
theorem test_wf_payload :
    Instr.wellFormed (.officeRequest .a 5 0 (.misfit .bar (List.replicate 47 0)) 40) = false := by decide
theorem test_wf_data : Instr.wellFormed (.writeConfigData 0 []) = false := by decide
theorem test_wf_frame : Instr.wellFormed (.quaylineFrameDropped .a []) = false := by decide
theorem test_wf_accepts : Instr.wellFormed (.tagQuery .a 30 0 5) = true := by decide

/-! ### Values the manual works out -/

/-- The check value of the CRC of sections 1.6, 11.1 and R172 over the digits 1 to 9 (0x1021, all ones). -/
theorem test_crc16 : crc16 [0x31, 0x32, 0x33, 0x34, 0x35, 0x36, 0x37, 0x38, 0x39] = 0x29B1 := by decide +kernel
/-- The same for the CRC-8 of R172 (x⁸ + x² + x + 1, all ones). -/
theorem test_crc8 : crc8 [0x31, 0x32, 0x33, 0x34, 0x35, 0x36, 0x37, 0x38, 0x39] = 0xFB := by decide +kernel
/-- R147: a half cent is rounded up. -/
theorem test_saleAmount : saleAmount 1 500 = 1 ∧ saleAmount 1 499 = 0 := by decide
/-- R147: the volume is cut to 999,999 cl. -/
theorem test_presetVolume : presetVolume 99999999 1 = 999999 := by decide
/-- R165: a begun metre counts as a whole one. -/
theorem test_nightFee (b : Booking) (h : b.stay.kind = .visitor) (l : b.stay.loa = 1001) : nightFee 150 b = 1650 := by
  simp [nightFee, h, l]
/-- R2: an interval that ends on a day does not overlap one that begins on it. -/
theorem test_overlaps : overlaps 5 8 8 9 = false ∧ overlaps 5 9 8 9 = true := by decide
/-- R5: the serial after 65,535 is 1. -/
theorem test_serialAfter : serialAfter 65535 = 1 := by decide
/-- R93: the claim is rounded up to a multiple of 10. -/
theorem test_roundUp10 : roundUp10 161 = 170 ∧ roundUp10 160 = 160 := by decide
/-- R120, R169: from the close second itself a whole day is left. -/
theorem test_secondsToClose : secondsToClose 43200 43200 = 86400 ∧ secondsToClose 43200 43199 = 1 := by decide
/-- R129: a window may span midnight. -/
theorem test_inWindow : inWindow 79200 21600 0 = true ∧ inWindow 79200 21600 43200 = false := by decide
/-- R173: Hold Answers rank first, Announces last. -/
theorem test_kindPriority : kindPriority 2 = some 1 ∧ kindPriority 15 = some 6 ∧ kindPriority 17 = none := by decide

/-- R173: four bytes for each tag of a Tag Revoke; a Berth Take of four tags and a name of 16 fills its 48 bytes, one tag
without a name its 20. -/
theorem test_payloadLength (r : CallRef) (y : Stay) :
    (FrameBody.tagRevoke 3 [1, 2]).payloadLength = 8 ∧ (FrameBody.announce none).payloadLength = 15 ∧
      (FrameBody.berthTake r 1 y [1, 2, 3, 4] (some (List.replicate 16 65))).payloadLength = 48 ∧
      (FrameBody.berthTake r 1 y [1] none).payloadLength = 20 := ⟨rfl, rfl, rfl, rfl⟩

/-! ### Small states -/

/-- The image of a PONTOON station 3 with one berth, two outlets, a tap and a gate. -/
def tImage : Image :=
  { blankImage with
    station := 3, role := .pontoon, feederLimit := 1000, floor := 100, ceiling := 600, hysteresis := 50
    raiseTime := 30, tentativeTime := 2, responseTimeout := 300, stalenessTime := 5, holdTimeout := 30
    cacheLife := 60, restTime := 60, runLimit := 30, readyTime := 60, closeSecond := 43200, minimumSale := 500
    saleLimit := 20000
    tariffs := [⟨25, 5, 1500, 1600, 150⟩, ⟨26, 5, 1500, 1600, 150⟩, ⟨27, 5, 1500, 1600, 150⟩, ⟨28, 5, 1500, 1600, 150⟩] }

def tStay : Stay := ⟨.visitor, 1000, 350, 180, 95, 110⟩

/-- A CURRENT booking of serial 7 with an expired and a settled hold. -/
def tBooking : Booking where
  serial := some 7
  state := .current
  callRef := ⟨4, 1⟩
  slot := some 1
  stay := tStay
  tags := [11, 12]
  purse := { balance := 50000, lowMark := 2000, creditLimit := 0, credits := 50000,
             holds := [⟨⟨9, 1, 0⟩, .expired, 500, 30, none⟩, ⟨⟨9, 1, 1⟩, .settled, 500, 3, some 400⟩] }

/-- A RESERVED booking of serial 8 behind it. -/
def tReserved : Booking :=
  { tBooking with serial := some 8, state := .reserved, slot := some 2, tags := [13], stay := { tStay with arrival := 110, departure := 120 } }

def tBerth : Berth := { cfg := ⟨1, 1200, 400, 250, .a32, [1, 2], some 1, .any, 2⟩, bookings := [tBooking, tReserved] }

def tPost : Post := { cfg := ⟨1, [⟨1, .a16⟩, ⟨2, .a32⟩], [1]⟩, state := .online }

def tOutlet : Outlet := { number := 1, post := 1, position := 1, rating := .a16, berth := some 1, startClaim := 60 }

def tTap : Tap := { number := 1, post := 1, position := 1, berth := some 1 }

def tGate : Gate := { cfg := ⟨1, .pontoon, .card, 5, 30⟩, mode := .card }

/-- The station with these, running, the clock at day 100. -/
def tPontoon : State :=
  { State.reset with
    cfg := tImage
    cfl := { load := .accepted, starting := false }
    bst := { berths := [tBerth], nextSerial := 9 }
    lsu := { floor0 with applied := 100 }
    pbc := { posts := [tPost], outlets := [tOutlet, { tOutlet with number := 2, position := 2 }], taps := [tTap], firstRound := true }
    gtc := { gates := [tGate] }
    dck := { clock := some ⟨100, 1000⟩ }
    qlc := { peers := freshPeers 3 } }
where
  floor0 : Lsu := {}

/-- The same with other bookings on the berth. -/
def tWith (l : List Booking) : State := tPontoon.setBst { tPontoon.bst with berths := [{ tBerth with bookings := l }] }

/-- The same with the first outlet changed. -/
def tOutletIs (f : Outlet → Outlet) : State := patchOutlet 1 f tPontoon

/-- The same with the gate changed. -/
def tGateIs (f : Gate → Gate) : State := changeGate 1 f tPontoon

/-- The same with another TPC. -/
def tTpcIs (t : Tpc) : State := tPontoon.setTpc t

/-- A purse sale at pump 1 of FUEL station 9. -/
def tSale : Sale where
  id := ⟨9, 1, 4⟩
  kind := .purse
  stage := .authorising
  party := some ⟨11, 3, 1, 7, 0⟩
  price := 1500
  requested := 20000

def tReading : PumpReading := ⟨false, false, .none, 1000⟩

/-- A FUEL station 9 with pump 1 in a state, with a sale. -/
def tFuel (f : Pump → Pump) : State :=
  { tPontoon with
    cfg := { tImage with station := 9, role := .fuel }
    bst := {}, pbc := {}, gtc := {}, lsu := {}
    fsc := { pumps := [f { cfg := ⟨1, 1⟩, latest := some tReading }] } }

/-- A pending request of sequence 6 from FUEL station 9. -/
def tPending (body : FrameBody) (o : Originator) : Pending := ⟨3, body, 6, 1, .a, some 500, 200, none, o⟩

/-- A frame that waits. -/
def tQueued : Entry := ⟨0, ⟨5, 6, .tagQuery 11⟩, true, true⟩

/-- The station with one pending request. -/
def tAsking (s : State) (p : Pending) : State := s.setQlc { s.qlc with requests := [p] }

/-- A station whose channel B is UP and silent, with a request waiting there alone. -/
def tSilent (s : State) : State :=
  s.setQlc { s.qlc with
    lineB := { silent := true }
    queue := [⟨4, ⟨6, 9, .officeRequest (.known (.status 6)) 40⟩, false, true⟩]
    nextEntry := 5
    requests := s.qlc.requests ++ [⟨6, .officeRequest (.known (.status 6)) 40, 9, 1, .b, none, 200, some 4, .terminal⟩] }

/-- An UNSET station in CONFIG_FAULT. -/
def tFault : State := { State.reset with cfl := { load := .fault .format none, starting := false } }

/-! ### Witnesses: bookings and purses -/

theorem tReady : tPontoon.ready ∧ tPontoon.fits ∧ tPontoon.isHere 3 := by decide +kernel

theorem witness_CheckOutEndsStay :
    tPontoon.ready ∧ tPontoon.isHere 3 ∧ tPontoon.finds 1 7 tBooking ∧ tBooking.state = .current ∧
      ∀ h ∈ tBooking.purse.holds, h.state ≠ .active := by decide +kernel

theorem witness_CancelAndExtend :
    (tPontoon.ready ∧ tPontoon.isHere 3 ∧ tPontoon.finds 1 8 tReserved ∧ tReserved.state = .reserved) ∧
    (tPontoon.ready ∧ tPontoon.fits ∧ tPontoon.isHere 3 ∧ tPontoon.finds 1 7 tBooking ∧ tBooking.stay.arrival < 101 ∧
      (∀ day, tPontoon.today = some day → day < 101) ∧
      ∀ k, tPontoon.behind? 1 7 = some k → overlaps 95 101 k.stay.arrival k.stay.departure = false) := by
  refine ⟨by decide +kernel, by decide +kernel, by decide +kernel, by decide +kernel, by decide +kernel, by decide +kernel,
    ?_, ?_⟩
  · rintro _ ⟨⟩; decide
  · intro k h
    rw [show tPontoon.behind? 1 7 = some tReserved by decide +kernel] at h
    cases h; decide

theorem witness_SetTagsRevokesOldTags :
    tPontoon.ready ∧ tPontoon.fits ∧ tPontoon.isHere 3 ∧ tPontoon.finds 1 7 tBooking ∧ badTags [12, 14] = false ∧
      tPontoon.clash? 7 [12, 14] = none ∧ tBooking.tags ≠ [] ∧ tPontoon.qlc.queue.length < 16 := by decide +kernel

/-- At the top of the balance. -/
theorem witness_CreditRaisesBalance :
    tPontoon.ready ∧ tPontoon.isHere 3 ∧ tPontoon.finds 1 7 tBooking ∧ 1 ≤ 99949999 ∧ 99949999 ≤ 99999999 ∧
      tBooking.purse.balance + (99949999 : Nat) ≤ 99999999 ∧ tBooking.purse.credits + 99949999 ≤ 281474876710655 := by
  decide +kernel

theorem witness_MarksBarsAndHoldsAtTheTerminal :
    (tPontoon.ready ∧ tPontoon.fits ∧ tPontoon.isHere 3 ∧ tPontoon.finds 1 7 tBooking) ∧ (0 ≤ 99999999 ∧ 99999999 ≤ 99999999) ∧
      holdOf? ⟨9, 1, 0⟩ tBooking.purse.holds = some ⟨⟨9, 1, 0⟩, .expired, 500, 30, none⟩ := by decide +kernel

theorem witness_TentativeExpiryRemovesBooking :
    (tWith [tentativeBooking tImage ⟨4, 2⟩ tStay 2000]).up = true ∧
      (tWith [tentativeBooking tImage ⟨4, 2⟩ tStay 2000]).tentativeEnd? 1 ⟨4, 2⟩ = some 2000 := by decide +kernel

/-- A statement to read, asked for by either selector; a station whose list stands outside PONTOON. -/
theorem witness_ReadStatementsMarksWhatItCarries :
    let x := statementOf 4 1 1 .checkedOut tBooking
    let s := tPontoon.setBst { tPontoon.bst with statements := [x] }
    s.ready ∧ s.fits ∧ s.cfg.role = .pontoon ∧ s.askedStatements .unread 3 = [x] ∧ s.askedStatements .all 4 = [] ∧
      (tFuel id).ready ∧ (tFuel id).fits ∧ (tFuel id).cfg.role ≠ .pontoon := by decide +kernel

/-- A new request granted, one refused below the minimum sale, a repeat of an ACTIVE entry. -/
theorem witness_HoldRequestAnswered :
    (tPontoon.hears 9 ∧ tPontoon.finds 1 7 tBooking ∧ tPontoon.holdBooking? 7 12 = some (1, tBooking) ∧
      tPontoon.qlc.queue.length < 14 ∧ holdOf? ⟨9, 2, 0⟩ tBooking.purse.holds = none ∧
      holdCheck tPontoon.cfg.minimumSale 500 tBooking.purse = none ∧
      holdCheck tPontoon.cfg.minimumSale 499 tBooking.purse = some .standing) ∧
    (let b := { tBooking with purse := { tBooking.purse with holds := [⟨⟨9, 1, 0⟩, .active, 500, 29, none⟩] } }
     (tWith [b]).hears 9 ∧ (tWith [b]).finds 1 7 b ∧ (tWith [b]).holdBooking? 7 12 = some (1, b) ∧
      holdOf? ⟨9, 1, 0⟩ b.purse.holds = some ⟨⟨9, 1, 0⟩, .active, 500, 29, none⟩) := by decide +kernel

/-- An ACTIVE entry, an EXPIRED one, a SETTLED one, none of the ID with room for a tombstone, a serial no booking has. -/
theorem witness_SettleRequestDebitsOnce :
    (let b := { tBooking with purse := { tBooking.purse with holds := [⟨⟨9, 1, 0⟩, .active, 500, 29, none⟩] } }
     (tWith [b]).hears 9 ∧ (tWith [b]).finds 1 7 b ∧ (tWith [b]).settleBooking? 7 = some (1, b) ∧
      holdOf? ⟨9, 1, 0⟩ b.purse.holds = some ⟨⟨9, 1, 0⟩, .active, 500, 29, none⟩) ∧
    (tPontoon.hears 9 ∧ tPontoon.qlc.queue.length < 14 ∧ tPontoon.finds 1 7 tBooking ∧
      tPontoon.settleBooking? 7 = some (1, tBooking) ∧
      holdOf? ⟨9, 1, 1⟩ tBooking.purse.holds = some ⟨⟨9, 1, 1⟩, .settled, 500, 3, some 400⟩ ∧
      holdOf? ⟨9, 1, 0⟩ tBooking.purse.holds = some ⟨⟨9, 1, 0⟩, .expired, 500, 30, none⟩ ∧
      holdOf? ⟨9, 1, 2⟩ tBooking.purse.holds = none ∧ (tBooking.purse.holds.filter fun h => h.state != .settled).length < 4 ∧
      tPontoon.settleBooking? 6 = none) := by decide +kernel

/-- A debit down to the floor exactly. -/
theorem witness_MeterChargeKeepsMilliCents :
    let b := { tBooking with purse := { tBooking.purse with balance := -99999998, remainder := 999 } }
    (tWith [b]).booking? 1 7 = some b ∧
      -(floorCents : Int) ≤ b.purse.balance - ((b.purse.remainder + 1 * 1 : Nat) / 1000 : Nat) := by decide +kernel

theorem witness_HoldListStaysWithinFour :
    let l : List Hold := [⟨⟨9, 1, 0⟩, .active, 1, 0, none⟩, ⟨⟨9, 1, 1⟩, .settled, 1, 0, some 1⟩, ⟨⟨9, 1, 2⟩, .active, 1, 0, none⟩,
      ⟨⟨9, 1, 3⟩, .expired, 1, 0, none⟩]
    l.length ≤ 4 ∧ openHolds l < 4 := by decide

/-! ### Witnesses: the record store -/

def tWriting (retry : Bool) : State :=
  tPontoon.setBst { tPontoon.bst with
    inFlight := some ⟨.booking 1, tPontoon.copyOf (.booking 1), true, 50, retry⟩, fault := retry }

theorem witness_RecordWrites :
    (let s := tPontoon.setBst { tPontoon.bst with queue := [.booking 1, .station] }
     s.bst.fault = false ∧ s.bst.inFlight = none ∧ s.cfl.phase = .idle ∧ s.bst.queue = [.booking 1, .station]) ∧
    (∃ w, (tWriting false).bst.inFlight = some w ∧ w.retry = false ∧ (tWriting false).store.wf) ∧
    (∃ w, (tWriting true).bst.inFlight = some w ∧ w.retry = true ∧ (tWriting true).store.wf) ∧
    (let s := tPontoon.setBst { tPontoon.bst with queue := [.station], retryAt := some 10000, fault := true }
     s.bst.retryAt = some 10000 ∧ s.bst.inFlight = none ∧ s.cfl.phase = .idle ∧ s.bst.queue = [.station]) :=
  ⟨by decide +kernel, ⟨_, rfl, rfl, by decide +kernel⟩, ⟨_, rfl, rfl, by decide +kernel⟩, by decide +kernel⟩

/-! ### Witnesses: calls -/

def tForm : AllocateForm where
  kind := some .visitor
  power := some .a16
  loa := 1
  beam := 9999
  draught := 180
  priority := 3
  arrival := 100
  departure := 101
  tags := [21]
  name := none

/-- The call lies on today. -/
theorem witness_AllocateOpensCall :
    tPontoon.ready ∧ tPontoon.fits ∧ tPontoon.today = some 100 ∧
      tForm.request? = some ⟨⟨.visitor, 1, 9999, 180, 100, 101⟩, .a16, 3, [21], none⟩ ∧ 100 ≤ tForm.arrival ∧
      tForm.arrival < tForm.departure ∧ badTags tForm.tags = false ∧ tPontoon.alc.openCalls < 4 ∧
      tPontoon.qlc.queue.length < 16 := by decide +kernel

def tCall (arrival departure : Nat) : CallBody := ⟨⟨.visitor, 1200, 400, 250, arrival, departure⟩, .a32, 2⟩

/-- A call the berth fits exactly, on the day the last booking ends; one it does not. -/
theorem witness_BerthCallPlacesTentative :
    (tPontoon.hears 5 ∧ 5 ≠ tPontoon.cfg.station ∧ tPontoon.cfg.role = .pontoon ∧
      tPontoon.answered ⟨5, 0⟩ (tCall 120 121).stay = false ∧ tPontoon.tentatives < 4 ∧
      tPontoon.bestBerth? (tCall 120 121) = some tBerth ∧ tPontoon.qlc.queue.length < 16) ∧
    tPontoon.bestBerth? (tCall 119 121) = none := by decide +kernel

theorem witness_OfferIsCheapestCandidate : tPontoon.bestBerth? (tCall 120 121) = some tBerth := by decide +kernel

def tEntry (offers : List Offer) : Call :=
  ⟨0, .collecting, ⟨tStay, .a16, 0, [21], none⟩, some 250, offers, none, none, none⟩

def tCalling (c : Call) : State := tPontoon.setAlc { calls := [c], nextCall := 1 }

theorem witness_OffersAreCollectedAndTaken :
    (let s := tCalling (tEntry [])
     s.hears 5 ∧ s.cfg.station = 3 ∧ s.call? 0 = some (tEntry []) ∧ s.up = true ∧ s.fits ∧ (tEntry []).windowAt = some 250) ∧
    (let c := tEntry [⟨5, 1, 10⟩]
     (tCalling c).call? 0 = some c ∧ c.phase = .collecting ∧ c.offers = [⟨5, 1, 10⟩] ∧ 5 ≠ (tCalling c).cfg.station ∧
      (tCalling c).qlc.requests.length < 8 ∧ (tCalling c).qlc.queue.length < 16) := by decide +kernel

/-- The station with some bookings and a call whose head offer is its own berth's. -/
def tOwnCall (l : List Booking) : State := (tWith l).setAlc { calls := [tEntry [⟨3, 1, 0⟩, ⟨5, 1, 10⟩]], nextCall := 1 }

/-- This station's own head offer: its TENTATIVE booking stands, with the tags free and with one in use, it is gone, and it was
converted before. -/
theorem witness_OffersAreCollectedAndTaken_own :
    let k := tentativeBooking tImage ⟨3, 0⟩ tStay 2000
    let b (l : List Booking) : Berth := { tBerth with bookings := l }
    let done : Booking := { k with state := .reserved, serial := some 11, slot := some 1, tags := [21] }
    (let s := tOwnCall [k]
     s.up = true ∧ s.fits ∧ s.cfg.role = .pontoon ∧ s.cfg.station = 3 ∧ s.berth? 1 = some (b [k]) ∧
      takeRepeat? ⟨3, 0⟩ tStay (b [k]) = none ∧ (k.state = .tentative ∧ k.callRef = ⟨3, 0⟩ ∧ k.stay = tStay) ∧
      s.takenTag? [21] = none ∧ s.nextSerialGiven ∉ s.serials) ∧
    (tOwnCall [{ tReserved with tags := [21] }, k]).takenTag? [21] = some 21 ∧
    (takeRepeat? ⟨3, 0⟩ tStay (b [tReserved]) = none ∧ (tOwnCall [tReserved]).berth? 1 = some (b [tReserved])) ∧
    takeRepeat? ⟨3, 0⟩ tStay (b [done]) = some done ∧
    (let s := (tOwnCall [k]).setQlc { tPontoon.qlc with queue := List.replicate 16 tQueued }
     s.up = true ∧ s.fits ∧ 16 ≤ s.qlc.queue.length) ∧ (tOwnCall [k]).berth? 2 = none := by decide +kernel

/-- R55, R56, R59: the own head offer is converted at the end of the window and the call finishes ALLOCATED. -/
theorem test_windowExpiry_own :
    ∃ t, exec (.windowExpiry 0) (tOwnCall [tentativeBooking tImage ⟨3, 0⟩ tStay 2000]) = .next t ∧
      (t.call? 0).bind Call.outcome = some (.allocated 3 1 9) ∧ (t.booking? 1 9).isSome = true :=
  ⟨_, rfl, by decide +kernel⟩

theorem witness_TakeConvertsTentative :
    let k := tentativeBooking tImage ⟨5, 0⟩ { tStay with arrival := 101, departure := 102 } 2000
    let b := { tBerth with bookings := [k] }
    (tWith [k]).hears 5 ∧ (tWith [k]).cfg.role = .pontoon ∧ (tWith [k]).berth? 1 = some b ∧
      takeRepeat? ⟨5, 0⟩ k.stay b = none ∧ (k.state = .tentative ∧ k.callRef = ⟨5, 0⟩) ∧ (tWith [k]).takenTag? [21] = none ∧
      (tWith [k]).nextSerialGiven ∉ (tWith [k]).serials ∧ (tWith [k]).conversionState k.stay.arrival = .reserved ∧
      (tWith [k]).qlc.queue.length < 16 := by decide +kernel

/-- A conversion to CURRENT that displaces the holding booking, with room for an Announce and the Berth Close. -/
theorem witness_OffersAreCollectedAndTaken_displaced :
    let k := tentativeBooking tImage ⟨3, 0⟩ tStay 2000
    let s := tOwnCall [k, { tBooking with stay := { tStay with arrival := 110, departure := 120 } }]
    s.up = true ∧ s.fits ∧ takeRepeat? ⟨3, 0⟩ tStay { tBerth with bookings := [k, tBooking] } = none ∧
      (s.holding? 1).bind Booking.serial = some 7 ∧ s.conversionState tStay.arrival = .current ∧
      s.takenTag? [21] = none ∧ s.nextSerialGiven ∉ s.serials ∧ s.qlc.queue.length < 15 := by decide +kernel

theorem witness_AnswersAndClosesEndCalls :
    let c : Call := { tEntry [⟨5, 1, 10⟩] with phase := .taking, windowAt := none, inFlight := some (5, 1) }
    let p : Pending := ⟨5, .berthTake ⟨3, 0⟩ 1 tStay [21] none, 6, 1, .a, some 500, 200, none, .call 0⟩
    let s := tAsking (tCalling c) p
    s.hears 5 ∧ s.matching? 5 6 (.takeAnswer ⟨3, 0⟩ 1 (.accept 7)) = some p ∧ p.originator = .call 0 ∧
      s.call? 0 = some c ∧ c.inFlight = some (5, 1) := by decide +kernel

/-- A refused Take with no offer, another station's and this station's own behind it, and one of a tag in use. -/
theorem witness_AnswersAndClosesEndCalls_refused :
    ∀ rest ∈ [[], [⟨6, 1, 11⟩], [⟨3, 1, 12⟩]], ∀ result ∈ [TakeResult.refuse, .tagInUse 21],
      let c : Call := { tEntry (⟨5, 1, 10⟩ :: rest) with phase := .taking, windowAt := none, inFlight := some (5, 1) }
      let p : Pending := ⟨5, .berthTake ⟨3, 0⟩ 1 tStay [21] none, 6, 1, .a, some 500, 200, none, .call 0⟩
      let s := tAsking (tCalling c) p
      s.hears 5 ∧ s.matching? 5 6 (.takeAnswer ⟨3, 0⟩ 1 result) = some p ∧ p.originator = .call 0 ∧
        s.call? 0 = some c ∧ c.inFlight = some (5, 1) ∧ (s.qlc.line .a).state = .up ∧ (s.qlc.line .b).silent = false ∧
        s.berth? 1 = some tBerth := by decide +kernel

/-- The answer takes the other channel DOWN, and the request that waited there takes the answer's channel (R171, R177, R178). -/
theorem witness_AnswersAndClosesEndCalls_silent :
    let c : Call := { tEntry [⟨5, 1, 10⟩] with phase := .taking, windowAt := none, inFlight := some (5, 1) }
    let p : Pending := ⟨5, .berthTake ⟨3, 0⟩ 1 tStay [21] none, 6, 1, .a, some 500, 200, none, .call 0⟩
    let s := tSilent (tAsking (tCalling c) p)
    s.hears 5 ∧ s.matching? 5 6 (.takeAnswer ⟨3, 0⟩ 1 (.accept 7)) = some p ∧ s.call? 0 = some c ∧ s.silences .a = true ∧
      s.heardReports .a = [.channelDown .b .silence] ∧ (s.requestsHeard .a).map Pending.channel = [.a, .a] ∧
      ∃ t, exec (.takeAnswer .a 5 6 ⟨3, 0⟩ 1 (.accept 7)) s = .next t ∧ t.qlc.lineB.state = .down ∧
        t.qlc.requests.map (fun x => (x.sequence, x.channel)) = [(9, .a)] ∧
        ((t.qlc.queue.find? fun e => e.id == 4).map fun e => (e.onA, e.onB)) = some (true, false) := by
  refine ⟨?_, ?_, ?_, ?_, ?_, ?_, _, rfl, ?_⟩ <;> decide +kernel

/-- After TAG_IN_USE the next offer is asked for, and TAG_CLASH stands in the journal (R58). -/
theorem test_takeAnswer_tagInUse :
    let c : Call :=
      { tEntry [⟨5, 1, 10⟩, ⟨6, 1, 11⟩] with phase := .taking, windowAt := none, inFlight := some (5, 1) }
    let s := tAsking (tCalling c) ⟨5, .berthTake ⟨3, 0⟩ 1 tStay [21] none, 6, 1, .a, some 500, 200, none, .call 0⟩
    ∃ t, exec (.takeAnswer .a 5 6 ⟨3, 0⟩ 1 (.tagInUse 21)) s = .next t ∧ (t.call? 0).bind Call.inFlight = some (6, 1) ∧
      t.lastReport = some (.tagClash 21 (some (5, 1)) (some 0)) := ⟨_, rfl, by decide +kernel⟩

/-! ### Witnesses: the feeder and the posts -/

def tShare (n floor excess : Nat) : Participant := ⟨n, .present, floor, 60000, floor + excess, excess, 0⟩

/-- Floors above the limit, excesses that fit exactly, excesses that do not fit by one. -/
theorem witness_SharesFillTheLimit :
    (∀ p ∈ [tShare 1 60 60000, tShare 2 50 0], p.excess ≤ 60000) ∧ ¬ floorSum [tShare 1 60 60000, tShare 2 50 0] ≤ 100 ∧
    (∀ p ∈ [tShare 1 60 10, tShare 2 20 11], p.excess ≤ 60000) ∧ floorSum [tShare 1 60 10, tShare 2 20 11] ≤ 101 ∧
    100 < floorSum [tShare 1 60 10, tShare 2 20 11] + ([tShare 1 60 10, tShare 2 20 11].map Participant.excess).sum ∧
    floorSum [tShare 1 60 10, tShare 2 20 11] + ([tShare 1 60 10, tShare 2 20 11].map Participant.excess).sum ≤ 101 ∧
    tPontoon.cfg.station ≤ 30 ∧ (∀ p ∈ tPontoon.qlc.peers, p.number ≤ 30) := by decide +kernel

/-- R73: a level of 9 and one left over, which goes to the first above it. -/
theorem test_waterLevel :
    (computeShares 100 [tShare 1 60 30, tShare 2 20 4, tShare 3 1 30]).map Participant.share = [68, 24, 8] := by decide +kernel

theorem witness_FeederTimers :
    let s := tPontoon.setLsu { tPontoon.lsu with raiseAt := some 30000, computed := 300 }
    s.up = true ∧ s.fits ∧ s.lsu.raiseAt = some 30000 ∧ ∀ o ∈ s.pbc.outlets, o.state ≠ .waiting ∧ o.state ≠ .shed := by
  decide +kernel

theorem witness_EnergiseAndOff :
    (tPontoon.ready ∧ tPontoon.isHere 3 ∧ tPontoon.cfg.role = .pontoon ∧ tPontoon.berth? 1 = some tBerth ∧
      tPontoon.outletAt? tBerth 1 = some tOutlet ∧ tOutlet.berth = some 1 ∧ tPontoon.holding? 1 = some tBooking ∧
      tPontoon.booking? 1 (tBooking.serial.getD 0) = some tBooking ∧ tOutlet.state = .off ∧ tBooking.purse.standing = .good) ∧
    (let s := tOutletIs fun o => { o with state := .suspended }
     s.ready ∧ s.berth? 1 = some tBerth ∧ s.outletAt? tBerth 1 = some { tOutlet with state := .suspended } ∧
      s.holding? 1 = some tBooking) := by decide +kernel

/-- With and without a reported fault; a tap with a leak mark. -/
theorem witness_ResetOutletAndClearLeak :
    (∀ v, let s := tOutletIs fun o => { o with state := .tripped, faultSeen := v }
     s.ready ∧ s.fits ∧ s.isHere 3 ∧ s.cfg.role = .pontoon ∧ s.berth? 1 = some tBerth ∧
      s.outletAt? tBerth 1 = some { tOutlet with state := .tripped, faultSeen := v }) ∧
    (let s := changeTap 1 (fun t => { t with leakMark := true, leakCount := 6 }) tPontoon
     s.ready ∧ s.fits ∧ s.berth? 1 = some tBerth ∧ tBerth.cfg.tap = some 1 ∧
      s.tap? 1 = some { tTap with leakMark := true, leakCount := 6 }) := by decide +kernel

/-- A first miss, a third one, the last post of the round. -/
theorem witness_PollRoundsMissesAndAnswers :
    tPontoon.up = true ∧ tPontoon.pbc.posts = [tPost] ∧
    (∀ m : Fin 3, let s := changePost 1 (fun p => { p with misses := m }) (tPontoon.setPbc { tPontoon.pbc with polling := some 1, toPoll := [] })
     s.up = true ∧ s.pbc.polling = some 1 ∧ s.post? 1 = some { tPost with misses := m } ∧ tPost.state ≠ .offline ∧
      s.pbc.toPoll = []) := by decide +kernel

/-- The meters: no baseline; one past the limit, at it, at 0; a booking that holds the outlet and none. -/
theorem witness_PollRoundsMissesAndAnswers_meters :
    (tPontoon.outlet? 1 = some tOutlet ∧ tOutlet.energyBase = none ∧ tPontoon.tap? 1 = some tTap ∧ tTap.volumeBase = none) ∧
    (∀ l ∈ [[tBooking], []], let s := patchOutlet 1 (fun o => { o with energyBase := some 65535 }) (tWith l)
      s.outlet? 1 = some { tOutlet with energyBase := some 65535 }) ∧
    (5 * 1 < ((5 : Count16) - 65535).toNat ∧ ((4 : Count16) - 65535).toNat ≤ 5 * 1 ∧ ((65535 : Count16) - 65535).toNat = 0 ∧
      2 * 1 < ((2 : Count16) - 65535).toNat ∧ ((1 : Count16) - 65535).toNat ≤ 2 * 1) ∧
    (tPontoon.holder? (some 1) = some (1, tBooking) ∧ tBooking.serial = some 7 ∧ tPontoon.booking? 1 7 = some tBooking ∧
      tBooking.purse.balance - ((tBooking.purse.remainder + 5 * 25) / 1000 : Nat) ≥ -(floorCents : Int)) ∧
    (tWith []).holder? (some 1) = none ∧
    (∀ st ∈ [TapState.opened, .closed], let s := changeTap 1 (fun x => { x with state := st, volumeBase := some 65535 }) tPontoon
      s.tap? 1 = some { tTap with state := st, volumeBase := some 65535 }) := by decide +kernel

/-- Currents and presses: over-current counted twice and once before, at its limit and above; each state and standing. -/
theorem witness_PollRoundsMissesAndAnswers_presses :
    (∀ n ∈ [1, 2], let s := tOutletIs fun o => { o with state := .live, overCurrent := n }
      s.outlet? 1 = some { tOutlet with state := .live, overCurrent := n }) ∧
    (tOutlet.rating.limit < min 1000 177 ∧ ¬tOutlet.rating.limit < min 1000 176) ∧
    (∀ st ∈ [OutletState.off, .waiting, .shed, .suspended, .tripped], let s := tOutletIs fun o => { o with state := st }
      s.outlet? 1 = some { tOutlet with state := st }) ∧
    (∀ w ∈ [Standing.good, .low, .arrears, .barred],
      let b := { tBooking with purse := { tBooking.purse with standing := w } }
      (tWith [b]).holder? (some 1) = some (1, b) ∧ b.purse.standing = w) ∧
    (∀ st ∈ [TapState.opened, .closed, .locked], ∀ m ∈ [true, false],
      let s := changeTap 1 (fun x => { x with state := st, leakMark := m }) tPontoon
      s.tap? 1 = some { tTap with state := st, leakMark := m }) := by decide +kernel

theorem witness_PostTimers :
    (let s := tOutletIs fun o => { o with state := .shed, restAt := some 60000, refusedUntil := some 5000 }
     s.up = true ∧ s.outlet? 1 = some { tOutlet with state := .shed, restAt := some 60000, refusedUntil := some 5000 }) ∧
    (let s := changeTap 1 (fun t => { t with state := .opened, runAt := some 60000, refusedUntil := some 5000 }) tPontoon
     s.up = true ∧ s.tap? 1 = some { tTap with state := .opened, runAt := some 60000, refusedUntil := some 5000 }) := by
  decide +kernel

/-- Two outlets LIVE at 60 each, and A at a level. -/
def tShedding (applied : Nat) : State :=
  let live (n : Nat) : Outlet := { tOutlet with number := n, position := n, state := .live, smoothed := 60, energise := some n }
  { tPontoon with
    pbc := { tPontoon.pbc with outlets := [live 1, live 2] }, lsu := { tPontoon.lsu with applied := applied } }

/-- K above A with the later energised outlet to shed, and within it; a queued outlet that fits, does not fit, rests. -/
theorem witness_PostTimers_shed :
    (let s := tShedding 100
     (s.pbc.outlets.map Outlet.number).Nodup ∧ s.lsu.applied < s.pbc.committed ∧
      (∃ o ∈ s.pbc.outlets, o.number = 2 ∧ o.state = .live ∧ ∀ x ∈ s.pbc.outlets, x.state = .live → x ≠ o →
        s.classOf o < s.classOf x ∨ (s.classOf o = s.classOf x ∧ x.energise.getD 0 < o.energise.getD 0))) ∧
    (tShedding 120).pbc.committed ≤ (tShedding 120).lsu.applied ∧
    (∀ a ∈ [59, 60], let s := { tOutletIs fun o => { o with state := .waiting, join := some 1 } with
        lsu := { tPontoon.lsu with applied := a } }
      (s.outlet? 1).any (fun o => o.restAt == none && o.state == .waiting) = true ∧
        decide (s.pbc.committed + 60 ≤ s.lsu.applied) = (a == 60)) ∧
    (let s := tOutletIs fun o => { o with state := .shed, restAt := some 60000 }
     (s.outlet? 1).any (fun o => o.restAt != none) = true) := by decide +kernel

/-- Of two LIVE outlets of one class the one energised last is shed (R100). -/
theorem test_shed_lastEnergised :
    ((settlePosts (tShedding 100)).pbc.outlets.map Outlet.state) = [.live, .shed] := by decide +kernel

/-- A restore pass switches the head of the queue LIVE where its claim just fits, and none where it does not (R101). -/
theorem test_restore_head :
    [60, 59].map (fun a => ((settlePosts { tOutletIs (fun o => { o with state := .waiting, join := some 1 }) with
        lsu := { tPontoon.lsu with applied := a } }).outlet? 1).map Outlet.state) =
      [some .live, some .waiting] := by decide +kernel

/-- Outlet 1, of class 0, LIVE at 250; outlets 2, of class 2, and 3, of class 0, WAITING with start claims 65 and 60; A at 315. -/
def tRounding : State :=
  let waits (n claim : Nat) (berth : Option Nat) : Outlet :=
    { tOutlet with number := n, position := n, berth := berth, startClaim := claim, state := .waiting, join := some n }
  { tPontoon with
    pbc := { tPontoon.pbc with
      outlets := [{ waits 1 250 none with rating := .a63, state := .live, join := none, energise := some 1 },
        waits 2 65 (some 1), waits 3 60 none]
      counter := 4 }
    lsu := { tPontoon.lsu with applied := 315 } }

/-- The first pass leaves K above A; the end of the event does not. -/
theorem witness_PostTimers_rounds :
    (tRounding.pbc.outlets.map Outlet.number).Nodup ∧ ¬(restorePass (shedAll tRounding)).fits ∧
      (restorePass (shedAll (tShedding 100))).fits ∧
      ((settlePosts (tShedding 70)).restoreQueue.find? fun x => x.restAt.isNone) = none ∧
      ((settlePosts { tRounding with lsu := { tRounding.lsu with applied := 300 } }).restoreQueue.find?
        fun x => x.restAt.isNone).isSome = true := by decide +kernel

/-- R93, R100, R101: the head's claim of 65 just fits and joins K as 70; outlet 1 is shed for it, and the pass that follows the
shed switches outlet 3 LIVE. -/
theorem test_pass_followsShed :
    ((settlePosts tRounding).pbc.outlets.map Outlet.state) = [.shed, .live, .live] := by decide +kernel

/-! ### Witnesses: tags and gates -/

def tLookup (l : Lookup) : State :=
  tAsking (tPontoon.setAcu { lookups := [l] }) ⟨0, .tagQuery 77, 6, 1, .a, some 500, 200, none, .lookup 77⟩

/-- A Tag Answer that takes the other channel DOWN, where another request waits (R171, R178). -/
theorem witness_TagFramesTaken_silent :
    let r : Credential := credentialOf 5 77 2 tBooking
    let s := tSilent (tLookup ⟨77, [.gate 1], .first, false⟩)
    s.hears 5 ∧ s.matching? 5 6 (.tagAnswer r 110) = some ⟨0, .tagQuery 77, 6, 1, .a, some 500, 200, none, .lookup 77⟩ ∧
      s.lookup? r.tag = some ⟨77, [.gate 1], .first, false⟩ ∧ s.silences .a = true ∧
      (s.requestsHeard .a).map Pending.channel = [.a, .a] := by decide +kernel

/-- A tag of the berth, a tag nothing here knows, a reader that waits. -/
theorem witness_PresentationFindsOrAsks :
    (tPontoon.up = true ∧ tPontoon.gate? 1 = some tGate ∧ (∀ l ∈ tPontoon.acu.lookups, Reader.gate 1 ∉ l.waiting) ∧
      tPontoon.lookup? 11 = none ∧ tPontoon.localCredential? 11 = some (credentialOf 3 11 1 tBooking, 110) ∧
      tGate.state = .locked ∧ tGate.mode = .card ∧
      stateOutcome 3 tGate.cfg.kind (credentialOf 3 11 1 tBooking) = .grant ∧
      (credentialOf 3 11 1 tBooking).cls = .visitor ∧ tPontoon.lookup? 77 = none ∧ tPontoon.localCredential? 77 = none ∧
      tPontoon.foundAtOnce? 77 = none ∧ tPontoon.qlc.requests.length < 8 ∧ tPontoon.qlc.queue.length < 16) ∧
    (∃ l ∈ (tLookup ⟨77, [.gate 1], .first, false⟩).acu.lookups, Reader.gate 1 ∈ l.waiting) ∧
    (let l : Lookup := ⟨77, [.gate 2], .first, false⟩
     (tLookup l).lookup? 77 = some l ∧ ∀ x ∈ (tLookup l).acu.lookups, Reader.gate 1 ∉ x.waiting) := by decide +kernel

/-- A credential in the cache of a FUEL station until second 50, for a booking in a state and standing. -/
def tCached (k : CredClass) (st : BookingState) (w : Standing) : CacheEntry :=
  ⟨0, { tag := 77, owner := 3, cls := k, booking := some ⟨1, 7, st, w, 4⟩ }, some 50, false⟩

/-- A result at once at a gate: a local booking, an unexpired entry, a pinned one; none, with the queue full; a gate in each state
but UNLOCKED and in UNLOCKED; a BARRED visitor, with no escort notice and with one whose count is at its top. -/
theorem witness_PresentationFindsOrAsks_gate :
    tPontoon.foundAtOnce? 11 = some (.found (credentialOf 3 11 1 tBooking) .localBooking) ∧
    (let e := tCached .visitor .current .barred
     (tPontoon.setAcu { cache := [e] }).foundAtOnce? 77 = some (.found e.record .cache) ∧
      (tPontoon.setAcu { cache := [{ e with pinned := true }] }).foundAtOnce? 77 = some (.found e.record .pinned)) ∧
    16 ≤ (List.replicate 16 tQueued).length ∧
    (∀ st ∈ [GateState.locked, .released, .opened, .ajar, .forced, .unlocked],
      ((tGateIs fun g => { g with state := st }).gate? 1).map Gate.state = some st) ∧
    decision 3 { tGate with cfg := ⟨1, .main, .card, 5, 30⟩ } none (.found (tCached .visitor .current .barred).record .cache) =
      .deny .barred ∧
    (∀ e ∈ [none, some (⟨5, 6, 7, 8, none, 255⟩ : EscortNotice)],
      ((tGateIs fun g => { g with escort := e }).gate? 1).map Gate.escort = some e) := by
  decide +kernel

/-- R133, R134: a BARRED visitor from the cache at a main gate: ACCESS_DENIED and ESCORT behind RESTART, and the notice. -/
theorem test_presentation_barred :
    ∃ t, exec (.presentation (.gate 1) 77)
        ((tGateIs fun g => { g with cfg := ⟨1, .main, .card, 5, 30⟩ }).setAcu { cache := [tCached .visitor .current .barred] }) =
        .next t ∧
      (t.gate? 1).bind Gate.escort = some ⟨77, 3, 1, 7, some ⟨100, 1000⟩, 1⟩ ∧ t.evj.entries.length = 3 :=
  ⟨_, rfl, by decide +kernel⟩

/-- A reader that is free at a pump, IDLE or not, heard or not; a tag whose lookup runs, one nothing here knows with room and
without, one found with each standing, of each class; 15 and 16 entries in the list. -/
theorem witness_PresentationFindsOrAsks_pump :
    (∀ st ∈ [PumpState.idle, .fault], ∀ h ∈ [none, some tReading],
      let s := tFuel fun q => { q with state := st, latest := h }
      s.up = true ∧ (∃ p, s.pump? 1 = some p ∧ p.state = st ∧ p.latest = h) ∧
        (∀ l ∈ s.acu.lookups, Reader.pump 1 ∉ l.waiting) ∧ s.lookup? 77 = none ∧ s.foundAtOnce? 77 = none ∧
        s.qlc.requests.length < 8 ∧ s.qlc.queue.length < 16) ∧
    (let l : Lookup := ⟨77, [.pump 2], .first, false⟩
     ((tFuel id).setAcu { lookups := [l] }).lookup? 77 = some l ∧ Reader.pump 1 ∉ l.waiting) ∧
    8 ≤ ((tFuel id).setQlc { (tFuel id).qlc with
      requests := List.replicate 8 (tPending (.tagQuery 3) .terminal) }).qlc.requests.length ∧
    (∀ k ∈ [CredClass.resident, .visitor, .staff, .contractor], ∀ b ∈ [BookingState.reserved, .current],
      ∀ w ∈ [Standing.good, .low, .arrears, .barred],
      ((tFuel id).setAcu { cache := [tCached k b w] }).foundAtOnce? 77 = some (.found (tCached k b w).record .cache)) ∧
    15 < 16 ∧ 16 ≤ 16 := by
  refine ⟨?_, by decide +kernel, by decide +kernel, by decide +kernel, by decide, by decide⟩
  · intro st hst h hh
    simp only [List.mem_cons, List.mem_nil_iff, or_false] at hst hh
    rcases hst with rfl | rfl <;> rcases hh with rfl | rfl <;>
      exact ⟨rfl, ⟨_, rfl, rfl, rfl⟩, nofun, rfl, by decide +kernel, by decide, by decide⟩

/-- A first lookup with a way to fill, a second one, and a first one that a revoke has marked: with no local booking and room, with
the queue full, with a local booking; a gate and a pump that wait. -/
theorem witness_TagFramesTaken :
    let r : Credential := credentialOf 5 77 2 tBooking
    let l : Lookup := ⟨77, [.gate 1], .first, false⟩
    (tPontoon.hears 5 ∧ tPontoon.localCredential? 11 = some (credentialOf 3 11 1 tBooking, 110) ∧
      tPontoon.qlc.queue.length < 16 ∧ tPontoon.localCredential? 77 = none) ∧
    (tLookup l).hears 5 ∧
      (tLookup l).matching? 5 6 (.tagAnswer r 110) = some ⟨0, .tagQuery 77, 6, 1, .a, some 500, 200, none, .lookup 77⟩ ∧
      (tLookup l).lookup? r.tag = some l ∧ l.marked = false ∧ l.phase = .first ∧ (tLookup l).fillWay? r.tag = some 0 ∧
    (tLookup ⟨77, [.gate 1], .requery, true⟩).lookup? 77 = some ⟨77, [.gate 1], .requery, true⟩ ∧
    (let m : Lookup := ⟨77, [.gate 1, .pump 1], .first, true⟩
     (tLookup m).lookup? 77 = some m ∧ (tLookup m).localCredential? 77 = none ∧ (tLookup m).qlc.requests.length ≤ 8 ∧
      (tLookup m).qlc.queue.length < 16 ∧ m.waiting.Nodup ∧ Reader.gate 1 ∈ m.waiting ∧ (tLookup m).gate? 1 = some tGate ∧
      ((tFuel id).pump? 1).isSome = true) ∧
    (let m : Lookup := ⟨77, [.gate 1], .first, true⟩
     let s := (tLookup m).setQlc { (tLookup m).qlc with queue := List.replicate 16 tQueued }
     s.hears 5 ∧ s.lookup? 77 = some m ∧ 16 ≤ s.qlc.queue.length ∧
      (s.matching? 5 6 (.tagAnswer r 110)).map Pending.entry = some none) ∧
    (let m : Lookup := ⟨11, [.gate 1], .first, true⟩
     (tLookup m).lookup? 11 = some m ∧
      (tLookup m).localCredential? 11 = some (credentialOf 3 11 1 tBooking, 110)) := by
  decide +kernel

/-- R124: an answer to a marked first query is discarded; the query is sent again and the lookup stays, in REQUERY. -/
theorem test_tagAnswer_marked :
    ∃ t, exec (.tagAnswer .a 5 6 (credentialOf 5 77 2 tBooking) 110) (tLookup ⟨77, [.gate 1], .first, true⟩) = .next t ∧
      t.acu.lookups = [⟨77, [.gate 1], .requery, false⟩] ∧ t.acu.cache = [] ∧ t.evj = State.reset.evj :=
  ⟨_, rfl, by decide +kernel⟩

theorem witness_FlushCacheDropsUnpinned : tPontoon.ready ∧ tPontoon.fits := by decide +kernel

theorem witness_ExitButtonReleases :
    tPontoon.gate? 1 = some tGate ∧
      (tGateIs fun g => { g with state := .released }).gate? 1 = some { tGate with state := .released } ∧
      (tGateIs fun g => { g with state := .forced }).gate? 1 = some { tGate with state := .forced } := by decide +kernel

/-- Every state of the gate, with the door either way. -/
theorem witness_DoorSenseMovesGate (g : GateState) (d : Door) :
    (tGateIs fun x => { x with state := g, door := d }).gate? 1 = some { tGate with state := g, door := d } := by
  cases g <;> cases d <;> decide +kernel

theorem witness_GateTimers :
    (let s := tGateIs fun g => { g with state := .released, releaseAt := some 5000 }
     s.gate? 1 = some { tGate with state := .released, releaseAt := some 5000 }) ∧
    (let s := tGateIs fun g => { g with state := .opened, heldOpenAt := some 30000 }
     s.gate? 1 = some { tGate with state := .opened, heldOpenAt := some 30000 }) ∧
    (tFault.gtc.gates = [] ∧ tFault.inFault = true) ∧
    (tFault.setGtc { faultRelease1 := some 5000 }).gtc.faultRelease1 = some 5000 ∧
    (tFault.setGtc { faultRelease2 := some 5000 }).gtc.faultRelease2 = some 5000 := by decide +kernel

/-- From OPEN with the door open, and to OPEN; a notice of each kind. -/
theorem witness_GateCommandsAtTheTerminal :
    (let g := { tGate with mode := .opened, state := .unlocked, door := .opened }
     (tGateIs fun _ => g).ready ∧ (tGateIs fun _ => g).fits ∧ (tGateIs fun _ => g).gate? 1 = some g ∧ g.mode ≠ .closed) ∧
    (tPontoon.gate? 1 = some tGate ∧ tGate.mode ≠ .opened) ∧
    (let g := { tGate with escort := some ⟨11, 3, 1, 7, none, 255⟩, ajar := some ⟨none⟩ }
     (tGateIs fun _ => g).gate? 1 = some g ∧ g.escort = some ⟨11, 3, 1, 7, none, 255⟩ ∧ g.ajar = some ⟨none⟩) := by
  decide +kernel

/-- A RESERVED booking, a BARRED one at its own gate and at another, one in each other standing; STAFF; a contractor with and
without a window, the clock UNSET, inside a window over midnight and outside it; each mode. -/
theorem witness_DecisionByStateAndMode :
    (∀ o ∈ [3, 4], ∀ st ∈ [BookingState.reserved, .current], ∀ w ∈ [Standing.good, .low, .arrears, .barred],
      ∀ k ∈ [CredClass.resident, .visitor],
      let c : Credential := { tag := 11, owner := o, cls := k, booking := some ⟨1, 7, st, w, 0⟩ }
      (c.cls = .resident ∨ c.cls = .visitor) ∧ c.booking = some ⟨1, 7, st, w, 0⟩) ∧
    ({ tag := 11, owner := 3, cls := .staff } : Credential).cls = .staff ∧
    (∀ w ∈ [none, some (79200, 21600)], let c : Credential := { tag := 11, owner := 3, cls := .contractor, window := w }
      c.cls = .contractor ∧ c.window = w) ∧
    (21600 < 79200 ∧ (79200 ≤ 0 ∨ 0 ≤ 21600) ∧ ¬(79200 ≤ 43200 ∨ 43200 ≤ 21600)) ∧
    (∀ m ∈ [GateMode.card, .restricted, .closed], { tGate with mode := m }.mode = m) := by decide

/-! ### Witnesses: fuel -/

/-- A pump in each state a Poll's Answer finds, the second and the third miss, a REFUSED display. -/
theorem witness_PumpPolled :
    (∀ st ∈ [PumpState.idle, .authorising, .ready, .delivering, .settling, .fault], ∀ m ∈ [1, 2],
      let s := tFuel fun p => { p with state := st, misses := m, awaiting := some (.enabled 5, .idle), sale := some tSale }
      s.up = true ∧ (∃ p, s.pump? 1 = some p ∧ p.awaiting = some (.enabled 5, .idle) ∧ p.state = st ∧ p.misses = m)) ∧
    (∃ p, (tFuel fun p => { p with refusedUntil := some 5000 }).pump? 1 = some p ∧ p.refusedUntil = some 5000) := by
  refine ⟨?_, ⟨_, rfl, rfl⟩⟩
  intro st hst m hm
  simp only [List.mem_cons, List.mem_nil_iff, or_false] at hst hm
  rcases hst with rfl | rfl | rfl | rfl | rfl | rfl <;> rcases hm with rfl | rfl <;> exact ⟨rfl, _, rfl, rfl, rfl, rfl⟩

/-- An end reading in SETTLING and on leaving FAULT, of each kind of sale, recovered or not; a full list; a FAULT without a
sale, in AUTHORISING, and with the end reading taken. -/
theorem witness_PumpPolled_endReading :
    (∀ st ∈ [PumpState.settling, .fault], ∀ k ∈ [SaleKind.purse, .direct], ∀ v ∈ [true, false],
      let x := { tSale with kind := k, stage := .delivering }
      let s := tFuel fun p => { p with state := st, recovered := v, awaiting := some (.disabled, .settling), sale := some x }
      s.up = true ∧ (∃ p, s.pump? 1 = some p ∧ p.awaiting = some (.disabled, .settling) ∧ p.sale = some x ∧ p.state = st ∧
        p.recovered = v) ∧ x.endTotal = none ∧ x.stage ≠ .authorising ∧ x.kind = k) ∧
    ((tFuel id).qlc.requests.length < 8 ∧ (tFuel id).qlc.queue.length < 16 ∧
      lowestFree (tFuel id).fsc.slotsUsed 5 16 = some 5 ∧ lowestFree (List.range 21) 5 16 = none) ∧
    (∀ x ∈ [none, some tSale, some { tSale with stage := .settling, endTotal := some 5 }],
      ∃ p, (tFuel fun p => { p with state := .fault, sale := x, awaiting := some (.disabled, .idle) }).pump? 1 = some p ∧
        p.state = .fault ∧ p.sale = x) := by
  refine ⟨?_, by decide +kernel, ?_⟩
  · intro st hst k hk v hv
    simp only [List.mem_cons, List.mem_nil_iff, or_false] at hst hk hv
    rcases hst with rfl | rfl <;> rcases hk with rfl | rfl <;> rcases hv with rfl | rfl <;>
      exact ⟨rfl, ⟨_, rfl, rfl, rfl, rfl, rfl⟩, rfl, by decide, rfl⟩
  · intro x hx
    simp only [List.mem_cons, List.mem_nil_iff, or_false] at hx
    rcases hx with rfl | rfl | rfl <;> exact ⟨_, rfl, rfl, rfl⟩

theorem witness_HoldAnswerDecidesSale (r : HoldResult) :
    let p := tPending (.holdRequest ⟨9, 1, 4⟩ 11 7 20000) (.pumpSale ⟨9, 1, 4⟩)
    let s := tAsking (tFuel fun q => { q with state := .authorising, sale := some tSale }) p
    s.hears 3 ∧ s.matching? 3 6 (.holdAnswer ⟨9, 1, 4⟩ r) = some p ∧
      ∃ q, s.pump? 1 = some q ∧ q.sale = some tSale ∧ tSale.id = ⟨9, 1, 4⟩ ∧ tSale.faultMark = false ∧ q.state = .authorising :=
  ⟨by decide +kernel, rfl, _, rfl, rfl, rfl, rfl, rfl⟩

def tListed : Unsettled := ⟨{ tSale with stage := .listed, amount := some 900 }, 1, 65535, false, 5⟩

/-- A settlement on the pump, in SETTLING and in FAULT, one of the list, the retry timer. -/
theorem witness_SettlementsEnd (r : SettleResult) :
    (∃ q, (tFuel fun q => { q with state := .fault, sale := some tSale }).pump? 1 = some q ∧ q.state = .fault ∧
      q.sale = some tSale) ∧
    (let p := tPending (.settleRequest ⟨9, 1, 4⟩ 7 900) (.pumpSale ⟨9, 1, 4⟩)
     let s := tAsking (tFuel fun q => { q with state := .settling, sale := some tSale }) p
     s.hears 3 ∧ s.matching? 3 6 (.settleAnswer ⟨9, 1, 4⟩ r) = some p ∧
      ∃ q, s.pump? 1 = some q ∧ q.sale = some tSale ∧ q.state = .settling) ∧
    (let p := tPending (.settleRequest ⟨9, 1, 4⟩ 7 900) (.unsettled ⟨9, 1, 4⟩)
     let s := tAsking ((tFuel id).setFsc { (tFuel id).fsc with unsettled := [tListed], retryAt := some 30000 }) p
     s.hears 3 ∧ s.matching? 3 6 (.settleAnswer ⟨9, 1, 4⟩ r) = some p ∧ s.listed? ⟨9, 1, 4⟩ = some tListed ∧
      s.up = true ∧ s.fsc.retryAt = some 30000 ∧ (s.fsc.unsettled.map fun u => u.sale.id).Nodup ∧
      (s.fsc.unsettled.filter fun u => !u.inFlight) = [tListed] ∧ s.qlc.requests.length = 1 ∧ s.qlc.queue.length = 0) :=
  ⟨⟨_, rfl, rfl, rfl⟩, ⟨by decide +kernel, rfl, _, rfl, rfl, rfl⟩, by decide +kernel, rfl, by decide +kernel⟩

/-- Where two entries share a hold ID, a settlement frees the slot of each (R153). -/
theorem test_settled_bothSlots :
    let p := tPending (.settleRequest ⟨9, 1, 4⟩ 7 900) (.unsettled ⟨9, 1, 4⟩)
    let s := tAsking ((tFuel id).setFsc { (tFuel id).fsc with unsettled := [tListed, { tListed with slot := 6 }] }) p
    ∃ t, exec (.settleAnswer .a 3 6 ⟨9, 1, 4⟩ (.settled 900)) s = .next t ∧ t.fsc.unsettled = [] ∧
      t.bst.queue = [.sale 5, .sale 6] := ⟨_, rfl, by decide +kernel⟩

/-- The least amount at an IDLE pump; a sale in READY and one in DELIVERING; an entry of the list. -/
theorem witness_SalesFromTheTerminal :
    ((tFuel id).ready ∧ (tFuel id).fits ∧ (tFuel id).isHere 9 ∧ (tFuel id).cfg.minimumSale ≤ 500 ∧
      ∃ q, (tFuel id).pump? 1 = some q ∧ q.state = .idle ∧ q.latest = some tReading) ∧
    (let s := tFuel fun q => { q with state := .ready, sale := some tSale, readyAt := some 60000 }
     s.ready ∧ s.fits ∧ ∃ q, s.pump? 1 = some q ∧ q.sale = some tSale ∧ q.state = .ready ∧ q.readyAt = some 60000) ∧
    (let s := tFuel fun q => { q with state := .delivering, sale := some tSale }
     s.ready ∧ s.fits ∧ s.isHere 9 ∧ ∃ q, s.pump? 1 = some q ∧ q.sale = some tSale ∧ q.state = .delivering) ∧
    (let s := (tFuel id).setFsc { (tFuel id).fsc with unsettled := [tListed] }
     s.ready ∧ s.fits ∧ (s.pump? 1).isSome = true ∧ s.listedSale? 1 4 = some tListed ∧ tListed.inFlight = false) :=
  ⟨⟨by decide +kernel, by decide +kernel, by decide +kernel, by decide +kernel, _, rfl, rfl, rfl⟩,
    ⟨by decide +kernel, by decide +kernel, _, rfl, rfl, rfl, rfl⟩,
    ⟨by decide +kernel, by decide +kernel, by decide +kernel, _, rfl, rfl, rfl⟩, by decide +kernel⟩

/-- The least price, and an amount of nothing. -/
theorem witness_PresetIsLargestWithinGrant : 1 ≤ 1 ∧ 0 ≤ 999999 ∧ saleAmount 0 1 ≤ 0 := by decide

/-! ### Witnesses: the day -/

/-- Two bookings, an ACTIVE hold one minute from the timeout; the last second and day a setting may carry. -/
theorem witness_BookingsAgeAndBecomeCurrent :
    (let b := { tBooking with purse := { tBooking.purse with holds := [⟨⟨9, 1, 0⟩, .active, 500, 29, none⟩] } }
     let s := tWith [b, tReserved]
     s.up = true ∧ s.bookingsOk ∧ s.booking? 1 7 = some b) ∧
    (tPontoon.bookingsOk ∧ tPontoon.ready ∧ 65535 ≤ 65535 ∧ 86399 ≤ 86399 ∧ tPontoon.qlc.queue.length < 16 ∧
      tPontoon.hears 5 ∧ tPontoon.booking? 1 8 = some tReserved ∧ tReserved.state = .reserved ∧
      tReserved.stay.arrival ≤ 65535) := by decide +kernel

/-- UNSET; a plain second over midnight; the close second on the last day and on another. -/
theorem witness_ClockSecondAdvances :
    tPontoon.up = true ∧ tPontoon.fits ∧ (tPontoon.setDck {}).dck.clock = none ∧
      (tPontoon.setDck { clock := some ⟨5, 86399⟩ }).dck.clock = some ⟨5, 86399⟩ ∧ 0 ≠ tPontoon.cfg.closeSecond ∧
      (tPontoon.setDck { clock := some ⟨65535, 43199⟩ }).dck.clock = some ⟨65535, 43199⟩ ∧
      43199 + 1 = tPontoon.cfg.closeSecond := by decide +kernel

/-- A booking that goes on by one day, and one whose departure is the new day: it may not overstay, or may, with and without
a next entry that has come, or on the last day; room for its statement; a RESERVED booking. -/
theorem witness_RolloverChargesAndFlips :
    (∀ d ∈ [108, 109], let s := tPontoon.setDck { clock := some ⟨d, 43199⟩ }
      s.up = true ∧ s.dck.clock = some ⟨d, 43199⟩ ∧ d ≠ 65535 ∧ 43199 + 1 = s.cfg.closeSecond ∧ s.bookingsOk ∧
      s.booking? 1 7 = some tBooking ∧ tBooking.state = .current ∧ s.booking? 1 8 = some tReserved ∧
      tReserved.state = .reserved ∧ s.bst.statements.length + s.liveBookings.length ≤ 8) ∧
    (108 + 1 < tBooking.stay.departure ∧ tBooking.stay.departure ≤ 109 + 1 ∧
      tImage.overstay tBooking.stay.kind = false ∧ tBooking.stay.kind = .visitor) ∧
    ({ tImage with visitorOverstay := true }.overstay tBooking.stay.kind = true ∧
      ((tPontoon.behind? 1 7).any fun x => x.stay.arrival ≤ 109 + 1) = true ∧
      (((tWith [tBooking]).behind? 1 7).any fun x => x.stay.arrival ≤ 109 + 1) = false ∧
      (let b := { tBooking with stay := { tStay with departure := 65535 } }
       (tWith [b]).booking? 1 7 = some b ∧ b.stay.departure ≤ 65534 + 1 ∧ 65534 + 1 = 65535)) := by decide +kernel

/-! ### Witnesses: the Quayline -/

def tPeer : Peer := { number := 5, state := .present, staleAt := some 5000 }

theorem witness_PeersAndAnnounces :
    (tPontoon.hears 5 ∧ tPontoon.peer? 5 = some { number := 5 } ∧ (tPontoon.qlc.line .b).silent = false) ∧
    (let s := changePeer 5 (fun _ => tPeer) tPontoon
     s.up = true ∧ s.peer? 5 = some tPeer ∧ tPeer.state = .present ∧ tPeer.staleAt = some 5000) ∧
    (tPontoon.up = true ∧ tPontoon.fits ∧ tPontoon.lsu.held = false ∧ tPontoon.qlc.announceWaits = false ∧
      tPontoon.qlc.queue.length < 16) ∧ (tPontoon.setLsu { held := true }).lsu.held = true := by decide +kernel

def tLine (c : Channel) (f : Line → Line) : State :=
  onLine c f (tPontoon.setQlc { tPontoon.qlc with queue := [tQueued], nextEntry := 1 })

/-- Room and none in queue and table; a channel DOWN and both; an entry that goes, one that is being sent; a frame. -/
theorem witness_TransmittersServeTheQueue :
    (tPontoon.qlc.queue.length < 16 ∧ tPontoon.qlc.requests.length < 8 ∧
      tPontoon.qlc.sequence ∉ tPontoon.qlc.requests.map Pending.sequence ∧ 16 ≤ (List.replicate 16 tQueued).length ∧
      8 ≤ (List.replicate 8 (tPending (.tagQuery 3) .terminal)).length) ∧
    (let q := (onLine .a (fun l => { l with state := .down }) tPontoon).qlc
     q.usable .a = false ∧ q.usable .b = true ∧ (q.withLine .b { q.lineB with state := .down }).usable .a = true) ∧
    (let s := tLine .a id
     s.up = true ∧ (s.qlc.line .a).sending = none ∧ bestEntry .a s.qlc.queue = some tQueued) ∧
    (let s := tLine .b fun l => { l with sending := some ⟨0, tQueued.frame⟩ }
     s.up = true ∧ (s.qlc.line .b).sending = some ⟨0, tQueued.frame⟩ ∧ ∀ v, tQueued.frame.body ≠ .announce (some v)) ∧
    (let x : Sending := ⟨0, ⟨0, 0, .announce (some { tPontoon.announceValues with errors := { lateAnswer := 3 } })⟩⟩
     let s := tLine .a fun l => { l with sending := some x }
     s.up = true ∧ (s.qlc.line .a).sending = some x) ∧
    (let w : WireFrame := ⟨30, 5, 9, 1, [0, 0, 0, 1]⟩
     kindPriority w.code = some 3 ∧ w.source ≤ 31 ∧ w.destination ≤ 255 ∧ kindLengthOk w.code w.payload.length = true) := by
  refine ⟨?_, ?_, ?_, ⟨?_, ?_, nofun⟩, ?_, ?_⟩ <;> decide +kernel

/-- A completed Announce lowers a count by what it carried, and leaves what arose meanwhile (R184). -/
theorem test_announceSent_errors :
    let s := tLine .a fun l => { l with
      sending := some ⟨0, ⟨0, 0, .announce (some { tPontoon.announceValues with errors := { lateAnswer := 3 } })⟩⟩ }
    ∃ t, exec (.transmitComplete .a) (s.setQlc { s.qlc with errors := { lateAnswer := 5, queueFull := 1 } }) = .next t ∧
      t.qlc.errors = { lateAnswer := 2, queueFull := 1 } := ⟨_, rfl, by decide +kernel⟩

/-- A fault count of 1 and of 2, sending and not; a silence with the other channel heard 5 s ago, and longer ago. -/
theorem witness_FaultsAndSilenceTakeChannelsDown :
    (∀ n ∈ [1, 2], let s := tLine .a fun l => { l with faults := n, sending := some ⟨0, tQueued.frame⟩ }
      s.up = true ∧ (s.qlc.line .a).state = .up ∧ (s.qlc.line .a).sending.isSome = true ∧ (s.qlc.line .a).faults = n) ∧
    (∀ n ∈ [1, 2], let s := tLine .a fun l => { l with faults := n }
      (s.qlc.line .a).state = .up ∧ (s.qlc.line .a).sending = none ∧ (bestEntry .a s.qlc.queue).isSome = true ∧
      (s.qlc.line .a).faults = n) ∧
    (∀ n ∈ [0, 1], let s := (tLine .b fun l => { l with lastFrame := some 0 }).setNow (5000 + n)
      (s.qlc.line .a).silent = false ∧ (s.qlc.line .a).state = .up ∧
      (s.qlc.line (Channel.other .a)).lastFrame.any (fun d => max s.now (s.qlc.line .a).silenceAt ≤ d + 5000) = (n == 0)) := by
  decide +kernel

/-- A request of the station with its deadline come. -/
def tLate (s : State) (attempt : Nat) (o : Originator) : State := tAsking s { tPending (.tagQuery 77) o with attempt := attempt }

/-- A second attempt with room and with the queue full; a third one of each originator; an attempt that waits. -/
theorem witness_RequestDeadlines :
    (let p := { tPending (.tagQuery 77) .terminal with attempt := 2 }
     (tLate tPontoon 2 .terminal).up = true ∧ (tLate tPontoon 2 .terminal).fits ∧
      (tLate tPontoon 2 .terminal).request? 6 = some p ∧ p.deadline = some 500 ∧ p.attempt < 3 ∧
      (tLate tPontoon 2 .terminal).qlc.queue.length < 16 ∧ 16 ≤ (List.replicate 16 tQueued).length) ∧
    (let s := tLate (tTpcIs { state := .forwarding .status 5 }) 3 .terminal
     (s.request? 6).map Pending.originator = some .terminal ∧ s.tpc.state = .forwarding .status 5) ∧
    (let c : Call := { tEntry [⟨5, 1, 10⟩] with phase := .taking, windowAt := none, inFlight := some (5, 1) }
     let d := { c with offers := [⟨5, 1, 10⟩, ⟨6, 1, 11⟩] }
     (tLate (tCalling c) 3 (.call 0)).call? 0 = some c ∧ (tLate (tCalling d) 3 (.call 0)).call? 0 = some d ∧
      c.inFlight = some (5, 1) ∧ 6 ≠ (tCalling d).cfg.station ∧ (tLate (tCalling d) 3 (.call 0)).qlc.requests.length ≤ 8) ∧
    (let l : Lookup := ⟨77, [.gate 1], .first, false⟩
     let s := tLate (tPontoon.setAcu { lookups := [l] }) 3 (.lookup 77)
     s.lookup? 77 = some l ∧ s.gate? 1 = some tGate ∧ tGate.state ≠ .unlocked) ∧
    (∀ g ∈ [Stage.authorising, .settling], let x := { tSale with stage := g }
     let s := tLate (tFuel fun q => { q with state := .settling, sale := some x }) 3 (.pumpSale ⟨9, 1, 4⟩)
     s.up = true ∧ s.fits ∧ (s.pump? 1).bind Pump.sale = some x ∧ x.id = ⟨9, 1, 4⟩ ∧ x.stage = g ∧
      lowestFree s.fsc.slotsUsed 5 16 = some 5) ∧
    ((tLate (tFuel id) 3 (.unsettled ⟨9, 1, 4⟩)).request? 6).map Pending.originator = some (.unsettled ⟨9, 1, 4⟩) ∧
    (let p := { tPending (.tagQuery 11) (.lookup 11) with deadline := none, entry := some 0 }
     (tAsking tPontoon p).request? 6 = some p ∧ p.deadline = none) ∧
    (let s := tPontoon.setQlc { tPontoon.qlc with leftovers := [⟨6, 0, 200⟩] }
     s.up = true ∧ s.request? 6 = none ∧ s.qlc.leftovers.find? (fun x => x.sequence == 6) = some ⟨6, 0, 200⟩) := by
  decide +kernel

/-- A frame lost after its request was answered waits again, and goes when its 200 ms are over (R179). -/
theorem test_leftover_dropped :
    let p := { tPending (.tagQuery 77) .terminal with entry := some 0, deadline := none }
    let s := onLine .a (fun l => { l with sending := some ⟨0, tQueued.frame⟩ })
      (tPontoon.setQlc { tPontoon.qlc with queue := [tQueued], nextEntry := 1, requests := [p] })
    ∃ t u, exec (.arbitrationLost .a) (closeRequest p s) = .next t ∧ t.qlc.queue = [tQueued] ∧
      exec (.attemptDrop 6) t = .next u ∧ u.now = 200 ∧ u.qlc.queue = [] ∧ u.qlc.leftovers = [] :=
  ⟨_, _, rfl, by decide +kernel, rfl, by decide +kernel⟩

/-- One frame for each check; a good one of station 3, and one for another station; a channel that is UP and one that is
DOWN; the other one silent. -/
theorem witness_BadFramesAreCountedAndDropped :
    tPontoon.up = true ∧ tPontoon.fits ∧ (tPontoon.qlc.line (Channel.other .a)).silent = false ∧
      (tPontoon.qlc.line .a).state = .up ∧ headerGood [] = false ∧
      (headerGood [0xC3, 15, 0, 0, 49, 133] = true ∧ 48 < (byteAt [0xC3, 15, 0, 0, 49, 133] 4).toNat) ∧
      (headerGood [0xC3, 15, 0, 0, 2, 28] = true ∧ payloadGood [0xC3, 15, 0, 0, 2, 28] = false) ∧
      (headerGood [0x45, 5, 9, 1, 4, 0x61, 0, 0, 0, 1, 0x94, 0xE1] = true ∧
        payloadGood [0x45, 5, 9, 1, 4, 0x61, 0, 0, 0, 1, 0x94, 0xE1] = true ∧ kindPriority 5 ≠ some (0x45 / 32)) ∧
      (headerGood [0x65, 5, 9, 1, 5, 2, 0, 0, 0, 0, 1, 1, 0x2D] = true ∧
        payloadGood [0x65, 5, 9, 1, 5, 2, 0, 0, 0, 0, 1, 1, 0x2D] = true ∧ kindPriority 5 = some (0x65 / 32) ∧
        kindLengthOk 5 5 = false) ∧
      checkFrame [0xC3, 16, 0, 0, 5, 188, 0, 100, 0, 0, 10, 0x23, 0x65] =
        .ok ⟨3, 16, 0, 0, [0, 100, 0, 0, 10]⟩ ∧
      (tPontoon.setQlc { tPontoon.qlc with lineA := { state := .down, faults := 3 } }).qlc.lineA.state = .down ∧
      (let s := tPontoon.setQlc { tPontoon.qlc with lineB := { silent := true } }
       s.up = true ∧ s.fits ∧ (s.qlc.line (Channel.other .a)).silent = true ∧
        (s.qlc.line (Channel.other .a)).state = .up) ∧
      checkFrame [0x65, 5, 9, 1, 4, 5, 0, 0, 0, 1, 0x94, 0xE1] = .ok ⟨5, 5, 9, 1, [0, 0, 0, 1]⟩ := by decide +kernel

/-! ### Witnesses: the terminal and the configuration -/

/-- Each state of TPC; the first byte of a frame, an incomplete, a bad and a good frame, before and after the load's end. -/
theorem witness_TerminalBytesMakeFrames :
    ((tTpcIs { state := .receiving, gapAt := some 50 }).tpc.state = .receiving ∧
      (tTpcIs { state := .receiving, gapAt := some 50 }).tpc.gapAt = some 50) ∧
    ((tTpcIs {}).fits ∧ (tTpcIs {}).tpc.state = .waiting) ∧ (tTpcIs { state := .replying }).tpc.listens = false ∧
    ((tTpcIs { state := .receiving }).tpc.received = [] ∧ 233 < (234 : Byte).toNat) ∧
    frameComplete ([1, 7, 0x5E] ++ [0xD9]) = true ∧ frameGood ([1, 7, 0x5E] ++ [0xD9]) = true ∧
    frameGood ([1, 7, 0x5E] ++ [0xD8]) = false ∧ frameComplete ([1, 7] ++ [0x5E]) = false ∧
    tPontoon.cfl.starting = false ∧ State.reset.cfl.starting = true := by decide +kernel

theorem witness_ReadingCommandsChangeNothing :
    (tFault.fits ∧ tFault.cfl.starting = false ∧ tFault.tpc.listens = true ∧ tFault.cfl.load = .fault .format none) ∧
    (State.reset.fits ∧ State.reset.cfl.starting = true ∧ State.reset.tpc.listens = true) ∧
    (tPontoon.fits ∧ tPontoon.ready ∧ tPontoon.isHere 3 ∧ tPontoon.gtc.gates ≠ [] ∧ 0 ≠ 1 ∧ tPontoon.cfg.role = .pontoon ∧
      tPontoon.berth? 1 = some tBerth ∧ tPontoon.finds 1 7 tBooking ∧
      (if 2 = 0 then tPontoon.evj.mark else 2) ≤ tPontoon.evj.next) ∧
    ((tFuel id).fsc.pumps ≠ [] ∧ (tCalling (tEntry [])).call? 0 = some (tEntry [])) := by decide +kernel

theorem witness_LimitTariffAndReadMark :
    tPontoon.ready ∧ tPontoon.fits ∧ tPontoon.isHere 3 ∧ 4 ≤ 4 ∧ 1 < tPontoon.evj.next ∧ 0 < tPontoon.tpc.limit := by decide +kernel

/-- A journal of entries 1 to n with a read mark. -/
def tJournal (n mark : Nat) : State :=
  tPontoon.setEvj { entries := (List.range n).map fun i => ⟨i + 1, none, .restart .powerOn⟩, next := n + 1, mark := mark }

/-- A journal with room; a full one whose oldest entry is unread, and one whose oldest is read. -/
theorem witness_LimitTariffAndReadMark_journal :
    (tJournal 255 1).evj.entries.length < 256 ∧ (tJournal 255 1).evj.next < 4294967295 ∧
    (∀ m ∈ [1, 2], let e := (tJournal 256 m).evj
      e.entries.length = 256 ∧ e.entries.head?.any (fun x => x.sequence == 1 && decide (e.mark ≤ x.sequence) == (m == 1)) = true) ∧
    tPontoon.evj.mark ≤ 1 := by decide +kernel

/-- A write over an unread entry of a full journal counts it and moves the read mark to the oldest left (R193). -/
theorem test_journal_overflow :
    let e := (report (.restart .command) (tJournal 256 1)).evj
    (e.entries.length, e.overflow, e.mark, e.next) = (256, 1, 2, 258) := by decide +kernel

/-- The attention line rises with the 128th unread entry (R195). -/
theorem test_attention_128 :
    [126, 127].map (fun n => (report (.restart .command) (tJournal n 1)).evj.attention) = [false, true] := by decide +kernel

/-- Another station; an answer; a repeat, a command that is not forwarded, one that is, and a payload that does not fit either. -/
theorem witness_OfficeTraffic :
    (tPontoon.ready ∧ tPontoon.fits ∧ 30 ≠ tPontoon.cfg.station ∧ tPontoon.qlc.requests.length < 8 ∧
      tPontoon.qlc.queue.length < 16) ∧
    (let p := tPending (.officeRequest (.known (.status 3)) 40) .terminal
     (tAsking (tFuel id) p).hears 3 ∧
      (tAsking (tFuel id) p).matching? 3 6 (.officeAnswer (answer .status .ok)) = some p) ∧
    (let r : Repeat := ⟨5, 6, .known (.bar 3 1 7), answer .bar .ok⟩
     (tTpcIs { repeats := [r] }).hears 5 ∧ (tTpcIs { repeats := [r] }).tpc.repeated? 5 6 r.command = some r) ∧
    (tPontoon.tpc.repeated? 5 6 (.other 9) = none ∧ OfficeCommand.forwarded? (.other 9) = none) ∧
    (tPontoon.tpc.repeated? 5 6 (.misfit .bar [1]) = none ∧ CmdKind.forwarded .bar = true ∧
      OfficeCommand.forwarded? (.misfit .setTime [1]) = none ∧ CmdKind.forwarded .setTime = false) ∧
    OfficeCommand.forwarded? (.known (.bar 3 1 7)) = some (.bar 3 1 7) := by decide +kernel

/-- A station in CONFIG_FAULT with a filled buffer that does not check out, waiting and writing. -/
theorem witness_StagedImageIsWritten :
    let s := tFault.setCfl { tFault.cfl with filling := true, length := 22, staged := List.replicate 22 0 }
    s.cfl.starting = false ∧ s.tpc.listens = true ∧ s.fits ∧ s.cfl.filling = true ∧ s.cfl.length ≤ s.cfl.staged.length ∧
      (tFault.setCfl { tFault.cfl with filling := true, length := 200 }).cfl.staged.length + 200 ≤ 200 ∧
      (s.setCfl { s.cfl with phase := .waiting }).bst.inFlight = none ∧
      (s.setCfl { s.cfl with phase := .writing }).store.wf := by decide +kernel

/-- A record write in flight, and an image write under way. -/
theorem witness_ResetsAndTheEndOfTheLoad_cutOff :
    ((tWriting false).store.wf ∧ (tWriting false).bst.inFlight.map WriteInFlight.id = some (.booking 1) ∧
      (tWriting false).cfl.phase ≠ .writing) ∧
    (let s := tFault.setCfl { tFault.cfl with phase := .writing, filling := true, length := 22, staged := List.replicate 22 0 }
     s.store.wf ∧ s.cfl.phase = .writing ∧ s.cfl.staged ≠ [] ∧ s.bst.inFlight = none) := by decide +kernel

theorem witness_ResetsAndTheEndOfTheLoad :
    (tPontoon.bst.inFlight = none ∧ tPontoon.cfl.phase ≠ .writing) ∧
    (let s := tTpcIs { state := .replying, reply := some (answer .restart .ok) }
     s.bst.inFlight = none ∧ s.cfl.phase ≠ .writing ∧ s.tpc.state = .replying ∧ s.tpc.reply = some (answer .restart .ok)) ∧
    (let r := answer .restart .starting
     (tTpcIs { state := .replying, reply := some r }).tpc.reply = some r ∧ ¬(r.code = .known .restart ∧ r.result = .ok)) ∧
    (State.reset.cfl.starting = true ∧ State.reset.cfl.load = .fault .format none ∧ State.reset.fits) ∧
    (let s := tPontoon.setCfl { load := .accepted }
     s.cfl.starting = true ∧ s.cfl.load = .accepted ∧ s.fits ∧ s.cfl.notices = []) := by decide +kernel

/-- The station before its load ends, with the record of one slot. -/
def tStored (s : State) (id : RecordId) (c : Content) : State := s.setStore (storeRecord id ⟨true, id, c⟩ {})

/-- A booking as a record holds it. -/
def tLoaded : Booking := { tReserved with tags := [11, 21] }

/-- A statement slot that holds its record, nothing, and another kind; the station record sound and not; a booking slot that is
empty, lost for each finding, entered, entered without a tag, left free for want of one, and ended (R23). -/
theorem witness_ResetsAndTheEndOfTheLoad_records :
    (let x := statementOf 4 2 1 .checkedOut tBooking
     storedAt (.statement 2) (tStored tPontoon (.statement 2) (.statement x)).store =
      ⟨true, .statement 2, .statement x⟩) ∧
    storedAt (.statement 2) tPontoon.store = ⟨true, .statement 2, .empty⟩ ∧
    storedAt (.statement 2) (tStored tPontoon (.statement 2) (.station 9 4)).store = ⟨true, .statement 2, .station 9 4⟩ ∧
    storedAt .station (tStored tPontoon .station (.station 9 4)).store = ⟨true, .station, .station 9 4⟩ ∧
    storedAt .station tPontoon.store = ⟨true, .station, .empty⟩ ∧ tPontoon.serials = [7, 8] ∧ (tWith []).serials = [] ∧
    storedAt (.booking 2) tPontoon.store = ⟨true, .booking 2, .empty⟩ ∧
    storedAt (.booking 2) (tStored tPontoon (.booking 2) (.booking 1 tLoaded)).store =
      ⟨true, .booking 2, .booking 1 tLoaded⟩ ∧
    (tLoaded.fieldsOk = true ∧ { tLoaded with state := .tentative }.fieldsOk = false ∧ tPontoon.berth? 2 = none ∧
      canInsert tBerth.bookings tLoaded.stay.arrival tLoaded.stay.departure = false ∧
      tLoaded.serial.getD 0 ∈ tPontoon.serials) ∧
    (∀ s ∈ [tWith [], tWith [tBooking]], ∃ x, s.berth? 1 = some x ∧
      canInsert x.bookings tLoaded.stay.arrival tLoaded.stay.departure = true ∧ tLoaded.serial.getD 0 ∉ s.serials) ∧
    ([(tWith []), (tWith [tBooking])].map fun s => [[11, 21], [11]].map fun l => l.filter fun t =>
      !s.liveBookings.any fun p => p.2.tags.contains t) = [[[11, 21], [11]], [[21], []]] ∧
    (let x := statementOf 4 2 1 .checkedOut tLoaded
     x.berth = 1 ∧ some x.serial = tLoaded.serial ∧ x.arrival = tLoaded.stay.arrival) ∧
    storedAt (.booking 2) (tStored tPontoon (.booking 2) (.station 9 4)).store = ⟨true, .booking 2, .station 9 4⟩ := by
  decide +kernel

/-- A booking with a hold that is over age and a standing that differs; an outlet wanted by a booking that is BARRED, one that is
not, and not wanted; a tap likewise; stray wanted flags and those of the holding booking (R45, R110). -/
theorem witness_ResetsAndTheEndOfTheLoad_posts :
    (let b := { tBooking with purse := { tBooking.purse with balance := -100, holds := [⟨⟨9, 1, 0⟩, .active, 500, 30, none⟩] } }
     (tWith [b]).booking? 1 7 = some b ∧ b.slot = some 1 ∧ b.purse.standing ≠ b.purse.standingNow ∧
      (tWith [b]).cfg.holdTimeout ≤ 30) ∧
    (∀ wanted ∈ [true, false], ∀ st ∈ [Standing.good, .barred],
      let b := { tBooking with wantedFirst := wanted, purse := { tBooking.purse with standing := st } }
      let s := (tWith [b]).setPbc { tPontoon.pbc with firstRound := false }
      s.pbc.firstRound = false ∧ s.outlet? 1 = some tOutlet ∧ s.tap? 1 = some tTap ∧ s.holder? (some 1) = some (1, b) ∧
        b.wantedAt (s.placeIn 1 1) = wanted) ∧
    (tWith [tReserved]).holder? (some 1) = none ∧
    (let k := { tReserved with wantedFirst := true }
     let s := tWith [{ tBooking with wantedFirst := true }, k]
     s.berth? 1 = some { tBerth with bookings := [{ tBooking with wantedFirst := true }, k] } ∧ s.booking? 1 8 = some k ∧
      (s.holding? 1).bind Booking.serial = some 7 ∧ s.booking? 1 7 = some { tBooking with wantedFirst := true }) := by
  decide +kernel

/-- A tag pinned with ways 0 and 1 taken, one pinned already, a set with 3 pinned; two gates, one with its door open (R119,
R140). -/
theorem witness_ResetsAndTheEndOfTheLoad_pins :
    (let e (n : Nat) (t : Tag) : CacheEntry := ⟨n, { tag := t, owner := 3, cls := .staff }, none, true⟩
     let mine (l : List CacheEntry) := l.filter fun x => x.record.tag.toNat % 64 == 5
     (mine [e 0 5, e 1 69, e 0 6]).length = 2 ∧ (∀ x ∈ mine [e 0 5, e 1 69, e 0 6], x.way ≠ 2) ∧
      (∀ v, v < 2 → ∃ x ∈ mine [e 0 5, e 1 69, e 0 6], x.way = v) ∧
      (mine [e 0 5, e 1 69, e 2 133]).length = 3) ∧
    (let i := { tImage with gates := [⟨2, .main, .card, 5, 30⟩, ⟨1, .service, .opened, 5, 30⟩] }
     (i.gates.map GateCfg.number).Nodup ∧ (tPontoon.setDoor2 .opened).door2 = .opened) := by decide +kernel

/-- A list slot and a pump slot: empty, of a pump in the table, of one that is not, and a sale of each stage (R158). -/
theorem witness_ResetsAndTheEndOfTheLoad_sales :
    (tFuel id).cfg.role = .fuel ∧ tPontoon.cfg.role ≠ .fuel ∧
    storedAt (.sale 5) (tFuel id).store = ⟨true, .sale 5, .empty⟩ ∧
    (∀ id ∈ [RecordId.sale 5, .sale 1], ∀ stage ∈ [Stage.closed, .listed, .authorising, .ready, .delivering, .settling],
      ∀ pump ∈ [1, 2], let x := { tSale with stage := stage, id := { tSale.id with pump := pump } }
      storedAt id (tStored (tFuel fun p => p) id (.sale x (some (4, 1)))).store = ⟨true, id, .sale x (some (4, 1))⟩ ∧
        ((tFuel fun p => p).pump? x.id.pump).isSome = (pump == 1)) := by decide +kernel

/-- A notice for the holding booking and for the one behind it, with room for the Tag Revoke and without; an outlet and a tap in
the states it moves (R28). -/
theorem witness_ResetsAndTheEndOfTheLoad_notice :
    (tPontoon.berth? 1 = some tBerth ∧ tPontoon.booking? 1 7 = some tBooking ∧ tPontoon.booking? 1 8 = some tReserved ∧
      (tPontoon.holding? 1).bind Booking.serial = some 7 ∧ tBooking.tags = [11, 12] ∧ tPontoon.qlc.queue.length < 16 ∧
      16 ≤ (List.replicate 16 tQueued).length ∧ 1 ∈ tBerth.cfg.outlets ∧ tBerth.cfg.tap = some 1) ∧
    (∀ st ∈ [OutletState.live, .waiting, .shed, .suspended, .off, .tripped],
      ((tOutletIs fun o => { o with state := st }).outlet? 1).map Outlet.state = some st) ∧
    (∀ st ∈ [TapState.closed, .opened, .locked],
      ((changeTap 1 (fun p => { p with state := st }) tPontoon).tap? 1).map Tap.state = some st) ∧
    (let s := tPontoon.setCfl { load := .accepted, notices := [(1, 7, .good, .low)] }
     s.cfl.starting = true ∧ s.cfl.notices ≠ []) := by decide +kernel

/-! ### Witnesses: the whole machine -/

theorem witness_StepRunsTheFrontCommand :
    (tPontoon.setPending [.exitButton 1, .dayStatus]).pending = [.exitButton 1, .dayStatus] ∧ tPontoon.pending = [] := by
  decide +kernel

/-- A Berth Call for a stay of one day in front. -/
theorem witness_BookingsKeepTheirSerials :
    (tPontoon.bookingsOk ∧ step tPontoon = .next (tPontoon.setNow 1)) ∧ tPontoon.listsOk ∧
      (let s := tPontoon.setPending [.berthCall .a 5 ⟨5, 0⟩ (tCall 120 121)]
       (∀ c, s.pending.head? = some c → callStays c) ∧ ∃ t, step s = .next t) := by
  refine ⟨⟨by decide +kernel, rfl⟩, by decide +kernel, ?_, _, rfl⟩
  rintro _ ⟨⟩
  show 120 < 121
  decide

theorem witness_StoreKeepsItsForm : tPontoon.store.wf ∧ step tPontoon = .next (tPontoon.setNow 1) :=
  ⟨by decide +kernel, rfl⟩

theorem witness_BuffersStayBounded :
    tPontoon.Bounded ∧ tPontoon.lineIsDue ∧ step tPontoon = .next (tPontoon.setNow 1) :=
  ⟨⟨by decide +kernel, by decide +kernel, by decide +kernel, by decide +kernel⟩, by decide +kernel, rfl⟩

theorem witness_CommittedLoadStaysWithinAllotment : tPontoon.fits ∧ step tPontoon = .next (tPontoon.setNow 1) :=
  ⟨by decide +kernel, rfl⟩

theorem witness_GatesKeepTheirForm : tPontoon.gatesOk ∧ step tPontoon = .next (tPontoon.setNow 1) := by
  refine ⟨fun n g h => ?_, rfl⟩
  have : g = tGate := by
    have := List.mem_of_find?_eq_some h
    simpa [tPontoon] using this
  subst this
  decide

/-! ### One step of a command -/

/-- R135: an exit press at a LOCKED gate releases the strike. -/
theorem test_exitButton : ∃ t, exec (.exitButton 1) tPontoon = .next t ∧ t.strikeLine 1 = .released :=
  ⟨_, rfl, by decide +kernel⟩

/-- R136: a door that opens under a LOCKED gate forces it. -/
theorem test_doorSense : ∃ t, exec (.doorSense 1 .opened) tPontoon = .next t ∧
    (t.gate? 1).map Gate.state = some .forced := ⟨_, rfl, by decide +kernel⟩

/-- R14: CHECK_OUT of serial 7. -/
theorem test_checkOut : ∃ t, exec (.checkOut 3 1 7) tPontoon = .next t ∧ t.booking? 1 7 = none ∧
    t.bst.statements.map Statement.serial = [7] := ⟨_, rfl, by decide +kernel⟩

/-- R13: a serial no booking has. -/
theorem test_checkOut_noBooking : ∃ t, exec (.checkOut 3 1 6) tPontoon = .next t ∧
    t.tpc.reply = some (answer .checkOut .noBooking) := ⟨_, rfl, by decide +kernel⟩

/-- R40: CREDIT of nothing is BAD_AMOUNT. -/
theorem test_credit_zero : ∃ t, exec (.credit 3 1 7 0) tPontoon = .next t ∧
    t.tpc.reply = some (answer .credit .badAmount) := ⟨_, rfl, by decide +kernel⟩

/-- R41: a barred booking's LIVE outlet is SUSPENDED. -/
theorem test_bar : ∃ t, exec (.bar 3 1 7) (tOutletIs fun o => { o with state := .live, energise := some 1, smoothed := 60 }) =
    .next t ∧ (t.outlet? 1).map Outlet.state = some .suspended := ⟨_, rfl, by decide +kernel⟩

/-- R95, R101: an outlet that fits the allotment is energised. -/
theorem test_energise : ∃ t, exec (.energise 3 1 1) tPontoon = .next t ∧
    (t.outlet? 1).map Outlet.state = some .live := ⟨_, rfl, by decide +kernel⟩

/-- R78, R100: a fall of A sheds. -/
theorem test_computation : ∃ t, exec .computationTimer ((tOutletIs fun o =>
      { o with state := .live, energise := some 1, smoothed := 100 }).setCfg { tImage with feederLimit := 50, floor := 40 }) =
    .next t ∧ (t.outlet? 1).map Outlet.state = some .shed := ⟨_, rfl, by decide +kernel⟩

/-- R146, R147, R148: a grant of 500 cents at 1,500 milli-cents a centilitre presets 333 cl. -/
theorem test_holdAnswer : ∃ t, exec (.holdAnswer .a 3 6 ⟨9, 1, 4⟩ (.granted 500))
      (tAsking (tFuel fun q => { q with state := .authorising, sale := some tSale })
        (tPending (.holdRequest ⟨9, 1, 4⟩ 11 7 20000) (.pumpSale ⟨9, 1, 4⟩))) = .next t ∧
    (t.pump? 1).map Pump.command = some (.enabled 333) := ⟨_, rfl, by decide +kernel⟩

/-- R196: with nothing in the record store the load ends in CONFIG_FAULT. -/
theorem test_loadEnd : ∃ t, exec .loadEnd State.reset = .next t ∧ t.evj.attention = true ∧
    t.evj.entries.map JournalEntry.report = [.restart .powerOn, .configRejected .format none] := ⟨_, rfl, by decide +kernel⟩

/-- R162: onto the close second the day advances. -/
theorem test_clockSecond : ∃ t, exec .clockSecond (tPontoon.setDck { clock := some ⟨100, 43199⟩ }) = .next t ∧
    t.dck.clock = some ⟨101, 43200⟩ := ⟨_, rfl, by decide +kernel⟩

/-- R174: a header that fails its check is counted. -/
theorem test_dropped : ∃ t, exec (.quaylineFrameDropped .a [1, 2, 3]) tPontoon = .next t ∧
    t.qlc.errors.headerCheck = 1 := ⟨_, rfl, by decide +kernel⟩

/-- R189: a command payload of 47 bytes is TOO_LONG to forward. -/
theorem test_forward_tooLong :
    (forward 47 5 (.status 5) tPontoon).tpc.reply = some (answer .status .tooLong) := by decide +kernel

/-- R154, R150: a sale recovered at the reset, its pump back from FAULT, shows SETTLING while its Settle Request is pending. -/
theorem test_leaveFault_display :
    ∃ t, exec (.pumpAnswer 1 tReading) (tFuel fun q => { q with
        state := .fault, awaiting := some (.disabled, .idle), sale := some { tSale with stage := .settling } }) = .next t ∧
      (t.pump? 1).map Pump.display = some .settling ∧ (t.pump? 1).map Pump.state = some .settling ∧
      t.qlc.requests.length = 1 := ⟨_, rfl, by decide +kernel⟩

end Sys2Proof.Machine
end

section
/-! SUPPORT. The computation of shares (R70, R72, R73): what the sum of the capped excesses does as the level rises, that the
search finds the water level, what each participant is given, and the three cases of a computation. -/

namespace Sys2Proof.Machine

/-! ### The sum of the capped excesses (R73) -/

/-- A level higher by one asks for one more for each participant above it. -/
theorem cappedSum_succ (ps : List Participant) (w : Nat) :
    cappedSum ps (w + 1) = cappedSum ps w + (ps.filter fun p => w < p.excess).length := by
  simp only [cappedSum]
  induction ps with
  | nil => rfl
  | cons p ps ih =>
    by_cases h : w < p.excess
    · simp [h, ih]; omega
    · simp [h, ih, show min p.excess (w + 1) = min p.excess w by omega, Nat.add_assoc]

theorem cappedSum_mono (ps : List Participant) : Monotone (cappedSum ps) :=
  monotone_nat_of_le_succ fun w => by rw [cappedSum_succ]; omega

theorem cappedSum_of_excess_le {ps : List Participant} {w : Nat} (h : ∀ p ∈ ps, p.excess ≤ w) :
    cappedSum ps w = (ps.map Participant.excess).sum := by
  rw [cappedSum, List.map_congr_left fun p hp => Nat.min_eq_left (h p hp)]

/-! ### The water level (R73) -/

/-- `w` is the largest level that fits the spare. -/
def FitsTop (ps : List Participant) (spare w : Nat) : Prop := cappedSum ps w ≤ spare ∧ spare < cappedSum ps (w + 1)

/-- Between a level that fits and one 2 ^ n higher that does not, the search ends at the largest that fits. -/
theorem levelFrom_fitsTop (ps : List Participant) (spare n w : Nat) (low : cappedSum ps w ≤ spare)
    (high : spare < cappedSum ps (w + 2 ^ n)) : FitsTop ps spare (levelFrom ps spare n w) := by
  induction n generalizing w with
  | zero => exact ⟨low, high⟩
  | succ n ih =>
    unfold levelFrom
    split
    next fits => exact ih _ fits (by rwa [Nat.add_assoc, ← Nat.two_mul, ← Nat.pow_succ'])
    next exceeds => exact ih _ low (by omega)

/-- With excesses of at most 60,000 that do not all fit, 17 bits hold the water level. -/
theorem waterLevel_fitsTop {ps : List Participant} {spare : Nat} (small : ∀ p ∈ ps, p.excess ≤ 60000)
    (exceeds : spare < (ps.map Participant.excess).sum) : FitsTop ps spare (waterLevel ps spare) := by
  refine levelFrom_fitsTop ps spare 17 0 (by simp [cappedSum]) ?_
  rwa [cappedSum_of_excess_le fun p hp => (small p hp).trans (by norm_num)]

/-- The levels that fit are those up to the largest. -/
theorem FitsTop.le_iff {ps : List Participant} {spare w : Nat} (h : FitsTop ps spare w) (v : Nat) :
    v ≤ w ↔ cappedSum ps v ≤ spare := by
  obtain ⟨fits, exceeds⟩ := h
  constructor
  · intro hv
    exact (cappedSum_mono ps hv).trans fits
  · intro hv
    by_contra above
    have := cappedSum_mono ps (show w + 1 ≤ v by omega)
    omega

/-- What the level leaves of the spare is less than one for each participant above it. -/
theorem FitsTop.left_lt {ps : List Participant} {spare w : Nat} (h : FitsTop ps spare w) :
    spare - cappedSum ps w < (ps.filter fun p => w < p.excess).length := by
  obtain ⟨fits, exceeds⟩ := h
  rw [cappedSum_succ] at exceeds
  omega

/-! ### Giving the shares (R73) -/

/-- The share at a place: floor, capped excess, and one of the leftover where fewer participants above the level stand ahead
of it than are left over. -/
theorem giveShares_getElem? (w left : Nat) (ps : List Participant) (i : Nat) (p : Participant) (h : ps[i]? = some p) :
    (giveShares w left ps)[i]? = some { p with
      share := p.floor + min p.excess w +
        (if w < p.excess ∧ ((ps.take i).filter fun q => w < q.excess).length < left then 1 else 0) } := by
  induction ps generalizing left i with
  | nil => simp at h
  | cons q ps ih =>
    unfold giveShares
    cases i with
    | zero =>
      obtain rfl : q = p := by simpa using h
      split
      next above => simp [above, Nat.min_eq_right above.le]
      next below => simp [below, Nat.min_eq_left (Nat.le_of_not_lt below)]
    | succ i =>
      have later : ps[i]? = some p := by simpa using h
      split
      next above => simp [ih _ _ later, above, Nat.lt_sub_iff_add_lt]
      next below => simp [ih _ _ later, below]

/-- Giving the shares leaves every other field of the participants. -/
theorem giveShares_map {α : Type} (f : Participant → α) (hf : ∀ p x, f { p with share := x } = f p) (w left : Nat)
    (ps : List Participant) : (giveShares w left ps).map f = ps.map f := by
  induction ps generalizing left with
  | nil => rfl
  | cons p ps ih => unfold giveShares; split <;> simp [ih, hf]

/-- Every share stands between the floor and the floor with the whole excess. -/
theorem giveShares_bounds (w left : Nat) (ps : List Participant) :
    ∀ p ∈ giveShares w left ps, p.floor ≤ p.share ∧ p.share ≤ p.floor + p.excess := by
  induction ps generalizing left with
  | nil => simp [giveShares]
  | cons p ps ih =>
    unfold giveShares
    split
    next above =>
      refine List.forall_mem_cons.2 ⟨?_, ih _⟩
      dsimp only
      split <;> omega
    next below => exact List.forall_mem_cons.2 ⟨⟨Nat.le_add_right _ _, le_rfl⟩, ih _⟩

/-- The shares given: the floors, the capped excesses, and as much of the leftover as there are participants above the
level. -/
theorem giveShares_sum (w left : Nat) (ps : List Participant) :
    ((giveShares w left ps).map Participant.share).sum =
      floorSum ps + cappedSum ps w + min left (ps.filter fun p => w < p.excess).length := by
  simp only [floorSum, cappedSum]
  induction ps generalizing left with
  | nil => simp [giveShares]
  | cons p ps ih =>
    unfold giveShares
    split
    next above =>
      simp only [List.map_cons, List.sum_cons, ih, above, decide_true, List.filter_cons_of_pos, List.length_cons]
      split <;> omega
    next below =>
      simp only [List.map_cons, List.sum_cons, ih, below, decide_false, Bool.false_eq_true, not_false_eq_true,
        List.filter_cons_of_neg]
      omega

/-! ### The cases of a computation (R70, R72, R73) -/

theorem computeShares_of_floors_over {limit : Nat} {ps : List Participant} (exceeds : limit < floorSum ps) :
    computeShares limit ps = ps.map fun p => { p with share := p.floor * limit / floorSum ps } := by
  simp [computeShares, exceeds]

theorem computeShares_of_all_fits {limit : Nat} {ps : List Participant}
    (fits : floorSum ps + (ps.map Participant.excess).sum ≤ limit) :
    computeShares limit ps = ps.map fun p => { p with share := p.floor + p.excess } := by
  simp [computeShares, show ¬ limit < floorSum ps by omega,
    show (ps.map Participant.excess).sum ≤ limit - floorSum ps by omega]

theorem computeShares_of_level {limit : Nat} {ps : List Participant} (fits : floorSum ps ≤ limit)
    (exceeds : limit < floorSum ps + (ps.map Participant.excess).sum) :
    computeShares limit ps =
      giveShares (waterLevel ps (limit - floorSum ps))
        (limit - floorSum ps - cappedSum ps (waterLevel ps (limit - floorSum ps))) ps := by
  simp [computeShares, show ¬ limit < floorSum ps by omega,
    show ¬ (ps.map Participant.excess).sum ≤ limit - floorSum ps by omega]

/-- A computation leaves every field of the participants but the shares. -/
theorem computeShares_map {α : Type} (f : Participant → α) (hf : ∀ p x, f { p with share := x } = f p) (limit : Nat)
    (ps : List Participant) : (computeShares limit ps).map f = ps.map f := by
  simp only [computeShares]
  split
  · simp [Function.comp_def, hf]
  · split
    · simp [Function.comp_def, hf]
    · exact giveShares_map f hf _ _ _

theorem computeShares_floorSum (limit : Nat) (ps : List Participant) : floorSum (computeShares limit ps) = floorSum ps := by
  rw [floorSum, computeShares_map Participant.floor fun _ _ => rfl]; rfl

/-- Where every participant is given a share of its own, the one at a place has it. -/
theorem getElem?_map_share {f : Participant → Nat} {ps : List Participant} {i : Nat} {p : Participant} (h : ps[i]? = some p) :
    (ps.map fun p => { p with share := f p })[i]? = some { p with share := f p } := by
  rw [List.getElem?_map, h]; rfl

/-- Where the floors fit, every share stands between the floor and the floor with the whole excess. -/
theorem computeShares_bounds {limit : Nat} {ps : List Participant} (fits : floorSum ps ≤ limit) :
    ∀ p ∈ computeShares limit ps, p.floor ≤ p.share ∧ p.share ≤ p.floor + p.excess := by
  by_cases all : floorSum ps + (ps.map Participant.excess).sum ≤ limit
  · rw [computeShares_of_all_fits all]; simp
  · rw [computeShares_of_level fits (by omega)]; exact giveShares_bounds _ _ _

/-- Numbers scaled by `a` over `b` and rounded down come to no more than their sum scaled. -/
theorem sum_scaled_mul_le (f : Participant → Nat) (a b : Nat) (ps : List Participant) :
    (ps.map fun p => f p * a / b).sum * b ≤ (ps.map f).sum * a := by
  induction ps with
  | nil => simp
  | cons p ps ih =>
    have := Nat.div_mul_le_self (f p * a) b
    simp only [List.map_cons, List.sum_cons, Nat.add_mul]
    omega

/-- The floors scaled down come to no more than the limit (R70). -/
theorem computeShares_sum_of_floors_over {limit : Nat} {ps : List Participant} (exceeds : limit < floorSum ps) :
    ((computeShares limit ps).map Participant.share).sum ≤ limit := by
  rw [computeShares_of_floors_over exceeds, List.map_map]
  refine Nat.le_of_mul_le_mul_right (c := floorSum ps) ?_ (by omega)
  calc (ps.map fun p => p.floor * limit / floorSum ps).sum * floorSum ps
      ≤ floorSum ps * limit := sum_scaled_mul_le Participant.floor _ _ ps
    _ = limit * floorSum ps := Nat.mul_comm _ _

theorem computeShares_sum_of_all_fits {limit : Nat} {ps : List Participant}
    (fits : floorSum ps + (ps.map Participant.excess).sum ≤ limit) :
    ((computeShares limit ps).map Participant.share).sum = floorSum ps + (ps.map Participant.excess).sum := by
  rw [computeShares_of_all_fits fits, List.map_map]
  exact List.sum_map_add

/-- Where the floors fit and the excesses do not, the shares come to the limit (R73). -/
theorem computeShares_sum_of_level {limit : Nat} {ps : List Participant} (small : ∀ p ∈ ps, p.excess ≤ 60000)
    (fits : floorSum ps ≤ limit) (exceeds : limit < floorSum ps + (ps.map Participant.excess).sum) :
    ((computeShares limit ps).map Participant.share).sum = limit := by
  have top := waterLevel_fitsTop small (spare := limit - floorSum ps) (by omega)
  have left := top.left_lt
  obtain ⟨level, -⟩ := top
  rw [computeShares_of_level fits exceeds, giveShares_sum]
  omega

/-- In each of the three cases the shares come to no more than the limit (R70, R72, R73). -/
theorem computeShares_sum_le {limit : Nat} {ps : List Participant} (small : ∀ p ∈ ps, p.excess ≤ 60000) :
    ((computeShares limit ps).map Participant.share).sum ≤ limit := by
  rcases Nat.lt_or_ge limit (floorSum ps) with exceeds | fits
  · exact computeShares_sum_of_floors_over exceeds
  · rcases Nat.lt_or_ge limit (floorSum ps + (ps.map Participant.excess).sum) with exceeds | all
    · exact (computeShares_sum_of_level small fits exceeds).le
    · exact (computeShares_sum_of_all_fits all).trans_le all

/-! ### Participants (R68, R69) -/

theorem participant_excess_le (number : Nat) (kind : PartKind) (floor ceiling demand : Nat) :
    (participant number kind floor ceiling demand).excess ≤ 60000 := by
  simp only [participant]; omega

/-- A peer brings a real participant of its own number. -/
theorem peerParticipant_real {q : Peer} {p : Participant} (h : peerParticipant q = some p) :
    p.number = q.number ∧ p.kind ≠ .virtual ∧ p.excess ≤ 60000 := by
  unfold peerParticipant at h
  split at h
  · cases h
  all_goals
    obtain rfl := Option.some.inj h
    exact ⟨rfl, nofun, participant_excess_le _ _ _ _ _⟩

/-- The participants that are stations: this one and those its peers bring. -/
def State.realParticipants (s : State) : List Participant :=
  participant s.cfg.station .own s.cfg.floor s.cfg.ceiling s.lsu.declared :: s.qlc.peers.filterMap peerParticipant

/-- The virtual participants, numbered 31 and upwards. -/
def State.virtualParticipants (s : State) : List Participant :=
  (List.range s.virtuals).map fun i => participant (31 + i) .virtual 0 s.cfg.defaultCeiling s.cfg.defaultCeiling

theorem participants_eq (s : State) :
    s.participants = sortBy (fun x y => x.number ≤ y.number) s.realParticipants ++ s.virtualParticipants := rfl

theorem realParticipants_real {s : State} (own : s.cfg.station ≤ 30) (peers : ∀ p ∈ s.qlc.peers, p.number ≤ 30) :
    ∀ p ∈ s.realParticipants, p.number ≤ 30 ∧ p.kind ≠ .virtual ∧ p.excess ≤ 60000 := by
  refine List.forall_mem_cons.2 ⟨⟨own, nofun, participant_excess_le _ _ _ _ _⟩, fun p hp => ?_⟩
  obtain ⟨q, hq, hqp⟩ := List.mem_filterMap.1 hp
  obtain ⟨number, real⟩ := peerParticipant_real hqp
  exact ⟨number ▸ peers q hq, real⟩

theorem virtualParticipants_virtual (s : State) :
    ∀ p ∈ s.virtualParticipants, 31 ≤ p.number ∧ p.kind = .virtual ∧ p.excess ≤ 60000 := by
  intro p hp
  obtain ⟨i, -, rfl⟩ := List.mem_map.1 hp
  exact ⟨Nat.le_add_right _ _, rfl, participant_excess_le _ _ _ _ _⟩

theorem virtualParticipants_ascending (s : State) :
    s.virtualParticipants.Pairwise fun p q => p.number ≤ q.number := by
  refine List.pairwise_map.2 (List.pairwise_lt_range.imp fun h => ?_)
  exact Nat.add_le_add_left h.le 31

/-- A participant is a station or virtual. -/
theorem mem_participants {s : State} {p : Participant} :
    p ∈ s.participants ↔ p ∈ s.realParticipants ∨ p ∈ s.virtualParticipants := by
  rw [participants_eq, List.mem_append, (sortBy_spec Participant.number s.realParticipants).1.mem_iff]

theorem participants_ascending {s : State} (own : s.cfg.station ≤ 30) (peers : ∀ p ∈ s.qlc.peers, p.number ≤ 30) :
    s.participants.Pairwise fun p q => p.number ≤ q.number := by
  obtain ⟨perm, sorted⟩ := sortBy_spec Participant.number s.realParticipants
  refine List.pairwise_append.2 ⟨sorted, virtualParticipants_ascending s, fun p hp q hq => ?_⟩
  have real := (realParticipants_real own peers p (perm.mem_iff.1 hp)).1
  have virtual := (virtualParticipants_virtual s q hq).1
  omega

end Sys2Proof.Machine
end

section
/-! SUPPORT. What one computation leaves of LSU's record and writes to the journal (R71, R74, R76, R77, R87). -/

namespace Sys2Proof.Machine

/-! ### Exactly these entries -/

/-- From `s` to `t` exactly these entries were written, and where there are none the journal is as it was. -/
def WroteOnly (s t : State) (rs : List Report) : Prop := Wrote s t rs ∧ (rs = [] → t.evj = s.evj)

theorem WroteOnly.same {s t : State} (hd : t.dck = s.dck) (he : t.evj = s.evj) : WroteOnly s t [] :=
  ⟨.same hd he, fun _ => he⟩

theorem wroteOnly_report (r : Report) (s : State) : WroteOnly s (report r s) [r] := ⟨wrote_report r s, nofun⟩

theorem WroteOnly.trans {s t u : State} {rs ks : List Report} (h : WroteOnly s t rs) (k : WroteOnly t u ks) :
    WroteOnly s u (rs ++ ks) := by
  obtain ⟨hw, he⟩ := h
  obtain ⟨kw, ke⟩ := k
  refine ⟨hw.trans kw, fun none => ?_⟩
  obtain ⟨hnone, knone⟩ := List.append_eq_nil_iff.1 none
  exact (ke knone).trans (he hnone)

/-- A change of LSU's record, and then one entry. -/
theorem wroteOnly_report_setLsu (r : Report) (v : Lsu) (s : State) : WroteOnly s (report r (s.setLsu v)) [r] :=
  (WroteOnly.same (t := s.setLsu v) rfl rfl).trans (wroteOnly_report r _)

/-! ### The FLOORS_OVER condition (R71) -/

/-- The entry a computation writes of its floors: the condition begins, or it ends. -/
def floorNotes (floors limit : Nat) (was : Bool) : List Report :=
  (if limit < floors ∧ was = false then [.floorsOver floors limit] else []) ++
  (if floors ≤ limit ∧ was = true then [.floorsCleared floors limit] else [])

theorem noteFloors_begins {floors : Nat} {s : State} (exceeds : s.cfg.feederLimit < floors)
    (clear : s.lsu.floorsOver = false) :
    noteFloors floors s = report (.floorsOver floors s.cfg.feederLimit) (s.setLsu { s.lsu with floorsOver := true }) := by
  simp [noteFloors, exceeds, clear]

theorem noteFloors_ends {floors : Nat} {s : State} (fits : floors ≤ s.cfg.feederLimit) (set : s.lsu.floorsOver = true) :
    noteFloors floors s = report (.floorsCleared floors s.cfg.feederLimit) (s.setLsu { s.lsu with floorsOver := false }) := by
  simp [noteFloors, Nat.not_lt.2 fits, set]

theorem noteFloors_same {floors : Nat} {s : State} (same : s.lsu.floorsOver = decide (s.cfg.feederLimit < floors)) :
    noteFloors floors s = s := by
  simp [noteFloors, same]

/-- The condition as the computation leaves it, and the entry that tells of a change. -/
theorem noteFloors_spec (floors : Nat) (s : State) :
    (noteFloors floors s).lsu = { s.lsu with floorsOver := decide (s.cfg.feederLimit < floors) } ∧
    WroteOnly s (noteFloors floors s) (floorNotes floors s.cfg.feederLimit s.lsu.floorsOver) := by
  rcases Nat.lt_or_ge s.cfg.feederLimit floors with exceeds | fits <;> cases was : s.lsu.floorsOver
  case inl.false =>
    rw [noteFloors_begins exceeds was]
    exact ⟨by simp [exceeds], by simpa [floorNotes, exceeds] using wroteOnly_report_setLsu _ _ s⟩
  case inl.true =>
    have same : s.lsu.floorsOver = decide (s.cfg.feederLimit < floors) := by simp [was, exceeds]
    rw [noteFloors_same same, ← same]
    exact ⟨rfl, by simpa [floorNotes, Nat.not_le.2 exceeds] using WroteOnly.same (s := s) rfl rfl⟩
  case inr.false =>
    have same : s.lsu.floorsOver = decide (s.cfg.feederLimit < floors) := by simp [was, fits]
    rw [noteFloors_same same, ← same]
    exact ⟨rfl, by simpa [floorNotes, Nat.not_lt.2 fits] using WroteOnly.same (s := s) rfl rfl⟩
  case inr.true =>
    rw [noteFloors_ends fits was]
    exact ⟨by simp [Nat.not_lt.2 fits], by simpa [floorNotes, fits] using wroteOnly_report_setLsu _ _ s⟩

/-! ### The applied allotment (R76, R77, R87) -/

/-- The entry a computation writes of a fall of A by more than H. -/
def cutNotes (cause hysteresis applied computed : Nat) : List Report :=
  if computed + hysteresis < applied then [.allotmentCut cause applied computed] else []

theorem applyComputed_fall {cause : Nat} {s : State} (fall : s.lsu.computed < s.lsu.applied) :
    (applyComputed cause s).lsu = { s.lsu with applied := s.lsu.computed, raiseAt := none } ∧
    WroteOnly s (applyComputed cause s) (cutNotes cause s.cfg.hysteresis s.lsu.applied s.lsu.computed) := by
  have cut : s.cfg.hysteresis < s.lsu.applied - s.lsu.computed ↔ s.lsu.computed + s.cfg.hysteresis < s.lsu.applied := by
    omega
  simp only [applyComputed, fall, if_true, cutNotes, cut]
  split
  · exact ⟨by simp, wroteOnly_report_setLsu _ _ s⟩
  · exact ⟨rfl, .same rfl rfl⟩

theorem applyComputed_equal {cause : Nat} {s : State} (equal : s.lsu.computed = s.lsu.applied) :
    applyComputed cause s = s.setLsu { s.lsu with raiseAt := none } := by
  simp [applyComputed, equal]

theorem applyComputed_rise {cause : Nat} {s : State} (rise : s.lsu.applied < s.lsu.computed) :
    applyComputed cause s =
      s.setLsu { s.lsu with raiseAt := some (s.lsu.raiseAt.getD (s.now + s.cfg.raiseTime * 1000)) } := by
  simp only [applyComputed, rise.not_gt, rise.ne', if_false]
  split
  next running => rw [running, Option.getD_some, ← running]; rfl
  next stopped => simp [stopped]

theorem applyComputed_spec (cause : Nat) (s : State) :
    (applyComputed cause s).lsu = { s.lsu with
      applied := min s.lsu.applied s.lsu.computed
      raiseAt := if s.lsu.computed ≤ s.lsu.applied then none
        else some (s.lsu.raiseAt.getD (s.now + s.cfg.raiseTime * 1000)) } ∧
    WroteOnly s (applyComputed cause s) (cutNotes cause s.cfg.hysteresis s.lsu.applied s.lsu.computed) := by
  rcases Nat.lt_trichotomy s.lsu.computed s.lsu.applied with fall | equal | rise
  · obtain ⟨lsu, wrote⟩ := applyComputed_fall (cause := cause) fall
    exact ⟨by rw [lsu, if_pos fall.le, Nat.min_eq_right fall.le], wrote⟩
  · have uncut : ¬ s.lsu.computed + s.cfg.hysteresis < s.lsu.applied := by omega
    rw [applyComputed_equal equal, cutNotes, if_neg uncut, if_pos equal.le, Nat.min_eq_left equal.ge]
    exact ⟨rfl, .same rfl rfl⟩
  · have uncut : ¬ s.lsu.computed + s.cfg.hysteresis < s.lsu.applied := by omega
    rw [applyComputed_rise rise, cutNotes, if_neg uncut, if_neg rise.not_ge, Nat.min_eq_left rise.le]
    exact ⟨rfl, .same rfl rfl⟩

/-! ### One computation (R70 to R77) -/

/-- The computed allotment a computation gives this station. -/
def State.shareNow (s : State) : Nat := shareOf s.cfg.station (computeShares s.cfg.feederLimit s.participants)

/-- A computation looks at the floors, takes its results into LSU's record, and brings the computed allotment to A. -/
theorem compute_eq (cause : Nat) (s : State) :
    compute cause s = applyComputed cause ((noteFloors (floorSum s.participants) s).setLsu { s.lsu with
      floorsOver := decide (s.cfg.feederLimit < floorSum s.participants)
      computed := s.shareNow
      participants := computeShares s.cfg.feederLimit s.participants }) := by
  simp only [compute, computeShares_floorSum, noteFloors_spec]
  rfl

/-- LSU's record after a computation, and the entries of the floors and then of the fall. -/
theorem compute_spec (cause : Nat) (s : State) :
    (compute cause s).lsu = { s.lsu with
      computed := s.shareNow
      applied := min s.lsu.applied s.shareNow
      raiseAt := if s.shareNow ≤ s.lsu.applied then none
        else some (s.lsu.raiseAt.getD (s.now + s.cfg.raiseTime * 1000))
      floorsOver := decide (s.cfg.feederLimit < floorSum s.participants)
      participants := computeShares s.cfg.feederLimit s.participants } ∧
    WroteOnly s (compute cause s)
      (floorNotes (floorSum s.participants) s.cfg.feederLimit s.lsu.floorsOver ++
        cutNotes cause s.cfg.hysteresis s.lsu.applied s.shareNow) := by
  obtain ⟨-, floors⟩ := noteFloors_spec (floorSum s.participants) s
  rw [compute_eq]
  generalize taken : State.setLsu _ _ = u
  obtain ⟨lsu, wrote⟩ := applyComputed_spec cause u
  have cfg : u.cfg = s.cfg := by simp [← taken]
  have now : u.now = s.now := by simp [← taken]
  rw [cfg, now] at lsu
  rw [cfg] at wrote
  subst taken
  have taking := floors.trans (WroteOnly.same (t := State.setLsu _ _) rfl rfl)
  rw [List.append_nil] at taking
  exact ⟨lsu, taking.trans wrote⟩

/-- A computation touches LSU and the journal only. -/
theorem compute_only (cause : Nat) (s : State) :
    compute cause s = { s with lsu := (compute cause s).lsu, evj := (compute cause s).evj } :=
  State.ext_fields _ _ (by simp)

/-! ### The statements -/

/-- Settles O20, by LSU's record after a computation and the entries it writes. -/
theorem computationMovesAllotment : Obligations.ComputationMovesAllotment := by
  intro s cause
  obtain ⟨lsu, wrote, silent⟩ := compute_spec cause s
  have computed : (compute cause s).lsu.computed = s.shareNow := by rw [lsu]
  have notes : s.journalledAll (compute cause s) _ := wrote.all
  refine ⟨computed, by rw [lsu], by rw [lsu], by rw [lsu], by rw [lsu], ?_, by rw [lsu], compute_only cause s⟩
  rw [← computed] at notes silent
  exact ⟨notes, silent⟩

/-- Settles O19: the cases of a computation, with the water level as the search finds it. -/
theorem sharesFillTheLimit : Obligations.SharesFillTheLimit := by
  refine ⟨fun limit ps small => ⟨computeShares_sum_le small, ?scaled, computeShares_bounds, ?whole, ?level, ?numbers⟩,
    fun s cause own peers => ⟨?taken, ?ascending, ?kinds⟩⟩
  case scaled =>
    intro exceeds i p h
    rw [computeShares_of_floors_over exceeds]
    exact getElem?_map_share h
  case whole =>
    intro fits i p h
    rw [computeShares_of_all_fits fits]
    exact getElem?_map_share h
  case level =>
    intro fits exceeds
    have top := waterLevel_fitsTop small (spare := limit - floorSum ps) (by omega)
    refine ⟨computeShares_sum_of_level small fits exceeds, _, _, top.le_iff, Nat.add_sub_of_le top.1, top.left_lt,
      fun i p h => ?_⟩
    rw [computeShares_of_level fits exceeds]
    exact giveShares_getElem? _ _ _ _ _ h
  case numbers => exact computeShares_map _ (fun _ _ => rfl) _ _
  case taken => rw [(compute_spec cause s).1]
  case ascending => exact List.pairwise_map.2 (participants_ascending own peers)
  case kinds =>
    intro p hp
    rcases mem_participants.1 hp with real | virtual
    · obtain ⟨number, kind, excess⟩ := realParticipants_real own peers p real
      exact ⟨iff_of_false kind (by omega), excess⟩
    · obtain ⟨number, kind, excess⟩ := virtualParticipants_virtual s p virtual
      exact ⟨iff_of_true kind number, excess⟩

end Sys2Proof.Machine
end

section
/-! SUPPORT. The gates (chapter 7): what the release of a strike and a press of the exit button do to a gate's record, and
what they leave of GTC. -/

namespace Sys2Proof.Machine

/-! ### One gate's record changed -/

theorem sameGatesBut_refl (n : Nat) (s : State) : s.sameGatesBut s n := ⟨rfl, fun _ _ => rfl⟩

theorem sameGatesBut_trans {n : Nat} {s t u : State} (st : s.sameGatesBut t n) (tu : t.sameGatesBut u n) :
    s.sameGatesBut u n := by
  obtain ⟨gtc, others⟩ := st
  obtain ⟨gtc', others'⟩ := tu
  exact ⟨by rw [gtc', gtc], fun m hm => (others' m hm).trans (others m hm)⟩

theorem sameGatesBut_changeGate (n : Nat) (f : Gate → Gate) (s : State) (h : ∀ g, (f g).cfg = g.cfg) :
    s.sameGatesBut (changeGate n f s) n := ⟨rfl, fun m => gate?_other n m f s h⟩

/-! ### The release (R132, R135) -/

theorem releaseGate_self {n : Nat} {g : Gate} {s : State} (h : s.gate? n = some g) :
    (releaseGate n s).gate? n = some { g with
      state := .released, strike := .released, releaseAt := some (s.now + g.cfg.releaseTime * 1000) } :=
  gate?_self n _ s (by simp) g h

theorem sameGatesBut_releaseGate (n : Nat) (s : State) : s.sameGatesBut (releaseGate n s) n :=
  sameGatesBut_changeGate n _ s fun _ => rfl

/-! ### A press of the exit button (R135) -/

theorem pressExit_locked {g : Gate} (locked : g.state = .locked) (s : State) :
    pressExit g s = releaseGate g.cfg.number (changeGate g.cfg.number (fun x => { x with exits := bumpTop x.exits }) s) := by
  simp [pressExit, locked]

theorem pressExit_released {g : Gate} (released : g.state = .released) (s : State) :
    pressExit g s = releaseGate g.cfg.number s := by
  simp [pressExit, released]

theorem pressExit_otherwise {g : Gate} (not_locked : g.state ≠ .locked) (not_released : g.state ≠ .released) (s : State) :
    pressExit g s = s := by
  unfold pressExit
  split
  next locked => exact absurd locked not_locked
  next released => exact absurd released not_released
  all_goals rfl

/-- A press touches no gate but its own. -/
theorem sameGatesBut_pressExit (g : Gate) (s : State) : s.sameGatesBut (pressExit g s) g.cfg.number := by
  by_cases locked : g.state = .locked
  · rw [pressExit_locked locked]
    exact sameGatesBut_trans (sameGatesBut_changeGate _ _ s (by simp)) (sameGatesBut_releaseGate _ _)
  by_cases released : g.state = .released
  · rw [pressExit_released released]
    exact sameGatesBut_releaseGate _ s
  · rw [pressExit_otherwise locked released]
    exact sameGatesBut_refl _ s

/-- A press touches GTC only. -/
theorem pressExit_only (g : Gate) (s : State) : pressExit g s = { s with gtc := (pressExit g s).gtc } :=
  State.ext_fields _ _ (by simp)

theorem exec_exitButton {s : State} {n : Nat} {g : Gate} (h : s.gate? n = some g) :
    exec (.exitButton n) s = .next (pressExit g s) := by
  simp [exec, execExitButton, h]

/-! ### The statement -/

/-- Settles O29, by the state of the gate at the press. -/
theorem exitButtonReleases : Obligations.ExitButtonReleases := by
  intro s n g h
  obtain rfl := gate?_number h
  refine ⟨_, exec_exitButton h, sameGatesBut_pressExit g s, pressExit_only g s, ?_⟩
  cases was : g.state with
  | locked =>
    rw [pressExit_locked was]
    have counted := gate?_self g.cfg.number (fun x => { x with exits := bumpTop x.exits }) s (fun _ => rfl) g h
    exact releaseGate_self counted
  | released =>
    rw [pressExit_released was]
    simpa [was] using releaseGate_self h
  | opened | ajar | forced | unlocked => exact pressExit_otherwise (by simp [was]) (by simp [was]) s

end Sys2Proof.Machine
end

section
/-! SUPPORT. The whole machine: a step is a command; a command is a terminal command, a frame delivered, or one with a meaning
of its own. What every command but a reset keeps, and what keeps the record store in its form. -/

namespace Sys2Proof.Machine

/-! ### A step -/

theorem step_front {s : State} {c : Instr} {rest : List Instr} (h : s.pending = c :: rest) :
    step s = exec c (s.setPending rest) := by
  simp [step, h]

theorem step_empty {s : State} (h : s.pending = []) : step s = .next (s.setNow (s.now + 1)) := by
  simp [step, h, State.idle]

/-- Settles O53. -/
theorem stepRunsTheFrontCommand : Obligations.StepRunsTheFrontCommand :=
  ⟨fun _ _ _ => step_front, fun _ => step_empty⟩

/-- A property that reads neither the waiting commands nor the time, and that every command keeps, is kept by every step. -/
theorem step_keeps {P : State → Prop} (queue : ∀ s v, P s → P (s.setPending v)) (time : ∀ s v, P s → P (s.setNow v))
    (command : ∀ c s t, exec c s = .next t → P s → P t) {s t : State} (hs : P s) (h : step s = .next t) : P t := by
  cases waiting : s.pending with
  | nil =>
    rw [step_empty waiting] at h
    cases h
    exact time s _ hs
  | cons c rest =>
    rw [step_front waiting] at h
    exact command c _ t h (queue s rest hs)

theorem exec_next (c : Instr) (s : State) : ∃ t, exec c s = .next t := by
  cases c <;> exact ⟨_, rfl⟩

/-! ### The three sorts of commands -/

/-- The terminal command whose frame a command brings (log entry 13). -/
def terminalOf : Instr → Option TermCmd
  | .checkOut a b c => some (.checkOut a b c)
  | .cancel a b c => some (.cancel a b c)
  | .extend a b c d => some (.extend a b c d)
  | .setTags a b c d => some (.setTags a b c d)
  | .readBooking a b c d => some (.readBooking a b c d)
  | .readStatements a b => some (.readStatements a b)
  | .credit a b c d => some (.credit a b c d)
  | .bar a b c => some (.bar a b c)
  | .unbar a b c => some (.unbar a b c)
  | .setMarks a b c d e => some (.setMarks a b c d e)
  | .dropHold a b c d => some (.dropHold a b c d)
  | .allocate a => some (.allocate a)
  | .callStatus a b => some (.callStatus a b)
  | .loadStatus a => some (.loadStatus a)
  | .energise a b c => some (.energise a b c)
  | .off a b c => some (.off a b c)
  | .resetOutlet a b c => some (.resetOutlet a b c)
  | .clearLeak a b => some (.clearLeak a b)
  | .postStatus a => some (.postStatus a)
  | .tagStatus a => some (.tagStatus a)
  | .cacheStatus => some .cacheStatus
  | .flushCache => some .flushCache
  | .setGateMode a b c => some (.setGateMode a b c)
  | .gateStatus a b => some (.gateStatus a b)
  | .gateAck a b c => some (.gateAck a b c)
  | .directAuthorise a b c => some (.directAuthorise a b c)
  | .cancelSale a b => some (.cancelSale a b)
  | .writeOffSale a b c => some (.writeOffSale a b c)
  | .saleStatus a b => some (.saleStatus a b)
  | .setTime a b => some (.setTime a b)
  | .dayStatus => some .dayStatus
  | .selectTariff a b => some (.selectTariff a b)
  | .linkStatus a => some (.linkStatus a)
  | .status a => some (.status a)
  | .setReplyLimit a => some (.setReplyLimit a)
  | .journalRead a => some (.journalRead a)
  | .journalAck a => some (.journalAck a)
  | .writeConfigBegin a => some (.writeConfigBegin a)
  | .writeConfigData a b => some (.writeConfigData a b)
  | .writeConfigCommit => some .writeConfigCommit
  | .restart => some .restart
  | _ => none

/-- The frame a command delivers: its channel, source, sequence and body; the blocks do not read a sequence that its kind does
not have. -/
def frameOf : Instr → Option (Channel × Nat × Num8 × FrameBody)
  | .holdRequest c n q id tag serial amount => some (c, n, q, .holdRequest id tag serial amount)
  | .holdAnswer c n q id result => some (c, n, q, .holdAnswer id result)
  | .settleRequest c n q id serial amount => some (c, n, q, .settleRequest id serial amount)
  | .settleAnswer c n q id result => some (c, n, q, .settleAnswer id result)
  | .tagQuery c n q tag => some (c, n, q, .tagQuery tag)
  | .tagAnswer c n q record departure => some (c, n, q, .tagAnswer record departure)
  | .tagRevoke c n owner tags => some (c, n, 0, .tagRevoke owner tags)
  | .berthCall c n ref body => some (c, n, 0, .berthCall ref body)
  | .berthOffer c n ref berth cost => some (c, n, 0, .berthOffer ref berth cost)
  | .berthTake c n q ref berth stay tags name => some (c, n, q, .berthTake ref berth stay tags name)
  | .takeAnswer c n q ref berth result => some (c, n, q, .takeAnswer ref berth result)
  | .berthClose c n ref winner => some (c, n, 0, .berthClose ref winner)
  | .officeRequest c n q command limit => some (c, n, q, .officeRequest command limit)
  | .officeAnswer c n q reply => some (c, n, q, .officeAnswer reply)
  | .announce c n body => some (c, n, 0, .announce (some body))
  | .timeNotice c n day second => some (c, n, 0, .timeNotice day second)
  | _ => none

/-- Neither a terminal command nor a frame delivered: a command with a meaning of its own. -/
def ownMeaning (c : Instr) : Bool := (terminalOf c).isNone && (frameOf c).isNone

theorem exec_terminalOf {c : Instr} {x : TermCmd} (h : terminalOf c = some x) (s : State) :
    exec c s = .next (terminalCommand x s) := by
  cases c with
  | _ => cases h <;> rfl

theorem exec_frameOf {c : Instr} {ch : Channel} {n : Nat} {q : Num8} {b : FrameBody} (h : frameOf c = some (ch, n, q, b))
    (s : State) : exec c s = .next (event (receive ch n (deliverFrame ch n q b)) s) := by
  cases c with
  | _ => cases h <;> rfl

/-- What holds of the terminal commands, of the frames delivered and of the other commands holds of every command. -/
theorem exec_cases {P : Instr → State → State → Prop}
    (terminal : ∀ c x s, terminalOf c = some x → P c s (terminalCommand x s))
    (frame : ∀ c ch n q b s, frameOf c = some (ch, n, q, b) → P c s (event (receive ch n (deliverFrame ch n q b)) s))
    (own : ∀ c s t, ownMeaning c = true → exec c s = .next t → P c s t) (c : Instr) (s t : State) (h : exec c s = .next t) :
    P c s t := by
  cases isTerminal : terminalOf c with
  | some x =>
    rw [exec_terminalOf isTerminal] at h
    cases h
    exact terminal c x s isTerminal
  | none =>
    cases isFrame : frameOf c with
    | some f =>
      rw [exec_frameOf isFrame] at h
      cases h
      exact frame c _ _ _ _ s isFrame
    | none => exact own c s t (by simp [ownMeaning, isTerminal, isFrame]) h

/-! ### Relations of the state before to the state after, through the wrappers of a command -/

section
variable {R : State → State → Prop} (refl : ∀ s, R s s) (trans : ∀ s t u, R s t → R t u → R s u)
include refl

theorem whenUp_rel {f : State → State} (h : ∀ s, R s (f s)) (s : State) : R s (whenUp f s) := by
  unfold whenUp
  split
  · exact h s
  · exact refl s

include trans

theorem foldl_rel {α : Type} {f : State → α → State} (h : ∀ s a, R s (f s a)) (l : List α) (s : State) :
    R s (l.foldl f s) := by
  induction l generalizing s with
  | nil => exact refl s
  | cons a l ih => exact trans _ _ _ (h s a) (ih _)

theorem times_rel {f : State → State} (h : ∀ s, R s (f s)) (n : Nat) (s : State) : R s (times f n s) := by
  induction n generalizing s with
  | zero => exact refl s
  | succ n ih => exact trans _ _ _ (h s) (ih _)

theorem receive_rel (heard : ∀ c s, R s (heardOn c s)) (clash : ∀ c s, R s (report (.stationClash c) s)) {c : Channel}
    {n : Nat} {d : State → State} (h : ∀ s, R s (d s)) (s : State) : R s (receive c n d s) := by
  refine whenUp_rel refl (fun s => ?_) s
  dsimp only
  split
  · exact trans _ _ _ (heard c s) (clash c _)
  · exact trans _ _ _ (heard c s) (h _)

end

end Sys2Proof.Machine
end

section
/-! SUPPORT. What every command but a reset keeps, and the record store's form through every step. -/

namespace Sys2Proof.Machine

/-! ### What every command but a reset keeps -/

@[simp] theorem le_reach_now (d : Nat) (s : State) : s.now ≤ (reach d s).now := le_max_left _ _

/-- The waiting commands, the configuration, the load's outcome and the store are as they were, and the time has not gone
back. -/
structure RunsOn (s t : State) : Prop where
  pending : t.pending = s.pending
  cfg : t.cfg = s.cfg
  load : t.cfl.load = s.cfl.load
  store : t.store = s.store
  time : s.now ≤ t.now

namespace RunsOn

theorem refl (s : State) : RunsOn s s := ⟨rfl, rfl, rfl, rfl, le_rfl⟩

theorem trans {s t u : State} (st : RunsOn s t) (tu : RunsOn t u) : RunsOn s u :=
  ⟨tu.pending.trans st.pending, tu.cfg.trans st.cfg, tu.load.trans st.load, tu.store.trans st.store, st.time.trans tu.time⟩

/-- A change of the state, made now or once a deadline has been reached. -/
theorem frame {s t : State}
    (h : t.pending = s.pending ∧ t.cfg = s.cfg ∧ t.cfl.load = s.cfl.load ∧ t.store = s.store ∧ s.now ≤ t.now) :
    RunsOn s t := by
  obtain ⟨pending, cfg, load, store, now⟩ := h
  exact ⟨pending, cfg, load, store, now⟩

theorem whenUp {f : State → State} (h : ∀ s, RunsOn s (f s)) (s : State) : RunsOn s (whenUp f s) := whenUp_rel refl h s

theorem event {f : State → State} {s : State} (h : RunsOn s (f s)) : RunsOn s (event f s) := h.trans (frame (by simp))

end RunsOn

theorem runsOn_dropLeftover (q : Num8) (s : State) : RunsOn s (dropLeftover q s) := by
  unfold dropLeftover
  split <;> exact .frame (by simp)

theorem runsOn_advance (t : DayTime) (s : State) : RunsOn s (advance t s) := by
  unfold advance
  dsimp only
  (repeat' split) <;> exact .frame (by simp)

theorem runsOn_handTimedOut (p : Pending) (s : State) : RunsOn s (handTimedOut p s) := by
  unfold handTimedOut
  cases p.originator <;> exact .frame (by simp)

theorem runsOn_deadlineCome (p : Pending) (s : State) : RunsOn s (deadlineCome p handTimedOut s) := by
  unfold deadlineCome
  split
  · exact .frame (by simp)
  · exact .trans (.frame (by simp)) (runsOn_handTimedOut p _)

theorem runsOn_endLoad (s : State) : RunsOn s (endLoad s) := by
  have notices (l : List (Nat × Nat × Standing × Standing)) (u : State) :
      RunsOn u (l.foldl (fun x n => notice n.1 n.2.1 n.2.2.1 n.2.2.2 x) u) :=
    foldl_rel .refl (fun _ _ _ => .trans) (fun s n => .frame (by simp)) l u
  have started : RunsOn s (s.setCfl { s.cfl with notices := [], starting := false }) := .frame (by simp)
  unfold endLoad
  dsimp only
  split
  · exact (started.trans (notices s.cfl.notices _)).trans (.frame (by simp))
  · exact started.trans (.frame (by simp))

/-- What the commands with a meaning of their own keep. -/
theorem runsOn_own (c : Instr) (s t : State) (own : ownMeaning c = true) (h : exec c s = .next t)
    (noReset : ∀ b, c ≠ .powerOnReset b) (noRestart : ∀ b, c ≠ .replySent b)
    (noWrite : ∀ b, c ≠ .storeWriteEnd b) (noTimeout : c ≠ .storeWriteTimeout) (noImage : ∀ b, c ≠ .configWriteEnd b) :
    RunsOn s t := by
  cases c with
  | powerOnReset b => exact absurd rfl (noReset b)
  | replySent b => exact absurd rfl (noRestart b)
  | storeWriteEnd b => exact absurd rfl (noWrite b)
  | storeWriteTimeout => exact absurd rfl noTimeout
  | configWriteEnd b => exact absurd rfl (noImage b)
  | frameGapTimeout | configWriteStart | storeWriteStart | presentation _ _ | exitButton _ | doorSense _ _
  | releaseTimer _ | heldOpenTimer _ | faultExitReleaseExpiry _ =>
    cases h
    (repeat' split) <;> exact .frame (by simp)
  | storeRetryTimer =>
    cases h
    dsimp only
    (repeat' split) <;> exact .frame (by simp)
  | pollRoundTimer | silenceTimer _ =>
    cases h
    refine .whenUp (fun s => ?_) s
    dsimp only
    (repeat' split) <;> exact .frame (by simp)
  | tentativeExpiry _ _ | postAnswer _ _ | postMiss | restTimer _ | tapRunTimer _ | pumpPollTimer _
  | pumpAnswer _ _ | pumpMiss _ | pumpRefusedDisplayExpiry _ | readyTimer _ | saleRetryTimer
  | transmitStart _ | transmitComplete _ | arbitrationLost _ | transmitFault _ | mediumBusyTimeout _ =>
    cases h
    refine .whenUp (fun s => ?_) s
    (repeat' split) <;> exact .frame (by simp)
  | announceTimer =>
    cases h
    refine .event (.whenUp (fun s => ?_) s)
    dsimp only
    (repeat' split) <;> exact .frame (by simp)
  | quaylineFrameDropped _ _ =>
    cases h
    exact .event (.whenUp (fun s => .frame (by simp)) s)
  | clockSecond =>
    cases h
    refine .event (.whenUp (fun s => ?_) s)
    split
    · exact .refl s
    · exact runsOn_advance _ s
  | responseTimeout q =>
    cases h
    refine .event (.whenUp (fun s => ?_) s)
    split
    · exact .refl s
    · split
      · exact .refl s
      · exact .trans (.frame (by simp)) (runsOn_deadlineCome _ _)
  | windowExpiry _ | stalenessTimer _ =>
    cases h
    refine .event (.whenUp (fun s => ?_) s)
    (repeat' split) <;> exact .frame (by simp)
  | terminalByte b =>
    cases h
    exact .event (.frame (by simp))
  | holdMinuteTimer =>
    cases h
    exact .whenUp (fun s => .trans (.frame (by simp))
      (foldl_rel RunsOn.refl (fun _ _ _ => .trans) (fun s p => .event (.frame (by simp))) _ _)) s
  | computationTimer =>
    cases h
    exact .whenUp (fun s => .event (.frame (by simp))) s
  | raiseTimer =>
    cases h
    refine .whenUp (fun s => .event ?_) s
    split <;> exact .frame (by simp)
  | refusedLampExpiry m =>
    cases h
    refine .whenUp (fun s => ?_) s
    cases m with
    | outlet n | tap n =>
      dsimp only
      split <;> exact .frame (by simp)
  | attemptDrop q =>
    cases h
    refine .whenUp (fun s => ?_) s
    split
    · exact .frame (by simp)
    · exact runsOn_dropLeftover q s
  | loadEnd =>
    cases h
    split
    · exact .event (runsOn_endLoad s)
    · exact .refl s
  | _ => cases own

theorem runsOn_receive {c : Channel} {n : Nat} {d : State → State} (h : ∀ s, RunsOn s (d s)) (s : State) :
    RunsOn s (receive c n d s) :=
  receive_rel .refl (fun _ _ _ => .trans) (fun _ _ => .frame (by simp)) (fun _ _ => .frame (by simp)) h s

/-- What every command keeps but a reset and the writes of the record store. -/
theorem exec_runsOn (c : Instr) (s t : State) (h : exec c s = .next t) (noReset : ∀ b, c ≠ .powerOnReset b)
    (noRestart : ∀ b, c ≠ .replySent b) (noWrite : ∀ b, c ≠ .storeWriteEnd b) (noTimeout : c ≠ .storeWriteTimeout)
    (noImage : ∀ b, c ≠ .configWriteEnd b) : RunsOn s t := by
  refine exec_cases (P := fun c s t => (∀ b, c ≠ .powerOnReset b) → (∀ b, c ≠ .replySent b) → (∀ b, c ≠ .storeWriteEnd b) →
    c ≠ .storeWriteTimeout → (∀ b, c ≠ .configWriteEnd b) → RunsOn s t) ?_ ?_ runsOn_own c s t h noReset noRestart noWrite
    noTimeout noImage
  · intro _ x s _ _ _ _ _ _
    exact .frame (by simp)
  · intro _ ch n q b s _ _ _ _ _ _
    exact .event (runsOn_receive (fun _ => .frame (by simp)) s)

end Sys2Proof.Machine
end

section
/-! SUPPORT. A load (R196) taken apart once: a relation of the state before to the state after that the small changes of a load
keep is kept by the whole of it. -/

namespace Sys2Proof.Machine

/-- A relation that the small changes of a load keep. -/
structure LoadClosed (R : State → State → Prop) : Prop where
  refl : ∀ s, R s s
  trans : ∀ s t u, R s t → R t u → R s u
  report : ∀ r s, R s (report r s)
  bst : ∀ s v, v.fault = s.bst.fault → (s.bst.inFlight = none → v.inFlight = none) → R s (s.setBst v)
  pbc : ∀ s v, R s (s.setPbc v)
  acu : ∀ s v, R s (s.setAcu { s.acu with cache := v })
  fsc : ∀ s v, R s (s.setFsc v)
  notices : ∀ s v, R s (s.setCfl { s.cfl with notices := v })
  waits : ∀ n s, R s (outletWaits n s)
  suspended : ∀ n s, R s (outletSuspended n s)
  settle : ∀ s, R s (settlePosts s)
  gates : ∀ s, R s (buildGates s)

namespace LoadClosed
variable {R : State → State → Prop} (k : LoadClosed R)
include k

theorem foldl {α : Type} {f : State → α → State} (h : ∀ s a, R s (f s a)) (l : List α) (s : State) : R s (l.foldl f s) :=
  foldl_rel k.refl k.trans h l s

/-! ### BST -/

theorem queueRecord (id : RecordId) (s : State) : R s (queueRecord id s) := by
  unfold Machine.queueRecord
  split
  · next w flight =>
    split
    · exact k.bst _ _ rfl fun none => nomatch flight.symm.trans none
    · split
      · exact k.refl s
      · exact k.bst _ _ (by rfl) (by exact fun none => none)
  · split
    · exact k.refl s
    · exact k.bst _ _ (by rfl) (by exact fun none => none)

theorem changeBooking (n serial : Nat) (f : Booking → Booking) (s : State) : R s (changeBooking n serial f s) := by
  unfold Machine.changeBooking
  split
  · unfold queueSlot
    split
    · exact k.trans _ _ _ (k.bst s _ (by rfl) (by exact fun none => none)) (k.queueRecord _ _)
    · exact k.bst s _ (by rfl) (by exact fun none => none)
  · exact k.refl s

theorem loseRecord (id : RecordId) (b : Option Nat) (s : State) : R s (loseRecord id b s) :=
  k.trans _ _ _ (k.report _ s) (k.queueRecord _ _)

theorem loadStatement (n : Nat) (s : State) : R s (loadStatement n s) := by
  unfold Machine.loadStatement
  dsimp only
  split
  · split
    · exact k.bst s _ (by rfl) (by exact fun none => none)
    · exact k.refl s
    · exact k.loseRecord _ _ s
  · exact k.loseRecord _ _ s

theorem loadStation (s : State) : R s (loadStation s).1 := by
  unfold Machine.loadStation
  split
  · exact k.bst s _ (by rfl) (by exact fun none => none)
  · exact k.report _ s

theorem enterBooking (n berth : Nat) (b : Booking) (s : State) : R s (enterBooking n berth b s) := by
  have clashes (l : List Tag) : R s (l.foldl (fun x t => Machine.report (.tagClash t none none) x) s) :=
    k.foldl (fun x t => k.report _ x) l s
  unfold Machine.enterBooking
  dsimp only
  split
  · exact k.trans _ _ _ (clashes _) (k.loseRecord _ _ _)
  · split
    · exact k.trans _ _ _ (clashes _) (k.trans _ _ _ (k.report _ _) (k.queueRecord _ _))
    · exact k.trans _ _ _ (clashes _) (k.bst _ _ (by rfl) (by exact fun none => none))

theorem loadBooking (n : Nat) (s : State) : R s (loadBooking n s) := by
  unfold Machine.loadBooking
  dsimp only
  split
  · split
    · exact k.refl s
    · exact k.loseRecord _ _ s
  · split
    · exact k.loseRecord _ _ s
    · split
      · exact k.loseRecord _ _ s
      · exact k.enterBooking _ _ _ s
  · exact k.loseRecord _ _ s

theorem keepStatements (s : State) : R s (keepStatements s) := by
  unfold Machine.keepStatements
  split
  · exact k.refl s
  · exact k.bst s _ (by rfl) (by exact fun none => none)

theorem rebuildStation (s : State) : R s (rebuildStation s) := k.trans _ _ _ (k.bst s _ (by rfl) (by exact fun none => none)) (k.queueRecord _ _)

theorem loadBookings (s : State) (p : Prop) [Decidable p] :
    R s (if p then (List.range 256).foldl (fun x i => Machine.loadBooking (i + 1) x) s else s) := by
  split
  · exact k.foldl (fun x i => k.loadBooking (i + 1) x) _ s
  · exact k.refl s

theorem loadRecords (s : State) : R s (loadRecords s) := by
  have read : R s (Machine.loadStation ((List.range 8).foldl (fun x i => Machine.loadStatement (i + 1) x) s)).1 :=
    k.trans _ _ _ (k.foldl (fun x i => k.loadStatement (i + 1) x) _ s) (k.loadStation _)
  have filled := k.trans _ _ _ read (k.loadBookings _ (s.cfg.role = .pontoon))
  unfold Machine.loadRecords
  refine k.trans _ _ _ ?_ (k.keepStatements _)
  split
  · exact filled
  · exact k.trans _ _ _ filled (k.rebuildStation _)

/-! ### PRS -/

theorem reloadPurse (n : Nat) (b : Booking) (s : State) : R s (reloadPurse n b s) := by
  have expired (l : List Hold) (u : State) : R u (reportExpired n l u) := k.foldl (fun x h => k.report _ x) l u
  have aged : ∀ t, R s t → ∀ serial, R s (match t.booking? n serial with
      | none => t
      | some q =>
        if q.purse.standing == q.purse.standingNow then t
        else
          let s2 := Machine.changeBooking n serial (Booking.onPurse fun p => { p with standing := q.purse.standingNow }) t
          s2.setCfl { s2.cfl with notices := s2.cfl.notices ++ [(n, serial, q.purse.standing, q.purse.standingNow)] }) := by
    intro t st serial
    split
    · exact st
    · split
      · exact st
      · exact k.trans _ _ _ st (k.trans _ _ _ (k.changeBooking _ _ _ _) (k.notices _ _))
  refine aged _ ?_ _
  split
  · exact k.refl s
  · exact k.trans _ _ _ (k.changeBooking _ _ _ s) (expired _ _)

theorem reloadPurses (s : State) : R s (reloadPurses s) := by
  unfold Machine.reloadPurses
  exact k.foldl (fun x (p : Nat × Booking) => k.reloadPurse p.1 p.2 x) _ s

/-! ### PBC -/

theorem startOutlet (o : Outlet) (s : State) : R s (startOutlet o s) := by
  unfold Machine.startOutlet
  split
  · exact k.refl s
  · split
    · exact k.refl s
    · split
      · exact k.suspended _ s
      · exact k.waits _ s

theorem clearStrayWanted (b : Berth) (s : State) : R s (clearStrayWanted b s) :=
  k.foldl (fun x _ => k.changeBooking _ _ _ x) _ s

theorem startTap (t : Tap) (s : State) : R s (startTap t s) := by
  unfold Machine.startTap
  split
  · exact k.pbc s _
  · exact k.refl s

theorem buildPosts (s : State) : R s (buildPosts s) := by
  have outlets (l : List Outlet) (u : State) : R u (l.foldl (fun x o => Machine.startOutlet o x) u) :=
    k.foldl (fun x o => k.startOutlet o x) l u
  have strays (l : List Berth) (u : State) : R u (l.foldl (fun x b => Machine.clearStrayWanted b x) u) :=
    k.foldl (fun x b => k.clearStrayWanted b x) l u
  have taps (l : List Tap) (u : State) : R u (l.foldl (fun x t => Machine.startTap t x) u) :=
    k.foldl (fun x t => k.startTap t x) l u
  unfold Machine.buildPosts
  exact k.trans _ _ _ (k.trans _ _ _ (k.trans _ _ _ (k.trans _ _ _ (k.pbc s _) (outlets _ _)) (strays _ _)) (taps _ _))
    (k.settle _)

/-! ### ACU and FSC -/

theorem pinTag (p : PinCfg) (s : State) : R s (pinTag p s) := by
  unfold Machine.pinTag
  dsimp only
  split
  · exact k.report _ s
  · split
    · exact k.report _ s
    · exact k.acu s _

theorem loadListSlot (n : Nat) (s : State) : R s (loadListSlot n s) := by
  unfold Machine.loadListSlot
  split
  · exact k.fsc s _
  · exact k.loseRecord _ _ s
  · split
    · exact k.loseRecord _ _ s
    · exact k.refl s

theorem loadPumpSlot (n : Nat) (s : State) : R s (loadPumpSlot n s) := by
  have changed (f : Pump → Pump) (u : State) : R u (changePump n f u) := k.fsc u _
  have lost : R s (if s.saleLostAt n then Machine.loseRecord (.sale n) none s else s) := by
    split
    · exact k.loseRecord _ _ s
    · exact k.refl s
  have numbered (f : Pump → Pump) := k.trans _ _ _ lost (changed f _)
  unfold Machine.loadPumpSlot
  dsimp only
  split
  · exact numbered _
  · split
    · exact k.trans _ _ _ (numbered _) (changed _ _)
    · exact k.trans _ _ _ (numbered _) (changed _ _)
    · exact k.trans _ _ _ (numbered _) (k.trans _ _ _ (changed _ _) (k.trans _ _ _ (k.queueRecord _ _) (k.report _ _)))
    all_goals
      split
      · exact k.trans _ _ _ (numbered _) (changed _ _)
      · exact k.trans _ _ _ (numbered _) (k.trans _ _ _ (changed _ _) (k.queueRecord _ _))

theorem buildPumps (s : State) : R s (buildPumps s) := by
  unfold Machine.buildPumps
  split
  · have set (v : Fsc) := k.fsc s v
    have listed (v : Fsc) := k.trans _ _ _ (set v) (k.foldl (fun x i => k.loadListSlot (i + 5) x) (List.range 16) _)
    have timed (v w : Fsc) := k.trans _ _ _ (listed v) (k.fsc _ w)
    have pumps (v w : Fsc) (l : List Nat) := k.trans _ _ _ (timed v w) (k.foldl (fun x n => k.loadPumpSlot n x) l _)
    refine k.trans _ _ _ (pumps _ _ _) (k.foldl (fun x n => ?_) _ _)
    split
    · exact k.loseRecord _ _ x
    · exact k.refl x
  · exact k.refl s

/-! ### The load behind CFL's handing out of the values -/

theorem load (s : State) :
    R s (let s1 := Machine.buildPosts (Machine.reloadPurses (Machine.loadRecords s))
      Machine.buildPumps (Machine.buildGates (s1.cfg.pins.foldl (fun x p => Machine.pinTag p x) s1))) := by
  have posts := k.trans _ _ _ (k.trans _ _ _ (k.loadRecords s) (k.reloadPurses _)) (k.buildPosts _)
  exact k.trans _ _ _ (k.trans _ _ _ posts (k.foldl (fun x p => k.pinTag p x) _ _))
    (k.trans _ _ _ (k.gates _) (k.buildPumps _))

end LoadClosed

end Sys2Proof.Machine
end

section
/-! SUPPORT. The waiting commands and the record store through a reset and through the writes of the store: the two statements
about every command and about the store's form. -/

namespace Sys2Proof.Machine

/-! ### A load leaves the waiting commands and the store -/

/-- The waiting commands and the store are as they were. -/
def StoreStays (s t : State) : Prop := t.pending = s.pending ∧ t.store = s.store

theorem storeStays_trans {s t u : State} (st : StoreStays s t) (tu : StoreStays t u) : StoreStays s u :=
  ⟨tu.1.trans st.1, tu.2.trans st.2⟩

theorem storeStays_buildGates (s : State) : StoreStays s (buildGates s) := by
  have ajar (l : List Gate) (u : State) : StoreStays u (l.foldl (fun x g => raiseAjar g x) u) :=
    foldl_rel (R := StoreStays) (fun _ => ⟨rfl, rfl⟩) (fun _ _ _ => storeStays_trans) (fun s g => by simp [StoreStays]) l u
  unfold buildGates
  exact storeStays_trans ⟨rfl, rfl⟩ (ajar _ _)

theorem storeStays_load : LoadClosed StoreStays where
  refl _ := ⟨rfl, rfl⟩
  trans _ _ _ := storeStays_trans
  report _ _ := by simp [StoreStays]
  bst _ _ _ _ := ⟨rfl, rfl⟩
  pbc _ _ := ⟨rfl, rfl⟩
  acu _ _ := ⟨rfl, rfl⟩
  fsc _ _ := ⟨rfl, rfl⟩
  notices _ _ := ⟨rfl, rfl⟩
  waits _ _ := by simp [StoreStays]
  suspended _ _ := by simp [StoreStays]
  settle _ := by simp [StoreStays]
  gates := storeStays_buildGates

@[simp] theorem reportClamp_frame (c : Bool) (o v : Nat) (s : State) :
    (reportClamp c o v s).pending = s.pending ∧
    (reportClamp c o v s).now = s.now ∧
    (reportClamp c o v s).free = s.free ∧
    (reportClamp c o v s).cfg = s.cfg ∧
    (reportClamp c o v s).door1 = s.door1 ∧
    (reportClamp c o v s).door2 = s.door2 ∧
    (reportClamp c o v s).minuteAt = s.minuteAt ∧
    (reportClamp c o v s).store = s.store ∧
    (reportClamp c o v s).bst = s.bst ∧
    (reportClamp c o v s).alc = s.alc ∧
    (reportClamp c o v s).lsu = s.lsu ∧
    (reportClamp c o v s).pbc = s.pbc ∧
    (reportClamp c o v s).acu = s.acu ∧
    (reportClamp c o v s).gtc = s.gtc ∧
    (reportClamp c o v s).fsc = s.fsc ∧
    (reportClamp c o v s).dck = s.dck ∧
    (reportClamp c o v s).qlc = s.qlc ∧
    (reportClamp c o v s).tpc = s.tpc ∧
    (reportClamp c o v s).cfl = s.cfl := by
  unfold reportClamp
  split <;> simp

theorem storeStays_handValues (body : List Byte) (i : Image) (s : State) : StoreStays s (handValues body i s) := by
  simp [StoreStays, handValues]

theorem storeStays_loadImage (body : List Byte) (i : Image) (s : State) : StoreStays s (loadImage body i s) :=
  storeStays_trans (storeStays_handValues body i s) (storeStays_load.load _)

/-! ### A reset -/

@[simp] theorem cutWrites_pending (s : State) : (cutWrites s).pending = s.pending := by
  unfold cutWrites
  dsimp only
  (repeat' split) <;> simp

theorem cutWrites_wf {s : State} (h : s.store.wf) : (cutWrites s).store.wf := by
  have image (t : State) (ht : t.store.wf) : (breakImage t).store.wf := breakRegion_wf _ _ _ ht
  unfold cutWrites
  dsimp only
  split
  · split
    · exact image _ (breakSlot_wf _ _ h)
    · exact breakSlot_wf _ _ h
  · split
    · exact image _ h
    · exact h

/-- A reset leaves the waiting commands, and of the store what the writes it cuts off leave. -/
theorem resetWith_stays (cause : ResetCause) (ready : Bool) (s : State) : StoreStays (cutWrites s) (resetWith cause ready s) := by
  have afresh (u : State) : StoreStays u (cleared cause u) := ⟨rfl, rfl⟩
  unfold resetWith
  dsimp only
  split
  · split
    · exact storeStays_trans (afresh _) (storeStays_loadImage _ _ _)
    · exact storeStays_trans (afresh _) ⟨rfl, rfl⟩
  · exact storeStays_trans (afresh _) ⟨rfl, rfl⟩

theorem resetWith_pending (cause : ResetCause) (ready : Bool) (s : State) : (resetWith cause ready s).pending = s.pending :=
  (resetWith_stays cause ready s).1.trans (cutWrites_pending s)

theorem resetWith_wf (cause : ResetCause) (ready : Bool) {s : State} (h : s.store.wf) :
    (resetWith cause ready s).store.wf := by
  rw [(resetWith_stays cause ready s).2]
  exact cutWrites_wf h

/-! ### REPLY_SENT -/

/-- The end of a reply resets the station, or lets TPC wait again, or finds no reply. -/
theorem replySent_cases {ready : Bool} {s t : State} (h : exec (.replySent ready) s = .next t) :
    t = resetWith .command ready s ∨ t = s.setTpc { s.tpc with state := .waiting, reply := none } ∨ t = s := by
  cases h
  split
  · split
    · exact .inl rfl
    · exact .inr (.inl rfl)
  · exact .inr (.inr rfl)

/-! ### The writes of the record store -/

/-- What a write of the record store keeps: all that a command keeps but the store, whose form it keeps. -/
structure Writes (s t : State) : Prop where
  pending : t.pending = s.pending
  cfg : t.cfg = s.cfg
  load : t.cfl.load = s.cfl.load
  time : s.now ≤ t.now
  wf : s.store.wf → t.store.wf

theorem writes_of_runsOn {s t : State} (h : RunsOn s t) : Writes s t :=
  ⟨h.pending, h.cfg, h.load, h.time, fun wf => h.store ▸ wf⟩

theorem writes_writeDone (w : WriteInFlight) (s : State) : Writes s (writeDone w s) := by
  refine ⟨by simp, by simp, by simp, by simp, fun wf => ?_⟩
  unfold writeDone
  dsimp only
  split <;> simpa using storeRecord_wf _ _ _ wf

theorem writes_writeFailed (w : WriteInFlight) (s : State) : Writes s (writeFailed w s) := by
  refine ⟨by simp, by simp, by simp, by simp, fun wf => ?_⟩
  unfold writeFailed
  dsimp only
  split <;> simpa using breakSlot_wf w.id s wf

theorem writes_imageDone (s : State) : Writes s (imageDone s) :=
  ⟨by simp, by simp, by simp [imageDone], by simp, fun wf => by simpa [imageDone] using writeRegion_wf _ _ wf⟩

theorem writes_imageFailed (s : State) : Writes s (imageFailed s) :=
  ⟨by simp, by simp, by simp [imageFailed], by simp,
    fun wf => by simpa [imageFailed, breakImage] using breakRegion_wf s.free s.cfl.staged.length s.store wf⟩

theorem exec_storeWriteEnd {b : Bool} {s t : State} (h : exec (.storeWriteEnd b) s = .next t) : Writes s t := by
  cases h
  split
  · exact writes_of_runsOn (.refl s)
  · split
    · exact writes_writeDone _ s
    · exact writes_writeFailed _ s

theorem exec_storeWriteTimeout {s t : State} (h : exec .storeWriteTimeout s = .next t) : Writes s t := by
  cases h
  split
  · exact writes_of_runsOn (.refl s)
  · next w _ =>
    obtain ⟨_, _, _, time, wf⟩ := writes_writeFailed w (reach w.deadline s)
    exact ⟨by simp, by simp, by simp, (le_reach_now _ s).trans time,
      by simpa using wf⟩

theorem exec_configWriteEnd {b : Bool} {s t : State} (h : exec (.configWriteEnd b) s = .next t) : Writes s t := by
  cases h
  split
  · split
    · exact writes_imageDone s
    · exact writes_imageFailed s
  · exact writes_of_runsOn (.refl s)

/-- What every command keeps but a reset. -/
theorem exec_writes (c : Instr) (s t : State) (h : exec c s = .next t) (noReset : ∀ b, c ≠ .powerOnReset b)
    (noRestart : ∀ b, c ≠ .replySent b) : Writes s t := by
  by_cases ends : ∃ b, c = .storeWriteEnd b
  · obtain ⟨b, rfl⟩ := ends
    exact exec_storeWriteEnd h
  by_cases late : c = .storeWriteTimeout
  · subst late
    exact exec_storeWriteTimeout h
  by_cases image : ∃ b, c = .configWriteEnd b
  · obtain ⟨b, rfl⟩ := image
    exact exec_configWriteEnd h
  exact writes_of_runsOn (exec_runsOn c s t h noReset noRestart (fun b e => ends ⟨b, e⟩) late fun b e => image ⟨b, e⟩)

/-! ### The statements -/

theorem exec_pending (c : Instr) (s t : State) (h : exec c s = .next t) : t.pending = s.pending := by
  by_cases reset : ∃ b, c = .powerOnReset b
  · obtain ⟨b, rfl⟩ := reset
    cases h
    exact resetWith_pending _ _ s
  by_cases restart : ∃ b, c = .replySent b
  · obtain ⟨b, rfl⟩ := restart
    obtain rfl | rfl | rfl := replySent_cases h
    · exact resetWith_pending _ _ s
    · rfl
    · rfl
  exact (exec_writes c s t h (fun b e => reset ⟨b, e⟩) fun b e => restart ⟨b, e⟩).pending

/-- Settles O54, by what each sort of command keeps. -/
theorem everyCommandHasANextState : Obligations.EveryCommandHasANextState := by
  intro c s
  obtain ⟨t, h⟩ := exec_next c s
  refine ⟨t, h, exec_pending c s t h, fun noReset noRestart => ?_⟩
  obtain ⟨_, cfg, load, time, _⟩ := exec_writes c s t h noReset noRestart
  exact ⟨cfg, load, time, fun noWrite noTimeout noImage =>
    (exec_runsOn c s t h noReset noRestart noWrite noTimeout noImage).store⟩

theorem exec_wf (c : Instr) (s t : State) (h : exec c s = .next t) (wf : s.store.wf) : t.store.wf := by
  by_cases reset : ∃ b, c = .powerOnReset b
  · obtain ⟨b, rfl⟩ := reset
    cases h
    exact resetWith_wf _ _ wf
  by_cases restart : ∃ b, c = .replySent b
  · obtain ⟨b, rfl⟩ := restart
    obtain rfl | rfl | rfl := replySent_cases h
    · exact resetWith_wf _ _ wf
    · exact wf
    · exact wf
  exact (exec_writes c s t h (fun b e => reset ⟨b, e⟩) fun b e => restart ⟨b, e⟩).wf wf

/-- Settles O56: every command keeps the form, and so does a millisecond that passes. -/
theorem storeKeepsItsForm : Obligations.StoreKeepsItsForm := fun _ _ wf h =>
  step_keeps (P := fun s => s.store.wf) (fun _ _ wf => wf) (fun _ _ wf => wf) exec_wf wf h

end Sys2Proof.Machine
end

section
/-! SUPPORT. What the operations keep of the buffers' sizes (R47, R175, R178, R192), of the attention line (R195) and of the gates'
form (R128): one relation for the three, and one lemma per operation, in the order of the model. -/

namespace Sys2Proof.Machine

/-! ### The form of one gate -/

/-- What one gate record keeps (R128, R132, R136 to R138). -/
abbrev Gate.ok (g : Gate) : Prop :=
  (g.strike = .released ↔ g.state = .released ∨ g.state = .unlocked) ∧ (g.releaseAt.isSome = true ↔ g.state = .released) ∧
    (g.heldOpenAt.isSome = true ↔ g.state = .opened) ∧ (g.mode = .opened ↔ g.state = .unlocked)

theorem gatesOk_changeGate {n : Nat} {f : Gate → Gate} {s : State} (cfg : ∀ g, (f g).cfg = g.cfg)
    (ok : ∀ g, s.gate? n = some g → g.ok → (f g).ok) (h : s.gatesOk) : (changeGate n f s).gatesOk := by
  intro m x hx
  by_cases hm : m = n
  · subst hm
    cases hg : s.gate? m with
    | none => simp [gate?_changeGate _ _ f s cfg, hg] at hx
    | some g =>
      rw [gate?_self m f s cfg g hg] at hx
      cases hx
      exact ok g hg (h m g hg)
  · rw [gate?_other n m f s cfg hm] at hx
    exact h m x hx

theorem gatesOk_same {s t : State} (gtc : t.gtc.gates = s.gtc.gates) (h : s.gatesOk) : t.gatesOk := by
  intro n g hg
  exact h n g (by simpa [State.gate?, gtc] using hg)

/-! ### The journal's size -/

theorem write_length (time : Option DayTime) (r : Report) (e : Evj) (h : e.entries.length ≤ 256) :
    (e.write time r).entries.length ≤ 256 := by
  unfold Evj.write
  dsimp only
  split
  · simp
    omega
  · cases entries : e.entries with
    | nil => simp
    | cons x rest =>
      rw [entries] at h
      dsimp only
      split <;> simpa using h

/-! ### The relation -/

/-- The buffers stay within their sizes, the attention line as it is asked for, and the gates in their form. -/
structure Steady (s t : State) : Prop where
  bounded : s.Bounded → t.Bounded
  line : s.lineIsDue → t.lineIsDue
  gates : s.gatesOk → t.gatesOk

/-- Neither the journal, nor the gates, nor what the attention line asks of CFL has changed, and no buffer has grown. -/
def Quiet (s t : State) : Prop :=
  t.evj = s.evj ∧ t.gtc = s.gtc ∧ t.cfl.starting = s.cfl.starting ∧ t.cfl.load = s.cfl.load ∧
    t.qlc.queue.length ≤ s.qlc.queue.length ∧ t.qlc.requests.length ≤ s.qlc.requests.length ∧
    t.alc.calls.length ≤ s.alc.calls.length

namespace Steady

theorem refl (s : State) : Steady s s := ⟨id, id, id⟩

theorem trans {s t u : State} (st : Steady s t) (tu : Steady t u) : Steady s u :=
  ⟨tu.bounded ∘ st.bounded, tu.line ∘ st.line, tu.gates ∘ st.gates⟩

theorem of_quiet {s t : State} (h : Quiet s t) : Steady s t := by
  obtain ⟨evj, gtc, starting, load, queue, requests, calls⟩ := h
  refine ⟨fun b => ⟨evj ▸ b.journal, queue.trans b.queue, requests.trans b.requests, calls.trans b.calls⟩, fun due => ?_,
    gatesOk_same (by rw [gtc])⟩
  unfold State.lineIsDue at *
  rw [evj, gtc, starting, load]
  exact due

/-- A quiet change at the end. -/
theorem quiet {s t u : State} (h : Steady s t) (q : Quiet t u) : Steady s u := h.trans (of_quiet q)

/-- EVJ has looked at the line again, so it is as it is asked for. -/
theorem looked {s t : State} (bounded : s.Bounded → t.Bounded) (gates : s.gatesOk → t.gatesOk) : Steady s (lookAgain t) := by
  refine ⟨fun b => ?_, fun _ => lookAgain_lineIsDue t, fun g => gatesOk_same (by simp) (gates g)⟩
  obtain ⟨journal, queue, requests, calls⟩ := bounded b
  exact ⟨journal, by simpa using queue, by simpa using requests, by simpa using calls⟩

/-- An entry is written, and EVJ has looked at the line again. -/
theorem reported {s t : State} (bounded : s.Bounded → t.Bounded) (gates : s.gatesOk → t.gatesOk) (r : Report) :
    Steady s (Machine.report r t) := by
  refine looked (fun b => ?_) gates
  obtain ⟨journal, queue, requests, calls⟩ := bounded b
  exact ⟨write_length _ _ _ journal, queue, requests, calls⟩

theorem report {s t : State} (h : Steady s t) (r : Report) : Steady s (Machine.report r t) := reported h.bounded h.gates r

theorem ite {s t u : State} {p : Prop} [Decidable p] (yes : Steady s t) (no : Steady s u) : Steady s (if p then t else u) := by
  split
  · exact yes
  · exact no

theorem foldl {α : Type} {f : State → α → State} (h : ∀ s a, Steady s (f s a)) (l : List α) (s : State) :
    Steady s (l.foldl f s) := foldl_rel refl (fun _ _ _ => trans) h l s

theorem times {f : State → State} (h : ∀ s, Steady s (f s)) (n : Nat) (s : State) : Steady s (times f n s) :=
  times_rel refl (fun _ _ _ => trans) h n s

theorem whenUp {f : State → State} (h : ∀ s, Steady s (f s)) (s : State) : Steady s (whenUp f s) := whenUp_rel refl h s

end Steady

theorem steady_report (r : Report) (s : State) : Steady s (report r s) := (Steady.refl s).report r

/-! ### Updates that nothing of the three reads -/

theorem steady_setNow (v : Nat) (s : State) : Steady s (s.setNow v) := .of_quiet (by simp [Quiet])
theorem steady_setPending (v : List Instr) (s : State) : Steady s (s.setPending v) := .of_quiet (by simp [Quiet])
theorem steady_setBst (v : Bst) (s : State) : Steady s (s.setBst v) := .of_quiet (by simp [Quiet])
theorem steady_setLsu (v : Lsu) (s : State) : Steady s (s.setLsu v) := .of_quiet (by simp [Quiet])
theorem steady_setPbc (v : Pbc) (s : State) : Steady s (s.setPbc v) := .of_quiet (by simp [Quiet])
theorem steady_setAcu (v : Acu) (s : State) : Steady s (s.setAcu v) := .of_quiet (by simp [Quiet])
theorem steady_setFsc (v : Fsc) (s : State) : Steady s (s.setFsc v) := .of_quiet (by simp [Quiet])
theorem steady_setDck (v : Dck) (s : State) : Steady s (s.setDck v) := .of_quiet (by simp [Quiet])
theorem steady_setTpc (v : Tpc) (s : State) : Steady s (s.setTpc v) := .of_quiet (by simp [Quiet])
theorem steady_reach (d : Nat) (s : State) : Steady s (reach d s) := .of_quiet (by simp [Quiet])
theorem steady_queueRecord (id : RecordId) (s : State) : Steady s (queueRecord id s) := .of_quiet (by simp [Quiet])

theorem steady_changeBooking (n k : Nat) (f : Booking → Booking) (s : State) : Steady s (changeBooking n k f s) :=
  .of_quiet (by simp [Quiet])

/-! ### QLC -/

theorem steady_onErrors (f : ErrorSummary → ErrorSummary) (s : State) : Steady s (onErrors f s) :=
  .of_quiet (by simp [Quiet])

theorem steady_onLine (c : Channel) (f : Line → Line) (s : State) : Steady s (onLine c f s) := .of_quiet (by simp [Quiet])

theorem steady_enqueue (f : Frame) (a b : Bool) (s : State) : Steady s (enqueue f a b s).1 := by
  by_cases room : s.qlc.queue.length < 16
  · obtain ⟨queue, _, requests, _⟩ := enqueue_room f a b s room
    refine ⟨fun h => ⟨by simpa using h.journal, ?_, by rw [requests]; exact h.requests, by simpa using h.calls⟩,
      lineIsDue_same (by simp) (by simp) (by simp), gatesOk_same (by simp)⟩
    rw [queue, List.length_append]
    exact room
  · rw [enqueue_full f a b s room]
    exact steady_onErrors _ s

theorem steady_enqueueOn (c : Channel) (f : Frame) (s : State) : Steady s (enqueueOn c f s).1 := steady_enqueue f _ _ s

theorem steady_broadcast (b : FrameBody) (s : State) : Steady s (broadcast b s).1 := steady_enqueue _ _ _ s

theorem steady_sendAnswer (c : Channel) (n : Nat) (q : Num8) (b : FrameBody) (s : State) : Steady s (sendAnswer c n q b s) :=
  steady_enqueueOn _ _ s

@[simp] theorem adjust_lengths (c : Channel) (p : Entry → Bool) (s : State) :
    (adjust c p s).qlc.queue.length = s.qlc.queue.length ∧ (adjust c p s).qlc.requests.length = s.qlc.requests.length := by
  unfold adjust
  split <;> simp

theorem steady_adjust (c : Channel) (p : Entry → Bool) (s : State) : Steady s (adjust c p s) := .of_quiet (by simp [Quiet])

theorem steady_channelDown (c : Channel) (d : DownCause) (s : State) : Steady s (channelDown c d s) := by
  unfold channelDown
  split
  · exact ((((steady_onLine _ _ s).trans (steady_onErrors _ _)).report _).trans (steady_adjust _ _ _))
  · exact .refl s

theorem steady_heardOn (c : Channel) (s : State) : Steady s (heardOn c s) := by
  have up (f : Line → Line) : Steady s (if (s.qlc.line c).state == .down then report (.channelUp c) (onLine c f s) else
      onLine c f s) := .ite ((steady_onLine c f s).report _) (steady_onLine c f s)
  unfold heardOn
  exact .ite ((up _).trans (steady_channelDown _ _ _)) (up _)

theorem steady_receive {c : Channel} {n : Nat} {d : State → State} (h : ∀ s, Steady s (d s)) (s : State) :
    Steady s (receive c n d s) :=
  receive_rel .refl (fun _ _ _ => .trans) steady_heardOn (fun _ s => steady_report _ s) h s

theorem steady_ask (n : Nat) (b : FrameBody) (o : Originator) (s : State) : Steady s (ask n b o s).1 := by
  by_cases full : 8 ≤ s.qlc.requests.length
  · rw [ask, if_pos full]
    exact .refl s
  · rw [ask, if_neg full]
    dsimp only
    split
    · exact steady_enqueueOn _ _ s
    · next taken =>
      have joined := steady_enqueueOn (s.qlc.prefer .a) ⟨n, freeSequence (s.qlc.requests.map Pending.sequence) s.qlc.sequence 9, b⟩ s
      refine ⟨fun h => ?_, fun h => lineIsDue_same rfl rfl rfl (joined.line h), fun h => gatesOk_same rfl (joined.gates h)⟩
      obtain ⟨journal, queue, _, calls⟩ := joined.bounded h
      refine ⟨journal, queue, ?_, calls⟩
      have room : s.qlc.queue.length < 16 := by
        by_contra no
        rw [enqueueOn, enqueue_full _ _ _ _ no] at taken
        cases taken
      have same := (enqueue_room ⟨n, freeSequence (s.qlc.requests.map Pending.sequence) s.qlc.sequence 9, b⟩
        (s.qlc.prefer .a == .a) (s.qlc.prefer .a == .b) s room).2.2.1
      simp only [State.setQlc_qlc, List.length_append, List.length_singleton]
      rw [enqueueOn, same]
      omega

theorem steady_closeRequest (p : Pending) (s : State) : Steady s (closeRequest p s) :=
  .of_quiet (by simp [Quiet, closeRequest, List.length_filter_le])

theorem steady_takeAnswer (n : Nat) (q : Num8) (b : FrameBody) {hand : Pending → State → State}
    (h : ∀ p s, Steady s (hand p s)) (s : State) : Steady s (takeAnswer n q b hand s) := by
  unfold takeAnswer
  split
  · exact (steady_closeRequest _ s).trans (h _ _)
  · exact steady_onErrors _ s

theorem steady_onRequest (q : Num8) (f : Pending → Pending) (s : State) : Steady s (onRequest q f s) :=
  .of_quiet (by simp [Quiet, onRequest])

theorem steady_nextAttempt (p : Pending) (s : State) : Steady s (nextAttempt p s) :=
  (steady_enqueueOn _ _ s).trans (steady_onRequest _ _ _)

theorem steady_deadlineCome (p : Pending) {timedOut : Pending → State → State} (h : ∀ p s, Steady s (timedOut p s))
    (s : State) : Steady s (deadlineCome p timedOut s) :=
  .ite (steady_nextAttempt p s) ((steady_closeRequest p s).trans (h p _))

theorem steady_yieldAnnounce (c : Channel) (s : State) : Steady s (yieldAnnounce c s) := by
  unfold yieldAnnounce
  split
  · exact .ite (.of_quiet (by simp [Quiet, List.length_filter_le])) (.refl s)
  · exact .refl s

theorem steady_generateAnnounce (s : State) : Steady s (generateAnnounce s) := by
  unfold generateAnnounce
  split
  · exact .refl s
  · have next (t : State) (c : Option Channel) : Steady t (t.setQlc { t.qlc with lastAnnounce := c }) := .of_quiet (by simp [Quiet])
    exact .ite ((steady_enqueueOn _ _ s).trans (next _ _)) (steady_enqueueOn _ _ s)

theorem steady_beginSending (c : Channel) (s : State) : Steady s (beginSending c s) := by
  unfold beginSending
  split
  · exact .refl s
  · split
    · exact .refl s
    · exact .of_quiet (by simp [Quiet])

theorem steady_endSending (c : Channel) (s : State) : Steady s (endSending c s) := by
  unfold endSending
  split
  · exact .refl s
  · have shorter (q : Entry → Bool) (f : Entry → Entry) (l : List Entry) : ((updWhere q f l).filter fun e => e.onA || e.onB).length ≤ l.length :=
      (List.length_filter_le _ _).trans (updWhere_length q f l).le
    dsimp only
    split
    · exact (Steady.of_quiet (by simp [Quiet, shorter])).trans (steady_onErrors _ _)
    · exact .of_quiet (by simp [Quiet, shorter])

theorem steady_sendingFault (c : Channel) (n : Nat) (s : State) : Steady s (sendingFault c n s) := by
  have stopped (f : Line → Line) := steady_onLine c f s
  unfold sendingFault
  exact (Steady.ite ((stopped _).trans (steady_channelDown _ _ _)) (stopped _)).trans (steady_adjust _ _ _)

theorem steady_dropLeftover (q : Num8) (s : State) : Steady s (dropLeftover q s) := by
  unfold dropLeftover
  split
  · exact .of_quiet (by simp [Quiet, List.length_filter_le])
  · exact .refl s

/-! ### The cache -/

theorem steady_revoke (tags : List Tag) (s : State) : Steady s (revoke tags s) := by
  cases tags with
  | nil => exact .refl s
  | cons first rest =>
    have sent := (Steady.of_quiet (s := s) (t := markLookups (first :: rest) (dropTags (first :: rest) s)) (by simp [Quiet])).trans
      (steady_broadcast (.tagRevoke s.cfg.station (first :: rest)) _)
    exact .ite sent (sent.report _)

theorem steady_onTagQuery (c : Channel) (n : Nat) (q : Num8) (t : Tag) (s : State) : Steady s (onTagQuery c n q t s) := by
  unfold onTagQuery
  split
  · exact steady_sendAnswer _ _ _ _ s
  · exact .refl s

/-! ### LSU -/

theorem steady_noteFloors (n : Nat) (s : State) : Steady s (noteFloors n s) := by
  unfold noteFloors
  dsimp only
  (repeat' split)
  · exact (Steady.of_quiet (by simp [Quiet])).report _
  · exact (Steady.of_quiet (by simp [Quiet])).report _
  · exact .refl s

theorem steady_applyComputed (n : Nat) (s : State) : Steady s (applyComputed n s) := by
  unfold applyComputed
  dsimp only
  (repeat' split)
  · exact (Steady.of_quiet (by simp [Quiet])).report _
  all_goals exact .of_quiet (by simp [Quiet])

theorem steady_compute (n : Nat) (s : State) : Steady s (compute n s) :=
  ((steady_noteFloors _ s).trans (steady_setLsu _ _)).trans (steady_applyComputed n _)

theorem steady_declare (d : Nat) (s : State) : Steady s (declare d s) :=
  (steady_setLsu _ s).trans (steady_compute _ _)

theorem steady_noteLoad (s : State) : Steady s (noteLoad s) := by
  have demand (d : Nat) := steady_setLsu { s.lsu with demand := d } s
  unfold noteLoad
  split
  · dsimp only
    (repeat' split)
    · exact demand _
    · exact (((demand _).trans (steady_setLsu _ _)).trans (steady_generateAnnounce _)).trans (steady_compute _ _)
    · exact (demand _).trans (steady_declare _ _)
    · exact demand _
  · exact .refl s

/-! ### PBC -/

theorem steady_changeOutlet (n : Nat) (f : Outlet → Outlet) (s : State) : Steady s (changeOutlet n f s) :=
  (Steady.of_quiet (by simp [Quiet])).trans (steady_noteLoad _)

theorem steady_outletWaits (n : Nat) (s : State) : Steady s (outletWaits n s) :=
  (Steady.of_quiet (by simp [Quiet])).trans (steady_changeOutlet _ _ _)

theorem steady_outletOff (n : Nat) (s : State) : Steady s (outletOff n s) := steady_changeOutlet _ _ s

theorem steady_outletSuspended (n : Nat) (s : State) : Steady s (outletSuspended n s) := steady_changeOutlet _ _ s

theorem steady_outletLive (n : Nat) (s : State) : Steady s (outletLive n s) :=
  (Steady.of_quiet (by simp [Quiet])).trans (steady_changeOutlet _ _ _)

theorem steady_outletShed (n : Nat) (s : State) : Steady s (outletShed n s) := steady_changeOutlet _ _ s

theorem steady_setWanted (o : Outlet) (v : Bool) (s : State) : Steady s (setWanted o v s) := .of_quiet (by simp [Quiet])

theorem steady_outletTrips (o : Outlet) (c : TripCause) (m : Nat) (s : State) : Steady s (outletTrips o c m s) :=
  ((steady_changeOutlet _ _ s).trans (steady_setWanted _ _ _)).report _

theorem steady_switchOff (o : Outlet) (s : State) : Steady s (switchOff o s) :=
  (Steady.of_quiet (by simp [Quiet])).trans (steady_outletOff _ _)

theorem steady_requestOutlet (o : Outlet) (s : State) : Steady s (requestOutlet o s).1 := by
  unfold requestOutlet
  split
  · exact (Steady.of_quiet (by simp [Quiet])).report _
  · exact (Steady.of_quiet (by simp [Quiet])).trans (steady_outletWaits _ _)

theorem steady_pressOutlet (n : Nat) (s : State) : Steady s (pressOutlet n s) := by
  unfold pressOutlet
  split
  · exact .refl s
  · split
    · exact steady_requestOutlet _ s
    all_goals first | exact steady_switchOff _ s | exact .refl s

theorem steady_pressReset (n : Nat) (s : State) : Steady s (pressReset n s) := by
  unfold pressReset
  split
  · exact .refl s
  · exact .ite (steady_outletOff _ s) (.refl s)

theorem steady_moveTap (n : Nat) (v : TapState) (r : Option Nat) (s : State) : Steady s (moveTap n v r s) :=
  .of_quiet (by simp [Quiet])

theorem steady_pressTap (n : Nat) (s : State) : Steady s (pressTap n s) := by
  have refused (f : Tap → Tap) (r : Report) : Steady s (report r (changeTap n f s)) :=
    (Steady.of_quiet (by simp [Quiet])).report r
  unfold pressTap
  dsimp only
  split
  · exact .refl s
  · split
    · exact steady_moveTap _ _ _ s
    · exact refused _ _
    · refine .ite (refused _ _) ?_
      split
      · exact refused _ _
      · exact .ite (refused _ _) (steady_moveTap _ _ _ s)

theorem steady_berthOff (n : Nat) (s : State) : Steady s (berthOff n s) := by
  have off (l : List Nat) : Steady s (l.foldl (fun x n => outletOff n x) s) := .foldl (fun x n => steady_outletOff n x) l s
  unfold berthOff
  split
  · exact .refl s
  · dsimp only
    split
    · exact (off _).trans (steady_moveTap _ _ _ _)
    · exact off _

theorem steady_displaced (n : Nat) (b : Booking) (s : State) : Steady s (displaced n b s) :=
  (Steady.of_quiet (by simp [Quiet])).trans (steady_berthOff _ _)

theorem steady_afterCurrent (n : Nat) (before s : State) : Steady s (afterCurrent n before s) := by
  unfold afterCurrent
  split
  · exact .ite (.refl s) (steady_displaced _ _ s)
  · exact .refl s

theorem steady_noticeOutlet (old new : Standing) (n : Nat) (s : State) : Steady s (noticeOutlet old new n s) := by
  unfold noticeOutlet
  split
  · exact .refl s
  · exact .ite (.ite (steady_outletSuspended _ s) (.refl s)) (.ite (steady_outletWaits _ s) (.refl s))

theorem steady_noticeTap (old new : Standing) (n : Nat) (s : State) : Steady s (noticeTap old new n s) := by
  unfold noticeTap
  split
  · exact .refl s
  · exact .ite (steady_moveTap _ _ _ s) (.ite (steady_moveTap _ _ _ s) (.refl s))

theorem steady_postsNotice (n k : Nat) (old new : Standing) (s : State) : Steady s (postsNotice n k old new s) := by
  have outlets (l : List Nat) : Steady s (l.foldl (fun x n => noticeOutlet old new n x) s) :=
    .foldl (fun x n => steady_noticeOutlet old new n x) l s
  unfold postsNotice
  split
  · exact .refl s
  · refine .ite ?_ (.refl s)
    dsimp only
    split
    · exact (outlets _).trans (steady_noticeTap _ _ _ _)
    · exact outlets _

theorem steady_shedLoop (n : Nat) (s : State) : Steady s (shedLoop n s) := by
  induction n generalizing s with
  | zero => exact .refl s
  | succ n ih =>
    unfold shedLoop
    refine .ite (.refl s) ?_
    split
    · exact .refl s
    · exact ((steady_outletShed _ s).report _).trans (ih _)

theorem steady_restoreWalk (l : List Nat) (s : State) : Steady s (restoreWalk l s) := by
  induction l generalizing s with
  | nil => exact .refl s
  | cons n rest ih =>
    unfold restoreWalk
    split
    · exact ih s
    · exact .ite (ih s) (.ite ((steady_outletLive _ s).trans (ih _)) (.refl s))

theorem steady_settleRounds (n : Nat) (s : State) : Steady s (settleRounds n s) := by
  induction n generalizing s with
  | zero => exact steady_shedLoop _ s
  | succ n ih =>
    have round : Steady s (restorePass (shedAll s)) := (steady_shedLoop _ s).trans (steady_restoreWalk _ _)
    exact .ite round (round.trans (ih _))

theorem steady_settlePosts (s : State) : Steady s (settlePosts s) := steady_settleRounds _ s

theorem steady_settled (before s : State) : Steady s (settled before s) := .ite (.refl s) (steady_settlePosts s)

theorem steady_event {f : State → State} {s : State} (h : Steady s (f s)) : Steady s (event f s) :=
  h.trans (steady_settled s _)

theorem steady_firstRoundDone (s : State) : Steady s (firstRoundDone s) := by
  unfold firstRoundDone
  refine .ite (.refl s) ?_
  dsimp only
  exact (Steady.of_quiet (t := s.setPbc { s.pbc with firstRound := true }) (by simp [Quiet])).trans (steady_event
    (((Steady.of_quiet (by simp [Quiet])).trans (steady_generateAnnounce _)).trans (steady_compute _ _)))

theorem steady_nextPoll (s : State) : Steady s (nextPoll s) := by
  unfold nextPoll
  split
  · exact (Steady.of_quiet (by simp [Quiet])).trans (steady_firstRoundDone _)
  · split <;> exact .of_quiet (by simp [Quiet])

theorem steady_missPost (n : Nat) (s : State) : Steady s (missPost n s) := by
  unfold missPost
  split
  · exact .refl s
  · exact .ite (.refl s) (.ite (((Steady.of_quiet (by simp [Quiet])).trans (steady_noteLoad _)).report _)
      (.of_quiet (by simp [Quiet])))

end Sys2Proof.Machine
end

section
/-! SUPPORT. What the operations of the blocks keep of the buffers' sizes, of the attention line and of the gates' form: purses,
bookings, calls, the day, the fuel dock, metering. -/

namespace Sys2Proof.Machine

/-! ### PRS -/

theorem steady_notice (n k : Nat) (old new : Standing) (s : State) : Steady s (notice n k old new s) := by
  unfold notice
  split
  · exact .refl s
  · exact (((steady_changeBooking _ _ _ s).trans (steady_revoke _ _)).trans (steady_postsNotice _ _ _ _ _)).report _

theorem steady_restand (n k : Nat) (s : State) : Steady s (restand n k s) := by
  unfold restand
  split
  · exact .refl s
  · exact .ite (.refl s) ((steady_changeBooking _ _ _ s).trans (steady_notice _ _ _ _ _))

theorem steady_debit (n k : Nat) (c : Charge) (d : Nat) (s : State) : Steady s (debit n k c d s) := by
  unfold debit
  refine .ite (.refl s) ?_
  split
  · exact .refl s
  · exact .ite ((steady_changeBooking _ _ _ s).report _) (steady_changeBooking _ _ _ s)

theorem steady_meterCharge (n k : Nat) (c : Charge) (u r : Nat) (s : State) : Steady s (meterCharge n k c u r s) := by
  unfold meterCharge
  split
  · exact .refl s
  · exact .ite (steady_changeBooking _ _ _ s)
      (((steady_changeBooking _ _ _ s).trans (steady_debit _ _ _ _ _)).trans (steady_restand _ _ _))

theorem steady_newHold (n k : Nat) (id : HoldId) (a : Nat) (s : State) : Steady s (newHold n k id a s).1 := by
  unfold newHold
  split
  · exact .refl s
  · split
    · exact steady_report _ s
    · exact ((steady_changeBooking _ _ _ s).trans (steady_restand _ _ _)).report _

theorem steady_ownerHold (id : HoldId) (t : Tag) (k a : Nat) (s : State) : Steady s (ownerHold id t k a s).1 := by
  unfold ownerHold
  split
  · exact .refl s
  · split
    · split
      · exact .refl s
      · exact (steady_changeBooking _ _ _ s).trans (steady_newHold _ _ _ _ _)
    · exact steady_newHold _ _ _ _ s

theorem steady_ownerSettle (id : HoldId) (k a : Nat) (s : State) : Steady s (ownerSettle id k a s).1 := by
  have debited (n : Nat) := steady_debit n k .fuel a s
  unfold ownerSettle
  split
  · exact .refl s
  · split
    · split
      · exact .refl s
      · exact ((debited _).trans (steady_changeBooking _ _ _ _)).trans (steady_restand _ _ _)
      · exact (((debited _).trans (steady_changeBooking _ _ _ _)).report _).trans (steady_restand _ _ _)
    · exact (((debited _).report _).trans (steady_changeBooking _ _ _ _)).trans (steady_restand _ _ _)

theorem steady_ageBooking (n : Nat) (b : Booking) (s : State) : Steady s (ageBooking n b s) := by
  have expired (l : List Hold) (u : State) : Steady u (reportExpired n l u) := .foldl (fun x _ => steady_report _ x) l u
  have aged (f : Booking → Booking) (l : List Hold) := (steady_changeBooking n (b.serial.getD 0) f s).trans (expired l _)
  unfold ageBooking
  exact .ite (.ite (aged _ _) ((aged _ _).trans (steady_restand _ _ _))) (.refl s)

/-- A berth operation keeps what its rule keeps. -/
theorem steady_onAddressed (kind : CmdKind) (n k : Nat) {f : Booking → State → State × Reply}
    (h : ∀ b s, Steady s (f b s).1) (s : State) : Steady s (onAddressed kind n k f s).1 := by
  unfold onAddressed
  split
  · exact .refl s
  · exact h _ s

theorem steady_doCredit (n k a : Nat) (s : State) : Steady s (doCredit n k a s).1 := by
  refine steady_onAddressed _ _ _ (fun b s => ?_) s
  (repeat' split)
  · exact .refl s
  · exact .refl s
  · exact ((steady_changeBooking _ _ _ s).trans (steady_restand _ _ _)).report _

theorem steady_doBarMark (kind : CmdKind) (m : Bool) (n k : Nat) (s : State) : Steady s (doBarMark kind m n k s).1 := by
  refine steady_onAddressed _ _ _ (fun b s => ?_) s
  split
  · exact .refl s
  · exact ((steady_changeBooking _ _ _ s).trans (steady_restand _ _ _)).report _

theorem steady_doSetMarks (n k low limit : Nat) (s : State) : Steady s (doSetMarks n k low limit s).1 := by
  refine steady_onAddressed _ _ _ (fun b s => ?_) s
  split
  · exact .refl s
  · exact ((steady_changeBooking _ _ _ s).trans (steady_restand _ _ _)).report _

theorem steady_doDropHold (n k : Nat) (id : HoldId) (s : State) : Steady s (doDropHold n k id s).1 := by
  refine steady_onAddressed _ _ _ (fun b s => ?_) s
  split
  · exact .refl s
  · split
    · exact .refl s
    · exact ((steady_changeBooking _ _ _ s).trans (steady_restand _ _ _)).report _

/-! ### BST -/

theorem steady_makeCurrent (n k : Nat) (s : State) : Steady s (makeCurrent n k s) :=
  ((steady_changeBooking _ _ _ s).report _).trans (steady_afterCurrent _ _ _)

theorem steady_arrivals (n d : Nat) (s : State) : Steady s (arrivals n d s) := by
  unfold arrivals
  split
  · exact .refl s
  · exact .foldl (fun x _ => steady_makeCurrent _ _ x) _ s

theorem steady_examine (d : Nat) (s : State) : Steady s (examine d s) :=
  .foldl (f := fun x n => arrivals n d x) (fun x n => steady_arrivals n d x) _ s

theorem steady_convert (n : Nat) (ref : CallRef) (stay : Stay) (tags : List Tag) (name : Option BoatName) (s : State) :
    Steady s (convert n ref stay tags name s).1 :=
  (((((steady_setBst _ s).trans (steady_queueRecord _ _)).trans (steady_setBst _ _)).trans
    (steady_queueRecord _ _)).report _).trans (steady_afterCurrent _ _ _)

theorem steady_addStatement (n : Nat) (k : EndKind) (b : Booking) (s : State) : Steady s (addStatement n k b s) := by
  have lost : Steady s (match s.bst.statements.head? with
      | some old => if old.read then s else report (.statementLost old.berth old.serial) s
      | none => s) := by
    split
    · exact .ite (.refl s) (steady_report _ s)
    · exact .refl s
  unfold addStatement
  exact (((Steady.ite (.refl s) lost).trans (steady_setBst _ _)).trans (steady_queueRecord _ _)).trans
    (steady_queueRecord _ _)

theorem steady_endBooking (n : Nat) (b : Booking) (kind : Option EndKind) (s : State) :
    Steady s (endBooking n b kind s) := by
  have unlisted (f : Berth → Berth) (u : State) : Steady u (queueSlot b.slot (onBerth n f u)) := by
    unfold queueSlot
    split
    · exact (steady_setBst _ u).trans (steady_queueRecord _ _)
    · exact steady_setBst _ u
  have ended (f : Berth → Berth) (p : Prop) [Decidable p] (u : State) :
      Steady u (if p then berthOff n (revoke b.tags (queueSlot b.slot (onBerth n f u))) else
        revoke b.tags (queueSlot b.slot (onBerth n f u))) :=
    .ite (((unlisted f u).trans (steady_revoke _ _)).trans (steady_berthOff _ _)) ((unlisted f u).trans (steady_revoke _ _))
  cases kind with
  | some k => exact ((steady_addStatement n k b s).trans (ended _ _ _)).report _
  | none => exact (ended _ _ s).report _

theorem steady_doCheckOut (n k : Nat) (s : State) : Steady s (doCheckOut n k s).1 := by
  refine steady_onAddressed _ _ _ (fun b s => ?_) s
  (repeat' split)
  · exact .refl s
  · exact .refl s
  · exact steady_endBooking n b (some .checkedOut) s

theorem steady_doCancel (n k : Nat) (s : State) : Steady s (doCancel n k s).1 := by
  refine steady_onAddressed _ _ _ (fun b s => ?_) s
  split
  · exact .refl s
  · exact steady_endBooking n b none s

theorem steady_doExtend (n k d : Nat) (s : State) : Steady s (doExtend n k d s).1 := by
  refine steady_onAddressed _ _ _ (fun b s => ?_) s
  (repeat' split)
  · exact .refl s
  · exact .refl s
  · exact steady_changeBooking _ _ _ s

theorem steady_doSetTags (n k : Nat) (tags : List Tag) (s : State) : Steady s (doSetTags n k tags s).1 := by
  refine steady_onAddressed _ _ _ (fun b s => ?_) s
  split
  · exact .refl s
  · split
    · exact steady_report _ s
    · exact (steady_changeBooking _ _ _ s).trans (steady_revoke _ _)

/-! ### ALC -/

theorem steady_evaluate (ref : CallRef) (call : CallBody) (s : State) : Steady s (evaluate ref call s).1 :=
  .of_quiet (by simp [Quiet])

theorem steady_dropTentative (n : Nat) (ref : CallRef) (p : Booking → Bool) (s : State) :
    Steady s (dropTentative n ref p s) := steady_setBst _ s

theorem steady_applyClose (ref : CallRef) (w : Option (Nat × Nat)) (s : State) : Steady s (applyClose ref w s) :=
  .of_quiet (by simp [Quiet])

theorem steady_ownerTake (ref : CallRef) (n : Nat) (stay : Stay) (tags : List Tag) (name : Option BoatName) (s : State) :
    Steady s (ownerTake ref n stay tags name s).1 := by
  unfold ownerTake
  (repeat' split) <;> first | exact .refl s | exact steady_convert _ _ _ _ _ s

theorem steady_changeCall (n : Num8) (f : Call → Call) (s : State) : Steady s (changeCall n f s) :=
  .of_quiet (by simp [Quiet, changeCall])

theorem steady_finishCall (n : Num8) (o : CallOutcome) (s : State) : Steady s (finishCall n o s) := by
  have counted (v : Nat) : Steady s (s.setAlc { s.alc with finished := v }) := .of_quiet (by simp [Quiet])
  exact (((counted _).trans (steady_changeCall _ _ _)).trans (steady_broadcast _ _)).trans (steady_applyClose _ _ _) |>.report _

theorem steady_takeHead (k : Nat) (n : Num8) (s : State) : Steady s (takeHead k n s) := by
  induction k generalizing s with
  | zero => exact steady_finishCall _ _ s
  | succ k ih =>
    have dropped {t : State} (h : Steady s t) : Steady s (takeHead k n (dropHead n t)) :=
      (h.trans (steady_changeCall _ _ _)).trans (ih _)
    unfold takeHead
    split
    · exact .refl s
    · split
      · exact steady_finishCall _ _ s
      · have taking (f : Call → Call) := steady_changeCall n f s
        dsimp only
        split
        · have owned (f : Call → Call) (ref : CallRef) (berth : Nat) (stay : Stay) (tags : List Tag) (name : Option BoatName) :=
            (taking f).trans (steady_ownerTake ref berth stay tags name _)
          split
          · exact (owned _ _ _ _ _ _).trans (steady_finishCall _ _ _)
          · exact dropped (owned _ _ _ _ _ _)
          · exact dropped ((owned _ _ _ _ _ _).report _)
        · have asked (f : Call → Call) (d : Nat) (b : FrameBody) := (taking f).trans (steady_ask d b (.call n) _)
          exact .ite (asked _ _ _) (dropped (asked _ _ _))

theorem steady_takeNext (n : Num8) (s : State) : Steady s (takeNext n s) := steady_takeHead _ _ s

theorem steady_takeResult (n : Num8) (r : TakeResult) (s : State) : Steady s (takeResult n r s) := by
  unfold takeResult
  split
  · exact .refl s
  · split
    · exact .refl s
    · split
      · exact steady_finishCall _ _ s
      · exact (steady_changeCall _ _ s).trans (steady_takeNext _ _)
      · exact ((steady_report _ s).trans (steady_changeCall _ _ _)).trans (steady_takeNext _ _)

theorem steady_takeTimedOut (n : Num8) (s : State) : Steady s (takeTimedOut n s) := by
  unfold takeTimedOut
  split
  · exact .refl s
  · split
    · exact .refl s
    · exact ((steady_report _ s).trans (steady_changeCall _ _ _)).trans (steady_takeNext _ _)

/-- A fold that keeps what it has or picks the element at hand picks an element of the list. -/
theorem foldl_pick_mem {α : Type} {f : Option α → α → Option α} (pick : ∀ best x, f best x = some x ∨ f best x = best)
    (l : List α) (best : Option α) : l.foldl f best = best ∨ ∃ x ∈ l, l.foldl f best = some x := by
  induction l generalizing best with
  | nil => exact .inl rfl
  | cons x l ih =>
    obtain same | ⟨y, hy, e⟩ := ih (f best x)
    · obtain picked | kept := pick best x
      · exact .inr ⟨x, .head _, same.trans picked⟩
      · exact .inl (same.trans kept)
    · exact .inr ⟨y, .tail _ hy, e⟩

/-- A fold that always holds something ends with something, if it takes a step or begins with something. -/
theorem foldl_pick_isSome {α : Type} {f : Option α → α → Option α} (holds : ∀ best x, (f best x).isSome = true)
    (l : List α) (best : Option α) (h : l ≠ [] ∨ best.isSome = true) : (l.foldl f best).isSome = true := by
  induction l generalizing best with
  | nil => simpa using h
  | cons x l ih => exact ih _ (.inr (holds best x))

theorem oldest?_mem {a : Alc} {o : Call} (h : a.oldest? = some o) : o ∈ a.calls := by
  obtain none | ⟨x, hx, e⟩ := foldl_pick_mem (f := fun best c => match best with
      | none => some c
      | some b => if c.finishOrder.getD 0 < b.finishOrder.getD 0 then some c else some b)
    (fun best x => by
      cases best with
      | none => exact .inl rfl
      | some b => dsimp only; split; exacts [.inl rfl, .inr rfl]) (a.calls.filter fun c => c.phase == .finished) none
  · cases none.symm.trans h
  · cases e.symm.trans h
    exact (List.mem_filter.1 hx).1

theorem oldest?_none {a : Alc} (h : a.oldest? = none) (c : Call) (hc : c ∈ a.calls) : c.phase ≠ .finished := by
  intro finished
  have found := foldl_pick_isSome (f := fun best c => match best with
      | none => some c
      | some b => if c.finishOrder.getD 0 < b.finishOrder.getD 0 then some c else some b)
    (fun best x => by
      cases best with
      | none => rfl
      | some b => dsimp only; split <;> rfl) (a.calls.filter fun c => c.phase == .finished) none
    (.inl (List.ne_nil_of_mem (List.mem_filter.2 ⟨hc, by simpa using finished⟩)))
  cases (congrArg Option.isSome h).symm.trans found

/-- The table without the FINISHED entry of a number. -/
def Alc.freed (n : Num8) (a : Alc) : Alc :=
  { a with calls := a.calls.filter fun c => !(c.phase == .finished && c.number == n) }

theorem makeRoom_eq (n : Num8) (a : Alc) : a.makeRoom n =
    if (a.freed n).calls.length < 4 then a.freed n
    else match (a.freed n).oldest? with
      | some o => { a.freed n with calls := (a.freed n).calls.filter fun c => c.number != o.number }
      | none => a.freed n := by
  rfl

theorem freed_openCalls (n : Num8) (a : Alc) : (a.freed n).openCalls = a.openCalls := by
  simp only [Alc.freed, Alc.openCalls, List.filter_filter]
  congr 2
  funext c
  cases c.phase <;> simp

/-- Room is made for a new entry: with fewer than 4 open calls, a table that is still full holds a FINISHED one (R48). -/
theorem makeRoom_length (n : Num8) (a : Alc) (busy : a.openCalls < 4) (size : a.calls.length ≤ 4) :
    (a.makeRoom n).calls.length < 4 := by
  have shrunk : (a.freed n).calls.length ≤ 4 := (List.length_filter_le _ _).trans size
  rw [makeRoom_eq]
  split
  · assumption
  · split
    · next o ho =>
      have fewer : ((a.freed n).calls.filter fun c => c.number != o.number).length < (a.freed n).calls.length :=
        List.length_filter_lt_length_iff_exists.2 ⟨o, oldest?_mem ho, by simp⟩
      exact fewer.trans_le shrunk
    · next ho =>
      have all_open : (a.freed n).openCalls = (a.freed n).calls.length := by
        unfold Alc.openCalls
        rw [List.filter_eq_self.2 fun c hc => by simpa using oldest?_none ho c hc]
      rw [← all_open, freed_openCalls]
      exact busy

theorem steady_openCall (n : Num8) (r : CallRequest) (s : State) (busy : s.alc.openCalls < 4) :
    Steady s (openCall n r s) := by
  let entry : Call := { number := n, phase := .collecting, request := r, windowAt := some (s.now + 250) }
  have opened : Steady s (s.setAlc { s.alc.makeRoom n with
      nextCall := n + 1, calls := (s.alc.makeRoom n).calls ++ [entry] }) := by
    refine ⟨fun h => ⟨h.journal, h.queue, h.requests, ?_⟩, id, id⟩
    have room := makeRoom_length n s.alc busy h.calls
    simpa using room
  have offered (ref : CallRef) (b : CallBody) := opened.trans (steady_evaluate ref b _)
  unfold openCall
  dsimp only
  split
  · exact (offered _ _).trans (steady_changeCall _ _ _)
  · exact offered _ _

theorem steady_doAllocate (form : AllocateForm) (s : State) : Steady s (doAllocate form s).1 := by
  unfold doAllocate
  split
  · exact .refl s
  · split
    · exact .refl s
    · split
      · exact .refl s
      · split
        · exact .refl s
        · split
          · exact .refl s
          · next busy =>
            dsimp only
            split
            · exact (steady_broadcast _ s).trans (steady_openCall _ _ _ (by simpa using busy))
            · exact steady_broadcast _ s

theorem steady_onBerthCall (c : Channel) (ref : CallRef) (body : CallBody) (s : State) :
    Steady s (onBerthCall c ref body s) := by
  unfold onBerthCall
  refine .ite (.refl s) ?_
  dsimp only
  split
  · exact steady_evaluate _ _ s
  · have offered (c : Channel) (f : Frame) := (steady_evaluate ref body s).trans (steady_enqueueOn c f _)
    exact .ite (offered _ _) ((offered _ _).trans (steady_dropTentative _ _ _ _))

theorem steady_onBerthOffer (n : Nat) (ref : CallRef) (berth cost : Nat) (s : State) :
    Steady s (onBerthOffer n ref berth cost s) := by
  unfold onBerthOffer
  refine .ite (.refl s) ?_
  split
  · exact .refl s
  · exact .ite (.refl s) (steady_changeCall _ _ s)

theorem steady_onBerthTake (c : Channel) (n : Nat) (q : Num8) (ref : CallRef) (berth : Nat) (stay : Stay) (tags : List Tag)
    (name : Option BoatName) (s : State) : Steady s (onBerthTake c n q ref berth stay tags name s) :=
  (steady_ownerTake _ _ _ _ _ s).trans (steady_sendAnswer _ _ _ _ _)

theorem steady_onTakeAnswer (n : Nat) (q : Num8) (ref : CallRef) (berth : Nat) (r : TakeResult) (s : State) :
    Steady s (onTakeAnswer n q ref berth r s) := by
  refine steady_takeAnswer _ _ _ (fun p s => ?_) s
  cases p.originator with
  | call n => exact steady_takeResult _ _ s
  | _ => exact .refl s

/-! ### DCK -/

theorem steady_setClock (d t : Nat) (s : State) : Steady s (setClock d t s) := steady_setDck _ s

theorem steady_doSetTime (d t : Nat) (s : State) : Steady s (doSetTime d t s).1 := by
  unfold doSetTime
  split
  · exact .refl s
  · exact (((steady_setClock _ _ s).trans (steady_broadcast _ _)).trans (steady_examine _ _)).report _

theorem steady_adoptTime (n d t : Nat) (s : State) : Steady s (adoptTime n d t s) :=
  ((steady_setClock _ _ s).trans (steady_examine _ _)).report _

theorem steady_doSelectTariff (n : Nat) (s : State) : Steady s (doSelectTariff n s).1 := by
  unfold doSelectTariff
  split
  · exact .refl s
  · exact (steady_setDck _ s).report _

theorem steady_chargeNight (r : Rollover) (n : Nat) (b : Booking) (s : State) : Steady s (chargeNight r n b s) :=
  .ite (.refl s) ((steady_debit _ _ _ _ s).trans (steady_restand _ _ _))

theorem steady_depart (r : Rollover) (n k : Nat) (p : State × Nat) : Steady p.1 (depart r n k p).1 := by
  unfold depart
  dsimp only
  split
  · exact .refl p.1
  · next b _ =>
    split
    · exact .refl p.1
    · next kind _ => exact steady_endBooking n b (some kind) p.1
    · exact (steady_changeBooking _ _ _ p.1).report _

theorem steady_rollBooking (r : Rollover) (n : Nat) (b : Booking) (p : State × Nat) : Steady p.1 (rollBooking r n b p).1 :=
  ((steady_chargeNight r n b p.1).trans (steady_changeBooking n (b.serial.getD 0) _ _)).trans
    (steady_depart r n (b.serial.getD 0) (changeBooking n (b.serial.getD 0) _ (chargeNight r n b p.1), p.2))

theorem steady_rollBerth (r : Rollover) (n : Nat) (p : State × Nat) : Steady p.1 (rollBerth r n p).1 := by
  have rolled (l : List Booking) (p : State × Nat) : Steady p.1 (l.foldl (fun x k => rollBooking r n k x) p).1 := by
    induction l generalizing p with
    | nil => exact .refl p.1
    | cons b l ih => exact (steady_rollBooking r n b p).trans (ih _)
  unfold rollBerth
  split
  · exact .refl p.1
  · exact (rolled _ p).trans (steady_arrivals _ _ _)

theorem steady_rollover (d t : Nat) (s : State) : Steady s (rollover d t s) := by
  have rolled (r : Rollover) (l : List Nat) (p : State × Nat) : Steady p.1 (l.foldl (fun x n => rollBerth r n x) p).1 := by
    induction l generalizing p with
    | nil => exact .refl p.1
    | cons n l ih => exact (steady_rollBerth r n p).trans (ih _)
  unfold rollover
  exact (((steady_setDck _ s).trans (rolled _ _ (_, 0))).trans (steady_setDck _ _)).report _

theorem steady_advance (t : DayTime) (s : State) : Steady s (advance t s) := by
  have ticked (v : Dck) := (steady_reach s.dck.tickAt s).trans (steady_setDck v _)
  exact .ite (.ite ((ticked _).report _) ((ticked _).trans (steady_rollover _ _ _))) (ticked _)

/-! ### FSC -/

theorem steady_changePump (n : Nat) (f : Pump → Pump) (s : State) : Steady s (changePump n f s) := steady_setFsc _ s

theorem steady_changeSale (n : Nat) (f : Sale → Sale) (s : State) : Steady s (changeSale n f s) :=
  (steady_changePump _ _ s).trans (steady_queueRecord _ _)

theorem steady_leavePump (n : Nat) (f : Sale → Sale) (s : State) : Steady s (leavePump n f s) :=
  (steady_changePump _ _ s).trans (steady_queueRecord _ _)

theorem steady_refuseSale (n : Nat) (x : Sale) (r : SaleRefusal) (s : State) : Steady s (refuseSale n x r s) :=
  ((steady_leavePump _ _ s).trans (steady_changePump _ _ _)).report _

theorem steady_closeSale (n : Nat) (s : State) : Steady s (closeSale n s) :=
  (steady_changePump _ _ s).trans (steady_changeSale _ _ _)

theorem steady_enterReady (n g : Nat) (s : State) : Steady s (enterReady n g s) := by
  unfold enterReady
  split
  · exact .refl s
  · split
    · exact .refl s
    · have changed (f : Sale → Sale) := steady_changeSale n f s
      have authorised (f : Sale → Sale) (h : Pump → Pump) (p : Prop) [Decidable p] (r : Report) :
          Steady s (report r (if p then changeSale n f s else changePump n h (changeSale n f s))) :=
        (Steady.ite (changed f) ((changed f).trans (steady_changePump _ _ _))).report r
      exact .ite ((authorised _ _ _ _).trans (steady_closeSale _ _)) (authorised _ _ _ _)

theorem steady_toList (n : Nat) (s : State) : Steady s (toList n s) := by
  unfold toList
  split
  · exact .refl s
  · split
    · exact (steady_leavePump _ _ s).report _
    · exact ((steady_leavePump _ _ s).trans (steady_setFsc _ _)).trans (steady_queueRecord _ _)

theorem steady_leaveList (id : HoldId) (o : SaleOutcome) (s : State) : Steady s (leaveList id o s) := by
  have freed (l : List Nat) (u : State) : Steady u (queueSlots l u) := .foldl (fun x n => steady_queueRecord _ x) l u
  have left (v : Fsc) (l : List Nat) := (steady_setFsc v s).trans (freed l _)
  exact .ite (((left _ _).trans (steady_changePump _ _ _)).trans (steady_queueRecord _ _)) (left _ _)

theorem steady_reportSettled (x : Sale) (r : SettleResult) (s : State) : Steady s (reportSettled x r s) := by
  unfold reportSettled
  split
  · exact .ite (steady_report _ s) ((steady_report _ s).report _)
  · exact steady_report _ s

theorem steady_endReading (n : Nat) (t : Totaliser) (s : State) : Steady s (endReading n t s) := by
  unfold endReading
  split
  · exact .refl s
  · split
    · exact .refl s
    · have measured (f : Sale → Sale) (p : Prop) [Decidable p] (r : Report) :
          Steady s (if p then report r (changeSale n f s) else changeSale n f s) :=
        .ite ((steady_changeSale n f s).report r) (steady_changeSale n f s)
      have read (f : Sale → Sale) (p q : Prop) [Decidable p] [Decidable q] (r r' : Report) :
          Steady s (if q then report r' (if p then report r (changeSale n f s) else changeSale n f s) else
            if p then report r (changeSale n f s) else changeSale n f s) :=
        .ite ((measured f p r).report r') (measured f p r)
      dsimp only
      split
      · exact ((read _ _ _ _ _).trans (steady_leavePump _ _ _)).report _
      · split
        · exact (read _ _ _ _ _).trans (steady_toList _ _)
        · have settling (d : Nat) (b : FrameBody) (o : Originator) {t : State} (h : Steady s t) := h.trans (steady_ask d b o t)
          exact .ite (settling _ _ _ (read _ _ _ _ _)) ((settling _ _ _ (read _ _ _ _ _)).trans (steady_toList _ _))

theorem steady_holdResult (id : HoldId) (r : HoldResult) (s : State) : Steady s (holdResult id r s) := by
  unfold holdResult
  split
  · exact .refl s
  · split
    · exact steady_enterReady _ _ s
    · exact steady_refuseSale _ _ _ s

theorem steady_pumpSettled (id : HoldId) (r : SettleResult) (s : State) : Steady s (pumpSettled id r s) := by
  unfold pumpSettled
  split
  · exact .refl s
  · exact (steady_leavePump _ _ s).trans (steady_reportSettled _ _ _)

theorem steady_listSettled (id : HoldId) (r : SettleResult) (s : State) : Steady s (listSettled id r s) := by
  unfold listSettled
  split
  · exact .refl s
  · exact (steady_leaveList _ _ s).trans (steady_reportSettled _ _ _)

theorem steady_pumpTimedOut (id : HoldId) (s : State) : Steady s (pumpTimedOut id s) := by
  unfold pumpTimedOut
  split
  · exact .refl s
  · exact .ite (steady_refuseSale _ _ _ s) (steady_toList _ s)

theorem steady_beginSale (p : Pump) (t : Tag) (c : Credential) (s : State) : Steady s (beginSale p t c s) := by
  have asked (d : Nat) (b : FrameBody) (o : Originator) := (steady_changePump p.cfg.number _ s).trans (steady_ask d b o
    (takeSaleNumber p s))
  exact .ite (((asked _ _ _).trans (steady_changePump _ _ _)).trans (steady_queueRecord _ _))
    (((asked _ _ _).trans (steady_changePump _ _ _)).report _)

theorem steady_deliverPump (n : Nat) (t : Tag) (r : LookupResult) (s : State) : Steady s (deliverPump n t r s) := by
  unfold deliverPump
  split
  · exact .refl s
  · refine .ite (steady_report _ s) ?_
    split
    · exact (steady_changePump _ _ s).report _
    · split
      · exact steady_beginSale _ _ _ s
      · exact .refl s

theorem steady_noteFlow (n : Nat) (b : Option PumpReading) (r : PumpReading) (s : State) : Steady s (noteFlow n b r s) := by
  unfold noteFlow
  split
  · exact .refl s
  · exact .ite (.refl s) (steady_report _ s)

theorem steady_leaveFault (p : Pump) (r : PumpReading) (s : State) : Steady s (leaveFault p r s) := by
  have changed (f : Pump → Pump) := (steady_report (.pumpOk p.cfg.number) s).trans (steady_changePump p.cfg.number f _)
  unfold leaveFault
  dsimp only
  split
  · exact (changed _).trans (steady_noteFlow _ _ _ _)
  · exact .ite (changed _) (.ite (changed _) (((changed _).trans (steady_closeSale _ _)).trans (steady_endReading _ _ _)))

theorem steady_pumpState (p : Pump) (c : PumpCommand) (r : PumpReading) (s : State) : Steady s (pumpState p c r s) := by
  unfold pumpState
  dsimp only
  split
  · exact steady_leaveFault _ _ s
  · exact steady_noteFlow _ _ _ s
  · exact .refl s
  · exact .ite ((steady_changePump _ _ s).trans (steady_changeSale _ _ _)) (.refl s)
  · exact .ite (steady_closeSale _ s) (.refl s)
  · exact .ite (steady_endReading _ _ s) (.refl s)

theorem steady_enterFault (p : Pump) (s : State) : Steady s (enterFault p s) := by
  have entered (f : Pump → Pump) (r : Report) := (steady_changePump p.cfg.number f s).report r
  unfold enterFault
  dsimp only
  split
  · exact entered _ _
  · have marked (f : Pump → Pump) (r : Report) (g : Sale → Sale) := (entered f r).trans (steady_changeSale p.cfg.number g _)
    exact .ite ((marked _ _ _).trans (steady_changePump _ _ _)) (marked _ _ _)

theorem steady_onHoldAnswer (n : Nat) (q : Num8) (id : HoldId) (r : HoldResult) (s : State) :
    Steady s (onHoldAnswer n q id r s) := steady_takeAnswer _ _ _ (fun _ s => steady_holdResult id r s) s

theorem steady_onSettleAnswer (n : Nat) (q : Num8) (id : HoldId) (r : SettleResult) (s : State) :
    Steady s (onSettleAnswer n q id r s) := by
  refine steady_takeAnswer _ _ _ (fun p s => ?_) s
  cases p.originator with
  | unsettled _ => exact steady_listSettled _ _ s
  | _ => exact steady_pumpSettled _ _ s

theorem steady_doDirectAuthorise (n a : Nat) (s : State) : Steady s (doDirectAuthorise n a s).1 := by
  unfold doDirectAuthorise
  (repeat' split) <;> try exact .refl s
  exact ((steady_changePump _ _ s).trans (steady_changePump _ _ _)).trans (steady_enterReady _ _ _)

theorem steady_doCancelSale (n : Nat) (s : State) : Steady s (doCancelSale n s).1 := by
  unfold doCancelSale
  (repeat' split) <;> try exact .refl s
  exact (steady_closeSale _ s).report _

theorem steady_doWriteOffSale (n : Nat) (k : Num8) (s : State) : Steady s (doWriteOffSale n k s).1 := by
  unfold doWriteOffSale
  (repeat' split) <;> try exact .refl s
  exact (steady_leaveList _ _ s).report _

theorem steady_retryWalk (l : List HoldId) (s : State) : Steady s (retryWalk l s) := by
  induction l generalizing s with
  | nil => exact .refl s
  | cons id rest ih =>
    unfold retryWalk
    split
    · exact ih s
    · refine .ite (ih s) ?_
      have asked (d : Nat) (b : FrameBody) := steady_ask d b (.unsettled id) s
      exact .ite ((((asked _ _).trans (steady_setFsc _ _)).trans (steady_queueRecord _ _)).trans (ih _)) (asked _ _)

/-! ### Metering -/

theorem steady_addUnassigned (m : Meter) (u : Nat) (s : State) : Steady s (addUnassigned m u s) :=
  .of_quiet (by simp [Quiet])

theorem steady_chargeUnits (m : Meter) (b : Option Nat) (u : Nat) (s : State) : Steady s (chargeUnits m b u s) := by
  unfold chargeUnits
  refine .ite (.refl s) ?_
  split
  · exact (steady_changeBooking _ _ _ s).trans (steady_meterCharge _ _ _ _ _ _)
  · exact (steady_addUnassigned _ _ s).report _

theorem steady_meterOutlet (r : Bool) (e n : Nat) (v : Count16) (s : State) : Steady s (meterOutlet r e n v s) := by
  unfold meterOutlet
  split
  · exact .refl s
  · dsimp only
    split
    · exact steady_setPbc _ s
    · exact (steady_setPbc _ s).trans (steady_chargeUnits _ _ _ _)
    · exact (steady_setPbc _ s).report _

theorem steady_countLeak (t : Tap) (l : Nat) (s : State) : Steady s (countLeak t l s) :=
  .ite (.refl s) (.ite ((steady_setPbc _ s).report _) (steady_setPbc _ s))

theorem steady_meterTap (r : Bool) (e n : Nat) (v : Count16) (s : State) : Steady s (meterTap r e n v s) := by
  unfold meterTap
  split
  · exact .refl s
  · dsimp only
    split
    · exact steady_setPbc _ s
    · exact ((steady_setPbc _ s).trans (steady_countLeak _ _ _)).trans (steady_chargeUnits _ _ _ _)
    · exact (steady_setPbc _ s).report _

theorem steady_currentOutlet (n : Nat) (r : OutletReading) (s : State) : Steady s (currentOutlet n r s) := by
  unfold currentOutlet
  split
  · exact .refl s
  · have seen (f : Outlet → Outlet) : Steady s (patchOutlet n f s) := steady_setPbc _ s
    have smoothed (f g : Outlet → Outlet) := (seen f).trans (steady_changeOutlet n g _)
    exact .ite (.ite ((smoothed _ _).trans (steady_outletTrips _ _ _ _))
        (.ite ((smoothed _ _).trans (steady_outletTrips _ _ _ _)) (smoothed _ _)))
      (.ite ((seen _).trans (steady_outletTrips _ _ _ _)) (seen _))

theorem steady_pressesOutlet (f : Bool) (n : Nat) (r : OutletReading) (s : State) : Steady s (pressesOutlet f n r s) := by
  unfold pressesOutlet
  split
  · exact .refl s
  · exact ((steady_setPbc _ s).trans (.times (steady_pressReset n) _ _)).trans (.times (steady_pressOutlet n) _ _)

theorem steady_pressesTap (f : Bool) (n : Nat) (r : TapReading) (s : State) : Steady s (pressesTap f n r s) := by
  unfold pressesTap
  split
  · exact .refl s
  · exact (steady_setPbc _ s).trans (.times (steady_pressTap n) _ _)

theorem steady_postHeard (p : Post) (r : Num8) (s : State) : Steady s (postHeard p r s) := by
  have changed (f : Post → Post) : Steady s (changePost p.cfg.number f s) := steady_setPbc _ s
  have heard (f : Post → Post) (q : Prop) [Decidable q] (x : Report) :
      Steady s (if q then report x (noteLoad (changePost p.cfg.number f s)) else changePost p.cfg.number f s) :=
    .ite (((changed f).trans (steady_noteLoad _)).report x) (changed f)
  unfold postHeard
  dsimp only
  split
  · exact .ite (heard _ _ _) ((heard _ _ _).report _)
  · exact heard _ _ _

theorem steady_answerSteps (p : Post) (a : PostAnswer) (s : State) : Steady s (answerSteps p a s) := by
  have energy (r : Bool) (e : Nat) (l : List (Nat × OutletReading)) (u : State) :
      Steady u (l.foldl (fun x o => meterOutlet r e o.1 o.2.energy x) u) := .foldl (fun x _ => steady_meterOutlet _ _ _ _ x) l u
  have water (r : Bool) (e : Nat) (l : List (Nat × TapReading)) (u : State) :
      Steady u (l.foldl (fun x o => meterTap r e o.1 o.2.volume x) u) := .foldl (fun x _ => steady_meterTap _ _ _ _ x) l u
  have currents (l : List (Nat × OutletReading)) (u : State) : Steady u (l.foldl (fun x o => currentOutlet o.1 o.2 x) u) :=
    .foldl (fun x _ => steady_currentOutlet _ _ x) l u
  have outlets (f : Bool) (l : List (Nat × OutletReading)) (u : State) :
      Steady u (l.foldl (fun x o => pressesOutlet f o.1 o.2 x) u) := .foldl (fun x _ => steady_pressesOutlet _ _ _ x) l u
  have taps (f : Bool) (l : List (Nat × TapReading)) (u : State) :
      Steady u (l.foldl (fun x o => pressesTap f o.1 o.2 x) u) := .foldl (fun x _ => steady_pressesTap _ _ _ x) l u
  unfold answerSteps
  exact (((((steady_postHeard p a.restart s).trans (energy _ _ _ _)).trans (water _ _ _ _)).trans (currents _ _)).trans
    (outlets _ _ _)).trans (taps _ _ _)

theorem steady_takePostAnswer (p : Post) (a : PostAnswer) (s : State) : Steady s (takePostAnswer p a s) :=
  ((steady_answerSteps p a s).trans (steady_settlePosts _)).trans (steady_setPbc _ _)

end Sys2Proof.Machine
end

section
/-! SUPPORT. The buffers' sizes, the attention line and the gates' form: the gates, the lookups, the terminal, the record store,
the load, and every command. -/

namespace Sys2Proof.Machine

/-! ### GTC -/

theorem steady_changeGate {n : Nat} {f : Gate → Gate} {s : State} (cfg : ∀ g, (f g).cfg = g.cfg)
    (escort : ∀ g, (f g).escort = g.escort) (ajar : ∀ g, (f g).ajar = g.ajar)
    (ok : ∀ g, s.gate? n = some g → g.ok → (f g).ok) : Steady s (changeGate n f s) := by
  have notices : (changeGate n f s).anyNotice = s.anyNotice := by
    simp only [State.anyNotice, changeGate, State.setGtc_gtc, updWhere, List.any_map]
    congr 1
    funext g
    dsimp only [Function.comp]
    split <;> simp [escort, ajar]
  refine ⟨fun b => ⟨b.journal, b.queue, b.requests, b.calls⟩, fun due => ?_, gatesOk_changeGate cfg ok⟩
  rw [lineIsDue_iff] at due ⊢
  simp only [State.attentionDue, notices] at due ⊢
  exact due

/-- A change of the notices and counts of a gate leaves its form. -/
theorem gatesOk_notices {n : Nat} {f : Gate → Gate} {s : State} (cfg : ∀ g, (f g).cfg = g.cfg) (mode : ∀ g, (f g).mode = g.mode)
    (state : ∀ g, (f g).state = g.state) (strike : ∀ g, (f g).strike = g.strike)
    (release : ∀ g, (f g).releaseAt = g.releaseAt) (held : ∀ g, (f g).heldOpenAt = g.heldOpenAt) (h : s.gatesOk) :
    (changeGate n f s).gatesOk :=
  gatesOk_changeGate cfg (fun g _ ok => by simpa [Gate.ok, mode, state, strike, release, held] using ok) h

theorem bounded_changeGate {n : Nat} {f : Gate → Gate} {s : State} (b : s.Bounded) : (changeGate n f s).Bounded :=
  ⟨b.journal, b.queue, b.requests, b.calls⟩

theorem steady_raiseEscort (n : Nat) (c : Credential) (s : State) : Steady s (raiseEscort n c s) := by
  unfold raiseEscort
  dsimp only
  split
  · exact .reported bounded_changeGate (gatesOk_notices (by simp) (by simp) (by simp) (by simp) (by simp) (by simp)) _
  · exact .looked bounded_changeGate (gatesOk_notices (by simp) (by simp) (by simp) (by simp) (by simp) (by simp))

theorem steady_raiseAjar (g : Gate) (s : State) : Steady s (raiseAjar g s) :=
  .reported bounded_changeGate (gatesOk_notices (by simp) (by simp) (by simp) (by simp) (by simp) (by simp)) _

/-- A count of a gate record is changed. -/
theorem steady_gateCounts {n : Nat} {f : Gate → Gate} (s : State) (h : ∀ g, (f g).cfg = g.cfg ∧ (f g).escort = g.escort ∧
    (f g).ajar = g.ajar ∧ (f g).mode = g.mode ∧ (f g).state = g.state ∧ (f g).strike = g.strike ∧
    (f g).releaseAt = g.releaseAt ∧ (f g).heldOpenAt = g.heldOpenAt) : Steady s (changeGate n f s) :=
  steady_changeGate (fun g => (h g).1) (fun g => (h g).2.1) (fun g => (h g).2.2.1) fun g _ ok => by
    obtain ⟨_, _, _, mode, state, strike, release, held⟩ := h g
    simpa [Gate.ok, mode, state, strike, release, held] using ok

theorem steady_record (n : Nat) (t : Tag) (r : LookupResult) (d : Decision) (s : State) : Steady s (record n t r d s) := by
  unfold record
  split
  · exact steady_gateCounts s fun _ => by simp
  · exact (steady_gateCounts s fun _ => by simp).report _
  · dsimp only
    have denied (x : Report) : Steady s (report x (changeGate n (fun g => { g with denials := bumpTop g.denials }) s)) :=
      (steady_gateCounts s fun _ => by simp).report x
    split
    · exact (denied _).trans (steady_raiseEscort _ _ _)
    · exact denied _

theorem steady_releaseGate (n : Nat) {s : State} (h : ∀ g, s.gate? n = some g → g.state = .locked ∨ g.state = .released) :
    Steady s (releaseGate n s) :=
  steady_changeGate (by simp) (by simp) (by simp) fun g hg ok => by
    obtain ⟨_, _, held, mode⟩ := ok
    obtain at_rest | at_rest := h g hg <;> simp_all [Gate.ok]

theorem steady_deliverGate (n : Nat) (t : Tag) (r : LookupResult) (s : State) : Steady s (deliverGate n t r s) := by
  unfold deliverGate
  split
  · exact .refl s
  · next g hg =>
    refine .ite (.refl s) ?_
    have released : Steady s (if g.state == .locked || g.state == .released then releaseGate n s else s) := by
      split
      · next at_rest =>
        refine steady_releaseGate n fun x hx => ?_
        rw [hg] at hx
        cases hx
        simpa using at_rest
      · exact .refl s
    dsimp only
    split
    · exact steady_record _ _ _ _ s
    · exact released.trans (steady_record _ _ _ _ _)

theorem steady_doorOpens (g : Gate) {s : State} (h : s.gate? g.cfg.number = some g) : Steady s (doorOpens g s) := by
  have opened : Steady s (changeGate g.cfg.number (fun x =>
      { x with door := .opened, openedAt := some s.seconds, openedTime := s.dck.clock }) s) :=
    steady_gateCounts s fun _ => by simp
  have now := gate?_self g.cfg.number (fun x =>
      { x with door := .opened, openedAt := some s.seconds, openedTime := s.dck.clock }) s (fun _ => rfl) g h
  unfold doorOpens
  dsimp only
  split
  · next locked =>
    refine (opened.trans (steady_changeGate (by simp) (by simp) (by simp) fun x hx ok => ?_)).report _
    rw [now] at hx
    cases hx
    simpa [Gate.ok, locked] using ok
  · next released =>
    refine opened.trans (steady_changeGate (by simp) (by simp) (by simp) fun x hx ok => ?_)
    rw [now] at hx
    cases hx
    simp_all [Gate.ok]
  all_goals exact opened

theorem steady_doorCloses (g : Gate) {s : State} (h : s.gate? g.cfg.number = some g) : Steady s (doorCloses g s) := by
  have closed : Steady s (changeGate g.cfg.number (fun x =>
      { x with door := .closed, openedAt := none, openedTime := none }) s) :=
    steady_gateCounts s fun _ => by simp
  have now := gate?_self g.cfg.number (fun x =>
      { x with door := .closed, openedAt := none, openedTime := none }) s (fun _ => rfl) g h
  have locks {f : Gate → Gate} (cfg : ∀ x, (f x).cfg = x.cfg) (escort : ∀ x, (f x).escort = x.escort)
      (ajar : ∀ x, (f x).ajar = x.ajar) (ok : Gate.ok { g with door := .closed, openedAt := none, openedTime := none } →
        (f { g with door := .closed, openedAt := none, openedTime := none }).ok) :
      Steady s (changeGate g.cfg.number f (changeGate g.cfg.number (fun x =>
        { x with door := .closed, openedAt := none, openedTime := none }) s)) := by
    refine closed.trans (steady_changeGate cfg escort ajar fun x hx => ?_)
    rw [now] at hx
    cases hx
    exact ok
  unfold doorCloses
  dsimp only
  split
  · exact locks (by simp) (by simp) (by simp) (by simp_all [Gate.ok])
  · exact (locks (by simp) (by simp) (by simp) (by simp_all [Gate.ok])).report _
  · exact (locks (by simp) (by simp) (by simp) (by simp_all [Gate.ok])).report _
  all_goals exact closed

theorem steady_moveMode (g : Gate) (m : GateMode) {s : State} (h : s.gate? g.cfg.number = some g) :
    Steady s (moveMode g m s) := by
  have moved {f : Gate → Gate} (cfg : ∀ x, (f x).cfg = x.cfg) (escort : ∀ x, (f x).escort = x.escort)
      (ajar : ∀ x, (f x).ajar = x.ajar) (ok : g.ok → (f g).ok) : Steady s (changeGate g.cfg.number f s) :=
    steady_changeGate cfg escort ajar fun x hx => by
      rw [h] at hx
      cases hx
      exact ok
  unfold moveMode
  dsimp only
  split
  · exact (moved (by simp) (by simp) (by simp) (by simp_all [Gate.ok])).report _
  · split
    · split
      · exact (moved (by simp) (by simp) (by simp) (by simp_all [Gate.ok])).report _
      · exact (moved (by simp) (by simp) (by simp) (by simp_all [Gate.ok])).report _
    · exact (moved (by simp) (by simp) (by simp) (by simp_all [Gate.ok])).report _

theorem steady_doSetGateMode (n : Nat) (mode : Option GateMode) (s : State) : Steady s (doSetGateMode n mode s).1 := by
  unfold doSetGateMode
  split
  · exact .refl s
  · next g hg =>
    obtain rfl := gate?_number hg
    split
    · exact .refl s
    · split
      · exact .refl s
      · exact steady_moveMode g _ hg

theorem steady_doGateAck (n : Nat) (kind : NoticeKind) (s : State) : Steady s (doGateAck n kind s).1 := by
  have acked {f : Gate → Gate} (keeps : s.gatesOk → (changeGate n f s).gatesOk) (r : Report) :
      Steady s (report r (changeGate n f s)) := .reported bounded_changeGate keeps r
  unfold doGateAck
  split
  · exact .refl s
  · cases kind <;> dsimp only <;> split
    · exact .refl s
    · exact acked (gatesOk_notices (by simp) (by simp) (by simp) (by simp) (by simp) (by simp)) _
    · exact .refl s
    · exact acked (gatesOk_notices (by simp) (by simp) (by simp) (by simp) (by simp) (by simp)) _

theorem steady_pressExit (g : Gate) {s : State} (h : s.gate? g.cfg.number = some g) : Steady s (pressExit g s) := by
  unfold pressExit
  dsimp only
  split
  · next locked =>
    refine (steady_gateCounts s fun _ => by simp).trans (steady_releaseGate _ fun x hx => ?_)
    rw [gate?_self _ _ s (by simp) g h] at hx
    cases hx
    exact .inl locked
  · next released =>
    refine steady_releaseGate _ fun x hx => ?_
    rw [h] at hx
    cases hx
    exact .inr released
  all_goals exact .refl s

/-- Neither the gate records nor what the attention line reads of GTC is touched by the exit releases of CONFIG_FAULT. -/
theorem steady_faultReleases (s : State) (a b : Option Nat) :
    Steady s (s.setGtc { s.gtc with faultRelease1 := a, faultRelease2 := b }) :=
  ⟨fun h => ⟨h.journal, h.queue, h.requests, h.calls⟩, id, id⟩

theorem steady_pressFaultExit (n : Nat) (s : State) : Steady s (pressFaultExit n s) :=
  .ite (steady_faultReleases s _ _) (.ite (steady_faultReleases s _ _) (.refl s))

/-! ### ACU's lookups -/

theorem steady_deliver (t : Tag) (r : LookupResult) (reader : Reader) (s : State) : Steady s (deliver t r reader s) := by
  cases reader with
  | gate n => exact steady_deliverGate n t r s
  | pump n => exact steady_deliverPump n t r s

theorem steady_deliverAll (t : Tag) (r : LookupResult) (l : List Reader) (s : State) : Steady s (deliverAll t r l s) :=
  .foldl (fun x reader => (steady_setAcu _ x).trans (steady_deliver t r reader _)) l s

theorem steady_missLookup (t : Tag) (reader : Reader) (s : State) : Steady s (missLookup t reader s) := by
  have asked (d : Nat) (b : FrameBody) (o : Originator) (v : Acu) := (steady_setAcu v s).trans (steady_ask d b o _)
  unfold missLookup
  exact .ite (((asked _ _ _ _).trans (steady_setAcu _ _)).trans (steady_setAcu _ _))
    ((asked _ _ _ _).trans (steady_deliverAll _ _ _ _))

theorem steady_cacheStep (t : Tag) (reader : Reader) (s : State) : Steady s (cacheStep t reader s) := by
  unfold cacheStep
  split
  · exact steady_missLookup _ _ s
  · exact .ite ((steady_setAcu _ s).trans (steady_deliverAll _ _ _ _)) (.ite ((steady_setAcu _ s).trans (steady_deliverAll _ _ _ _))
      ((steady_setAcu _ s).trans (steady_missLookup _ _ _)))

theorem steady_present (reader : Reader) (t : Tag) (s : State) : Steady s (present reader t s) := by
  unfold present
  refine .ite (steady_setAcu _ s) (.ite (steady_setAcu _ s) ?_)
  split
  · exact steady_deliverAll _ _ _ s
  · exact steady_cacheStep _ _ s

theorem steady_requery (l : Lookup) (s : State) : Steady s (requery l s) := by
  unfold requery
  split
  · exact (steady_setAcu _ s).trans (steady_deliverAll _ _ _ _)
  · have asked := steady_ask 0 (.tagQuery l.tag) (.lookup l.tag) s
    exact .ite ((asked.trans (steady_setAcu _ _)).trans (steady_setAcu _ _))
      ((asked.trans (steady_setAcu _ _)).trans (steady_deliverAll _ _ _ _))

theorem steady_lookupAnswered (c : Credential) (d : Nat) (s : State) : Steady s (lookupAnswered c d s) := by
  have filled : Steady s (fillCache c d s) := .of_quiet (by simp [Quiet])
  unfold lookupAnswered
  split
  · exact .refl s
  · split
    · exact steady_requery _ s
    · exact (filled.trans (steady_setAcu _ _)).trans (steady_deliverAll _ _ _ _)
    · exact (steady_setAcu _ s).trans (steady_deliverAll _ _ _ _)

theorem steady_lookupTimedOut (t : Tag) (s : State) : Steady s (lookupTimedOut t s) := by
  unfold lookupTimedOut
  split
  · exact .refl s
  · exact (steady_setAcu _ s).trans (steady_deliverAll _ _ _ _)

theorem steady_doFlushCache (s : State) : Steady s (doFlushCache s).1 := (steady_setAcu _ s).report _

/-! ### The terminal's commands on outlets and taps -/

theorem steady_onNamedOutlet (kind : CmdKind) (n k : Nat) {f : Outlet → State → State × Reply}
    (h : ∀ o s, Steady s (f o s).1) (s : State) : Steady s (onNamedOutlet kind n k f s).1 := by
  unfold onNamedOutlet
  (repeat' split) <;> first | exact .refl s | exact h _ s

theorem steady_doEnergise (n k : Nat) (s : State) : Steady s (doEnergise n k s).1 := by
  refine steady_onNamedOutlet _ _ _ (fun o s => ?_) s
  cases o.state with
  | off =>
    dsimp only
    split <;> exact steady_requestOutlet o s
  | _ => exact .refl s

theorem steady_doOff (n k : Nat) (s : State) : Steady s (doOff n k s).1 := by
  refine steady_onNamedOutlet _ _ _ (fun o s => ?_) s
  cases o.state with
  | off | tripped => exact .refl s
  | _ => exact steady_switchOff o s

theorem steady_doResetOutlet (n k : Nat) (s : State) : Steady s (doResetOutlet n k s).1 := by
  refine steady_onNamedOutlet _ _ _ (fun o s => ?_) s
  cases o.state with
  | tripped =>
    dsimp only
    split
    · exact .refl s
    · exact steady_outletOff _ s
  | _ => exact .refl s

theorem steady_doClearLeak (n : Nat) (s : State) : Steady s (doClearLeak n s).1 := by
  unfold doClearLeak
  split
  · exact .refl s
  · split
    · exact .refl s
    · exact .ite ((steady_setPbc _ s).report _) (steady_setPbc _ s)

/-! ### The record store -/

theorem steady_setStore (v : Store) (s : State) : Steady s (s.setStore v) := .of_quiet (by simp [Quiet])

theorem steady_startWrite (retry : Bool) (s : State) : Steady s (startWrite retry s) := by
  unfold startWrite
  split
  · exact .refl s
  · exact steady_setBst _ s

theorem steady_breakSlot (id : RecordId) (s : State) : Steady s (breakSlot id s) := .of_quiet (by simp [Quiet])

theorem steady_writeDone (w : WriteInFlight) (s : State) : Steady s (writeDone w s) := by
  have stored (v : Bst) := (steady_setStore (storeRecord w.id w.copy s.store) s).trans (steady_setBst v _)
  exact .ite (((stored _).trans (steady_setBst _ _)).report _) (stored _)

theorem steady_writeFailed (w : WriteInFlight) (s : State) : Steady s (writeFailed w s) :=
  .ite ((steady_breakSlot w.id s).trans (steady_setBst _ _)) (((steady_breakSlot w.id s).trans (steady_setBst _ _)).report _)

theorem steady_sendReply (r : Reply) (s : State) : Steady s (sendReply r s) := steady_setTpc _ s

/-- CFL changes what the attention line does not read. -/
theorem steady_setCfl (v : Cfl) (s : State) (starting : v.starting = s.cfl.starting := by rfl)
    (load : v.load = s.cfl.load := by rfl) : Steady s (s.setCfl v) := .of_quiet (by simp [Quiet, starting, load])

theorem steady_imageDone (s : State) : Steady s (imageDone s) :=
  (((steady_setStore (writeRegion s.cfl.staged s.store) s).trans (steady_setCfl _ _)).report _).trans (steady_sendReply _ _)

theorem steady_imageFailed (s : State) : Steady s (imageFailed s) := by
  have broken : Steady s (breakImage s) := .of_quiet (by simp [Quiet])
  have ended : Steady s ((breakImage s).setCfl { s.cfl with phase := .idle }) :=
    broken.trans (steady_setCfl _ _ (by simp) (by simp))
  exact (ended.report _).trans (steady_sendReply _ _)

/-! ### The terminal port -/

theorem steady_doJournalAck (n : Nat) (s : State) : Steady s (doJournalAck n s).1 := by
  unfold doJournalAck
  split
  · exact .refl s
  · exact .ite (.refl s) (.looked (t := s.setEvj { s.evj with mark := n + 1 })
      (fun h => ⟨h.journal, h.queue, h.requests, h.calls⟩) id)

theorem steady_doReadStatements (sel : StatementSelector) (resume limit : Nat) (s : State) :
    Steady s (doReadStatements sel resume limit s).1 :=
  .of_quiet (by simp [Quiet])

theorem steady_doSetReplyLimit (n : Nat) (s : State) : Steady s (doSetReplyLimit n s).1 := .of_quiet (by simp [Quiet])

theorem steady_doConfigBegin (n : Nat) (s : State) : Steady s (doConfigBegin n s).1 := by
  unfold doConfigBegin
  split
  · exact .refl s
  · exact steady_setCfl _ s

theorem steady_doConfigData (n : Nat) (l : List Byte) (s : State) : Steady s (doConfigData n l s).1 := by
  unfold doConfigData
  dsimp only
  (repeat' split) <;> first | exact .refl s | exact steady_setCfl _ s

/-- What a terminal command does at this station by its own rule. -/
theorem steady_effect (limit : Nat) (c : TermCmd) (s : State) : Steady s (effect limit c s).1 := by
  cases c with
  | checkOut _ _ _ => exact steady_doCheckOut _ _ s
  | cancel _ _ _ => exact steady_doCancel _ _ s
  | extend _ _ _ _ => exact steady_doExtend _ _ _ s
  | setTags _ _ _ _ => exact steady_doSetTags _ _ _ s
  | credit _ _ _ _ => exact steady_doCredit _ _ _ s
  | bar _ _ _ => exact steady_doBarMark _ _ _ _ s
  | unbar _ _ _ => exact steady_doBarMark _ _ _ _ s
  | setMarks _ _ _ _ _ => exact steady_doSetMarks _ _ _ _ s
  | dropHold _ _ _ _ => exact steady_doDropHold _ _ _ s
  | allocate _ => exact steady_doAllocate _ s
  | energise _ _ _ => exact steady_doEnergise _ _ s
  | off _ _ _ => exact steady_doOff _ _ s
  | resetOutlet _ _ _ => exact steady_doResetOutlet _ _ s
  | clearLeak _ _ => exact steady_doClearLeak _ s
  | flushCache => exact steady_doFlushCache s
  | setGateMode _ _ _ => exact steady_doSetGateMode _ _ s
  | gateAck _ _ _ => exact steady_doGateAck _ _ s
  | directAuthorise _ _ _ => exact steady_doDirectAuthorise _ _ s
  | cancelSale _ _ => exact steady_doCancelSale _ s
  | writeOffSale _ _ _ => exact steady_doWriteOffSale _ _ s
  | setTime _ _ => exact steady_doSetTime _ _ s
  | selectTariff _ _ => exact steady_doSelectTariff _ s
  | readStatements _ _ => exact steady_doReadStatements _ _ _ s
  | setReplyLimit _ => exact steady_doSetReplyLimit _ s
  | journalAck _ => exact steady_doJournalAck _ s
  | writeConfigBegin _ => exact steady_doConfigBegin _ s
  | writeConfigData _ _ => exact steady_doConfigData _ _ s
  | _ => exact .of_quiet (by simp [Quiet, effect])

theorem steady_perform (limit : Nat) (c : TermCmd) (s : State) : Steady s (perform limit c s).1 := steady_effect limit c s

theorem steady_performHere (c : TermCmd) (s : State) : Steady s (performHere c s) :=
  (steady_perform s.tpc.limit c s).trans (steady_sendReply _ _)

theorem steady_forward (length station : Nat) (c : TermCmd) (s : State) : Steady s (forward length station c s) := by
  have asked (d : Nat) (b : FrameBody) (o : Originator) := steady_ask d b o s
  unfold forward
  exact .ite (steady_sendReply _ s)
    (.ite ((asked _ _ _).trans (steady_setTpc _ _)) ((asked _ _ _).trans (steady_sendReply _ _)))

theorem steady_ownRule (length : Nat) (c : TermCmd) (s : State) : Steady s (ownRule length c s) := by
  have here := steady_performHere c s
  unfold ownRule
  split
  · exact .ite here ((steady_setCfl _ _).trans (steady_setTpc _ _))
  · split
    · exact here
    · exact .ite here (.ite (steady_sendReply _ s) (.ite here (steady_forward _ _ c s)))

theorem steady_takeCommand (length : Nat) (c : TermCmd) (s : State) : Steady s (takeCommand length c s) :=
  .ite (steady_sendReply _ s) (.ite (steady_sendReply _ s) (steady_ownRule length c s))

theorem steady_terminalCommand (c : TermCmd) (s : State) : Steady s (terminalCommand c s) :=
  steady_event (f := fun s => if s.tpc.listens then takeCommand (Config.payloadBytes c) c s else
    discard (Config.payloadBytes c + 5) s) (.ite (steady_takeCommand _ c s) (steady_setTpc _ s))

theorem steady_takeFrame (l : List Byte) (s : State) : Steady s (takeFrame l s) := by
  unfold takeFrame
  dsimp only
  refine .ite (steady_sendReply _ s) (.ite (steady_sendReply _ s) ?_)
  split
  · exact steady_sendReply _ s
  · refine .ite (steady_sendReply _ s) ?_
    split
    · exact steady_sendReply _ s
    · exact .ite (steady_takeCommand _ _ s) (steady_sendReply _ s)

theorem steady_takeByte (b : Byte) (s : State) : Steady s (takeByte b s) := by
  unfold takeByte
  split
  · exact .ite (steady_setTpc _ s) (.refl s)
  · have joined (v : Tpc) := steady_setTpc v s
    exact .ite ((joined _).trans (steady_setTpc _ _)) (.ite ((joined _).trans (steady_takeFrame _ _)) (joined _))
  all_goals exact steady_setTpc _ s

theorem steady_onOfficeRequest (c : Channel) (n : Nat) (q : Num8) (x : OfficeCommand) (limit : Nat) (s : State) :
    Steady s (onOfficeRequest c n q x limit s) := by
  unfold onOfficeRequest
  split
  · exact steady_sendAnswer _ _ _ _ s
  · split
    · exact steady_sendAnswer _ _ _ _ s
    · exact ((steady_perform _ _ s).trans (steady_setTpc _ _)).trans (steady_sendAnswer _ _ _ _ _)

theorem steady_onOfficeAnswer (n : Nat) (q : Num8) (r : Reply) (s : State) : Steady s (onOfficeAnswer n q r s) :=
  steady_takeAnswer _ _ _ (fun _ s => steady_sendReply r s) s

theorem steady_officeTimedOut (s : State) : Steady s (officeTimedOut s) := by
  unfold officeTimedOut
  split
  · exact (steady_report _ s).trans (steady_sendReply _ _)
  · exact .refl s

/-! ### The link -/

theorem steady_handTimedOut (p : Pending) (s : State) : Steady s (handTimedOut p s) := by
  unfold handTimedOut
  cases p.originator with
  | call n => exact steady_takeTimedOut n s
  | lookup t => exact steady_lookupTimedOut t s
  | pumpSale id => exact steady_pumpTimedOut id s
  | unsettled id => exact steady_setFsc _ s
  | terminal => exact steady_officeTimedOut s

theorem steady_changePeer (n : Nat) (f : Peer → Peer) (s : State) : Steady s (changePeer n f s) :=
  .of_quiet (by simp [Quiet, changePeer])

theorem steady_onAnnounce (c : Channel) (n : Nat) (b : AnnounceBody) (s : State) : Steady s (onAnnounce c n b s) := by
  unfold onAnnounce
  split
  · exact .refl s
  · have heard {t : State} (h : Steady s t) (p : Prop) [Decidable p] (r : Report) :
        Steady s (if p then t else report r t) := .ite h (h.report r)
    have erred {t : State} (h : Steady s t) (p : Prop) [Decidable p] (r : Report) :
        Steady s (if p then report r t else t) := .ite (h.report r) h
    exact (erred (heard (steady_changePeer _ _ s) _ _) _ _).trans (steady_compute _ _)

theorem steady_refreshDeclared (s : State) : Steady s (refreshDeclared s) :=
  .ite ((steady_setLsu _ s).trans (steady_declare _ _)) (.refl s)

theorem steady_deliverFrame (c : Channel) (n : Nat) (q : Num8) (b : FrameBody) (s : State) :
    Steady s (deliverFrame c n q b s) := by
  cases b with
  | holdRequest _ _ _ _ => exact (steady_ownerHold _ _ _ _ s).trans (steady_sendAnswer _ _ _ _ _)
  | holdAnswer _ _ => exact steady_onHoldAnswer _ _ _ _ s
  | settleRequest _ _ _ => exact (steady_ownerSettle _ _ _ s).trans (steady_sendAnswer _ _ _ _ _)
  | settleAnswer _ _ => exact steady_onSettleAnswer _ _ _ _ s
  | tagQuery _ => exact steady_onTagQuery _ _ _ _ s
  | tagAnswer _ _ => exact steady_takeAnswer _ _ _ (fun _ s => steady_lookupAnswered _ _ s) s
  | tagRevoke _ _ => exact .of_quiet (by simp [Quiet, deliverFrame])
  | berthCall _ _ => exact steady_onBerthCall _ _ _ s
  | berthOffer _ _ _ => exact steady_onBerthOffer _ _ _ _ s
  | berthTake _ _ _ _ _ => exact steady_onBerthTake _ _ _ _ _ _ _ _ s
  | takeAnswer _ _ _ => exact steady_onTakeAnswer _ _ _ _ _ s
  | berthClose _ _ => exact steady_applyClose _ _ s
  | officeRequest _ _ => exact steady_onOfficeRequest _ _ _ _ _ s
  | officeAnswer _ => exact steady_onOfficeAnswer _ _ _ s
  | announce values =>
    cases values with
    | none => exact .refl s
    | some v => exact steady_onAnnounce _ _ _ s
  | timeNotice _ _ => exact steady_adoptTime _ _ _ s

theorem steady_takeWire (c : Channel) (l : List Byte) (s : State) : Steady s (takeWire c l s) := by
  unfold takeWire
  split
  · exact steady_onErrors _ s
  · exact (steady_heardOn c s).trans (steady_onErrors _ _)
  · have heard := steady_heardOn c s
    exact .ite (heard.report _) (.ite heard (.ite (heard.trans (steady_deliverFrame _ _ _ _ _)) heard))

end Sys2Proof.Machine
end

section
/-! SUPPORT. The buffers' sizes, the attention line and the gates' form through a load and through every command: the statements
about every step. -/

namespace Sys2Proof.Machine

/-! ### The load -/

/-- During a load the line is not asserted (R195). -/
theorem lineIsDue_starting {s : State} (h : s.cfl.starting = true) : s.lineIsDue ↔ s.evj.attention = false := by
  simp [State.lineIsDue, h]

/-- A change during a load. -/
def Loading (s t : State) : Prop := s.cfl.starting = true → t.cfl.starting = true ∧ Steady s t

theorem Loading.trans {s t u : State} (st : Loading s t) (tu : Loading t u) : Loading s u := fun h =>
  ⟨(tu (st h).1).1, (st h).2.trans (tu (st h).1).2⟩

theorem loading_of_steady {s t : State} (starting : t.cfl.starting = s.cfl.starting) (h : Steady s t) : Loading s t :=
  fun on => ⟨starting.trans on, h⟩

theorem startGate_ok (c : GateCfg) (d : Door) : (startGate c d).ok := by
  unfold startGate
  dsimp only
  split
  · next opened => simpa [Gate.ok] using opened
  · next other =>
    split <;> simpa [Gate.ok] using other

theorem loading_buildGates (s : State) : Loading s (buildGates s) := by
  have raised (l : List Gate) (u : State) : Loading u (l.foldl (fun x g => raiseAjar g x) u) :=
    foldl_rel (R := Loading) (fun u h => ⟨h, .refl u⟩) (fun _ _ _ => Loading.trans)
      (fun u g => loading_of_steady (by simp) (steady_raiseAjar g u)) l u
  have set : Loading s (s.setGtc { gates := ((sortBy (fun x y : GateCfg => x.number ≤ y.number) s.cfg.gates).map fun c =>
      startGate c (s.doorLine c.number)) }) := by
    refine fun on => ⟨on, fun h => ⟨h.journal, h.queue, h.requests, h.calls⟩, fun due => ?_, fun _ n g hg => ?_⟩
    · rw [lineIsDue_starting on] at due
      rw [lineIsDue_starting (by exact on)]
      exact due
    · obtain ⟨c, _, rfl⟩ := List.mem_map.1 (List.mem_of_find?_eq_some hg)
      exact startGate_ok _ _
  exact set.trans (raised _ _)

theorem loading_load : LoadClosed Loading where
  refl s on := ⟨on, .refl s⟩
  trans _ _ _ := Loading.trans
  report r s := loading_of_steady (by simp) (steady_report r s)
  bst s v _ _ := loading_of_steady rfl (steady_setBst v s)
  pbc s v := loading_of_steady rfl (steady_setPbc v s)
  acu s _ := loading_of_steady rfl (steady_setAcu _ s)
  fsc s v := loading_of_steady rfl (steady_setFsc v s)
  notices s v := loading_of_steady rfl (steady_setCfl _ s)
  waits n s := loading_of_steady (by simp) (steady_outletWaits n s)
  suspended n s := loading_of_steady (by simp) (steady_outletSuspended n s)
  settle s := loading_of_steady (by simp) (steady_settlePosts s)
  gates := loading_buildGates

theorem loading_reportClamp (c : Bool) (o v : Nat) (s : State) : Loading s (reportClamp c o v s) :=
  loading_of_steady (by simp) (.ite (steady_report _ s) (.refl s))

/-- The outcome of the load is not read by the line before the load has ended. -/
theorem loading_setLoad (l : LoadState) (s : State) : Loading s (s.setCfl { s.cfl with load := l }) := by
  refine fun on => ⟨on, fun h => ⟨h.journal, h.queue, h.requests, h.calls⟩, fun due => ?_, id⟩
  rw [lineIsDue_starting on] at due
  rw [lineIsDue_starting (by exact on)]
  exact due

theorem loading_handValues (body : List Byte) (read : Image) (s : State) : Loading s (handValues body read s) := by
  have clamped (c d : Bool) (o v p w : Nat) := (loading_reportClamp c o v s).trans (loading_reportClamp d p w _)
  have configured (u : State) (i : Image) : Loading u ((u.setCfg i).setCfl { (u.setCfg i).cfl with load := .accepted }) :=
    (loading_of_steady (s := u) (t := u.setCfg i) rfl (.of_quiet (by simp [Quiet]))).trans (loading_setLoad _ _)
  have filled (u : State) (b : Bst) (l : Lsu) (p : Qlc → List Peer) (d : Dck → Dck) :
      Loading u (((((u.setBst b).setLsu l).setQlc { ((u.setBst b).setLsu l).qlc with peers := p u.qlc })).setDck (d u.dck)) :=
    loading_of_steady rfl (.of_quiet (by simp [Quiet]))
  exact ((clamped _ _ _ _ _ _).trans (configured _ _)).trans (filled _ _ _ (fun _ => freshPeers read.clamped.station)
    fun x => { x with inForce := read.clamped.startSet })

theorem loading_loadImage (body : List Byte) (read : Image) (s : State) : Loading s (loadImage body read s) :=
  (loading_handValues body read s).trans (loading_load.load _)

/-- Everything is in its form after a reset, before the load. -/
theorem steady_cleared (cause : ResetCause) (s u : State) : Steady u (cleared cause s) := by
  refine ⟨fun _ => ?_, fun _ => (lineIsDue_starting rfl).2 rfl, fun _ n g h => ?_⟩
  · refine ⟨?_, ?_, ?_, ?_⟩ <;> simp [cleared, State.reset]
  · cases h

theorem steady_resetWith (cause : ResetCause) (ready : Bool) (s : State) : Steady s (resetWith cause ready s) := by
  have afresh := steady_cleared cause (cutWrites s) s
  have loaded {t : State} (h : Loading (cleared cause (cutWrites s)) t) : Steady s t := afresh.trans (h rfl).2
  unfold resetWith
  dsimp only
  split
  · split
    · exact loaded (loading_loadImage _ _ _)
    · exact loaded (loading_setLoad _ _)
  · exact loaded (loading_setLoad _ _)

/-- At the end of the load EVJ looks at the line. -/
theorem steady_endLoad (s : State) : Steady s (endLoad s) := by
  have notices (l : List (Nat × Nat × Standing × Standing)) (u : State) :
      Steady u (l.foldl (fun x n => notice n.1 n.2.1 n.2.2.1 n.2.2.2 x) u) := .foldl (fun x n => steady_notice _ _ _ _ x) l u
  unfold endLoad
  dsimp only
  split
  · have noticed := notices s.cfl.notices (s.setCfl { s.cfl with notices := [], starting := false })
    exact .reported (s := s) (fun h => noticed.bounded ⟨h.journal, h.queue, h.requests, h.calls⟩) noticed.gates _
  · exact .reported (s := s) (t := s.setCfl { s.cfl with notices := [], starting := false })
      (fun h => ⟨h.journal, h.queue, h.requests, h.calls⟩) id _

/-! ### The commands with a meaning of their own -/

theorem steady_ownGate (c : Instr) (s t : State) (h : exec c s = .next t)
    (gate : (∃ n, c = .exitButton n) ∨ (∃ n d, c = .doorSense n d) ∨ (∃ n, c = .releaseTimer n) ∨ (∃ n, c = .heldOpenTimer n) ∨
      ∃ n, c = .faultExitReleaseExpiry n) : Steady s t := by
  obtain ⟨n, rfl⟩ | ⟨n, d, rfl⟩ | ⟨n, rfl⟩ | ⟨n, rfl⟩ | ⟨n, rfl⟩ := gate
  · cases h
    split
    · next g hg =>
      obtain rfl := gate?_number hg
      exact steady_pressExit g hg
    · exact .ite (steady_pressFaultExit _ s) (.refl s)
  · cases h
    have sensed : Steady s (setDoorLine n d s) := .of_quiet (by simp [Quiet])
    split
    · exact sensed
    · next g hg =>
      obtain rfl := gate?_number hg
      refine .ite sensed ?_
      split
      · exact sensed.trans (steady_doorOpens g hg)
      · exact sensed.trans (steady_doorCloses g hg)
  · cases h
    split
    · exact .refl s
    · next t ht =>
      refine (steady_reach t s).trans (steady_changeGate (by simp) (by simp) (by simp) fun g hg ok => ?_)
      have released : g.releaseAt = some t := by
        rw [gate?_same s (reach t s) (by simp)] at hg
        simpa [hg] using ht
      simp_all [Gate.ok]
  · cases h
    split
    · exact .refl s
    · next g hg =>
      split
      · exact .refl s
      · next t ht =>
        refine ((steady_reach t s).trans (steady_changeGate (by simp) (by simp) (by simp) fun x hx ok => ?_)).trans
          (steady_raiseAjar _ _)
        rw [gate?_same s (reach t s) (by simp), hg] at hx
        cases hx
        simp_all [Gate.ok]
  · cases h
    have ended (t : Nat) (a b : Option Nat) :=
      (steady_reach t s).trans (steady_faultReleases (reach t s) a b)
    (repeat' split)
    · exact .refl s
    · exact ended _ none s.gtc.faultRelease2
    · exact .refl s
    · exact ended _ s.gtc.faultRelease1 none
    · exact .refl s

theorem steady_own (c : Instr) (s t : State) (own : ownMeaning c = true) (h : exec c s = .next t) : Steady s t := by
  cases c with
  | exitButton n => exact steady_ownGate _ s t h (.inl ⟨n, rfl⟩)
  | doorSense n d => exact steady_ownGate _ s t h (.inr (.inl ⟨n, d, rfl⟩))
  | releaseTimer n => exact steady_ownGate _ s t h (.inr (.inr (.inl ⟨n, rfl⟩)))
  | heldOpenTimer n => exact steady_ownGate _ s t h (.inr (.inr (.inr (.inl ⟨n, rfl⟩))))
  | faultExitReleaseExpiry n => exact steady_ownGate _ s t h (.inr (.inr (.inr (.inr ⟨n, rfl⟩))))
  | powerOnReset b =>
    cases h
    exact steady_resetWith _ _ s
  | replySent b =>
    obtain rfl | rfl | rfl := replySent_cases h
    · exact steady_resetWith _ _ s
    · exact steady_setTpc _ s
    · exact .refl _
  | frameGapTimeout =>
    cases h
    split
    · exact (steady_reach _ s).trans (steady_setTpc _ _)
    · exact .refl s
  | configWriteStart =>
    cases h
    exact .ite (steady_setCfl _ s) (.refl s)
  | configWriteEnd b =>
    cases h
    exact .ite (.ite (steady_imageDone s) (steady_imageFailed s)) (.refl s)
  | storeWriteStart =>
    cases h
    exact .ite (.refl s) (steady_startWrite _ s)
  | storeWriteEnd b =>
    cases h
    split
    · exact .refl s
    · exact .ite (steady_writeDone _ s) (steady_writeFailed _ s)
  | storeWriteTimeout =>
    cases h
    split
    · exact .refl s
    · exact (steady_reach _ s).trans (steady_writeFailed _ _)
  | storeRetryTimer =>
    cases h
    split
    · exact .refl s
    · have reached (t : Nat) (v : Bst) := (steady_reach t s).trans (steady_setBst v _)
      exact .ite (reached _ _) ((reached _ _).trans (steady_startWrite _ _))
  | presentation reader tag =>
    cases h
    have seen (f : CacheCounts → CacheCounts) : Steady s (onCounts f s) := steady_setAcu _ s
    exact .ite (.refl s) (.ite ((seen _).trans (steady_deliverAll _ _ _ _)) (.ite ((seen _).trans (steady_present _ _ _))
      (.refl s)))
  | tentativeExpiry n ref =>
    cases h
    refine .whenUp (fun s => ?_) s
    split
    · exact .refl s
    · exact (steady_reach _ s).trans (steady_dropTentative _ _ _ _)
  | holdMinuteTimer =>
    cases h
    exact .whenUp (fun s => (Steady.of_quiet (t := (reach s.minuteAt s).setMinuteAt (s.minuteAt + 60000))
      (by simp [Quiet])).trans (.foldl (fun x p => steady_event (steady_ageBooking _ _ x)) _ _)) s
  | windowExpiry n =>
    cases h
    refine steady_event (.whenUp (fun s => ?_) s)
    split
    · exact .refl s
    · exact .ite ((steady_reach _ s).trans (steady_takeNext _ _)) (.refl s)
  | computationTimer =>
    cases h
    exact .whenUp (fun s => steady_event (((steady_reach _ s).trans (steady_setLsu _ _)).trans (steady_compute _ _))) s
  | raiseTimer =>
    cases h
    refine .whenUp (fun s => steady_event ?_) s
    split
    · exact .refl s
    · exact (steady_reach _ s).trans (steady_setLsu _ _)
  | pollRoundTimer =>
    cases h
    refine .whenUp (fun s => ?_) s
    have begun (v : Pbc) := (steady_reach s.pbc.roundAt s).trans (steady_setPbc v _)
    exact .ite (begun _) ((begun _).trans (steady_nextPoll _))
  | postAnswer n a =>
    cases h
    refine .whenUp (fun s => ?_) s
    split
    · exact .refl s
    · refine .ite ?_ ((steady_event (steady_missPost _ s)).trans (steady_nextPoll _))
      split
      · exact (steady_takePostAnswer _ _ s).trans (steady_nextPoll _)
      · exact steady_nextPoll s
  | postMiss =>
    cases h
    refine .whenUp (fun s => ?_) s
    split
    · exact .refl s
    · exact (steady_event (steady_missPost _ s)).trans (steady_nextPoll _)
  | restTimer n =>
    cases h
    refine .whenUp (fun s => ?_) s
    split
    · exact .refl s
    · exact ((steady_reach _ s).trans (steady_setPbc _ _)).trans (steady_settlePosts _)
  | tapRunTimer n =>
    cases h
    refine .whenUp (fun s => ?_) s
    split
    · exact .refl s
    · exact (steady_reach _ s).trans (steady_moveTap _ _ _ _)
  | refusedLampExpiry m =>
    cases h
    refine .whenUp (fun s => ?_) s
    cases m <;> dsimp only <;> split <;>
      first | exact .refl s | exact (steady_reach _ s).trans (steady_setPbc _ _)
  | pumpPollTimer n =>
    cases h
    refine .whenUp (fun s => ?_) s
    split
    · exact .refl s
    · exact (steady_reach _ s).trans (steady_changePump _ _ _)
  | pumpAnswer n r =>
    cases h
    refine .whenUp (fun s => ?_) s
    (repeat' split) <;> first | exact .refl s | exact (steady_changePump _ _ s).trans (steady_pumpState _ _ _ _)
  | pumpMiss n =>
    cases h
    refine .whenUp (fun s => ?_) s
    split
    · exact .refl s
    · exact .ite (.refl s) (.ite ((steady_changePump _ _ s).trans (steady_enterFault _ _)) (steady_changePump _ _ s))
  | pumpRefusedDisplayExpiry n =>
    cases h
    refine .whenUp (fun s => ?_) s
    split
    · exact .refl s
    · exact (steady_reach _ s).trans (steady_changePump _ _ _)
  | readyTimer n =>
    cases h
    refine .whenUp (fun s => ?_) s
    split
    · exact .refl s
    · exact (steady_reach _ s).trans (steady_closeSale _ _)
  | saleRetryTimer =>
    cases h
    refine .whenUp (fun s => ?_) s
    split
    · exact .refl s
    · exact ((steady_reach _ s).trans (steady_retryWalk _ _)).trans (steady_setFsc _ _)
  | clockSecond =>
    cases h
    refine steady_event (.whenUp (fun s => ?_) s)
    split
    · exact .refl s
    · exact steady_advance _ s
  | silenceTimer c =>
    cases h
    refine .whenUp (fun s => ?_) s
    have silent (f : Line → Line) := (steady_reach (s.qlc.line c).silenceAt s).trans (steady_onLine c f _)
    exact .ite (.refl s) (.ite ((silent _).trans (steady_channelDown _ _ _)) (silent _))
  | transmitStart c =>
    cases h
    exact .whenUp (steady_beginSending c) s
  | transmitComplete c =>
    cases h
    exact .whenUp (steady_endSending c) s
  | arbitrationLost c =>
    cases h
    exact .whenUp (fun s => (steady_yieldAnnounce c s).trans (steady_onLine c _ _)) s
  | transmitFault c =>
    cases h
    refine .whenUp (fun s => ?_) s
    split
    · exact (steady_yieldAnnounce c s).trans (steady_sendingFault c _ _)
    · exact .refl s
  | mediumBusyTimeout c =>
    cases h
    refine .whenUp (fun s => .ite (.refl s) ?_) s
    split
    · exact steady_sendingFault c _ s
    · exact .refl s
  | responseTimeout q =>
    cases h
    refine steady_event (.whenUp (fun s => ?_) s)
    (repeat' split) <;> first
      | exact .refl s
      | exact (steady_reach _ s).trans (steady_deadlineCome _ steady_handTimedOut _)
  | attemptDrop q =>
    cases h
    refine .whenUp (fun s => ?_) s
    split
    · next p _ =>
      have withdrawn (u : State) : Steady u (u.setQlc { u.qlc with queue := u.qlc.queue.filter fun e => p.entry != some e.id }) :=
        .of_quiet (by simp [Quiet, List.length_filter_le])
      exact ((steady_reach _ s).trans (withdrawn _)).trans (steady_onRequest _ _ _)
    · exact steady_dropLeftover q s
  | announceTimer =>
    cases h
    refine steady_event (.whenUp (fun s => ?_) s)
    have restarted : Steady s ((reach s.qlc.announceAt s).setQlc { (reach s.qlc.announceAt s).qlc with
        announceAt := s.qlc.announceAt + 1000 }) := .of_quiet (by simp [Quiet])
    exact .ite restarted ((restarted.trans (steady_refreshDeclared _)).trans (steady_generateAnnounce _))
  | stalenessTimer n =>
    cases h
    refine steady_event (.whenUp (fun s => ?_) s)
    (repeat' split) <;> first
      | exact .refl s
      | exact (((steady_reach _ s).trans (steady_changePeer _ _ _)).report _).trans (steady_compute _ _)
  | terminalByte b =>
    cases h
    exact steady_event (steady_takeByte b s)
  | quaylineFrameDropped c l =>
    cases h
    exact steady_event (.whenUp (steady_takeWire c l) s)
  | loadEnd =>
    cases h
    exact .ite (steady_event (steady_endLoad s)) (.refl s)
  | _ => cases own

/-! ### The statements -/

theorem exec_steady (c : Instr) (s t : State) (h : exec c s = .next t) : Steady s t :=
  exec_cases (P := fun _ => Steady) (fun _ x s _ => steady_terminalCommand x s)
    (fun _ _ _ _ _ s _ => steady_event (steady_receive (steady_deliverFrame _ _ _ _) s)) steady_own c s t h

/-- Settles O57: every command keeps the sizes and looks after the line, and so does a millisecond that passes. -/
theorem buffersStayBounded : Obligations.BuffersStayBounded :=
  ⟨fun _ _ hs h => step_keeps (P := State.Bounded) (fun s v => (steady_setPending v s).bounded)
      (fun s v => (steady_setNow v s).bounded) (fun c s t e => (exec_steady c s t e).bounded) hs h,
    fun _ _ hs h => step_keeps (P := State.lineIsDue) (fun s v => (steady_setPending v s).line)
      (fun s v => (steady_setNow v s).line) (fun c s t e => (exec_steady c s t e).line) hs h⟩

/-- Settles O59: every command keeps the form of every gate, and so does a millisecond that passes. -/
theorem gatesKeepTheirForm : Obligations.GatesKeepTheirForm := fun _ _ hs h =>
  step_keeps (P := State.gatesOk) (fun s v => (steady_setPending v s).gates) (fun s v => (steady_setNow v s).gates)
    (fun c s t e => (exec_steady c s t e).gates) hs h

end Sys2Proof.Machine
end

section
/-! SUPPORT. The committed load through every command (R76, R100): an event ends within the applied allotment, and what is not an
event leaves the claims and the allotment. -/

namespace Sys2Proof.Machine

/-! ### What ends within the allotment -/

theorem settlePosts_fits (s : State) : (settlePosts s).fits := settleRounds_within _ s

/-- An event ends within the allotment, whatever it did. -/
theorem event_fits (f : State → State) (s : State) : (event f s).fits := by
  unfold event settled
  split
  · next within =>
    simp only [Bool.and_eq_true, decide_eq_true_eq] at within
    exact within.1.1.1
  · exact settlePosts_fits _

/-! ### What leaves the claims and the allotment -/

/-- The claims read the outlets and which posts are OFFLINE. -/
theorem committed_congr {p q : Pbc} (outlets : q.outlets = p.outlets) (offline : ∀ n, q.postOffline n = p.postOffline n) :
    q.committed = p.committed := by
  have claim (o : Outlet) : q.claim o = p.claim o := by simp only [Pbc.claim, offline]
  unfold Pbc.committed
  rw [outlets, funext claim]

theorem fits_congr {s t : State} (outlets : t.pbc.outlets = s.pbc.outlets) (posts : t.pbc.posts = s.pbc.posts)
    (lsu : t.lsu.applied = s.lsu.applied) (h : s.fits) : t.fits := by
  unfold State.fits at *
  rw [committed_congr outlets (fun n => by simp only [Pbc.postOffline, posts]), lsu]
  exact h

theorem fits_same {s t : State} (pbc : t.pbc = s.pbc) (lsu : t.lsu = s.lsu) (h : s.fits) : t.fits := by
  unfold State.fits at *
  rw [pbc, lsu]
  exact h

theorem whenUp_fits {f : State → State} (h : ∀ s, s.fits → (f s).fits) {s : State} (hs : s.fits) : (whenUp f s).fits :=
  whenUp_keeps (fun x => x.fits) f h s hs

/-- A claim reads an outlet's state, rating, post and smoothed current. -/
theorem committed_updWhere (p : Pbc) (q : Outlet → Bool) {f : Outlet → Outlet} (claim : ∀ o, p.claim (f o) = p.claim o) :
    ((updWhere q f p.outlets).map p.claim).sum = p.committed := by
  unfold Pbc.committed updWhere
  rw [List.map_map]
  congr 2
  funext o
  dsimp only [Function.comp]
  split
  · exact claim o
  · rfl

/-- A change of an outlet that its claim does not read. -/
theorem fits_patchOutlet {n : Nat} {f : Outlet → Outlet} {s : State} (claim : ∀ o, s.pbc.claim (f o) = s.pbc.claim o)
    (h : s.fits) : (patchOutlet n f s).fits :=
  le_of_eq_of_le (committed_updWhere s.pbc _ claim) h

theorem fits_changeTap (n : Nat) (f : Tap → Tap) (s : State) (h : s.fits) : (changeTap n f s).fits :=
  fits_congr (s := s) rfl rfl rfl h

/-- A change of a post that leaves its state and number leaves the claims. -/
theorem fits_changePost {n : Nat} {f : Post → Post} {s : State} (cfg : ∀ p, (f p).cfg = p.cfg) (state : ∀ p, (f p).state = p.state)
    (h : s.fits) : (changePost n f s).fits := by
  have offline (m : Nat) : (changePost n f s).pbc.postOffline m = s.pbc.postOffline m := by
    simp only [Pbc.postOffline, changePost, State.setPbc_pbc, updWhere, List.any_map]
    congr 1
    funext p
    dsimp only [Function.comp]
    split <;> simp [cfg, state]
  exact le_of_eq_of_le (committed_congr (p := s.pbc) rfl offline) h

theorem nextPoll_fits {s : State} (h : s.fits) : (nextPoll s).fits := by
  unfold nextPoll
  split
  · unfold firstRoundDone
    split
    · exact fits_congr (s := s) rfl rfl rfl h
    · apply event_fits
  · split <;> exact fits_congr (s := s) rfl rfl rfl h

/-! ### A reset -/

/-- PBC and LSU are as they were. -/
def PostsStay (s t : State) : Prop := t.pbc = s.pbc ∧ t.lsu = s.lsu

theorem PostsStay.trans {s t u : State} (st : PostsStay s t) (tu : PostsStay t u) : PostsStay s u :=
  ⟨tu.1.trans st.1, tu.2.trans st.2⟩

theorem postsStay_foldl {α : Type} {f : State → α → State} (h : ∀ s a, PostsStay s (f s a)) (l : List α) (s : State) :
    PostsStay s (l.foldl f s) := foldl_rel (R := PostsStay) (fun _ => ⟨rfl, rfl⟩) (fun _ _ _ => .trans) h l s

theorem postsStay_setFsc (v : Fsc) (s : State) : PostsStay s (s.setFsc v) := ⟨rfl, rfl⟩

theorem postsStay_setGtc (v : Gtc) (s : State) : PostsStay s (s.setGtc v) := ⟨rfl, rfl⟩

theorem postsStay_raiseAjar (g : Gate) (s : State) : PostsStay s (raiseAjar g s) := by simp [PostsStay]

theorem postsStay_pinTag (p : PinCfg) (s : State) : PostsStay s (pinTag p s) := by simp [PostsStay]

theorem postsStay_loseRecord (id : RecordId) (b : Option Nat) (s : State) : PostsStay s (loseRecord id b s) := by
  simp [PostsStay, loseRecord]

theorem postsStay_loadListSlot (n : Nat) (s : State) : PostsStay s (loadListSlot n s) := by
  unfold loadListSlot
  split
  · exact ⟨rfl, rfl⟩
  · exact postsStay_loseRecord _ _ s
  · split
    · exact postsStay_loseRecord _ _ s
    · exact ⟨rfl, rfl⟩

theorem postsStay_loadPumpSlot (n : Nat) (s : State) : PostsStay s (loadPumpSlot n s) := by
  unfold loadPumpSlot
  dsimp only
  (repeat' split) <;> simp [PostsStay, loseRecord]

theorem postsStay_buildPumps (s : State) : PostsStay s (buildPumps s) := by
  unfold buildPumps
  split
  · have listed (v : Fsc) := (postsStay_setFsc v s).trans (postsStay_foldl (fun x i => postsStay_loadListSlot (i + 5) x) (List.range 16) _)
    have timed (v w : Fsc) := (listed v).trans (postsStay_setFsc w _)
    have pumps (v w : Fsc) (l : List Nat) := (timed v w).trans (postsStay_foldl (fun x n => postsStay_loadPumpSlot n x) l _)
    refine (pumps _ _ _).trans (postsStay_foldl (fun x n => ?_) _ _)
    split
    · exact postsStay_loseRecord _ _ x
    · exact ⟨rfl, rfl⟩
  · exact ⟨rfl, rfl⟩

theorem postsStay_buildGates (s : State) : PostsStay s (buildGates s) := by
  unfold buildGates
  exact (postsStay_setGtc _ s).trans (postsStay_foldl (fun x g => postsStay_raiseAjar g x) _ _)

/-- The last block of a load that claims anything settles it. -/
theorem loadImage_fits (body : List Byte) (read : Image) (s : State) : (loadImage body read s).fits := by
  have built (u : State) : (buildPosts u).fits := by
    unfold buildPosts
    apply settlePosts_fits
  have rest (u : State) : PostsStay u (buildPumps (buildGates (u.cfg.pins.foldl (fun x p => pinTag p x) u))) :=
    ((postsStay_foldl (fun x p => postsStay_pinTag p x) _ u).trans (postsStay_buildGates _)).trans (postsStay_buildPumps _)
  obtain ⟨pbc, lsu⟩ := rest (buildPosts (reloadPurses (loadRecords (handValues body read s))))
  rw [loadImage]
  exact fits_same pbc lsu (built _)

theorem resetWith_fits (cause : ResetCause) (ready : Bool) (s : State) : (resetWith cause ready s).fits := by
  have empty (u : State) (l : LoadState) : ((cleared cause u).setCfl { (cleared cause u).cfl with load := l }).fits :=
    Nat.zero_le _
  unfold resetWith
  dsimp only
  split
  · split
    · exact loadImage_fits _ _ _
    · exact empty _ _
  · exact empty _ _

/-! ### Every command -/

theorem own_fits (c : Instr) (s t : State) (own : ownMeaning c = true) (h : exec c s = .next t) (hs : s.fits) : t.fits := by
  cases c with
  | powerOnReset b =>
    cases h
    exact resetWith_fits _ _ s
  | replySent b =>
    obtain rfl | rfl | rfl := replySent_cases h
    · exact resetWith_fits _ _ s
    · exact hs
    · exact hs
  | pollRoundTimer =>
    cases h
    refine whenUp_fits (fun s hs => ?_) hs
    have begun (v : Nat) (l : List Nat) : ((reach s.pbc.roundAt s).setPbc { (reach s.pbc.roundAt s).pbc with
        roundAt := v, toPoll := l }).fits := fits_congr (s := s) (by simp) (by simp) (by simp) hs
    dsimp only
    split
    · exact begun _ _
    · exact nextPoll_fits (begun _ _)
  | postAnswer n a =>
    cases h
    refine whenUp_fits (fun s hs => ?_) hs
    split
    · exact hs
    · split
      · split
        · exact nextPoll_fits (fits_changePost (fun _ => rfl) (fun _ => rfl) (settlePosts_fits _))
        · exact nextPoll_fits hs
      · exact nextPoll_fits (event_fits _ _)
  | postMiss =>
    cases h
    refine whenUp_fits (fun s hs => ?_) hs
    split
    · exact hs
    · exact nextPoll_fits (event_fits _ _)
  | restTimer n =>
    cases h
    refine whenUp_fits (fun s hs => ?_) hs
    split
    · exact hs
    · exact settlePosts_fits _
  | tapRunTimer n =>
    cases h
    refine whenUp_fits (fun s hs => ?_) hs
    split
    · exact hs
    · exact fits_changeTap _ _ _ (fits_same (by simp) (by simp) hs)
  | refusedLampExpiry m =>
    cases h
    refine whenUp_fits (fun s hs => ?_) hs
    have reached (d : Nat) : (reach d s).fits := fits_same (by simp) (by simp) hs
    cases m with
    | outlet n =>
      dsimp only
      split
      · exact hs
      · exact fits_patchOutlet (fun _ => rfl) (reached _)
    | tap n =>
      dsimp only
      split
      · exact hs
      · exact fits_changeTap _ _ _ (reached _)
  | holdMinuteTimer =>
    cases h
    refine whenUp_fits (fun s hs => ?_) hs
    exact foldl_keeps (fun x => x.fits) _ (fun x p _ => event_fits _ x) _ _ (fits_same (by simp) (by simp) hs)
  | computationTimer | raiseTimer =>
    cases h
    exact whenUp_fits (fun s _ => event_fits _ s) hs
  | windowExpiry _ | clockSecond | responseTimeout _ | announceTimer | stalenessTimer _ | terminalByte _
  | quaylineFrameDropped _ _ =>
    cases h
    exact event_fits _ s
  | loadEnd =>
    cases h
    split
    · exact event_fits _ s
    · exact hs
  | attemptDrop q =>
    cases h
    refine whenUp_fits (fun s hs => ?_) hs
    split
    · exact fits_same (by simp) (by simp) hs
    · unfold dropLeftover
      split
      · exact fits_same (by simp) (by simp) hs
      · exact hs
  | silenceTimer c =>
    cases h
    refine whenUp_fits (fun s hs => ?_) hs
    dsimp only
    (repeat' split) <;> exact fits_same (by simp) (by simp) hs
  | storeRetryTimer =>
    cases h
    dsimp only
    (repeat' split) <;> exact fits_same (by simp) (by simp) hs
  | storeWriteEnd _ | storeWriteTimeout | configWriteEnd _ | frameGapTimeout | configWriteStart
  | storeWriteStart | presentation _ _ | exitButton _ | doorSense _ _ | releaseTimer _ | heldOpenTimer _
  | faultExitReleaseExpiry _ =>
    cases h
    (repeat' split) <;> exact fits_same (by simp) (by simp) hs
  | tentativeExpiry _ _ | pumpPollTimer _ | pumpAnswer _ _ | pumpMiss _ | pumpRefusedDisplayExpiry _ | readyTimer _
  | saleRetryTimer | transmitStart _ | transmitComplete _ | arbitrationLost _ | transmitFault _ | mediumBusyTimeout _ =>
    cases h
    refine whenUp_fits (fun s hs => ?_) hs
    (repeat' split) <;> exact fits_same (by simp) (by simp) hs
  | _ => cases own

theorem exec_fits (c : Instr) (s t : State) (h : exec c s = .next t) (hs : s.fits) : t.fits :=
  exec_cases (P := fun _ s t => s.fits → t.fits) (fun _ _ s _ _ => event_fits _ s) (fun _ _ _ _ _ s _ _ => event_fits _ s)
    own_fits c s t h hs

/-- Settles O58: every command ends within the allotment, by the end of its event or because it leaves the claims. -/
theorem committedLoadStaysWithinAllotment : Obligations.CommittedLoadStaysWithinAllotment := fun _ _ hs h =>
  step_keeps (P := State.fits) (fun _ _ h => h) (fun _ _ h => h) exec_fits hs h

end Sys2Proof.Machine
end

section
/-! SUPPORT. The station after a power-on reset with an empty record store meets the invariants. -/

namespace Sys2Proof.Machine

theorem reset_bounded : State.reset.Bounded := by
  refine ⟨?_, ?_, ?_, ?_⟩ <;> simp [State.reset]

/-- Without gates and berths nothing is out of its form. -/
theorem reset_gatesOk : State.reset.gatesOk := fun _ _ h => by cases h

theorem reset_bookingsOk : State.reset.bookingsOk :=
  ⟨Nat.zero_le _, .nil, (fun _ h => by cases h), ⟨le_rfl, by decide⟩, (fun _ h => by cases h), .nil⟩

theorem reset_listsOk : State.reset.listsOk := fun _ h => by cases h

/-- Settles O60, invariant by invariant. -/
theorem resetMeetsTheInvariants : Obligations.ResetMeetsTheInvariants :=
  ⟨reset_store_wf, reset_bounded, Nat.zero_le _, reset_gatesOk, reset_bookingsOk, reset_listsOk,
    (lineIsDue_starting rfl).2 rfl, ⟨rfl, rfl, rfl, rfl, rfl, rfl, rfl, rfl, rfl, rfl, rfl, rfl, rfl, rfl, rfl⟩, rfl, rfl, rfl⟩

end Sys2Proof.Machine
end

section
/-! SUPPORT. The operations that leave the berth table and the next serial: they queue records at most. -/

namespace Sys2Proof.Machine

/-! ### The write queue -/

@[simp] theorem queueSlots_shelf (l : List Nat) (s : State) :
    (queueSlots l s).bst.berths = s.bst.berths ∧ (queueSlots l s).bst.nextSerial = s.bst.nextSerial := by
  unfold queueSlots
  exact ⟨foldl_same (fun x => x.bst.berths) _ (fun _ _ => by simp) _ _,
    foldl_same (fun x => x.bst.nextSerial) _ (fun _ _ => by simp) _ _⟩

/-! ### FSC -/

@[simp] theorem changeSale_shelf (n : Nat) (f : Sale → Sale) (s : State) :
    (changeSale n f s).bst.berths = s.bst.berths ∧ (changeSale n f s).bst.nextSerial = s.bst.nextSerial := by
  simp [changeSale]

@[simp] theorem leavePump_shelf (n : Nat) (f : Sale → Sale) (s : State) :
    (leavePump n f s).bst.berths = s.bst.berths ∧ (leavePump n f s).bst.nextSerial = s.bst.nextSerial := by
  simp [leavePump]

@[simp] theorem refuseSale_shelf (n : Nat) (x : Sale) (r : SaleRefusal) (s : State) :
    (refuseSale n x r s).bst.berths = s.bst.berths ∧ (refuseSale n x r s).bst.nextSerial = s.bst.nextSerial := by
  simp [refuseSale]

@[simp] theorem closeSale_shelf (n : Nat) (s : State) :
    (closeSale n s).bst.berths = s.bst.berths ∧ (closeSale n s).bst.nextSerial = s.bst.nextSerial := by
  simp [closeSale]

@[simp] theorem enterReady_shelf (n g : Nat) (s : State) :
    (enterReady n g s).bst.berths = s.bst.berths ∧ (enterReady n g s).bst.nextSerial = s.bst.nextSerial := by
  unfold enterReady
  dsimp only
  (repeat' split) <;> simp

@[simp] theorem toList_shelf (n : Nat) (s : State) :
    (toList n s).bst.berths = s.bst.berths ∧ (toList n s).bst.nextSerial = s.bst.nextSerial := by
  unfold toList
  dsimp only
  (repeat' split) <;> simp

@[simp] theorem leaveList_shelf (id : HoldId) (o : SaleOutcome) (s : State) :
    (leaveList id o s).bst.berths = s.bst.berths ∧ (leaveList id o s).bst.nextSerial = s.bst.nextSerial := by
  unfold leaveList
  dsimp only
  (repeat' split) <;> simp

@[simp] theorem endReading_shelf (n : Nat) (t : Totaliser) (s : State) :
    (endReading n t s).bst.berths = s.bst.berths ∧ (endReading n t s).bst.nextSerial = s.bst.nextSerial := by
  unfold endReading
  dsimp only
  (repeat' split) <;> simp

@[simp] theorem holdResult_shelf (id : HoldId) (r : HoldResult) (s : State) :
    (holdResult id r s).bst.berths = s.bst.berths ∧ (holdResult id r s).bst.nextSerial = s.bst.nextSerial := by
  unfold holdResult
  (repeat' split) <;> simp

@[simp] theorem pumpSettled_shelf (id : HoldId) (r : SettleResult) (s : State) :
    (pumpSettled id r s).bst.berths = s.bst.berths ∧ (pumpSettled id r s).bst.nextSerial = s.bst.nextSerial := by
  unfold pumpSettled
  (repeat' split) <;> simp

@[simp] theorem listSettled_shelf (id : HoldId) (r : SettleResult) (s : State) :
    (listSettled id r s).bst.berths = s.bst.berths ∧ (listSettled id r s).bst.nextSerial = s.bst.nextSerial := by
  unfold listSettled
  (repeat' split) <;> simp

@[simp] theorem pumpTimedOut_shelf (id : HoldId) (s : State) :
    (pumpTimedOut id s).bst.berths = s.bst.berths ∧ (pumpTimedOut id s).bst.nextSerial = s.bst.nextSerial := by
  unfold pumpTimedOut
  (repeat' split) <;> simp

@[simp] theorem beginSale_shelf (p : Pump) (t : Tag) (c : Credential) (s : State) :
    (beginSale p t c s).bst.berths = s.bst.berths ∧ (beginSale p t c s).bst.nextSerial = s.bst.nextSerial := by
  unfold beginSale
  dsimp only
  (repeat' split) <;> simp

@[simp] theorem deliverPump_shelf (n : Nat) (t : Tag) (r : LookupResult) (s : State) :
    (deliverPump n t r s).bst.berths = s.bst.berths ∧ (deliverPump n t r s).bst.nextSerial = s.bst.nextSerial := by
  unfold deliverPump
  (repeat' split) <;> simp

@[simp] theorem leaveFault_shelf (p : Pump) (r : PumpReading) (s : State) :
    (leaveFault p r s).bst.berths = s.bst.berths ∧ (leaveFault p r s).bst.nextSerial = s.bst.nextSerial := by
  unfold leaveFault
  dsimp only
  (repeat' split) <;> simp

@[simp] theorem pumpState_shelf (p : Pump) (c : PumpCommand) (r : PumpReading) (s : State) :
    (pumpState p c r s).bst.berths = s.bst.berths ∧ (pumpState p c r s).bst.nextSerial = s.bst.nextSerial := by
  unfold pumpState
  dsimp only
  (repeat' split) <;> simp

@[simp] theorem enterFault_shelf (p : Pump) (s : State) :
    (enterFault p s).bst.berths = s.bst.berths ∧ (enterFault p s).bst.nextSerial = s.bst.nextSerial := by
  unfold enterFault
  dsimp only
  (repeat' split) <;> simp

@[simp] theorem doDirectAuthorise_shelf (n a : Nat) (s : State) :
    (doDirectAuthorise n a s).1.bst.berths = s.bst.berths ∧ (doDirectAuthorise n a s).1.bst.nextSerial = s.bst.nextSerial := by
  unfold doDirectAuthorise
  dsimp only
  (repeat' split) <;> simp

@[simp] theorem doCancelSale_shelf (n : Nat) (s : State) :
    (doCancelSale n s).1.bst.berths = s.bst.berths ∧ (doCancelSale n s).1.bst.nextSerial = s.bst.nextSerial := by
  unfold doCancelSale
  (repeat' split) <;> simp

@[simp] theorem doWriteOffSale_shelf (n : Nat) (k : Num8) (s : State) :
    (doWriteOffSale n k s).1.bst.berths = s.bst.berths ∧ (doWriteOffSale n k s).1.bst.nextSerial = s.bst.nextSerial := by
  unfold doWriteOffSale
  (repeat' split) <;> simp

@[simp] theorem retryWalk_shelf (l : List HoldId) (s : State) :
    (retryWalk l s).bst.berths = s.bst.berths ∧ (retryWalk l s).bst.nextSerial = s.bst.nextSerial := by
  induction l generalizing s with
  | nil => exact ⟨rfl, rfl⟩
  | cons id rest ih =>
    unfold retryWalk
    dsimp only
    (repeat' split) <;> simp [ih]

/-! ### ACU -/

@[simp] theorem deliver_shelf (t : Tag) (r : LookupResult) (reader : Reader) (s : State) :
    (deliver t r reader s).bst.berths = s.bst.berths ∧ (deliver t r reader s).bst.nextSerial = s.bst.nextSerial := by
  unfold deliver
  (repeat' split) <;> simp

@[simp] theorem deliverAll_shelf (t : Tag) (r : LookupResult) (l : List Reader) (s : State) :
    (deliverAll t r l s).bst.berths = s.bst.berths ∧ (deliverAll t r l s).bst.nextSerial = s.bst.nextSerial := by
  unfold deliverAll
  exact ⟨foldl_same (fun x => x.bst.berths) _ (fun _ _ => by simp) _ _,
    foldl_same (fun x => x.bst.nextSerial) _ (fun _ _ => by simp) _ _⟩

@[simp] theorem missLookup_shelf (t : Tag) (reader : Reader) (s : State) :
    (missLookup t reader s).bst.berths = s.bst.berths ∧ (missLookup t reader s).bst.nextSerial = s.bst.nextSerial := by
  unfold missLookup
  dsimp only
  (repeat' split) <;> simp

@[simp] theorem cacheStep_shelf (t : Tag) (reader : Reader) (s : State) :
    (cacheStep t reader s).bst.berths = s.bst.berths ∧ (cacheStep t reader s).bst.nextSerial = s.bst.nextSerial := by
  unfold cacheStep
  (repeat' split) <;> simp

@[simp] theorem present_shelf (reader : Reader) (t : Tag) (s : State) :
    (present reader t s).bst.berths = s.bst.berths ∧ (present reader t s).bst.nextSerial = s.bst.nextSerial := by
  unfold present
  (repeat' split) <;> simp

@[simp] theorem requery_shelf (l : Lookup) (s : State) :
    (requery l s).bst.berths = s.bst.berths ∧ (requery l s).bst.nextSerial = s.bst.nextSerial := by
  unfold requery
  dsimp only
  (repeat' split) <;> simp

@[simp] theorem lookupAnswered_shelf (c : Credential) (d : Nat) (s : State) :
    (lookupAnswered c d s).bst.berths = s.bst.berths ∧ (lookupAnswered c d s).bst.nextSerial = s.bst.nextSerial := by
  unfold lookupAnswered
  (repeat' split) <;> simp

@[simp] theorem lookupTimedOut_shelf (t : Tag) (s : State) :
    (lookupTimedOut t s).bst.berths = s.bst.berths ∧ (lookupTimedOut t s).bst.nextSerial = s.bst.nextSerial := by
  unfold lookupTimedOut
  (repeat' split) <;> simp

/-! ### The record store and the statements -/

@[simp] theorem startWrite_shelf (retry : Bool) (s : State) :
    (startWrite retry s).bst.berths = s.bst.berths ∧ (startWrite retry s).bst.nextSerial = s.bst.nextSerial := by
  unfold startWrite
  dsimp only
  (repeat' split) <;> simp

@[simp] theorem writeDone_shelf (w : WriteInFlight) (s : State) :
    (writeDone w s).bst.berths = s.bst.berths ∧ (writeDone w s).bst.nextSerial = s.bst.nextSerial := by
  unfold writeDone
  dsimp only
  (repeat' split) <;> simp

@[simp] theorem writeFailed_shelf (w : WriteInFlight) (s : State) :
    (writeFailed w s).bst.berths = s.bst.berths ∧ (writeFailed w s).bst.nextSerial = s.bst.nextSerial := by
  unfold writeFailed
  dsimp only
  (repeat' split) <;> simp

@[simp] theorem addStatement_shelf (n : Nat) (k : EndKind) (b : Booking) (s : State) :
    (addStatement n k b s).bst.berths = s.bst.berths ∧ (addStatement n k b s).bst.nextSerial = s.bst.nextSerial := by
  unfold addStatement
  dsimp only
  (repeat' split) <;> simp

@[simp] theorem markRead_shelf (n : Nat) (s : State) :
    (markRead n s).bst.berths = s.bst.berths ∧ (markRead n s).bst.nextSerial = s.bst.nextSerial := by
  unfold markRead
  dsimp only
  (repeat' split) <;> simp

end Sys2Proof.Machine
end

section
/-! SUPPORT. The form of the booking store (R1, R2, R4, R5) read berth by berth, and what one berth's change keeps of it. -/

namespace Sys2Proof.Machine

/-! ### The form, berth by berth -/

/-- The serials of the live bookings of one berth. -/
def berthSerials (b : Berth) : List Nat := (b.bookings.filter Booking.live).filterMap Booking.serial

/-- A live booking has a serial of 1 to 65,535. -/
abbrev inSerials (k : Booking) : Prop := k.live = true → k.serial.any (fun n => decide (1 ≤ n ∧ n ≤ 65535)) = true

theorem serials_eq (s : State) : s.serials = s.bst.berths.flatMap berthSerials := by
  simp only [State.serials, State.liveBookings, State.bookings]
  induction s.bst.berths with
  | nil => rfl
  | cons b l ih =>
    rw [List.flatMap_cons, List.filter_append, List.filterMap_append, ih, List.flatMap_cons]
    congr 1
    simp [berthSerials, List.filter_map, List.filterMap_map, Function.comp_def]

theorem liveBookings_numbered (s : State) :
    (∀ p ∈ s.liveBookings, p.2.serial.any (fun k => decide (1 ≤ k ∧ k ≤ 65535)) = true) ↔
      ∀ b ∈ s.bst.berths, ∀ k ∈ b.bookings, inSerials k := by
  simp only [State.liveBookings, State.bookings, List.mem_filter, List.mem_flatMap, List.mem_map, inSerials]
  constructor
  · exact fun h b hb k hk live => h (b.cfg.number, k) ⟨⟨b, hb, k, hk, rfl⟩, live⟩
  · rintro h _ ⟨⟨b, hb, k, hk, rfl⟩, live⟩
    exact h b hb k hk live

/-- A berth's bookings stand in ascending order of arrival day, without overlapping, each ending after it begins (R2, R3). -/
def listOk (l : List Booking) : Prop :=
  (l.Pairwise fun x y => x.stay.arrival ≤ y.stay.arrival ∧
      overlaps x.stay.arrival x.stay.departure y.stay.arrival y.stay.departure = false) ∧
    ∀ k ∈ l, k.stay.arrival < k.stay.departure

/-- What a command does to the booking store: it keeps its form, and where the stays called for end after they begin, the order of
the booking lists. -/
def Kept (P : Prop) (s t : State) : Prop := s.bookingsOk → t.bookingsOk ∧ (P → s.listsOk → t.listsOk)

namespace Kept
variable {P : Prop}

theorem refl (s : State) : Kept P s s := fun h => ⟨h, fun _ => id⟩

theorem trans {s t u : State} (st : Kept P s t) (tu : Kept P t u) : Kept P s u := fun h =>
  ⟨(tu (st h).1).1, fun p l => (tu (st h).1).2 p ((st h).2 p l)⟩

/-- Neither the berth table nor the next serial has changed. -/
theorem same {s t : State} (h : t.bst.berths = s.bst.berths ∧ t.bst.nextSerial = s.bst.nextSerial) : Kept P s t := by
  obtain ⟨berths, next⟩ := h
  refine fun ok => ⟨?_, fun _ lists => ?_⟩
  · simpa only [State.bookingsOk, State.serials, State.liveBookings, State.bookings, berths, next] using ok
  · simpa only [State.listsOk, berths] using lists

theorem ite {s t u : State} {q : Prop} [Decidable q] (yes : Kept P s t) (no : Kept P s u) : Kept P s (if q then t else u) := by
  split
  · exact yes
  · exact no

theorem foldl {α : Type} {f : State → α → State} (h : ∀ s a, Kept P s (f s a)) (l : List α) (s : State) :
    Kept P s (l.foldl f s) := foldl_rel refl (fun _ _ _ => trans) h l s

theorem times {f : State → State} (h : ∀ s, Kept P s (f s)) (n : Nat) (s : State) : Kept P s (times f n s) :=
  times_rel refl (fun _ _ _ => trans) h n s

theorem whenUp {f : State → State} (h : ∀ s, Kept P s (f s)) (s : State) : Kept P s (whenUp f s) := whenUp_rel refl h s

theorem report {s t : State} (h : Kept P s t) (r : Report) : Kept P s (Machine.report r t) := h.trans (same (by simp))

end Kept

/-! ### One berth of the table -/

/-- The berth of a number stands once in the table, and a change of it leaves the others. -/
theorem onBerth_split {n : Nat} {g : Berth → Berth} {s : State} (unique : (s.bst.berths.map fun b => b.cfg.number).Nodup) {b : Berth}
    (h : s.berth? n = some b) : ∃ l r, s.bst.berths = l ++ b :: r ∧ (onBerth n g s).bst.berths = l ++ g b :: r := by
  obtain rfl := berth?_number h
  obtain ⟨l, r, e⟩ := List.append_of_mem (List.mem_of_find?_eq_some h)
  refine ⟨l, r, e, ?_⟩
  rw [e, List.map_append, List.map_cons, List.nodup_append] at unique
  obtain ⟨_, right, apart⟩ := unique
  have others (x : Berth) (hx : x ∈ l ∨ x ∈ r) : (x.cfg.number == b.cfg.number) = false := by
    rw [beq_eq_false_iff_ne]
    obtain hx | hx := hx
    · exact apart _ (List.mem_map_of_mem hx) _ (.head _)
    · exact fun same => (List.nodup_cons.1 right).1 (same ▸ List.mem_map_of_mem hx)
  have left : l.map (fun x => if x.cfg.number == b.cfg.number then g x else x) = l :=
    (List.map_congr_left fun x hx => by simp [others x (.inl hx)]).trans (List.map_id _)
  have right : r.map (fun x => if x.cfg.number == b.cfg.number then g x else x) = r :=
    (List.map_congr_left fun x hx => by simp [others x (.inr hx)]).trans (List.map_id _)
  simp only [onBerth_berths, e, updWhere, List.map_append, List.map_cons, left, right, beq_self_eq_true, if_true]

theorem onBerth_absent {n : Nat} {g : Berth → Berth} {s : State} (h : s.berth? n = none) :
    (onBerth n g s).bst.berths = s.bst.berths := by
  rw [onBerth_berths]
  refine (List.map_congr_left fun x hx => ?_).trans (List.map_id _)
  have other := List.find?_eq_none.1 h x hx
  simp [other]

/-- What a change of one berth has to keep, for the store to keep its form: `new` is the serial of a booking that has become live. -/
structure BerthKept (P : Prop) (used : List Nat) (new : Option Nat) (b c : Berth) : Prop where
  cfg : c.cfg = b.cfg
  length : c.bookings.length ≤ 4
  numbered : ∀ k ∈ c.bookings, inSerials k
  serials : (berthSerials c).Subperm (new.toList ++ berthSerials b)
  fresh : ∀ k ∈ new, k ∉ used
  order : P → listOk b.bookings → listOk c.bookings

theorem nodup_of_subperm {α : Type} {l m : List α} (h : l.Subperm m) (nodup : m.Nodup) : l.Nodup := by
  obtain ⟨k, perm, sub⟩ := h
  exact perm.nodup_iff.1 (nodup.sublist sub)

theorem berth?_mem {s : State} {n : Nat} {b : Berth} (h : s.berth? n = some b) : b ∈ s.bst.berths := List.mem_of_find?_eq_some h

theorem kept_onBerth {P : Prop} {n : Nat} {g : Berth → Berth} {s : State}
    (h : s.bookingsOk → ∀ b, s.berth? n = some b → ∃ new, BerthKept P s.serials new b (g b)) : Kept P s (onBerth n g s) := by
  intro ok
  have whole := ok
  cases found : s.berth? n with
  | none => exact Kept.same ⟨onBerth_absent found, rfl⟩ ok
  | some b =>
    obtain ⟨new, kept⟩ := h ok b found
    obtain ⟨count, unique, lengths, next, numbered, nodup⟩ := ok
    obtain ⟨l, r, before, after⟩ := onBerth_split (g := g) unique found
    rw [liveBookings_numbered, before] at numbered
    rw [before] at count unique lengths
    refine ⟨⟨?_, ?_, ?_, next, ?_, ?_⟩, fun p lists => ?_⟩
    · rw [after]
      simpa using count
    · rw [after]
      simpa [kept.cfg] using unique
    · rw [after]
      simp only [List.forall_mem_append, List.forall_mem_cons] at lengths ⊢
      exact ⟨lengths.1, kept.length, lengths.2.2⟩
    · rw [liveBookings_numbered, after]
      simp only [List.forall_mem_append, List.forall_mem_cons] at numbered ⊢
      exact ⟨numbered.1, kept.numbered, numbered.2.2⟩
    · rw [serials_eq, after, List.flatMap_append, List.flatMap_cons]
      have all : (new.toList ++ s.serials).Nodup := by
        rw [List.nodup_append]
        refine ⟨by cases new <;> simp, nodup, ?_⟩
        rintro a ha c hc rfl
        exact kept.fresh a (by simpa using ha) hc
      rw [serials_eq, before, List.flatMap_append, List.flatMap_cons] at all
      refine nodup_of_subperm ?_ all
      have swapped : (l.flatMap berthSerials ++ ((new.toList ++ berthSerials b) ++ r.flatMap berthSerials)).Perm
          (new.toList ++ (l.flatMap berthSerials ++ (berthSerials b ++ r.flatMap berthSerials))) := by
        simp only [← List.append_assoc]
        exact (List.perm_append_comm.append_right _).append_right _
      exact ((List.Subperm.refl _).append (kept.serials.append (List.Subperm.refl _))).trans swapped.subperm
    · have listed : ∀ x ∈ s.bst.berths, listOk x.bookings := lists
      have done : ∀ x ∈ (onBerth n g s).bst.berths, listOk x.bookings := by
        rw [before] at listed
        rw [after]
        simp only [List.forall_mem_append, List.forall_mem_cons] at listed ⊢
        exact ⟨listed.1, kept.order p listed.2.1, listed.2.2⟩
      exact done

end Sys2Proof.Machine
end

section
/-! SUPPORT. The changes of one berth's list that keep the form of the booking store: a booking changed, removed, inserted,
converted, and its departure day moved. -/

namespace Sys2Proof.Machine

/-! ### A booking changed in place -/

/-- A change of live bookings that leaves serial and stay, and leaves them live. -/
def KeepsForm (f : Booking → Booking) : Prop :=
  ∀ k, k.live = true → (f k).serial = k.serial ∧ (f k).live = true ∧ (f k).stay = k.stay

theorem berthSerials_updWhere {b : Berth} {q : Booking → Bool} {f : Booking → Booking}
    (serial : ∀ k, q k = true → k.live = true → (f k).serial = k.serial)
    (live : ∀ k, q k = true → (f k).live = k.live) :
    berthSerials { b with bookings := updWhere q f b.bookings } = berthSerials b := by
  simp only [berthSerials]
  induction b.bookings with
  | nil => rfl
  | cons k l ih =>
    simp only [updWhere, List.map_cons, List.filter_cons] at ih ⊢
    by_cases hq : q k = true
    · by_cases hl : k.live = true
      · simp only [hq, if_true, live k hq, hl, List.filterMap_cons, serial k hq hl, ih]
      · simp [hq, live k hq, hl, ih]
    · simp only [hq]
      by_cases hl : k.live = true
      · simp [hl, List.filterMap_cons, ih]
      · simp [hl, ih]

theorem inSerials_updWhere {l : List Booking} {q : Booking → Bool} {f : Booking → Booking}
    (serial : ∀ k, q k = true → k.live = true → (f k).serial = k.serial) (live : ∀ k, q k = true → (f k).live = k.live)
    (h : ∀ k ∈ l, inSerials k) : ∀ k ∈ updWhere q f l, inSerials k := by
  intro x hx
  obtain ⟨k, hk, rfl⟩ := List.mem_map.1 hx
  split
  · next hq =>
    intro alive
    rw [live k hq] at alive
    rw [serial k hq alive]
    exact h k hk alive
  · exact h k hk

theorem listOk_updWhere {l : List Booking} {q : Booking → Bool} {f : Booking → Booking}
    (stay : ∀ k, q k = true → (f k).stay = k.stay) (h : listOk l) : listOk (updWhere q f l) := by
  have same (k : Booking) : (if q k = true then f k else k).stay = k.stay := by
    split
    · next hq => exact stay k hq
    · rfl
  obtain ⟨pairs, stays⟩ := h
  refine ⟨List.pairwise_map.2 (pairs.imp fun {x y} hxy => ?_), fun x hx => ?_⟩
  · rw [same, same]
    exact hxy
  · obtain ⟨k, hk, rfl⟩ := List.mem_map.1 hx
    rw [same]
    exact stays k hk

theorem kept_queueSlot {P : Prop} (n : Option Nat) (s : State) : Kept P s (queueSlot n s) := by
  unfold queueSlot
  split
  · exact .same (by simp)
  · exact .refl s

/-- The change of a booking is the change of a berth, and its record is queued. -/
theorem kept_changeBooking_of {P : Prop} {n k : Nat} {f : Booking → Booking} {s : State} (h : Kept P s (onBooking n k f s)) :
    Kept P s (changeBooking n k f s) := by
  unfold changeBooking
  split
  · exact h.trans (kept_queueSlot _ _)
  · exact .refl s

theorem kept_changeBooking {P : Prop} {n k : Nat} {f : Booking → Booking} (s : State)
    (keeps : KeepsForm f := by exact fun _ live => ⟨rfl, live, rfl⟩) : Kept P s (changeBooking n k f s) := by
  refine kept_changeBooking_of (kept_onBerth fun ok b hb => ⟨none, ?_⟩)
  obtain ⟨_, _, lengths, _, numbered, _⟩ := ok
  have alive (x : Booking) (q : (x.live && x.serial == some k) = true) : x.live = true := by
    simp only [Bool.and_eq_true] at q
    exact q.1
  have serial (x : Booking) (q : (x.live && x.serial == some k) = true) (_ : x.live = true) : (f x).serial = x.serial :=
    (keeps x (alive x q)).1
  have live (x : Booking) (q : (x.live && x.serial == some k) = true) : (f x).live = x.live := by
    rw [(keeps x (alive x q)).2.1, alive x q]
  refine ⟨rfl, ?_, ?_, ?_, by simp, fun _ => listOk_updWhere fun x q => (keeps x (alive x q)).2.2⟩
  · simpa using lengths b (berth?_mem hb)
  · exact inSerials_updWhere serial live ((liveBookings_numbered s).1 numbered b (berth?_mem hb))
  · rw [berthSerials_updWhere serial live]
    exact .refl _

/-! ### Bookings removed -/

theorem kept_removal {P : Prop} (n : Nat) (p : Booking → Bool) (s : State) :
    Kept P s (onBerth n (fun x => { x with bookings := x.bookings.filter p }) s) := by
  refine kept_onBerth fun ok b hb => ⟨none, ?_⟩
  obtain ⟨_, _, lengths, _, numbered, _⟩ := ok
  refine ⟨rfl, (List.length_filter_le _ _).trans (lengths b (berth?_mem hb)), fun k hk => ?_, ?_, by simp, fun _ h => ?_⟩
  · exact (liveBookings_numbered s).1 numbered b (berth?_mem hb) k (List.mem_filter.1 hk).1
  · exact ((List.filter_sublist.filter _).filterMap _).subperm
  · exact ⟨h.1.filter p, fun k hk => h.2 k (List.mem_filter.1 hk).1⟩

theorem kept_dropTentative {P : Prop} (n : Nat) (ref : CallRef) (p : Booking → Bool) (s : State) :
    Kept P s (dropTentative n ref p s) := kept_removal _ _ s

/-! ### A booking inserted (R2) -/

theorem berthSerials_perm {b c : Berth} (h : c.bookings.Perm b.bookings) : (berthSerials c).Perm (berthSerials b) :=
  (h.filter _).filterMap _

/-- A list takes an interval that overlaps none of it, at the place its arrival day gives it. -/
theorem listOk_insertBooking {t : Booking} {l : List Booking} (room : canInsert l t.stay.arrival t.stay.departure = true)
    (stay : t.stay.arrival < t.stay.departure) (h : listOk l) : listOk (insertBooking t l) := by
  have free : ∀ k ∈ l, overlaps t.stay.arrival t.stay.departure k.stay.arrival k.stay.departure = false := by
    simp only [canInsert, Bool.and_eq_true, List.all_eq_true] at room
    exact fun k hk => by simpa using room.2 k hk
  clear room
  obtain ⟨pairs, stays⟩ := h
  refine ⟨?_, fun k hk => ?_⟩
  · induction l with
    | nil => simp [insertBooking, insertBy]
    | cons y l ih =>
      rw [List.pairwise_cons] at pairs
      obtain ⟨first, rest⟩ := pairs
      have apart := free y (.head _)
      simp only [insertBooking, insertBy] at ih ⊢
      split
      · next le =>
        rw [List.pairwise_cons]
        refine ⟨fun z hz => ?_, ih (fun k hk => free k (.tail _ hk)) rest fun k hk => stays k (.tail _ hk)⟩
        obtain rfl | hz := List.mem_cons.1 ((insertBy_perm _ _ _).mem_iff.1 hz)
        · refine ⟨by simpa using le, ?_⟩
          simp only [overlaps, Bool.and_eq_false_iff, decide_eq_false_iff_not] at apart ⊢
          exact apart.symm
        · exact first z hz
      · next le =>
        have before : t.stay.arrival < y.stay.arrival := by simpa using le
        rw [List.pairwise_cons, List.pairwise_cons]
        refine ⟨fun z hz => ⟨?_, free z hz⟩, first, rest⟩
        obtain rfl | hz := List.mem_cons.1 hz
        · exact before.le
        · exact before.le.trans (first z hz).1
  · obtain rfl | hk := List.mem_cons.1 ((insertBy_perm _ _ _).mem_iff.1 hk)
    · exact stay
    · exact stays k hk

theorem length_of_canInsert {l : List Booking} {a d : Nat} (h : canInsert l a d = true) : l.length < 4 := by
  simp only [canInsert, Bool.and_eq_true, decide_eq_true_eq] at h
  exact h.1

/-- A booking is inserted in the list of a berth that has room for its interval; a live one brings a serial of its own. -/
theorem kept_insertion {P : Prop} {n : Nat} {t : Booking} {s : State}
    (room : ∀ b, s.berth? n = some b → canInsert b.bookings t.stay.arrival t.stay.departure = true)
    (stay : P → t.stay.arrival < t.stay.departure) (serial : inSerials t)
    (fresh : t.live = true → ∀ k ∈ t.serial, k ∉ s.serials) :
    Kept P s (onBerth n (fun x => { x with bookings := insertBooking t x.bookings }) s) := by
  refine kept_onBerth fun ok b hb => ⟨if t.live then t.serial else none, ?_⟩
  obtain ⟨_, _, _, _, numbered, _⟩ := ok
  have inserted : (insertBooking t b.bookings).Perm (t :: b.bookings) := insertBy_perm _ _ _
  refine ⟨rfl, ?_, fun k hk => ?_, ?_, fun k hk => ?_, fun p => listOk_insertBooking (room b hb) (stay p)⟩
  · rw [inserted.length_eq]
    exact length_of_canInsert (room b hb)
  · obtain rfl | hk := List.mem_cons.1 (inserted.mem_iff.1 hk)
    · exact serial
    · exact (liveBookings_numbered s).1 numbered b (berth?_mem hb) k hk
  · refine (berthSerials_perm (b := { b with bookings := t :: b.bookings }) inserted).subperm.trans ?_
    refine (List.Perm.of_eq ?_).subperm
    by_cases live : t.live = true
    · cases hs : t.serial <;> simp [berthSerials, live, hs]
    · simp [berthSerials, live]
  · split at hk
    · next live => exact fresh live k hk
    · cases hk

/-! ### A TENTATIVE booking converted (R4) -/

theorem listOk_same_stays {l m : List Booking} (h : m.map Booking.stay = l.map Booking.stay) (ok : listOk l) : listOk m := by
  have stays (l : List Booking) : listOk l ↔ ((l.map Booking.stay).Pairwise fun x y => x.arrival ≤ y.arrival ∧
      overlaps x.arrival x.departure y.arrival y.departure = false) ∧ ∀ k ∈ l.map Booking.stay, k.arrival < k.departure := by
    rw [List.pairwise_map, List.forall_mem_map]
    rfl
  rw [stays] at ok ⊢
  rw [h]
  exact ok

/-- A TENTATIVE booking becomes live, with a serial that no live booking has. -/
theorem kept_conversion {P : Prop} {n : Nat} {q : Booking → Bool} {f : Booking → Booking} {s : State} {serial : Nat}
    (tentative : ∀ k, q k = true → k.live = false) (stay : ∀ k, (f k).stay = k.stay) (given : ∀ k, (f k).serial = some serial)
    (lives : ∀ k, (f k).live = true) (range : 1 ≤ serial ∧ serial ≤ 65535) (fresh : serial ∉ s.serials) :
    Kept P s (onBerth n (fun x => { x with bookings := updFirst q f x.bookings }) s) := by
  refine kept_onBerth fun ok b hb => ⟨some serial, ?_⟩
  obtain ⟨_, _, lengths, _, numbered, _⟩ := ok
  have known := (liveBookings_numbered s).1 numbered b (berth?_mem hb)
  refine ⟨rfl, by simpa using lengths b (berth?_mem hb), ?_, ?_, by simpa using fresh, fun _ => listOk_same_stays ?_⟩
  · obtain ⟨same, _⟩ | ⟨l, x, r, split, hx, _, changed⟩ := updFirst_cases q f b.bookings
    · rw [same]
      exact known
    · rw [changed]
      rw [split] at known
      simp only [List.forall_mem_append, List.forall_mem_cons] at known ⊢
      exact ⟨known.1, fun _ => by simp [given, range], known.2.2⟩
  · obtain ⟨same, _⟩ | ⟨l, x, r, split, hx, _, changed⟩ := updFirst_cases q f b.bookings
    · rw [same]
      exact (List.sublist_cons_self _ _).subperm
    · simp only [berthSerials]
      rw [changed, split]
      simp only [List.filter_append, List.filter_cons, lives, tentative x hx, List.filterMap_append, List.filterMap_cons, given,
        if_true, Bool.false_eq_true, if_false]
      exact List.perm_middle.subperm
  · obtain ⟨same, _⟩ | ⟨l, x, r, split, hx, _, changed⟩ := updFirst_cases q f b.bookings
    · rw [same]
    · rw [changed, split]
      simp [stay]

/-! ### A departure day moved (R16, R167) -/

/-- The departure day of a booking moves to a day behind its arrival and not behind the arrival of the entry that follows it. -/
theorem listOk_departure {k d : Nat} {b : Booking} {l : List Booking}
    (nodup : ((l.filter Booking.live).filterMap Booking.serial).Nodup)
    (found : l.find? (fun x => x.live && x.serial == some k) = some b) (after : b.stay.arrival < b.stay.departure → b.stay.arrival < d)
    (room : ∀ y, nextEntry k l = some y → b.stay.arrival ≤ y.stay.arrival → y.stay.arrival < y.stay.departure →
      d ≤ y.stay.arrival) (h : listOk l) :
    listOk (updWhere (fun x => x.live && x.serial == some k)
      (fun x => { x with stay := { x.stay with departure := d } }) l) := by
  induction l with
  | nil => exact h
  | cons x l ih =>
    obtain ⟨pairs, stays⟩ := h
    rw [List.pairwise_cons] at pairs
    obtain ⟨first, rest⟩ := pairs
    by_cases hx : (x.live && x.serial == some k) = true
    · simp only [List.find?_cons, hx] at found
      cases found
      have mine := hx
      simp only [Bool.and_eq_true, beq_iff_eq] at mine
      have others : updWhere (fun x => x.live && x.serial == some k)
          (fun x => { x with stay := { x.stay with departure := d } }) l = l := by
        refine (List.map_congr_left fun y hy => if_neg fun also => ?_).trans (List.map_id _)
        simp only [Bool.and_eq_true, beq_iff_eq] at also
        rw [List.filter_cons, if_pos mine.1, List.filterMap_cons, mine.2, List.nodup_cons] at nodup
        exact nodup.1 (List.mem_filterMap.2 ⟨y, List.mem_filter.2 ⟨hy, also.1⟩, also.2⟩)
      have changed : updWhere (fun x => x.live && x.serial == some k)
          (fun x => { x with stay := { x.stay with departure := d } }) (b :: l) =
          { b with stay := { b.stay with departure := d } } :: l := by
        rw [updWhere, List.map_cons, if_pos hx]
        exact congrArg _ others
      rw [changed]
      have behind : ∀ y ∈ l, d ≤ y.stay.arrival := by
        cases l with
        | nil => exact fun y hy => by cases hy
        | cons z l =>
          have next : d ≤ z.stay.arrival :=
            room z (by rw [nextEntry, if_pos hx]; rfl) (first z (.head _)).1 (stays z (.tail _ (.head _)))
          intro y hy
          obtain rfl | hy := List.mem_cons.1 hy
          · exact next
          · exact next.trans ((List.pairwise_cons.1 rest).1 y hy).1
      refine ⟨List.pairwise_cons.2 ⟨fun y hy => ⟨(first y hy).1, ?_⟩, rest⟩, fun y hy => ?_⟩
      · have later := behind y hy
        simp only [overlaps, Bool.and_eq_false_iff, decide_eq_false_iff_not]
        exact .inr (by omega)
      · obtain rfl | hy := List.mem_cons.1 hy
        · exact after (stays b (.head _))
        · exact stays y (.tail _ hy)
    · simp only [List.find?_cons, hx] at found
      have tail := ih (nodup.sublist (((List.sublist_cons_self x l).filter _).filterMap _)) found
        (fun y hy => room y (by rw [nextEntry, if_neg hx]; exact hy)) ⟨rest, fun y hy => stays y (.tail _ hy)⟩
      have changed (l : List Booking) : updWhere (fun x => x.live && x.serial == some k)
          (fun x => { x with stay := { x.stay with departure := d } }) (x :: l) =
          x :: updWhere (fun x => x.live && x.serial == some k)
            (fun x => { x with stay := { x.stay with departure := d } }) l := by
        rw [updWhere, List.map_cons, if_neg hx]
        rfl
      rw [changed]
      refine ⟨List.pairwise_cons.2 ⟨fun y hy => ?_, tail.1⟩, fun y hy => ?_⟩
      · obtain ⟨z, hz, rfl⟩ := List.mem_map.1 hy
        obtain ⟨le, apart⟩ := first z hz
        have long := stays z (.tail _ hz)
        split
        · refine ⟨le, ?_⟩
          simp only [overlaps, Bool.and_eq_false_iff, decide_eq_false_iff_not] at apart ⊢
          have later : x.stay.departure ≤ z.stay.arrival := by omega
          exact .inr (by omega)
        · exact ⟨le, apart⟩
      · obtain rfl | hy := List.mem_cons.1 hy
        · exact stays y (.head _)
        · exact tail.2 y hy

theorem kept_departure {P : Prop} {n k d : Nat} {s : State} {b : Booking} (found : s.booking? n k = some b)
    (after : b.stay.arrival < b.stay.departure → b.stay.arrival < d)
    (room : ∀ y, s.behind? n k = some y → b.stay.arrival ≤ y.stay.arrival → y.stay.arrival < y.stay.departure →
      d ≤ y.stay.arrival) :
    Kept P s (changeBooking n k (fun x => { x with stay := { x.stay with departure := d } }) s) := by
  refine kept_changeBooking_of (kept_onBerth fun ok x hx => ⟨none, ?_⟩)
  obtain ⟨_, _, lengths, _, numbered, nodup⟩ := ok
  refine ⟨rfl, ?_, ?_, ?_, by simp, fun _ => listOk_departure (b := b) ?_ ?_ after ?_⟩
  · simpa using lengths x (berth?_mem hx)
  · exact inSerials_updWhere (fun _ _ _ => rfl) (fun _ _ => rfl) ((liveBookings_numbered s).1 numbered x (berth?_mem hx))
  · exact (List.Perm.of_eq (berthSerials_updWhere (fun _ _ _ => by rfl) fun _ _ => by rfl)).subperm
  · rw [serials_eq] at nodup
    exact (List.nodup_flatMap.1 nodup).1 x (berth?_mem hx)
  · simpa [State.booking?, hx, Berth.live?] using found
  · intro y hy
    exact room y (by simpa [State.behind?, hx] using hy)

end Sys2Proof.Machine
end

section
/-! SUPPORT. What the operations of the blocks keep of the booking store's form: posts, purses, bookings, calls, the day, metering. -/

namespace Sys2Proof.Machine

variable {P : Prop}

/-! ### The serial a conversion gives (R5) -/

/-- A serial some steps on. -/
def serialsOn (n i : Nat) : Nat := (n - 1 + i) % 65535 + 1

theorem serialAfter_serialsOn {n i : Nat} : serialAfter (serialsOn n i) = serialsOn n (i + 1) := by
  unfold serialAfter serialsOn
  split <;> omega

theorem serialAfter_range (n : Nat) : 1 ≤ serialAfter n ∧ serialAfter n ≤ 65535 := by
  unfold serialAfter
  split <;> omega

/-- The serial found is one of those looked at, and free unless all of them are in use. -/
theorem freeSerial_spec (used : List Nat) (n k i : Nat) :
    (∃ j, i ≤ j ∧ j ≤ i + k ∧ freeSerial used (serialsOn n i) k = serialsOn n j) ∧
      (freeSerial used (serialsOn n i) k ∈ used → ∀ j, i ≤ j → j ≤ i + k → serialsOn n j ∈ used) := by
  induction k generalizing i with
  | zero =>
    refine ⟨⟨i, le_rfl, le_rfl, rfl⟩, fun found j low high => ?_⟩
    obtain rfl : j = i := by omega
    exact found
  | succ k ih =>
    rw [freeSerial]
    obtain ⟨⟨j, low, high, given⟩, all⟩ := ih (i + 1)
    split
    · next taken =>
      rw [serialAfter_serialsOn]
      refine ⟨⟨j, by omega, by omega, given⟩, fun found m first last => ?_⟩
      obtain rfl | later := Nat.eq_or_lt_of_le first
      · simpa using taken
      · exact all found m later (by omega)
    · next free =>
      exact ⟨⟨i, le_rfl, by omega, rfl⟩, fun found => absurd (by simpa using found) free⟩

theorem serials_length {s : State} (ok : s.bookingsOk) : s.serials.length ≤ 256 := by
  obtain ⟨count, _, lengths, _⟩ := ok
  have bound (l : List Berth) (h : ∀ b ∈ l, b.bookings.length ≤ 4) : (l.flatMap berthSerials).length ≤ 4 * l.length := by
    induction l with
    | nil => simp
    | cons b l ih =>
      rw [List.forall_mem_cons] at h
      have one : (berthSerials b).length ≤ b.bookings.length :=
        (List.length_filterMap_le _ _).trans (List.length_filter_le _ _)
      have rest := ih h.2
      simp only [List.flatMap_cons, List.length_append, List.length_cons]
      omega
  rw [serials_eq]
  exact (bound _ lengths).trans (by omega)

/-- The next serial given is in its range, and no live booking has it (R5). -/
theorem nextSerialGiven_spec {s : State} (ok : s.bookingsOk) :
    (1 ≤ s.nextSerialGiven ∧ s.nextSerialGiven ≤ 65535) ∧ s.nextSerialGiven ∉ s.serials := by
  have few := serials_length ok
  obtain ⟨_, _, _, ⟨low, high⟩, _, _⟩ := ok
  have start : serialsOn s.bst.nextSerial 0 = s.bst.nextSerial := by
    unfold serialsOn
    omega
  obtain ⟨⟨j, _, _, given⟩, all⟩ := freeSerial_spec s.serials s.bst.nextSerial 257 0
  rw [start] at given all
  refine ⟨?_, fun taken => ?_⟩
  · rw [State.nextSerialGiven, given]
    unfold serialsOn
    omega
  · have distinct : ((List.range 257).map (serialsOn s.bst.nextSerial)).Nodup := by
      refine List.Nodup.map_on (fun x hx y hy same => ?_) List.nodup_range
      rw [List.mem_range] at hx hy
      unfold serialsOn at same
      omega
    have inside : (List.range 257).map (serialsOn s.bst.nextSerial) ⊆ s.serials := by
      intro a ha
      obtain ⟨i, hi, rfl⟩ := List.mem_map.1 ha
      exact all taken i (Nat.zero_le _) (by have := List.mem_range.1 hi; omega)
    have many := (distinct.subperm inside).length_le
    rw [List.length_map, List.length_range] at many
    omega

/-! ### PBC -/

theorem keepsForm_setWanted (place : Nat) (v : Bool) : KeepsForm (Booking.setWanted place v) := by
  intro k live
  unfold Booking.setWanted
  split <;> exact ⟨rfl, live, rfl⟩

theorem kept_queueRecord (id : RecordId) (s : State) : Kept P s (queueRecord id s) := .same (by simp)

theorem kept_setWanted (o : Outlet) (v : Bool) (s : State) : Kept P s (setWanted o v s) := by
  unfold setWanted
  split
  · exact .ite (.refl s) (kept_changeBooking s (keepsForm_setWanted _ _))
  · exact .refl s

theorem kept_outletTrips (o : Outlet) (c : TripCause) (m : Nat) (s : State) : Kept P s (outletTrips o c m s) :=
  ((Kept.same (by simp)).trans (kept_setWanted o false _)).report _

theorem kept_outletOff (n : Nat) (s : State) : Kept P s (outletOff n s) := .same (by simp)

theorem kept_switchOff (o : Outlet) (s : State) : Kept P s (switchOff o s) := (kept_setWanted o false s).trans (kept_outletOff _ _)

theorem kept_requestOutlet (o : Outlet) (s : State) : Kept P s (requestOutlet o s).1 := by
  unfold requestOutlet
  split
  · exact .same (by simp)
  · exact (kept_setWanted o true s).trans (.same (by simp))

theorem kept_pressOutlet (n : Nat) (s : State) : Kept P s (pressOutlet n s) := by
  unfold pressOutlet
  split
  · exact .refl s
  · next o _ =>
    cases o.state with
    | off => exact kept_requestOutlet o s
    | tripped => exact .refl s
    | _ => exact kept_switchOff o s

theorem kept_berthOff (n : Nat) (s : State) : Kept P s (berthOff n s) := .same (by simp)

theorem kept_revoke (tags : List Tag) (s : State) : Kept P s (revoke tags s) := .same (by simp)

theorem kept_postsNotice (n k : Nat) (old new : Standing) (s : State) : Kept P s (postsNotice n k old new s) :=
  .same (by simp)

theorem kept_displaced (n : Nat) (b : Booking) (s : State) : Kept P s (displaced n b s) :=
  (kept_changeBooking s).trans (kept_berthOff n _)

theorem kept_afterCurrent (n : Nat) (before s : State) : Kept P s (afterCurrent n before s) := by
  unfold afterCurrent
  split
  · exact .ite (.refl s) (kept_displaced _ _ s)
  · exact .refl s

theorem kept_event {f : State → State} {s : State} (h : Kept P s (f s)) : Kept P s (event f s) := h.trans (.same (by simp))

/-! ### PRS -/

theorem keepsForm_onPurse (f : Purse → Purse) : KeepsForm (Booking.onPurse f) := fun _ live => ⟨rfl, live, rfl⟩

theorem kept_changeHolds (n k : Nat) (f : List Hold → List Hold) (s : State) : Kept P s (changeHolds n k f s) :=
  kept_changeBooking s (keepsForm_onPurse _)

theorem kept_notice (n k : Nat) (old new : Standing) (s : State) : Kept P s (notice n k old new s) := by
  unfold notice
  split
  · exact .refl s
  · exact (((kept_changeBooking s).trans (kept_revoke _ _)).trans (kept_postsNotice _ _ _ _ _)).report _

theorem kept_restand (n k : Nat) (s : State) : Kept P s (restand n k s) := by
  unfold restand
  split
  · exact .refl s
  · exact .ite (.refl s) ((kept_changeBooking s (keepsForm_onPurse _)).trans (kept_notice _ _ _ _ _))

theorem kept_debit (n k : Nat) (c : Charge) (d : Nat) (s : State) : Kept P s (debit n k c d s) := by
  have taken : Kept P s (changeBooking n k (Booking.debit c d) s) := kept_changeBooking s
  unfold debit
  refine .ite (.refl s) ?_
  split
  · exact .refl s
  · exact .ite (taken.report _) taken

theorem kept_meterCharge (n k : Nat) (c : Charge) (u r : Nat) (s : State) : Kept P s (meterCharge n k c u r s) := by
  have gathered (f : Purse → Purse) : Kept P s (changeBooking n k (Booking.onPurse f) s) :=
    kept_changeBooking s (keepsForm_onPurse f)
  unfold meterCharge
  split
  · exact .refl s
  · exact .ite (gathered _) (((gathered _).trans (kept_debit _ _ _ _ _)).trans (kept_restand _ _ _))

theorem kept_newHold (n k : Nat) (id : HoldId) (a : Nat) (s : State) : Kept P s (newHold n k id a s).1 := by
  unfold newHold
  split
  · exact .refl s
  · split
    · exact .same (by simp)
    · exact ((kept_changeHolds _ _ _ s).trans (kept_restand _ _ _)).report _

theorem kept_ownerHold (id : HoldId) (t : Tag) (k a : Nat) (s : State) : Kept P s (ownerHold id t k a s).1 := by
  unfold ownerHold
  split
  · exact .refl s
  · split
    · split
      · exact .refl s
      · exact (kept_changeHolds _ _ _ s).trans (kept_newHold _ _ _ _ _)
    · exact kept_newHold _ _ _ _ s

theorem kept_ownerSettle (id : HoldId) (k a : Nat) (s : State) : Kept P s (ownerSettle id k a s).1 := by
  have debited (n : Nat) := kept_debit (P := P) n k .fuel a s
  unfold ownerSettle
  split
  · exact .refl s
  · split
    · split
      · exact .refl s
      · exact ((debited _).trans (kept_changeHolds _ _ _ _)).trans (kept_restand _ _ _)
      · exact (((debited _).trans (kept_changeHolds _ _ _ _)).report _).trans (kept_restand _ _ _)
    · exact (((debited _).report _).trans (kept_changeHolds _ _ _ _)).trans (kept_restand _ _ _)

theorem kept_reportExpired (n : Nat) (l : List Hold) (s : State) : Kept P s (reportExpired n l s) :=
  .foldl (fun x _ => (Kept.refl x).report _) l s

theorem kept_ageBooking (n : Nat) (b : Booking) (s : State) : Kept P s (ageBooking n b s) := by
  have aged (f : List Hold → List Hold) (l : List Hold) :=
    (kept_changeHolds (P := P) n (b.serial.getD 0) f s).trans (kept_reportExpired n l _)
  unfold ageBooking
  exact .ite (.ite (aged _ _) ((aged _ _).trans (kept_restand _ _ _))) (.refl s)

/-- A berth operation keeps what its rule keeps of the booking that its addressing finds. -/
theorem kept_onAddressed (kind : CmdKind) (n k : Nat) {f : Booking → State → State × Reply} (s : State)
    (h : ∀ b, s.booking? n k = some b → Kept P s (f b s).1) : Kept P s (onAddressed kind n k f s).1 := by
  unfold onAddressed
  split
  · exact .refl s
  · next b found =>
    refine h b ?_
    unfold State.addressed at found
    (repeat' split at found) <;> cases found
    next x hx _ _ live => simpa [State.booking?, hx] using live

theorem kept_doCredit (n k a : Nat) (s : State) : Kept P s (doCredit n k a s).1 := by
  refine kept_onAddressed _ _ _ s fun b _ => ?_
  (repeat' split)
  · exact .refl s
  · exact .refl s
  · exact ((kept_changeBooking s (keepsForm_onPurse _)).trans (kept_restand _ _ _)).report _

theorem kept_doBarMark (kind : CmdKind) (m : Bool) (n k : Nat) (s : State) : Kept P s (doBarMark kind m n k s).1 := by
  refine kept_onAddressed _ _ _ s fun b _ => ?_
  split
  · exact .refl s
  · exact ((kept_changeBooking s (keepsForm_onPurse _)).trans (kept_restand _ _ _)).report _

theorem kept_doSetMarks (n k low limit : Nat) (s : State) : Kept P s (doSetMarks n k low limit s).1 := by
  refine kept_onAddressed _ _ _ s fun b _ => ?_
  split
  · exact .refl s
  · exact ((kept_changeBooking s (keepsForm_onPurse _)).trans (kept_restand _ _ _)).report _

theorem kept_doDropHold (n k : Nat) (id : HoldId) (s : State) : Kept P s (doDropHold n k id s).1 := by
  refine kept_onAddressed _ _ _ s fun b _ => ?_
  split
  · exact .refl s
  · split
    · exact .refl s
    · exact ((kept_changeHolds _ _ _ s).trans (kept_restand _ _ _)).report _

/-! ### BST -/

theorem kept_makeCurrent (n k : Nat) (s : State) : Kept P s (makeCurrent n k s) :=
  ((kept_changeBooking s (by exact fun _ _ => ⟨rfl, rfl, rfl⟩)).report _).trans (kept_afterCurrent _ _ _)

theorem kept_arrivals (n d : Nat) (s : State) : Kept P s (arrivals n d s) := by
  unfold arrivals
  split
  · exact .refl s
  · exact .foldl (fun x _ => kept_makeCurrent _ _ x) _ s

theorem kept_examine (d : Nat) (s : State) : Kept P s (examine d s) :=
  .foldl (f := fun x n => arrivals n d x) (fun x n => kept_arrivals n d x) _ s

/-- The next serial moves on. -/
theorem kept_setNextSerial {v : Bst} {s : State} (berths : v.berths = s.bst.berths)
    (range : 1 ≤ v.nextSerial ∧ v.nextSerial ≤ 65535) : Kept P s (s.setBst v) := by
  rintro ⟨count, unique, lengths, _, numbered, nodup⟩
  refine ⟨⟨?_, ?_, ?_, range, ?_, ?_⟩, fun _ lists => ?_⟩
  · simpa [berths] using count
  · simpa [berths] using unique
  · simpa [berths] using lengths
  · rw [liveBookings_numbered] at numbered ⊢
    simpa only [State.setBst_bst, berths] using numbered
  · rw [serials_eq] at nodup ⊢
    simpa only [State.setBst_bst, berths] using nodup
  · simpa only [State.listsOk, State.setBst_bst, berths] using lists

theorem kept_convert (n : Nat) (ref : CallRef) (stay : Stay) (tags : List Tag) (name : Option BoatName) (s : State) :
    Kept P s (convert n ref stay tags name s).1 := by
  intro ok
  obtain ⟨range, fresh⟩ := nextSerialGiven_spec ok
  have next : Kept P s (queueRecord .station (s.setBst { s.bst with nextSerial := serialAfter s.nextSerialGiven })) :=
    (kept_setNextSerial (v := { s.bst with nextSerial := serialAfter s.nextSerialGiven }) rfl (serialAfter_range _)).trans
      (.same (by simp))
  have converted (q : Booking → Bool) (target : BookingState) (slot : Nat) (tentative : ∀ k, q k = true → k.live = false)
      (live : target ≠ .tentative) : Kept P s (onBerth n (fun x => { x with
        bookings := updFirst q (fun b => convertedBooking b s.nextSerialGiven slot target tags name) x.bookings })
        (queueRecord .station (s.setBst { s.bst with nextSerial := serialAfter s.nextSerialGiven }))) :=
    next.trans (kept_conversion tentative (fun _ => rfl) (fun _ => rfl) (fun _ => by simpa [Booking.live, convertedBooking] using live)
      range (by simpa [serials_eq] using fresh))
  refine ((((converted _ _ _ (fun k hk => ?_) ?_).trans (kept_queueRecord _ _)).report _).trans (kept_afterCurrent _ _ _)) ok
  · simp only [tentativeOf, Bool.and_eq_true, beq_iff_eq] at hk
    simp [Booking.live, hk.1.1]
  · unfold State.conversionState
    (repeat' split) <;> decide

theorem kept_endBooking (n : Nat) (b : Booking) (kind : Option EndKind) (s : State) : Kept P s (endBooking n b kind s) := by
  have ended (p : Booking → Bool) (q : Prop) [Decidable q] (u : State) :
      Kept P u (if q then berthOff n (revoke b.tags (queueSlot b.slot
          (onBerth n (fun x => { x with bookings := x.bookings.filter p }) u))) else
        revoke b.tags (queueSlot b.slot (onBerth n (fun x => { x with bookings := x.bookings.filter p }) u))) := by
    have unlisted := (kept_removal (P := P) n p u).trans (kept_queueSlot b.slot _)
    exact .ite (unlisted.trans (.same (by simp))) (unlisted.trans (.same (by simp)))
  cases kind with
  | some k => exact ((Kept.same (addStatement_shelf n k b s)).trans (ended _ _ _)).report _
  | none => exact (ended _ _ s).report _

theorem kept_doCheckOut (n k : Nat) (s : State) : Kept P s (doCheckOut n k s).1 := by
  refine kept_onAddressed _ _ _ s fun b _ => ?_
  (repeat' split)
  · exact .refl s
  · exact .refl s
  · exact kept_endBooking n b (some .checkedOut) s

theorem kept_doCancel (n k : Nat) (s : State) : Kept P s (doCancel n k s).1 := by
  refine kept_onAddressed _ _ _ s fun b _ => ?_
  split
  · exact .refl s
  · exact kept_endBooking n b none s

theorem kept_doExtend (n k d : Nat) (s : State) : Kept P s (doExtend n k d s).1 := by
  refine kept_onAddressed _ _ _ s fun b hb => ?_
  split
  · exact .refl s
  · next interval =>
    split
    · exact .refl s
    · next apart =>
      simp only [Bool.or_eq_true, decide_eq_true_eq, not_or, not_le] at interval
      refine kept_departure hb (fun _ => interval.1) fun y hy le long => ?_
      rw [hy] at apart
      simp only [Option.any_some, overlaps, Bool.and_eq_true, decide_eq_true_eq, not_and, not_lt] at apart
      exact apart (le.trans_lt long)

theorem kept_doSetTags (n k : Nat) (tags : List Tag) (s : State) : Kept P s (doSetTags n k tags s).1 := by
  refine kept_onAddressed _ _ _ s fun b _ => ?_
  split
  · exact .refl s
  · split
    · exact .same (by simp)
    · exact (kept_changeBooking s).trans (kept_revoke _ _)

/-! ### DCK -/

theorem kept_chargeNight (r : Rollover) (n : Nat) (b : Booking) (s : State) : Kept P s (chargeNight r n b s) :=
  .ite (.refl s) ((kept_debit _ _ _ _ s).trans (kept_restand _ _ _))

/-- A departure day moves past the rollover only where the next entry has not arrived by then (R167). -/
theorem departureCase_overstays {s : State} {d n : Nat} {b : Booking} (h : departureCase s d n b = .overstays) :
    b.stay.departure ≤ d ∧ ∀ y, s.behind? n (b.serial.getD 0) = some y → d < y.stay.arrival := by
  unfold departureCase at h
  split at h
  · cases h
  · next reached =>
    split at h
    · cases h
    · split at h
      · cases h
      · next free =>
        refine ⟨not_lt.1 reached, fun y hy => ?_⟩
        rw [hy] at free
        simpa using free

theorem booking?_serial {s : State} {n k : Nat} {b : Booking} (h : s.booking? n k = some b) : b.serial = some k := by
  obtain ⟨x, _, found⟩ := Option.bind_eq_some_iff.1 h
  have holds := List.find?_some found
  simp only [Bool.and_eq_true, beq_iff_eq] at holds
  exact holds.2

theorem kept_depart (r : Rollover) (n k : Nat) (p : State × Nat) : Kept P p.1 (depart r n k p).1 := by
  unfold depart
  dsimp only
  split
  · exact .refl p.1
  · next b hb =>
    split
    · exact .refl p.1
    · next kind _ => exact kept_endBooking n b (some kind) p.1
    · next stays_on =>
      obtain ⟨reached, free⟩ := departureCase_overstays stays_on
      rw [booking?_serial hb] at free
      exact (kept_departure hb (fun long => by omega) fun y hy _ _ => free y hy).report _

end Sys2Proof.Machine
end

section
/-! SUPPORT. What the rollover, the calls, the meters, the terminal, the frames and a load keep of the booking store's form; the
statement about every step. -/

namespace Sys2Proof.Machine

variable {P : Prop}

/-! ### DCK -/

theorem kept_rollBooking (r : Rollover) (n : Nat) (b : Booking) (p : State × Nat) : Kept P p.1 (rollBooking r n b p).1 :=
  ((kept_chargeNight r n b p.1).trans (kept_changeBooking (n := n) (k := b.serial.getD 0) _)).trans
    (kept_depart r n (b.serial.getD 0) (changeBooking n (b.serial.getD 0) (flipDay r.closing) (chargeNight r n b p.1), p.2))

theorem kept_rollBerth (r : Rollover) (n : Nat) (p : State × Nat) : Kept P p.1 (rollBerth r n p).1 := by
  have rolled (l : List Booking) (p : State × Nat) : Kept P p.1 (l.foldl (fun x k => rollBooking r n k x) p).1 := by
    induction l generalizing p with
    | nil => exact .refl p.1
    | cons b l ih => exact (kept_rollBooking r n b p).trans (ih _)
  unfold rollBerth
  split
  · exact .refl p.1
  · exact (rolled _ p).trans (kept_arrivals _ _ _)

theorem kept_setDck (v : Dck) (s : State) : Kept P s (s.setDck v) := .same ⟨rfl, rfl⟩

theorem kept_reach (d : Nat) (s : State) : Kept P s (reach d s) := .same (by simp)

theorem kept_rollover (d t : Nat) (s : State) : Kept P s (rollover d t s) := by
  have rolled (r : Rollover) (l : List Nat) (p : State × Nat) : Kept P p.1 (l.foldl (fun x n => rollBerth r n x) p).1 := by
    induction l generalizing p with
    | nil => exact .refl p.1
    | cons n l ih => exact (kept_rollBerth r n p).trans (ih _)
  unfold rollover
  exact (((kept_setDck _ s).trans (rolled _ _ (_, 0))).trans (kept_setDck _ _)).report _

theorem kept_advance (t : DayTime) (s : State) : Kept P s (advance t s) := by
  have ticked (v : Dck) := (kept_reach (P := P) s.dck.tickAt s).trans (kept_setDck v _)
  exact .ite (.ite ((ticked _).report _) ((ticked _).trans (kept_rollover _ _ _))) (ticked _)

theorem kept_setClock (d t : Nat) (s : State) : Kept P s (setClock d t s) := kept_setDck _ s

theorem kept_broadcast (b : FrameBody) (s : State) : Kept P s (broadcast b s).1 := .same (by simp)

theorem kept_doSetTime (d t : Nat) (s : State) : Kept P s (doSetTime d t s).1 := by
  unfold doSetTime
  split
  · exact .refl s
  · exact (((kept_setClock _ _ s).trans (kept_broadcast _ _)).trans (kept_examine _ _)).report _

theorem kept_adoptTime (n d t : Nat) (s : State) : Kept P s (adoptTime n d t s) :=
  ((kept_setClock _ _ s).trans (kept_examine _ _)).report _

/-! ### ALC -/

/-- The berth offered is in the table and a candidate (R50, R51). -/
theorem bestBerth?_mem {s : State} {call : CallBody} {b : Berth} (h : s.bestBerth? call = some b) :
    b ∈ s.bst.berths ∧ candidate s.cfg call b = true := by
  obtain none | ⟨x, hx, e⟩ := foldl_pick_mem (f := fun best b => match best with
      | none => some b
      | some x =>
        let cx := costOf s.cfg call x
        let cb := costOf s.cfg call b
        if cb < cx || (cb == cx && b.cfg.number < x.cfg.number) then some b else some x)
    (fun best x => by
      cases best with
      | none => exact .inl rfl
      | some b => dsimp only; split; exacts [.inl rfl, .inr rfl]) (s.bst.berths.filter (candidate s.cfg call)) none
  · cases none.symm.trans h
  · cases e.symm.trans h
    exact List.mem_filter.1 hx

theorem berth?_of_mem {s : State} (unique : (s.bst.berths.map fun b => b.cfg.number).Nodup) {b : Berth} (h : b ∈ s.bst.berths) :
    s.berth? b.cfg.number = some b := by
  cases found : s.berth? b.cfg.number with
  | none => simpa using List.find?_eq_none.1 found b h
  | some x => rw [List.inj_on_of_nodup_map unique (berth?_mem found) h (berth?_number found)]

theorem candidate_canInsert {i : Image} {call : CallBody} {b : Berth} (h : candidate i call b = true) :
    canInsert b.bookings call.stay.arrival call.stay.departure = true := by
  simp only [candidate, Bool.and_eq_true] at h
  exact h.2

theorem kept_evaluate (ref : CallRef) (call : CallBody) (s : State) (stay : P → call.stay.arrival < call.stay.departure) :
    Kept P s (evaluate ref call s).1 := by
  unfold evaluate
  split
  · exact .refl s
  · split
    · exact .refl s
    · next b hb =>
      intro ok
      obtain ⟨mem, fits⟩ := bestBerth?_mem hb
      have unique := ok.2.1
      refine kept_insertion (t := tentativeBooking s.cfg ref call.stay (s.now + s.cfg.tentativeTime * 1000)) (fun x hx => ?_) stay
        (fun live => by cases live) (fun live => by cases live) ok
      rw [berth?_of_mem unique mem] at hx
      cases hx
      exact candidate_canInsert fits

theorem kept_applyClose (ref : CallRef) (w : Option (Nat × Nat)) (s : State) : Kept P s (applyClose ref w s) :=
  .foldl (fun x _ => .ite (.refl x) (kept_dropTentative _ _ _ x)) _ s

theorem kept_ownerTake (ref : CallRef) (n : Nat) (stay : Stay) (tags : List Tag) (name : Option BoatName) (s : State) :
    Kept P s (ownerTake ref n stay tags name s).1 := by
  unfold ownerTake
  (repeat' split) <;> first | exact .refl s | exact kept_convert _ _ _ _ _ s

theorem kept_changeCall (n : Num8) (f : Call → Call) (s : State) : Kept P s (changeCall n f s) := .same ⟨rfl, rfl⟩

theorem kept_setAlc (v : Alc) (s : State) : Kept P s (s.setAlc v) := .same ⟨rfl, rfl⟩

theorem kept_finishCall (n : Num8) (o : CallOutcome) (s : State) : Kept P s (finishCall n o s) :=
  ((((kept_setAlc _ s).trans (kept_changeCall _ _ _)).trans (kept_broadcast _ _)).trans (kept_applyClose _ _ _)).report _

theorem kept_ask (n : Nat) (b : FrameBody) (o : Originator) (s : State) : Kept P s (ask n b o s).1 := .same (by simp)

theorem kept_takeHead (k : Nat) (n : Num8) (s : State) : Kept P s (takeHead k n s) := by
  induction k generalizing s with
  | zero => exact kept_finishCall _ _ s
  | succ k ih =>
    have dropped {t : State} (h : Kept P s t) : Kept P s (takeHead k n (dropHead n t)) :=
      (h.trans (kept_changeCall _ _ _)).trans (ih _)
    unfold takeHead
    split
    · exact .refl s
    · split
      · exact kept_finishCall _ _ s
      · have taking (f : Call → Call) := kept_changeCall (P := P) n f s
        dsimp only
        split
        · have owned (f : Call → Call) (ref : CallRef) (berth : Nat) (stay : Stay) (tags : List Tag) (name : Option BoatName) :=
            (taking f).trans (kept_ownerTake ref berth stay tags name _)
          split
          · exact (owned _ _ _ _ _ _).trans (kept_finishCall _ _ _)
          · exact dropped (owned _ _ _ _ _ _)
          · exact dropped ((owned _ _ _ _ _ _).report _)
        · have asked (f : Call → Call) (d : Nat) (b : FrameBody) := (taking f).trans (kept_ask d b (.call n) _)
          exact .ite (asked _ _ _) (dropped (asked _ _ _))

theorem kept_takeNext (n : Num8) (s : State) : Kept P s (takeNext n s) := kept_takeHead _ _ s

theorem kept_takeResult (n : Num8) (r : TakeResult) (s : State) : Kept P s (takeResult n r s) := by
  unfold takeResult
  split
  · exact .refl s
  · split
    · exact .refl s
    · split
      · exact kept_finishCall _ _ s
      · exact (kept_changeCall _ _ s).trans (kept_takeNext _ _)
      · exact (((Kept.refl s).report _).trans (kept_changeCall _ _ _)).trans (kept_takeNext _ _)

theorem kept_takeTimedOut (n : Num8) (s : State) : Kept P s (takeTimedOut n s) := by
  unfold takeTimedOut
  split
  · exact .refl s
  · split
    · exact .refl s
    · exact (((Kept.refl s).report _).trans (kept_changeCall _ _ _)).trans (kept_takeNext _ _)

theorem kept_openCall (n : Num8) (r : CallRequest) (s : State) (stay : r.stay.arrival < r.stay.departure) :
    Kept P s (openCall n r s) := by
  have offered (v : Alc) (ref : CallRef) := (kept_setAlc (P := P) v s).trans (kept_evaluate ref r.body _ fun _ => stay)
  unfold openCall
  dsimp only
  split
  · exact (offered _ _).trans (kept_changeCall _ _ _)
  · exact offered _ _

/-- A request asks for the days of its form. -/
theorem request?_days {f : AllocateForm} {r : CallRequest} (h : f.request? = some r) :
    r.stay.arrival = f.arrival ∧ r.stay.departure = f.departure := by
  unfold AllocateForm.request? at h
  (repeat' split at h) <;> cases h <;> exact ⟨rfl, rfl⟩

theorem kept_doAllocate (form : AllocateForm) (s : State) : Kept P s (doAllocate form s).1 := by
  unfold doAllocate
  split
  · exact .refl s
  · split
    · exact .refl s
    · next r hr =>
      obtain ⟨arrival, departure⟩ := request?_days hr
      split
      · exact .refl s
      · next days =>
        simp only [Bool.or_eq_true, decide_eq_true_eq, not_or, not_le] at days
        (repeat' split)
        · exact .refl s
        · exact .refl s
        · dsimp only
          split
          · exact (kept_broadcast _ s).trans (kept_openCall _ _ _ (by rw [arrival, departure]; exact days.2))
          · exact kept_broadcast _ s

theorem kept_enqueueOn (c : Channel) (f : Frame) (s : State) : Kept P s (enqueueOn c f s).1 := .same (by simp)

theorem kept_onBerthCall (c : Channel) (ref : CallRef) (body : CallBody) (s : State)
    (stay : P → body.stay.arrival < body.stay.departure) : Kept P s (onBerthCall c ref body s) := by
  have evaluated := kept_evaluate ref body s stay
  unfold onBerthCall
  refine .ite (.refl s) ?_
  dsimp only
  split
  · exact evaluated
  · have offered (c : Channel) (f : Frame) := evaluated.trans (kept_enqueueOn c f _)
    exact .ite (offered _ _) ((offered _ _).trans (kept_dropTentative _ _ _ _))

theorem kept_sendAnswer (c : Channel) (n : Nat) (q : Num8) (b : FrameBody) (s : State) : Kept P s (sendAnswer c n q b s) :=
  .same (by simp)

/-- An answer is handed to the originator of its request. -/
theorem kept_takeAnswer (n : Nat) (q : Num8) (b : FrameBody) {hand : Pending → State → State}
    (h : ∀ p s, Kept P s (hand p s)) (s : State) : Kept P s (takeAnswer n q b hand s) := by
  unfold takeAnswer
  split
  · exact (Kept.same (by simp)).trans (h _ _)
  · exact .same (by simp)

theorem kept_onTakeAnswer (n : Nat) (q : Num8) (ref : CallRef) (berth : Nat) (r : TakeResult) (s : State) :
    Kept P s (onTakeAnswer n q ref berth r s) := by
  refine kept_takeAnswer _ _ _ (fun p s => ?_) s
  cases p.originator with
  | call n => exact kept_takeResult _ _ s
  | _ => exact .refl s

/-! ### Metering -/

theorem kept_setPbc (v : Pbc) (s : State) : Kept P s (s.setPbc v) := .same ⟨rfl, rfl⟩

theorem kept_chargeUnits (m : Meter) (b : Option Nat) (u : Nat) (s : State) : Kept P s (chargeUnits m b u s) := by
  have counted : KeepsForm (addUsage m u) := by
    intro k live
    cases m <;> exact ⟨rfl, live, rfl⟩
  unfold chargeUnits
  refine .ite (.refl s) ?_
  split
  · exact (kept_changeBooking s counted).trans (kept_meterCharge _ _ _ _ _ _)
  · exact .same (by simp)

theorem kept_meterOutlet (r : Bool) (e n : Nat) (v : Count16) (s : State) : Kept P s (meterOutlet r e n v s) := by
  unfold meterOutlet
  split
  · exact .refl s
  · dsimp only
    split
    · exact kept_setPbc _ s
    · exact (kept_setPbc _ s).trans (kept_chargeUnits _ _ _ _)
    · exact (kept_setPbc _ s).report _

theorem kept_countLeak (t : Tap) (l : Nat) (s : State) : Kept P s (countLeak t l s) := .same (by simp)

theorem kept_meterTap (r : Bool) (e n : Nat) (v : Count16) (s : State) : Kept P s (meterTap r e n v s) := by
  unfold meterTap
  split
  · exact .refl s
  · dsimp only
    split
    · exact kept_setPbc _ s
    · exact ((kept_setPbc _ s).trans (kept_countLeak _ _ _)).trans (kept_chargeUnits _ _ _ _)
    · exact (kept_setPbc _ s).report _

theorem kept_changeOutlet (n : Nat) (f : Outlet → Outlet) (s : State) : Kept P s (changeOutlet n f s) := .same (by simp)

theorem kept_currentOutlet (n : Nat) (r : OutletReading) (s : State) : Kept P s (currentOutlet n r s) := by
  unfold currentOutlet
  split
  · exact .refl s
  · have seen (f : Outlet → Outlet) : Kept P s (patchOutlet n f s) := kept_setPbc _ s
    have smoothed (f g : Outlet → Outlet) := (seen f).trans (kept_changeOutlet n g _)
    exact .ite (.ite ((smoothed _ _).trans (kept_outletTrips _ _ _ _))
        (.ite ((smoothed _ _).trans (kept_outletTrips _ _ _ _)) (smoothed _ _)))
      (.ite ((seen _).trans (kept_outletTrips _ _ _ _)) (seen _))

theorem kept_pressReset (n : Nat) (s : State) : Kept P s (pressReset n s) := .same (by simp)

theorem kept_pressTap (n : Nat) (s : State) : Kept P s (pressTap n s) := .same (by simp)

theorem kept_pressesOutlet (f : Bool) (n : Nat) (r : OutletReading) (s : State) : Kept P s (pressesOutlet f n r s) := by
  unfold pressesOutlet
  split
  · exact .refl s
  · exact ((kept_setPbc _ s).trans (.times (kept_pressReset n) _ _)).trans (.times (kept_pressOutlet n) _ _)

theorem kept_pressesTap (f : Bool) (n : Nat) (r : TapReading) (s : State) : Kept P s (pressesTap f n r s) := by
  unfold pressesTap
  split
  · exact .refl s
  · exact (kept_setPbc _ s).trans (.times (kept_pressTap n) _ _)

theorem kept_answerSteps (p : Post) (a : PostAnswer) (s : State) : Kept P s (answerSteps p a s) := by
  have energy (r : Bool) (e : Nat) (l : List (Nat × OutletReading)) (u : State) :
      Kept P u (l.foldl (fun x o => meterOutlet r e o.1 o.2.energy x) u) := .foldl (fun x _ => kept_meterOutlet _ _ _ _ x) l u
  have water (r : Bool) (e : Nat) (l : List (Nat × TapReading)) (u : State) :
      Kept P u (l.foldl (fun x o => meterTap r e o.1 o.2.volume x) u) := .foldl (fun x _ => kept_meterTap _ _ _ _ x) l u
  have currents (l : List (Nat × OutletReading)) (u : State) : Kept P u (l.foldl (fun x o => currentOutlet o.1 o.2 x) u) :=
    .foldl (fun x _ => kept_currentOutlet _ _ x) l u
  have outlets (f : Bool) (l : List (Nat × OutletReading)) (u : State) :
      Kept P u (l.foldl (fun x o => pressesOutlet f o.1 o.2 x) u) := .foldl (fun x _ => kept_pressesOutlet _ _ _ x) l u
  have taps (f : Bool) (l : List (Nat × TapReading)) (u : State) :
      Kept P u (l.foldl (fun x o => pressesTap f o.1 o.2 x) u) := .foldl (fun x _ => kept_pressesTap _ _ _ x) l u
  have heard : Kept P s (postHeard p a.restart s) := .same (by simp)
  unfold answerSteps
  exact ((((heard.trans (energy _ _ _ _)).trans (water _ _ _ _)).trans (currents _ _)).trans (outlets _ _ _)).trans
    (taps _ _ _)

theorem kept_settlePosts (s : State) : Kept P s (settlePosts s) := .same (by simp)

theorem kept_takePostAnswer (p : Post) (a : PostAnswer) (s : State) : Kept P s (takePostAnswer p a s) :=
  ((kept_answerSteps p a s).trans (kept_settlePosts _)).trans (kept_setPbc _ _)

theorem kept_nextPoll (s : State) : Kept P s (nextPoll s) := .same (by simp)

end Sys2Proof.Machine
end

section
/-! SUPPORT. The booking store's form through the terminal, the frames, a load and every command: the statement about every step. -/

namespace Sys2Proof.Machine

variable {P : Prop}

/-! ### The terminal and the frames -/

theorem kept_onNamedOutlet (kind : CmdKind) (n k : Nat) {f : Outlet → State → State × Reply}
    (h : ∀ o s, Kept P s (f o s).1) (s : State) : Kept P s (onNamedOutlet kind n k f s).1 := by
  unfold onNamedOutlet
  (repeat' split) <;> first | exact .refl s | exact h _ s

theorem kept_doEnergise (n k : Nat) (s : State) : Kept P s (doEnergise n k s).1 := by
  refine kept_onNamedOutlet _ _ _ (fun o s => ?_) s
  cases o.state with
  | off =>
    dsimp only
    split <;> exact kept_requestOutlet o s
  | _ => exact .refl s

theorem kept_doOff (n k : Nat) (s : State) : Kept P s (doOff n k s).1 := by
  refine kept_onNamedOutlet _ _ _ (fun o s => ?_) s
  cases o.state with
  | off | tripped => exact .refl s
  | _ => exact kept_switchOff o s

theorem kept_doResetOutlet (n k : Nat) (s : State) : Kept P s (doResetOutlet n k s).1 := by
  refine kept_onNamedOutlet _ _ _ (fun o s => ?_) s
  cases o.state with
  | tripped =>
    dsimp only
    split
    · exact .refl s
    · exact kept_outletOff _ s
  | _ => exact .refl s

theorem kept_doClearLeak (n : Nat) (s : State) : Kept P s (doClearLeak n s).1 := by
  unfold doClearLeak
  split
  · exact .refl s
  · split
    · exact .refl s
    · exact .ite ((kept_setPbc _ s).report _) (kept_setPbc _ s)

theorem kept_doReadStatements (sel : StatementSelector) (resume limit : Nat) (s : State) :
    Kept P s (doReadStatements sel resume limit s).1 := by
  unfold doReadStatements
  cases sel with
  | all => exact .refl s
  | unread => exact .foldl (f := fun x n => markRead n x) (fun x n => .same (by simp)) _ s

theorem kept_effect (limit : Nat) (c : TermCmd) (s : State) : Kept P s (effect limit c s).1 := by
  cases c with
  | checkOut _ _ _ => exact kept_doCheckOut _ _ s
  | cancel _ _ _ => exact kept_doCancel _ _ s
  | extend _ _ _ _ => exact kept_doExtend _ _ _ s
  | setTags _ _ _ _ => exact kept_doSetTags _ _ _ s
  | credit _ _ _ _ => exact kept_doCredit _ _ _ s
  | bar _ _ _ => exact kept_doBarMark _ _ _ _ s
  | unbar _ _ _ => exact kept_doBarMark _ _ _ _ s
  | setMarks _ _ _ _ _ => exact kept_doSetMarks _ _ _ _ s
  | dropHold _ _ _ _ => exact kept_doDropHold _ _ _ s
  | allocate _ => exact kept_doAllocate _ s
  | energise _ _ _ => exact kept_doEnergise _ _ s
  | off _ _ _ => exact kept_doOff _ _ s
  | resetOutlet _ _ _ => exact kept_doResetOutlet _ _ s
  | clearLeak _ _ => exact kept_doClearLeak _ s
  | setTime _ _ => exact kept_doSetTime _ _ s
  | readStatements _ _ => exact kept_doReadStatements _ _ _ s
  | _ => exact .same (by simp [effect])

theorem kept_setTpc (v : Tpc) (s : State) : Kept P s (s.setTpc v) := .same ⟨rfl, rfl⟩

theorem kept_sendReply (r : Reply) (s : State) : Kept P s (sendReply r s) := kept_setTpc _ s

theorem kept_performHere (c : TermCmd) (s : State) : Kept P s (performHere c s) :=
  (kept_effect s.tpc.limit c s).trans (kept_sendReply _ _)

theorem kept_forward (length station : Nat) (c : TermCmd) (s : State) : Kept P s (forward length station c s) := .same (by simp)

theorem kept_ownRule (length : Nat) (c : TermCmd) (s : State) : Kept P s (ownRule length c s) := by
  have here := kept_performHere (P := P) c s
  have waits (v : Cfl) (w : TpcState) : Kept P s (working w (s.setCfl v)) := .same ⟨rfl, rfl⟩
  unfold ownRule
  split
  · exact .ite here (waits _ _)
  · split
    · exact here
    · exact .ite here (.ite (kept_sendReply _ s) (.ite here (kept_forward _ _ c s)))

theorem kept_takeCommand (length : Nat) (c : TermCmd) (s : State) : Kept P s (takeCommand length c s) :=
  .ite (kept_sendReply _ s) (.ite (kept_sendReply _ s) (kept_ownRule length c s))

theorem kept_terminalCommand (c : TermCmd) (s : State) : Kept P s (terminalCommand c s) :=
  kept_event (f := fun s => if s.tpc.listens then takeCommand (Config.payloadBytes c) c s else
    discard (Config.payloadBytes c + 5) s) (.ite (kept_takeCommand _ c s) (kept_setTpc _ s))

theorem kept_takeFrame (l : List Byte) (s : State) : Kept P s (takeFrame l s) := by
  unfold takeFrame
  dsimp only
  refine .ite (kept_sendReply _ s) (.ite (kept_sendReply _ s) ?_)
  split
  · exact kept_sendReply _ s
  · refine .ite (kept_sendReply _ s) ?_
    split
    · exact kept_sendReply _ s
    · exact .ite (kept_takeCommand _ _ s) (kept_sendReply _ s)

theorem kept_takeByte (b : Byte) (s : State) : Kept P s (takeByte b s) := by
  unfold takeByte
  split
  · exact .ite (kept_setTpc _ s) (.refl s)
  · have joined (v : Tpc) := kept_setTpc (P := P) v s
    exact .ite ((joined _).trans (kept_setTpc _ _)) (.ite ((joined _).trans (kept_takeFrame _ _)) (joined _))
  all_goals exact kept_setTpc _ s

theorem kept_onOfficeRequest (c : Channel) (n : Nat) (q : Num8) (x : OfficeCommand) (limit : Nat) (s : State) :
    Kept P s (onOfficeRequest c n q x limit s) := by
  unfold onOfficeRequest
  split
  · exact kept_sendAnswer _ _ _ _ s
  · split
    · exact kept_sendAnswer _ _ _ _ s
    · exact ((kept_effect _ _ s).trans (kept_setTpc _ _)).trans (kept_sendAnswer _ _ _ _ _)

theorem kept_handTimedOut (p : Pending) (s : State) : Kept P s (handTimedOut p s) := by
  unfold handTimedOut
  cases p.originator with
  | call n => exact kept_takeTimedOut n s
  | lookup t => exact .same (lookupTimedOut_shelf t s)
  | pumpSale id => exact .same (pumpTimedOut_shelf id s)
  | unsettled id => exact .same ⟨rfl, rfl⟩
  | terminal => exact .same (by simp)

/-- What a frame delivered keeps; a Berth Call asks for a stay that ends after it begins, where the order of the lists is asked
for. -/
theorem kept_deliverFrame (c : Channel) (n : Nat) (q : Num8) (b : FrameBody) (s : State)
    (stay : ∀ ref body, b = .berthCall ref body → P → body.stay.arrival < body.stay.departure) :
    Kept P s (deliverFrame c n q b s) := by
  cases b with
  | holdRequest _ _ _ _ => exact (kept_ownerHold _ _ _ _ s).trans (kept_sendAnswer _ _ _ _ _)
  | holdAnswer id r => exact kept_takeAnswer _ _ _ (fun _ s => .same (holdResult_shelf id r s)) s
  | settleRequest _ _ _ => exact (kept_ownerSettle _ _ _ s).trans (kept_sendAnswer _ _ _ _ _)
  | settleAnswer id r =>
    refine kept_takeAnswer _ _ _ (fun p s => ?_) s
    cases p.originator with
    | unsettled _ => exact .same (listSettled_shelf id r s)
    | _ => exact .same (pumpSettled_shelf id r s)
  | tagAnswer c d => exact kept_takeAnswer _ _ _ (fun _ s => .same (lookupAnswered_shelf c d s)) s
  | berthCall ref body => exact kept_onBerthCall _ _ _ s (stay ref body rfl)
  | berthTake _ _ _ _ _ => exact (kept_ownerTake _ _ _ _ _ s).trans (kept_sendAnswer _ _ _ _ _)
  | takeAnswer _ _ _ => exact kept_onTakeAnswer _ _ _ _ _ s
  | berthClose _ _ => exact kept_applyClose _ _ s
  | officeRequest _ _ => exact kept_onOfficeRequest _ _ _ _ _ s
  | timeNotice _ _ => exact kept_adoptTime _ _ _ s
  | announce values => cases values <;> exact .same (by simp [deliverFrame])
  | _ => exact .same (by simp [deliverFrame])

theorem kept_heardOn (c : Channel) (s : State) : Kept P s (heardOn c s) := .same (by simp)

theorem kept_onErrors (f : ErrorSummary → ErrorSummary) (s : State) : Kept P s (onErrors f s) := .same (by simp)

theorem kept_takeWire (c : Channel) (l : List Byte) (s : State) (stay : ∀ f ref body, checkFrame l = .ok f →
    Config.readPayload f.code f.payload = .berthCall ref body → P → body.stay.arrival < body.stay.departure) :
    Kept P s (takeWire c l s) := by
  unfold takeWire
  split
  · exact kept_onErrors _ s
  · exact (kept_heardOn c s).trans (kept_onErrors _ _)
  · next f good =>
    have heard := kept_heardOn (P := P) c s
    exact .ite (heard.report _) (.ite heard (.ite (heard.trans (kept_deliverFrame _ _ _ _ _ fun ref body e =>
      stay f ref body good e)) heard))

theorem kept_receive {c : Channel} {n : Nat} {d : State → State} (h : ∀ s, Kept P s (d s)) (s : State) :
    Kept P s (receive c n d s) :=
  receive_rel .refl (fun _ _ _ => .trans) kept_heardOn (fun _ s => (Kept.refl s).report _) h s

/-! ### The load (R23, R196) -/

theorem kept_loadStatement (n : Nat) (s : State) : Kept P s (loadStatement n s) := by
  have lost (id : RecordId) (b : Option Nat) : Kept P s (loseRecord id b s) := ((Kept.refl s).report _).trans (kept_queueRecord _ _)
  unfold loadStatement
  dsimp only
  split
  · split
    · exact .same ⟨rfl, rfl⟩
    · exact .refl s
    · exact lost _ _
  · exact lost _ _

theorem stationRecord?_range {r : StoredRecord} {next last : Nat} (h : stationRecord? r = some (next, last)) :
    1 ≤ next ∧ next ≤ 65535 := by
  unfold stationRecord? at h
  (repeat' split at h) <;> cases h
  next _ sound =>
    simp only [within, Bool.and_eq_true, decide_eq_true_eq] at sound
    omega

theorem kept_loadStation (s : State) : Kept P s (loadStation s).1 := by
  unfold loadStation
  split
  · next next last h => exact kept_setNextSerial rfl (stationRecord?_range h)
  · exact (Kept.refl s).report _

theorem kept_rebuildStation (s : State) : Kept P s (rebuildStation s) := by
  have next (last : Nat) : Kept P s (s.setBst { s.bst with
      lastEnding := last, nextSerial := serialAfter (s.serials.foldl max 0) }) :=
    kept_setNextSerial (v := { s.bst with lastEnding := last, nextSerial := serialAfter (s.serials.foldl max 0) }) rfl
      (serialAfter_range _)
  exact (next _).trans (kept_queueRecord _ _)

/-- A stored booking that is in its ranges and finds room is entered, or its record is lost or ended. -/
theorem kept_enterBooking {n berth : Nat} {b : Booking} {s : State} (fields : b.fieldsOk = true) (room : s.roomFor berth b = true) :
    Kept P s (enterBooking n berth b s) := by
  have clashes (l : List Tag) : Kept P s (l.foldl (fun x t => report (.tagClash t none none) x) s) :=
    .foldl (fun x _ => (Kept.refl x).report _) l s
  have berths (l : List Tag) : (l.foldl (fun x t => report (.tagClash t none none) x) s).bst = s.bst :=
    foldl_same State.bst _ (fun _ _ => by simp) l s
  simp only [Booking.fieldsOk, Bool.and_eq_true, decide_eq_true_eq] at fields
  obtain ⟨⟨⟨⟨⟨⟨⟨⟨⟨⟨⟨⟨⟨⟨⟨⟨⟨⟨serial, state⟩, _⟩, _⟩, _⟩, _⟩, days⟩, _⟩, _⟩, _⟩, _⟩, _⟩, _⟩, _⟩, _⟩, _⟩, _⟩, _⟩, _⟩ := fields
  unfold State.roomFor at room
  unfold enterBooking
  dsimp only
  split
  · exact ((clashes _).report _).trans (kept_queueRecord _ _)
  · split
    · exact ((clashes _).report _).trans (kept_queueRecord _ _)
    · refine (clashes _).trans (kept_insertion (fun x hx => ?_) (fun _ => days) (fun _ => ?_) fun _ k hk => ?_)
      · rw [berth?_same s _ (congrArg Bst.berths (berths _))] at hx
        rw [hx] at room
        simp only [Bool.and_eq_true] at room
        exact room.1
      · simpa [within] using serial
      · rw [serials_eq, berths, ← serials_eq]
        have given : b.serial = some k := by simpa using hk
        split at room
        · cases room
        · simp only [given, Option.getD_some, Bool.and_eq_true, Bool.not_eq_true', List.contains_eq_mem,
            decide_eq_false_iff_not] at room
          exact room.2

theorem kept_loadBooking (n : Nat) (s : State) : Kept P s (loadBooking n s) := by
  have lost (id : RecordId) (b : Option Nat) : Kept P s (loseRecord id b s) := ((Kept.refl s).report _).trans (kept_queueRecord _ _)
  unfold loadBooking
  dsimp only
  split
  · exact .ite (.refl s) (lost _ _)
  · split
    · exact lost _ _
    · split
      · exact lost _ _
      · next sound =>
        simp only [Bool.or_eq_true, Bool.not_eq_true', not_or, Bool.not_eq_false] at sound
        exact kept_enterBooking sound.1 sound.2
  · exact lost _ _

theorem kept_loadRecords (s : State) : Kept P s (loadRecords s) := by
  have statements := Kept.foldl (f := fun x i => loadStatement (i + 1) x) (fun x i => kept_loadStatement (P := P) (i + 1) x)
    (List.range 8) s
  have station := statements.trans (kept_loadStation _)
  have bookings := Kept.ite (q := s.cfg.role = .pontoon) (station.trans (Kept.foldl (f := fun x i => loadBooking (i + 1) x)
    (fun x i => kept_loadBooking (i + 1) x) (List.range 256) _)) station
  have kept (u : State) : Kept P u (keepStatements u) := .ite (.refl u) (.same ⟨rfl, rfl⟩)
  exact (Kept.ite bookings (bookings.trans (kept_rebuildStation _))).trans (kept _)

theorem kept_reloadPurse (n : Nat) (b : Booking) (s : State) : Kept P s (reloadPurse n b s) := by
  have expired (f : List Hold → List Hold) (l : List Hold) (p : Prop) [Decidable p] :
      Kept P s (if p then s else reportExpired n l (changeHolds n (b.serial.getD 0) f s)) :=
    .ite (.refl s) ((kept_changeHolds _ _ _ s).trans (kept_reportExpired _ _ _))
  have noticed (v : Cfl) (u : State) : Kept P u (u.setCfl v) := .same ⟨rfl, rfl⟩
  unfold reloadPurse
  dsimp only
  split
  · exact expired _ _ _
  · exact .ite (expired _ _ _)
      (((expired _ _ _).trans (kept_changeBooking (n := n) (k := b.serial.getD 0) _ (keepsForm_onPurse _))).trans (noticed _ _))

theorem kept_reloadPurses (s : State) : Kept P s (reloadPurses s) :=
  .foldl (f := fun x (p : Nat × Booking) => reloadPurse p.1 p.2 x) (fun x p => kept_reloadPurse p.1 p.2 x) _ s

theorem kept_buildPosts (s : State) : Kept P s (buildPosts s) := by
  have outlets (l : List Outlet) (u : State) : Kept P u (l.foldl (fun x o => startOutlet o x) u) := by
    refine .foldl (fun x o => ?_) l u
    unfold startOutlet
    split
    · exact .refl x
    · exact .ite (.refl x) (.ite (.same (by simp)) (.same (by simp)))
  have strays (l : List Berth) (u : State) : Kept P u (l.foldl (fun x b => clearStrayWanted b x) u) :=
    .foldl (fun x b => .foldl (fun y k => kept_changeBooking y) _ x) l u
  have taps (l : List Tap) (u : State) : Kept P u (l.foldl (fun x t => startTap t x) u) :=
    .foldl (fun x t => .ite (.same (by simp)) (.refl x)) l u
  exact ((((kept_setPbc _ s).trans (outlets _ _)).trans (strays _ _)).trans (taps _ _)).trans (kept_settlePosts _)

theorem kept_buildPumps (s : State) : Kept P s (buildPumps s) := by
  have lost (n : Nat) (u : State) : Kept P u (loseRecord (.sale n) none u) := ((Kept.refl u).report _).trans (kept_queueRecord _ _)
  have set (v : Fsc) (u : State) : Kept P u (u.setFsc v) := .same ⟨rfl, rfl⟩
  have listSlot (n : Nat) (u : State) : Kept P u (loadListSlot n u) := by
    unfold loadListSlot
    split
    · exact set _ u
    · exact lost _ u
    · exact .ite (lost _ u) (.refl u)
  have pumpSlot (n : Nat) (u : State) : Kept P u (loadPumpSlot n u) := by
    have changed (f : Pump → Pump) (x : State) : Kept P x (changePump n f x) := set _ x
    have numbered (f : Pump → Pump) := (Kept.ite (q := u.saleLostAt n = true) (lost n u) (.refl u)).trans (changed f _)
    unfold loadPumpSlot
    dsimp only
    split
    · exact numbered _
    · split
      · exact (numbered _).trans (changed _ _)
      · exact (numbered _).trans (changed _ _)
      · exact (((numbered _).trans (changed _ _)).trans (kept_queueRecord _ _)).report _
      all_goals exact .ite ((numbered _).trans (changed _ _)) (((numbered _).trans (changed _ _)).trans (kept_queueRecord _ _))
  unfold buildPumps
  split
  · have listed (v : Fsc) := (set v s).trans (Kept.foldl (fun x i => listSlot (i + 5) x) (List.range 16) _)
    have pumps (v w : Fsc) (l : List Nat) := ((listed v).trans (set w _)).trans (Kept.foldl (fun x n => pumpSlot n x) l _)
    exact (pumps _ _ _).trans (Kept.foldl (fun x n => .ite (lost n x) (.refl x)) _ _)
  · exact .refl s

theorem kept_setGtc (v : Gtc) (s : State) : Kept P s (s.setGtc v) := .same ⟨rfl, rfl⟩

theorem kept_buildGates (s : State) : Kept P s (buildGates s) := by
  have raised (l : List Gate) (u : State) : Kept P u (l.foldl (fun x g => raiseAjar g x) u) :=
    .foldl (fun x g => .same (by simp)) l u
  unfold buildGates
  exact (kept_setGtc _ s).trans (raised _ _)

/-- What a load does behind CFL's handing out of the values. -/
theorem kept_loadImage (body : List Byte) (read : Image) (s : State) :
    Kept P (handValues body read s) (loadImage body read s) := by
  have pins (l : List PinCfg) (u : State) : Kept P u (l.foldl (fun x p => pinTag p x) u) :=
    .foldl (fun x p => .same (by simp)) l u
  have posts := ((kept_loadRecords (P := P) (handValues body read s)).trans (kept_reloadPurses _)).trans (kept_buildPosts _)
  exact ((posts.trans (pins _ _)).trans (kept_buildGates _)).trans (kept_buildPumps _)

/-! ### The image's berths (R196) -/

theorem firstClash_none {l : List Nat} {seen : List Nat} {row : Nat} (h : firstClash (l.map fun n => [n]) seen row = none) :
    l.Nodup ∧ ∀ n ∈ l, n ∉ seen := by
  induction l generalizing seen row with
  | nil => simp
  | cons n l ih =>
    simp only [List.map_cons, firstClash] at h
    split at h
    · cases h
    · next new =>
      obtain ⟨nodup, unseen⟩ := ih h
      simp only [List.singleton_append, List.mem_cons, not_or] at unseen
      refine ⟨List.nodup_cons.2 ⟨fun hn => (unseen n hn).1 rfl, nodup⟩, fun m hm => ?_⟩
      obtain rfl | hm := List.mem_cons.1 hm
      · simpa using new
      · exact (unseen m hm).2

/-- The fields of an image that is in its ranges. -/
theorem outOfRange?_none {i : Image} {unread : List Field} (h : i.outOfRange? unread = none) : ∀ c ∈ i.ranges, c.2 = true := by
  intro c hc
  by_contra bad
  have found := foldl_pick_isSome (f := fun best f => match best with
      | none => some f
      | some b => if Field.le b f then some b else some f)
    (fun best x => by
      cases best with
      | none => rfl
      | some b => dsimp only; split <;> rfl) (unread ++ (i.ranges.filter fun c => !c.2).map Prod.fst) none
    (.inl (List.append_ne_nil_of_right_ne_nil _ (List.ne_nil_of_mem
      (List.mem_map_of_mem (List.mem_filter.2 ⟨hc, by simpa using bad⟩)))))
  cases (congrArg Option.isSome h).symm.trans found

/-- An image that checks out has at most 64 berths, each number once. -/
theorem checkImage_berths {bytes : List Byte} {i : Image} (h : checkImage bytes = .ok i) :
    i.berths.length ≤ 64 ∧ (i.berths.map BerthCfg.number).Nodup := by
  unfold checkImage at h
  dsimp only at h
  split at h
  · cases h
  split at h
  · cases h
  split at h
  · cases h
  split at h
  · cases h
  next inRange =>
  split at h
  · cases h
  next cross =>
  cases h
  refine ⟨?_, ?_⟩
  · have count := outOfRange?_none inRange (⟨.berths, 0, 0⟩, within 0 64 (Config.readBody (imageBody bytes)).1.berths.length)
      (by simp [Image.ranges, tableFields])
    simpa [within] using count
  · simp only [Image.crossFails?, Option.or_eq_none_iff] at cross
    have unique := cross.1.1.1.1.1.1.1.1.1.1.1.2
    unfold uniqueRows at unique
    split at unique
    · cases unique
    · next none =>
      refine (firstClash_none (row := 1) (seen := []) ?_).1
      rw [List.map_map]
      exact none

theorem handValues_ok {body : List Byte} {read : Image} {s : State} (count : read.berths.length ≤ 64)
    (unique : (read.berths.map BerthCfg.number).Nodup) (next : 1 ≤ s.bst.nextSerial ∧ s.bst.nextSerial ≤ 65535) :
    (handValues body read s).bookingsOk ∧ (handValues body read s).listsOk := by
  have table : (handValues body read s).bst.berths =
      (sortBy (fun x y : BerthCfg => x.number ≤ y.number) read.berths).map fun b => { cfg := b } := rfl
  have serial : (handValues body read s).bst.nextSerial = s.bst.nextSerial := by simp [handValues]
  have sorted := (sortBy_spec BerthCfg.number read.berths).1
  have empty : ∀ b ∈ (handValues body read s).bst.berths, b.bookings = [] := by
    rw [table, List.forall_mem_map]
    exact fun _ _ => rfl
  refine ⟨⟨?_, ?_, fun b hb => by simp [empty b hb], serial ▸ next, ?_, ?_⟩, fun b hb => by simp [empty b hb]⟩
  · rw [table, List.length_map, sorted.length_eq]
    exact count
  · rw [table, List.map_map]
    exact (sorted.map _).nodup_iff.2 unique
  · rw [liveBookings_numbered]
    intro b hb k hk
    rw [empty b hb] at hk
    cases hk
  · rw [serials_eq, List.flatMap_eq_nil_iff.2 fun b hb => by simp [berthSerials, empty b hb]]
    exact .nil

/-- After a reset the booking store is in its form. -/
theorem resetWith_bookings (cause : ResetCause) (ready : Bool) (s : State) :
    (resetWith cause ready s).bookingsOk ∧ (resetWith cause ready s).listsOk := by
  have without (u : State) (l : LoadState) : ((cleared cause u).setCfl { (cleared cause u).cfl with load := l }).bookingsOk ∧
      ((cleared cause u).setCfl { (cleared cause u).cfl with load := l }).listsOk := ⟨reset_bookingsOk, reset_listsOk⟩
  have first (u : State) : 1 ≤ (cleared cause u).bst.nextSerial ∧ (cleared cause u).bst.nextSerial ≤ 65535 :=
    ⟨Nat.le_refl 1, Nat.le_add_left 1 65534⟩
  have loaded (body : List Byte) (read : Image) (u : State) (count : read.berths.length ≤ 64)
      (unique : (read.berths.map BerthCfg.number).Nodup) (next : 1 ≤ u.bst.nextSerial ∧ u.bst.nextSerial ≤ 65535) :
      (loadImage body read u).bookingsOk ∧ (loadImage body read u).listsOk := by
    obtain ⟨ok, lists⟩ := handValues_ok (body := body) count unique next
    obtain ⟨done, ordered⟩ := kept_loadImage (P := True) body read u ok
    exact ⟨done, ordered trivial lists⟩
  unfold resetWith
  dsimp only
  split
  · split
    · next image accepted =>
      obtain ⟨count, unique⟩ := checkImage_berths accepted
      exact loaded (imageBody (imageBytes (cleared cause (cutWrites s)).store)) image (cleared cause (cutWrites s)) count unique
        (first _)
    · exact without _ _
  · exact without _ _

end Sys2Proof.Machine
end

section
/-! SUPPORT. The booking store's form through every command: the statement about every step. -/

namespace Sys2Proof.Machine

variable {P : Prop}

/-- A Berth Call that a command brings asks for a stay that ends after it begins. -/
theorem callStays_frame {c : Instr} {ch : Channel} {n : Nat} {q : Num8} {ref : CallRef} {body : CallBody}
    (h : frameOf c = some (ch, n, q, .berthCall ref body)) (stays : callStays c) : body.stay.arrival < body.stay.departure := by
  cases c with
  | berthCall _ _ _ _ =>
    cases h
    exact stays
  | _ => cases h

theorem kept_deadlineCome (p : Pending) (s : State) : Kept P s (deadlineCome p handTimedOut s) := by
  have closed : Kept P s (closeRequest p s) := .same (by simp)
  exact .ite (.same (by simp)) (closed.trans (kept_handTimedOut p _))

theorem kept_own (c : Instr) (s t : State) (own : ownMeaning c = true) (h : exec c s = .next t) : Kept (callStays c) s t := by
  cases c with
  | powerOnReset b =>
    cases h
    exact fun _ => ⟨(resetWith_bookings _ _ s).1, fun _ _ => (resetWith_bookings _ _ s).2⟩
  | replySent b =>
    obtain rfl | rfl | rfl := replySent_cases h
    · exact fun _ => ⟨(resetWith_bookings _ _ s).1, fun _ _ => (resetWith_bookings _ _ s).2⟩
    · exact kept_setTpc _ s
    · exact .refl _
  | frameGapTimeout | configWriteStart | configWriteEnd _ | exitButton _ | doorSense _ _ | releaseTimer _ | heldOpenTimer _
  | faultExitReleaseExpiry _ =>
    cases h
    (repeat' split) <;> exact .same (by simp)
  | storeWriteStart =>
    cases h
    exact .ite (.refl s) (.same (startWrite_shelf _ s))
  | storeWriteEnd b =>
    cases h
    split
    · exact .refl s
    · exact .ite (.same (writeDone_shelf _ s)) (.same (writeFailed_shelf _ s))
  | storeWriteTimeout =>
    cases h
    split
    · exact .refl s
    · exact (kept_reach _ s).trans (.same (writeFailed_shelf _ _))
  | storeRetryTimer =>
    cases h
    dsimp only
    (repeat' split) <;> exact .same (by simp)
  | presentation _ _ =>
    cases h
    dsimp only
    (repeat' split) <;> exact .same (by simp)
  | tentativeExpiry n ref =>
    cases h
    refine .whenUp (fun s => ?_) s
    split
    · exact .refl s
    · exact (kept_reach _ s).trans (kept_dropTentative _ _ _ _)
  | holdMinuteTimer =>
    cases h
    refine .whenUp (fun s => ?_) s
    have started : Kept (callStays .holdMinuteTimer) s ((reach s.minuteAt s).setMinuteAt (s.minuteAt + 60000)) :=
      .same (by simp)
    exact started.trans (.foldl (fun x p => kept_event (kept_ageBooking _ _ x)) _ _)
  | windowExpiry n =>
    cases h
    refine kept_event (.whenUp (fun s => ?_) s)
    split
    · exact .refl s
    · exact .ite ((kept_reach _ s).trans (kept_takeNext _ _)) (.refl s)
  | computationTimer =>
    cases h
    exact .whenUp (fun s => kept_event (.same (by simp))) s
  | raiseTimer =>
    cases h
    refine .whenUp (fun s => kept_event ?_) s
    split <;> exact .same (by simp)
  | pollRoundTimer =>
    cases h
    refine .whenUp (fun s => ?_) s
    dsimp only
    split <;> exact .same (by simp)
  | postAnswer n a =>
    cases h
    refine .whenUp (fun s => ?_) s
    split
    · exact .refl s
    · refine .ite ?_ (.same (by simp))
      split
      · exact (kept_takePostAnswer _ _ s).trans (kept_nextPoll _)
      · exact kept_nextPoll s
  | postMiss | restTimer _ | tapRunTimer _ | pumpPollTimer _ | pumpAnswer _ _ | pumpMiss _ | pumpRefusedDisplayExpiry _
  | readyTimer _ | saleRetryTimer | transmitStart _ | transmitComplete _ | arbitrationLost _ | transmitFault _
  | mediumBusyTimeout _ =>
    cases h
    refine .whenUp (fun s => ?_) s
    (repeat' split) <;> exact .same (by simp)
  | silenceTimer _ =>
    cases h
    refine .whenUp (fun s => ?_) s
    dsimp only
    (repeat' split) <;> exact .same (by simp)
  | refusedLampExpiry m =>
    cases h
    refine .whenUp (fun s => ?_) s
    cases m <;> dsimp only <;> split <;> exact .same (by simp)
  | clockSecond =>
    cases h
    refine kept_event (.whenUp (fun s => ?_) s)
    split
    · exact .refl s
    · exact kept_advance _ s
  | responseTimeout q =>
    cases h
    refine kept_event (.whenUp (fun s => ?_) s)
    split
    · exact .refl s
    · split
      · exact .refl s
      · exact (kept_reach _ s).trans (kept_deadlineCome _ _)
  | attemptDrop q =>
    cases h
    refine .whenUp (fun s => ?_) s
    split
    · exact .same (by simp)
    · unfold dropLeftover
      split <;> exact .same (by simp)
  | announceTimer =>
    cases h
    refine kept_event (.whenUp (fun s => ?_) s)
    dsimp only
    split <;> exact .same (by simp)
  | stalenessTimer n =>
    cases h
    refine kept_event (.whenUp (fun s => ?_) s)
    (repeat' split) <;> exact .same (by simp)
  | terminalByte b =>
    cases h
    exact kept_event (kept_takeByte b s)
  | quaylineFrameDropped c l =>
    cases h
    exact kept_event (.whenUp (fun s => kept_takeWire c l s fun f ref body good read stays => stays f ref body good read) s)
  | loadEnd =>
    cases h
    refine .ite (kept_event ?_) (.refl s)
    have notices (l : List (Nat × Nat × Standing × Standing)) (u : State) :
        Kept (callStays .loadEnd) u (l.foldl (fun x n => notice n.1 n.2.1 n.2.2.1 n.2.2.2 x) u) :=
      .foldl (fun x n => kept_notice _ _ _ _ x) l u
    have started (v : Cfl) : Kept (callStays .loadEnd) s (s.setCfl v) := .same ⟨rfl, rfl⟩
    unfold endLoad
    dsimp only
    split
    · exact ((started _).trans (notices _ _)).report _
    · exact (started _).report _
  | _ => cases own

theorem exec_kept (c : Instr) (s t : State) (h : exec c s = .next t) : Kept (callStays c) s t :=
  exec_cases (P := fun c => Kept (callStays c)) (fun _ x s _ => kept_terminalCommand x s)
    (fun _ ch n q b s isFrame => kept_event (kept_receive (fun s => kept_deliverFrame ch n q b s fun _ _ call stays =>
      callStays_frame (call ▸ isFrame) stays) s)) kept_own c s t h

/-- Settles O55: every command keeps the form of the booking store, and the order of the lists where the Berth Call it brings asks
for a stay of some days. -/
theorem bookingsKeepTheirSerials : Obligations.BookingsKeepTheirSerials := by
  refine ⟨fun s t ok h => step_keeps (P := State.bookingsOk) (fun _ _ ok => ok) (fun _ _ ok => ok)
    (fun c s t e ok => (exec_kept c s t e ok).1) ok h, fun s t ok lists stays h => ?_⟩
  cases waiting : s.pending with
  | nil =>
    rw [step_empty waiting] at h
    cases h
    exact lists
  | cons c rest =>
    rw [step_front waiting] at h
    exact (exec_kept c _ t h ok).2 (stays c (by rw [waiting]; rfl)) lists

end Sys2Proof.Machine
end

section
/-! SUPPORT. A command performed at this station: its own effect, its reply, the end of the event. What waits to be written
keeps waiting. -/

namespace Sys2Proof.Machine

/-! ### A terminal command at a station that takes it -/

theorem performHere_eq (c : TermCmd) (s : State) :
    performHere c s = (effect s.tpc.limit c s).1.setTpc
      ((effect s.tpc.limit c s).1.tpc.sending ((effect s.tpc.limit c s).2.within s.tpc.limit)) := rfl

/-- A command that this station performs is its effect and the end of the event (R187, R189). -/
theorem exec_here {i : Instr} {c : TermCmd} (brings : terminalOf i = some c) {s : State} (h : s.ready)
    (noCommit : c ≠ .writeConfigCommit) (here : ∀ st, c.names = some st → s.isHere st) :
    exec i s = .next (settled s (performHere c s)) := by
  rw [exec_terminalOf brings, terminal_ready c s h, ownRule_here _ _ _ noCommit here]

/-- Where the effect moves neither A nor the posts nor a priority class, the event ends with the reply. -/
theorem exec_here_quiet {i : Instr} {c : TermCmd} (brings : terminalOf i = some c) {s : State} (h : s.ready)
    (fits : s.fits) (noCommit : c ≠ .writeConfigCommit) (here : ∀ st, c.names = some st → s.isHere st) {e : State}
    {r : Reply} (does : effect s.tpc.limit c s = (e, r)) (pbc : e.pbc = s.pbc) (lsu : e.lsu = s.lsu)
    (classes : e.classOf = s.classOf) :
    exec i s = .next (e.setTpc (e.tpc.sending (r.within s.tpc.limit))) := by
  rw [exec_here brings h noCommit here, performHere_eq, does]
  exact congrArg _ (settled_same _ _ pbc (congrArg Lsu.applied lsu) (classes ▸ classOf_same _ _ rfl) fits)

/-- What an event at this station ends in: its effect settled, the reply on its way to the terminal. -/
theorem exec_here_replies {i : Instr} {c : TermCmd} (brings : terminalOf i = some c) {s : State} (h : s.ready)
    (noCommit : c ≠ .writeConfigCommit) (here : ∀ st, c.names = some st → s.isHere st) {e : State} {r : Reply}
    (does : effect s.tpc.limit c s = (e, r)) :
    ∃ t, exec i s = .next t ∧ t = settled s (e.setTpc (e.tpc.sending (r.within s.tpc.limit))) ∧ s.replies t r ∧
      t.bst = e.bst ∧ t.booking? = e.booking? := by
  refine ⟨_, by rw [exec_here brings h noCommit here, performHere_eq, does], rfl, ⟨?_, ?_⟩, ?_, ?_⟩
  · simp [Tpc.sending]
  · simp [Tpc.sending]
  · simp
  · simp

/-- A berth operation that finds its booking is performed on it (R13). -/
theorem onAddressed_finds {s : State} {berth serial : Nat} {b : Booking} (found : s.finds berth serial b) (kind : CmdKind)
    (f : Booking → State → State × Reply) : onAddressed kind berth serial f s = f b s := by
  obtain ⟨role, nonzero, reads⟩ := found
  obtain ⟨x, hx, hb⟩ := Option.bind_eq_some_iff.1 reads
  simp [onAddressed, State.addressed, role, nonzero, hx, hb]

/-! ### Records that wait to be written (R20) -/

/-- Waiting to be written is a matter of the write queue and the write in flight. -/
theorem dirtyRecord_congr {s t : State} {id : RecordId} (queue : t.bst.queue = s.bst.queue)
    (flight : t.bst.inFlight = s.bst.inFlight) (h : s.dirtyRecord id) : t.dirtyRecord id := by
  simpa [State.dirtyRecord, queue, flight] using h

theorem dirtyRecord_same {s t : State} {id : RecordId} (bst : t.bst = s.bst) (h : s.dirtyRecord id) : t.dirtyRecord id :=
  dirtyRecord_congr (congrArg Bst.queue bst) (congrArg Bst.inFlight bst) h

theorem dirtyRecord_queueRecord {s : State} {id : RecordId} (other : RecordId) (h : s.dirtyRecord id) :
    (queueRecord other s).dirtyRecord id := by
  rcases h with waits | ⟨w, flight, rfl, changed⟩
  · exact .inl (queueRecord_keeps _ _ _ waits)
  · refine .inr ⟨{ w with changed := true }, ?_, rfl, rfl⟩
    unfold queueRecord
    rw [flight]
    cases w
    dsimp only at changed ⊢
    subst changed
    (repeat' split) <;> simp [flight]

theorem dirtyRecord_queueSlot {s : State} {id : RecordId} (slot : Option Nat) (h : s.dirtyRecord id) :
    (queueSlot slot s).dirtyRecord id := by
  cases slot with
  | none => exact h
  | some n => exact dirtyRecord_queueRecord _ h

theorem changeBooking_dirty {s : State} {berth serial : Nat} {b : Booking} (found : s.booking? berth serial = some b)
    (f : Booking → Booking) {n : Nat} (slot : b.slot = some n) : (changeBooking berth serial f s).dirtyRecord (.booking n) := by
  simp only [changeBooking, found, slot, queueSlot]
  exact queueRecord_dirty _ _

theorem dirtyRecord_changeBooking {s : State} {id : RecordId} (berth serial : Nat) (f : Booking → Booking)
    (h : s.dirtyRecord id) : (changeBooking berth serial f s).dirtyRecord id := by
  unfold changeBooking
  split
  · exact dirtyRecord_queueSlot _ (dirtyRecord_congr rfl rfl h)
  · exact h

/-! ### Purses that change -/

/-- A purse that changes and has its standing worked out again. -/
theorem restood_onPurse (b : Booking) (f : Purse → Purse) (keeps : (f b.purse).standing = b.purse.standing) :
    restood (b.onPurse f) = b.withPurse (f b.purse) := by
  unfold restood Booking.withPurse Booking.onPurse
  dsimp only
  by_cases same : (f b.purse).standing = (f b.purse).standingNow
  · have stays : { f b.purse with standing := (f b.purse).standingNow } = f b.purse := by rw [← same]
    simp [stays, ← keeps, same]
  · simp [same, ← keeps]

/-- The bookings after a purse has changed and its standing has been worked out again (R27). -/
theorem booking?_repurse {s : State} {berth serial : Nat} {b : Booking} (found : s.booking? berth serial = some b)
    (f : Purse → Purse) (keeps : (f b.purse).standing = b.purse.standing) :
    let t := restand berth serial (changeBooking berth serial (Booking.onPurse f) s)
    t.booking? berth serial = some (b.withPurse (f b.purse)) ∧ s.sameBookingsBut t berth serial := by
  have kept : Keeps (Booking.onPurse f) := fun _ => ⟨rfl, rfl⟩
  refine ⟨?_, fun n k other => ?_⟩
  · rw [booking?_restand, booking?_changeBooking _ _ _ _ _ _ kept]
    simp [found, restood_onPurse b f keeps]
  · rw [booking?_restand, booking?_changeBooking _ _ _ _ _ _ kept]
    simp [other]

end Sys2Proof.Machine
end

section
/-! SUPPORT. The purse operations of an office: CREDIT, BAR and UNBAR, SET_MARKS, DROP_HOLD. -/

namespace Sys2Proof.Machine

theorem standingOf_found {s : State} {berth serial : Nat} {b : Booking} (found : s.booking? berth serial = some b) :
    s.standingOf berth serial = b.purse.standing := by
  simp [State.standingOf, found]

/-- A command whose effect is a change of the booking's purse, its standing worked out again, and an entry in the journal
(R27, R40 to R43). -/
theorem exec_repurse {i : Instr} {c : TermCmd} (brings : terminalOf i = some c) {s : State} (h : s.ready)
    (noCommit : c ≠ .writeConfigCommit) (here : ∀ st, c.names = some st → s.isHere st) {berth serial : Nat} {b : Booking}
    (found : s.booking? berth serial = some b) (f : Purse → Purse) (keeps : (f b.purse).standing = b.purse.standing)
    {entry : Report} {reply : Reply}
    (does : effect s.tpc.limit c s =
      (report entry (restand berth serial (changeBooking berth serial (Booking.onPurse f) s)), reply)) :
    ∃ t, exec i s = .next t ∧ t.booking? berth serial = some (b.withPurse (f b.purse)) ∧ s.replies t reply ∧
      s.sameBookingsBut t berth serial ∧
      t = { s with bst := t.bst, acu := t.acu, pbc := t.pbc, lsu := t.lsu, qlc := t.qlc, tpc := t.tpc, evj := t.evj } := by
  obtain ⟨t, runs, rfl, replies, -, bookings⟩ := exec_here_replies brings h noCommit here does
  obtain ⟨changed, others⟩ := booking?_repurse found f keeps
  refine ⟨_, runs, ?_, replies, fun n k other => ?_, State.ext_fields _ _ (by simp)⟩
  · rw [bookings, report_booking?]
    exact changed
  · rw [bookings, report_booking?]
    exact others n k other

/-- The station a purse operation names is this one. -/
theorem names_here {s : State} {station : Nat} (here : s.isHere station) : ∀ st, some station = some st → s.isHere st := by
  rintro st ⟨rfl⟩
  exact here

/-- A purse with an amount more on its balance and its credits (R40). -/
def raised (amount : Nat) (p : Purse) : Purse := { p with balance := p.balance + amount, credits := p.credits + amount }

theorem raised_available (amount : Nat) (b : Booking) :
    (b.withPurse (raised amount b.purse)).purse.available = b.purse.available + amount :=
  (sub_add_eq_add_sub _ _ _).symm

theorem effect_credit {s : State} {station berth serial amount : Nat} {b : Booking} (finds : s.finds berth serial b)
    (positive : 1 ≤ amount) (small : amount ≤ 99999999) (balance : b.purse.balance + amount ≤ 99999999)
    (credits : b.purse.credits + amount ≤ 281474876710655) :
    effect s.tpc.limit (.credit station berth serial amount) s =
      (report (.credit berth amount (b.purse.balance + amount))
        (restand berth serial (changeBooking berth serial (Booking.onPurse (raised amount)) s)),
       answer .credit .ok [.balance (b.purse.balance + amount), .available (b.purse.available + amount),
         .standing (b.withPurse (raised amount b.purse)).purse.standing]) := by
  have stands := standingOf_found (booking?_repurse finds.2.2 (raised amount) rfl).1
  rw [effect, doCredit, onAddressed_finds finds, ← stands]
  simp only [show ¬ amount = 0 by omega, show ¬ 99999999 < amount by omega,
    show ¬ 99999999 < b.purse.balance + amount by omega, show ¬ 281474876710655 < b.purse.credits + amount by omega,
    decide_false, Bool.or_self, Bool.false_eq_true, if_false, State.standingOf, report_booking?]
  rfl

/-- Settles O4: the balance and the credits rise together, and the standing follows. -/
theorem creditRaisesBalance : Obligations.CreditRaisesBalance := by
  intro s station berth serial amount b ready here finds positive small balance credits
  obtain ⟨t, runs, changed, replies, others, frame⟩ := exec_repurse (i := .credit station berth serial amount) rfl ready
    nofun (names_here here) finds.2.2 (raised amount) rfl (effect_credit finds positive small balance credits)
  refine ⟨t, runs, ⟨changed, ?_⟩, others, frame⟩
  exact raised_available amount b ▸ replies

/-! ### BAR and UNBAR (R41) -/

theorem effect_barMark {s : State} {berth serial : Nat} {b : Booking} (finds : s.finds berth serial b) (kind : CmdKind)
    {mark : Bool} (turns : b.purse.barred ≠ mark) :
    doBarMark kind mark berth serial s =
      (report (if mark then .barSet berth serial else .barCleared berth serial)
        (restand berth serial (changeBooking berth serial (Booking.onPurse fun p => { p with barred := mark }) s)),
       answer kind .ok [.standing (b.withPurse { b.purse with barred := mark }).purse.standing]) := by
  have stands := standingOf_found (booking?_repurse finds.2.2 (fun p => { p with barred := mark }) rfl).1
  rw [doBarMark, onAddressed_finds finds, ← stands]
  simp [turns, State.standingOf]

theorem effect_barMark_stands {s : State} {berth serial : Nat} {b : Booking} (finds : s.finds berth serial b)
    (kind : CmdKind) : doBarMark kind b.purse.barred berth serial s = (s, answer kind .ok [.standing b.purse.standing]) := by
  rw [doBarMark, onAddressed_finds finds]
  simp

theorem barMark {s : State} {i : Instr} {c : TermCmd} (brings : terminalOf i = some c) {kind : CmdKind} {mark : Bool}
    {station berth serial : Nat} {b : Booking} (ready : s.ready) (fits : s.fits) (here : s.isHere station)
    (finds : s.finds berth serial b) (noCommit : c ≠ .writeConfigCommit) (names : c.names = some station)
    (does : effect s.tpc.limit c s = doBarMark kind mark berth serial s) :
    ∃ t, exec i s = .next t ∧
      if b.purse.barred = mark then
        t = s.setTpc (s.tpc.answers (answer kind .ok [.standing b.purse.standing]))
      else
        (t.booking? berth serial = some (b.withPurse { b.purse with barred := mark }) ∧
          (mark = true → (b.withPurse { b.purse with barred := mark }).purse.standing = .barred) ∧
          s.replies t (answer kind .ok [.standing (b.withPurse { b.purse with barred := mark }).purse.standing])) ∧
        s.sameBookingsBut t berth serial ∧
        t = { s with bst := t.bst, acu := t.acu, pbc := t.pbc, lsu := t.lsu, qlc := t.qlc, tpc := t.tpc, evj := t.evj } := by
  by_cases turns : b.purse.barred = mark
  · subst turns
    rw [effect_barMark_stands finds] at does
    refine ⟨_, exec_here_quiet brings ready fits noCommit (names ▸ names_here here) does rfl rfl rfl, ?_⟩
    simp [Tpc.answers]
  · rw [effect_barMark finds kind turns] at does
    obtain ⟨t, runs, changed, replies, others, frame⟩ := exec_repurse brings ready noCommit (names ▸ names_here here)
      finds.2.2 (fun p => { p with barred := mark }) rfl does
    refine ⟨t, runs, ?_⟩
    rw [if_neg turns]
    refine ⟨⟨changed, ?_, replies⟩, others, frame⟩
    rintro rfl
    simp [Booking.withPurse, Purse.standingNow]

/-! ### SET_MARKS and DROP_HOLD (R42, R43) -/

theorem effect_setMarks {s : State} {station berth serial low limit : Nat} {b : Booking} (finds : s.finds berth serial b)
    (lowOk : low ≤ 99999999) (limitOk : limit ≤ 99999999) :
    effect s.tpc.limit (.setMarks station berth serial low limit) s =
      (report (.marksSet berth low limit) (restand berth serial (changeBooking berth serial
        (Booking.onPurse fun p => { p with lowMark := low, creditLimit := limit }) s)),
       answer .setMarks .ok
         [.standing (b.withPurse { b.purse with lowMark := low, creditLimit := limit }).purse.standing]) := by
  have stands := standingOf_found
    (booking?_repurse finds.2.2 (fun p => { p with lowMark := low, creditLimit := limit }) rfl).1
  rw [effect, doSetMarks, onAddressed_finds finds, ← stands]
  simp [Nat.not_lt.2 lowOk, Nat.not_lt.2 limitOk, State.standingOf]

theorem effect_dropHold {s : State} {station berth serial : Nat} {id : HoldId} {b : Booking} {h : Hold}
    (finds : s.finds berth serial b) (lists : holdOf? id b.purse.holds = some h) (closed : h.state ≠ .active) :
    effect s.tpc.limit (.dropHold station berth serial id) s =
      (report (.holdDropped berth id) (restand berth serial (changeBooking berth serial
        (Booking.onPurse fun p => { p with holds := dropHold id p.holds }) s)), answer .dropHold .ok) := by
  rw [effect, doDropHold, onAddressed_finds finds]
  simp [lists, closed, changeHolds]

/-- Settles O5: each operation is a change of the purse, and a bar mark that stands is none. -/
theorem marksBarsAndHoldsAtTheTerminal : Obligations.MarksBarsAndHoldsAtTheTerminal := by
  refine ⟨?_, ?_, ?_⟩
  · intro s station berth serial b mark ready fits here finds
    cases mark with
    | true =>
      exact barMark (i := .bar station berth serial) rfl ready fits here finds nofun rfl rfl
    | false =>
      exact barMark (i := .unbar station berth serial) rfl ready fits here finds nofun rfl rfl
  · intro s station berth serial low limit b ready here finds lowOk limitOk
    obtain ⟨t, runs, changed, replies, others, frame⟩ := exec_repurse (i := .setMarks station berth serial low limit) rfl
      ready nofun (names_here here) finds.2.2 (fun p => { p with lowMark := low, creditLimit := limit }) rfl
      (effect_setMarks finds lowOk limitOk)
    exact ⟨t, runs, ⟨changed, replies⟩, others, frame⟩
  · intro s station berth serial id b h ready here finds lists closed
    obtain ⟨t, runs, changed, replies, others, frame⟩ := exec_repurse (i := .dropHold station berth serial id) rfl ready
      nofun (names_here here) finds.2.2 (fun p => { p with holds := dropHold id p.holds }) rfl
      (effect_dropHold finds lists closed)
    exact ⟨t, runs, changed, replies, others, frame⟩

end Sys2Proof.Machine
end

section
/-! SUPPORT. How a booking ends (R9 to R11): it is gone, its statement stands, its outlets are OFF. CHECK_OUT, CANCEL, EXTEND and
SET_TAGS. -/

namespace Sys2Proof.Machine

/-! ### What the end of an event keeps at the posts (R100, R101) -/

/-- What shedding a LIVE outlet and switching a queued one LIVE both keep. -/
structure PostsClosed (P : State → Prop) : Prop where
  shed : ∀ s o r, s.victim? = some o → P s → P (report r (outletShed o.number s))
  live : ∀ s n o, s.outlet? n = some o → o.queued = true → o.restAt = none → P s → P (outletLive n s)

namespace PostsClosed
variable {P : State → Prop} (closed : PostsClosed P)
include closed

theorem shedLoop (n : Nat) (s : State) (h : P s) : P (shedLoop n s) := by
  induction n generalizing s with
  | zero => exact h
  | succ n ih =>
    simp only [Machine.shedLoop]
    split
    · exact h
    · split
      · exact h
      · rename_i o victim
        exact ih _ (closed.shed s o _ victim h)

theorem restoreWalk (l : List Nat) (s : State) (h : P s) : P (restoreWalk l s) := by
  induction l generalizing s with
  | nil => exact h
  | cons n l ih =>
    simp only [Machine.restoreWalk]
    split
    · exact ih s h
    · rename_i o reads
      split
      · exact ih s h
      · rename_i ready
        split
        · obtain ⟨queued, awake⟩ : o.queued = true ∧ o.restAt = none := by simpa using ready
          exact ih _ (closed.live s n o reads queued awake h)
        · exact h

theorem settlePosts (s : State) (h : P s) : P (settlePosts s) := by
  have rounds (n : Nat) (s : State) (h : P s) : P (settleRounds n s) := by
    induction n generalizing s with
    | zero => exact closed.shedLoop _ s h
    | succ n ih =>
      have passed : P (restorePass (shedAll s)) := closed.restoreWalk _ _ (closed.shedLoop _ s h)
      simp only [settleRounds]
      split
      · exact passed
      · exact ih _ passed
  exact rounds _ s h

theorem settled (before s : State) (h : P s) : P (settled before s) := by
  unfold Machine.settled
  split
  · exact h
  · exact closed.settlePosts s h

end PostsClosed

/-- The outlets of some numbers are OFF. -/
def OffAt (numbers : List Nat) (s : State) : Prop := ∀ o ∈ s.pbc.outlets, o.number ∈ numbers → o.state = .off

theorem mem_updWhere {α : Type} {p : α → Bool} {f : α → α} {l : List α} {y : α} :
    y ∈ updWhere p f l ↔ ∃ x ∈ l, (if p x then f x else x) = y := by
  simp [updWhere]

/-- A change of the outlets of a number that is none of these. -/
theorem offAt_other {numbers : List Nat} {n : Nat} {f : Outlet → Outlet} {s t : State} (other : n ∉ numbers)
    (number : ∀ o, (f o).number = o.number)
    (outlets : t.pbc.outlets = updWhere (fun o => o.number == n) f s.pbc.outlets) (h : OffAt numbers s) :
    OffAt numbers t := by
  intro y hy listed
  rw [outlets] at hy
  obtain ⟨x, hx, rfl⟩ := mem_updWhere.1 hy
  by_cases here : x.number = n
  · simp only [here, beq_self_eq_true, if_true, number] at listed
    exact absurd listed other
  · simp only [beq_iff_eq, here, if_false] at listed ⊢
    exact h x hx listed

theorem offAt_closed (numbers : List Nat) : PostsClosed (OffAt numbers) where
  shed s o r victim h := by
    obtain ⟨member, live, -⟩ := victim?_spec victim
    have other : o.number ∉ numbers := fun listed => by
      have off := h o member listed
      rw [live] at off
      cases off
    exact offAt_other (f := fun x => { x with state := .shed, join := none, restAt := some (s.now + s.cfg.restTime * 1000) })
      other (fun _ => rfl) (by simpa using outletShed_outlets o.number s) h
  live s n o reads queued _ h := by
    have other : n ∉ numbers := fun listed => by
      have off := h o (List.mem_of_find?_eq_some reads) (outlet?_number reads ▸ listed)
      simp [Outlet.queued, off] at queued
    exact offAt_other (f := fun x => { x with
      state := .live, smoothed := x.startClaim, overCurrent := 0, energise := some s.pbc.counter, join := none, restAt := none })
      other (fun _ => rfl) (outletLive_outlets n s) h

/-- Outlets switched OFF one after the other are OFF. -/
theorem offAt_outletOff (n : Nat) (numbers : List Nat) (s : State) (h : OffAt numbers s) :
    OffAt (n :: numbers) (outletOff n s) := by
  intro y hy listed
  rw [outletOff, changeOutlet_pbc] at hy
  obtain ⟨x, hx, rfl⟩ := mem_updWhere.1 hy
  by_cases here : x.number = n
  · simp [here]
  · simp only [beq_iff_eq, here, if_false, List.mem_cons, false_or] at listed ⊢
    exact h x hx listed

theorem offAt_foldl (l numbers : List Nat) (s : State) (h : OffAt numbers s) :
    OffAt (l.reverse ++ numbers) (l.foldl (fun x n => outletOff n x) s) := by
  induction l generalizing numbers s with
  | nil => exact h
  | cons n l ih =>
    have := ih (n :: numbers) _ (offAt_outletOff n numbers s h)
    simpa using this

theorem offAt_same {numbers : List Nat} {s t : State} (outlets : t.pbc.outlets = s.pbc.outlets) (h : OffAt numbers s) :
    OffAt numbers t := by
  simpa only [OffAt, outlets] using h

/-- The outlets of a berth are OFF after they have been switched OFF (R98). -/
theorem offAt_berthOff {berth : Nat} {b : Berth} {s : State} (reads : s.berth? berth = some b) :
    OffAt b.cfg.outlets (berthOff berth s) := by
  have off : OffAt b.cfg.outlets (b.cfg.outlets.foldl (fun x n => outletOff n x) s) := by
    intro o ho listed
    exact offAt_foldl b.cfg.outlets [] s (fun _ _ => nofun) o ho (by simpa using listed)
  simp only [berthOff, reads]
  split
  · exact offAt_same rfl off
  · exact off

end Sys2Proof.Machine
end

section
/-! SUPPORT. CHECK_OUT, CANCEL, EXTEND and SET_TAGS at the terminal (R9 to R11, R14 to R17). -/

namespace Sys2Proof.Machine

/-! ### A booking taken out of its berth's list -/

/-- A berth without the live booking of a serial. -/
def withoutBooking (serial : Option Nat) (x : Berth) : Berth :=
  { x with bookings := x.bookings.filter fun k => !(k.live && k.serial == serial) }

theorem withoutBooking_cfg (serial : Option Nat) (x : Berth) : (withoutBooking serial x).cfg = x.cfg := rfl

/-- The bookings after a live one has been taken out of its berth's list. -/
theorem booking?_removal (n k m j : Nat) (s : State) :
    (onBerth n (withoutBooking (some k)) s).booking? m j =
      if m = n ∧ j = k then none else s.booking? m j := by
  simp only [State.booking?, berth?_onBerth _ _ _ _ (withoutBooking_cfg (some k))]
  cases hb : s.berth? m with
  | none => simp
  | some b =>
    simp only [Option.map_some, Option.bind_some, berth?_number hb, Berth.live?]
    by_cases hm : m = n
    · subst hm
      simp only [beq_self_eq_true, if_true, true_and, withoutBooking, List.find?_filter]
      split
      · rename_i hj
        subst hj
        simp only [List.find?_eq_none]
        intro x _
        cases x.live <;> cases h : (x.serial == some j) <;> simp
      · rename_i hj
        refine congrArg (fun p => List.find? p b.bookings) (funext fun x => ?_)
        by_cases hx : x.serial = some j <;> simp [hx, hj]
    · simp [hm]

/-! ### Statements (R10, R11) -/

theorem addStatement_berths (berth : Nat) (kind : EndKind) (b : Booking) (s : State) :
    (addStatement berth kind b s).bst.berths = s.bst.berths := by simp

theorem addStatement_lastEnding (berth : Nat) (kind : EndKind) (b : Booking) (s : State) :
    (addStatement berth kind b s).bst.lastEnding = bump32 s.bst.lastEnding := by
  simp [addStatement]

theorem addStatement_dirty (berth : Nat) (kind : EndKind) (b : Booking) (s : State) :
    (addStatement berth kind b s).dirtyRecord .station :=
  queueRecord_dirty _ _

/-- The statement of a booking that ends stands in the list, with the next ending number. -/
theorem addStatement_mem (berth : Nat) (kind : EndKind) (b : Booking) (s : State) :
    ∃ x ∈ (addStatement berth kind b s).bst.statements, x = statementOf (bump32 s.bst.lastEnding) x.slot berth kind b := by
  refine ⟨statementOf (bump32 s.bst.lastEnding) ((lowestFree (s.bst.statements.map Statement.slot) 1 8).getD
    ((s.bst.statements.head?.map Statement.slot).getD 1)) berth kind b, ?_, rfl⟩
  simp only [addStatement, queueRecord_statements, State.setBst_bst]
  exact (insertBy_perm _ _ _).mem_iff.2 (.head _)

/-! ### Endings (R9) -/

/-- The statement's part of an ending (R10). -/
def stated (berth : Nat) (b : Booking) (kind : Option EndKind) (s : State) : State :=
  match kind with
  | some k => addStatement berth k b s
  | none => s

/-- An ending up to what it does at the posts: the statement, the booking out of its list, its slot queued, its tags
revoked. -/
def unbooked (berth : Nat) (b : Booking) (kind : Option EndKind) (s : State) : State :=
  revoke b.tags (queueSlot b.slot (onBerth berth (withoutBooking b.serial) (stated berth b kind s)))

theorem endBooking_eq (berth : Nat) (b : Booking) (kind : Option EndKind) (s : State) : ∃ entry,
    endBooking berth b kind s = report entry
      (if (s.holding? berth).any (fun k => k.serial == b.serial) then berthOff berth (unbooked berth b kind s)
       else unbooked berth b kind s) := by
  cases kind <;> exact ⟨_, rfl⟩

theorem unbooked_bst (berth : Nat) (b : Booking) (kind : Option EndKind) (s : State) :
    (unbooked berth b kind s).bst = (queueSlot b.slot (onBerth berth (withoutBooking b.serial) (stated berth b kind s))).bst :=
  (revoke_frame _ _).2.2.2.2.2.2.2.2.1

theorem endBooking_bst (berth : Nat) (b : Booking) (kind : Option EndKind) (s : State) :
    (endBooking berth b kind s).bst =
      (queueSlot b.slot (onBerth berth (withoutBooking b.serial) (stated berth b kind s))).bst := by
  obtain ⟨entry, e⟩ := endBooking_eq berth b kind s
  rw [e, ← unbooked_bst]
  split <;> simp

theorem queueSlot_lastEnding (slot : Option Nat) (s : State) : (queueSlot slot s).bst.lastEnding = s.bst.lastEnding := by
  cases slot <;> simp [queueSlot]

theorem queueSlot_statements (slot : Option Nat) (s : State) : (queueSlot slot s).bst.statements = s.bst.statements := by
  cases slot <;> simp [queueSlot]

section
variable {s : State} {berth serial : Nat} {b : Booking} (found : s.booking? berth serial = some b)
include found

/-- Of the bookings the one that ends is gone. -/
theorem booking?_endBooking (kind : Option EndKind) (m j : Nat) :
    (endBooking berth b kind s).booking? m j = if m = berth ∧ j = serial then none else s.booking? m j := by
  have serials := booking?_serial found
  rw [booking?_same _ _ (congrArg Bst.berths (endBooking_bst berth b kind s)), queueSlot_booking?, serials,
    booking?_removal, booking?_same s _ (by cases kind <;> simp [stated])]

theorem endBooking_removes (kind : Option EndKind) :
    (endBooking berth b kind s).booking? berth serial = none ∧ s.sameBookingsBut (endBooking berth b kind s) berth serial :=
  ⟨by simp [booking?_endBooking found], fun _ _ other => by simp [booking?_endBooking found, other]⟩

omit found in
/-- An ending with a statement leaves the next ending number, the statement, and the station record waiting. -/
theorem endBooking_states (kind : EndKind) :
    (endBooking berth b (some kind) s).bst.lastEnding = bump32 s.bst.lastEnding ∧
    (∃ x ∈ (endBooking berth b (some kind) s).bst.statements,
      x = statementOf (bump32 s.bst.lastEnding) x.slot berth kind b) ∧
    (endBooking berth b (some kind) s).dirtyRecord .station := by
  have bst := endBooking_bst berth b (some kind) s
  refine ⟨?_, ?_, dirtyRecord_same bst (dirtyRecord_queueSlot _ (dirtyRecord_congr rfl rfl (addStatement_dirty ..)))⟩
  · rw [bst, queueSlot_lastEnding]
    exact addStatement_lastEnding ..
  · rw [bst, queueSlot_statements]
    exact addStatement_mem ..

omit found in
theorem endBooking_cancels :
    (endBooking berth b none s).bst.statements = s.bst.statements ∧
    (endBooking berth b none s).bst.lastEnding = s.bst.lastEnding ∧
    ∀ n, b.slot = some n → (endBooking berth b none s).dirtyRecord (.booking n) := by
  have bst := endBooking_bst berth b none s
  refine ⟨?_, ?_, fun n slot => dirtyRecord_same bst ?_⟩
  · rw [bst, queueSlot_statements]
    rfl
  · rw [bst, queueSlot_lastEnding]
    rfl
  · rw [slot]
    exact queueRecord_dirty _ _

/-- The outlets of a berth are OFF when its holding booking has ended. -/
theorem endBooking_off (kind : Option EndKind) {k : Booking} (holds : s.holding? berth = some k)
    (own : k.serial = some serial) {bb : Berth} (reads : s.berth? berth = some bb) :
    OffAt bb.cfg.outlets (endBooking berth b kind s) := by
  have held : (s.holding? berth).any (fun k => k.serial == b.serial) = true := by
    simp [holds, own, booking?_serial found]
  have without : (unbooked berth b kind s).berth? berth = some (withoutBooking b.serial bb) := by
    rw [berth?_same (onBerth berth (withoutBooking b.serial) s) _
        (by rw [unbooked_bst, queueSlot_berths]; cases kind <;> simp [stated]),
      berth?_onBerth _ _ _ _ (withoutBooking_cfg b.serial), reads]
    simp [berth?_number reads]
  obtain ⟨entry, e⟩ := endBooking_eq berth b kind s
  rw [e, if_pos held]
  exact offAt_same (by simp) (offAt_berthOff (b := withoutBooking b.serial bb) without)

end

/-! ### CHECK_OUT and CANCEL (R14, R15) -/

theorem effect_checkOut {s : State} {station berth serial : Nat} {b : Booking} (finds : s.finds berth serial b)
    (current : b.state = .current) (closed : ∀ h ∈ b.purse.holds, h.state ≠ .active) :
    effect s.tpc.limit (.checkOut station berth serial) s = (endBooking berth b (some .checkedOut) s,
      answer .checkOut .ok [.balance b.purse.balance, .number (bump32 s.bst.lastEnding)]) := by
  have noneOpen : (b.purse.holds.any fun h => h.state == .active) = false := by simpa using closed
  rw [effect, doCheckOut, onAddressed_finds finds]
  simp [current, noneOpen]

theorem effect_cancel {s : State} {station berth serial : Nat} {b : Booking} (finds : s.finds berth serial b)
    (reserved : b.state = .reserved) :
    effect s.tpc.limit (.cancel station berth serial) s =
      (endBooking berth b none s, answer .cancel .ok [.balance b.purse.balance]) := by
  rw [effect, doCancel, onAddressed_finds finds]
  simp [reserved]

/-- Settles O1: an ending with a statement; what follows it in the event switches no outlet of the berth LIVE. -/
theorem checkOutEndsStay : Obligations.CheckOutEndsStay := by
  intro s station berth serial b ready here finds current closed
  have found := finds.2.2
  obtain ⟨t, runs, rfl, replies, bst, bookings⟩ := exec_here_replies (i := .checkOut station berth serial) rfl ready nofun
    (names_here here) (effect_checkOut finds current closed)
  obtain ⟨gone, others⟩ := endBooking_removes found (some .checkedOut)
  obtain ⟨ending, statement, dirty⟩ := endBooking_states (s := s) (berth := berth) (b := b) .checkedOut
  refine ⟨_, runs, replies, ?_, fun n k other => ?_, ?_, ?_, ?_, ?_, State.ext_fields _ _ (by simp)⟩
  · rw [bookings]
    exact gone
  · rw [bookings]
    exact others n k other
  · rw [bst]
    exact ending
  · rw [bst]
    exact statement
  · exact dirtyRecord_same bst dirty
  · intro k holds own bb reads
    exact (offAt_closed _).settled s _ (offAt_same rfl (endBooking_off found (some .checkedOut) holds own reads))

/-! ### EXTEND and SET_TAGS (R16, R17) -/

/-- A booking with another departure day. -/
def departing (departure : Nat) (k : Booking) : Booking := { k with stay := { k.stay with departure := departure } }

theorem keeps_departing (departure : Nat) : Keeps (departing departure) := fun _ => ⟨rfl, rfl⟩

theorem effect_extend {s : State} {station berth serial departure : Nat} {b : Booking} (finds : s.finds berth serial b)
    (after : b.stay.arrival < departure) (later : ∀ day, s.today = some day → day < departure)
    (room : ∀ k, s.behind? berth serial = some k →
      overlaps b.stay.arrival departure k.stay.arrival k.stay.departure = false) :
    effect s.tpc.limit (.extend station berth serial departure) s =
      (changeBooking berth serial (departing departure) s,
       answer .extend .ok [.departure departure]) := by
  have noDay : s.today.any (fun day => decide (departure ≤ day)) = false := by
    cases h : s.today with
    | none => rfl
    | some day => simpa using later day h
  have noOverlap : (s.behind? berth serial).any
      (fun k => overlaps b.stay.arrival departure k.stay.arrival k.stay.departure) = false := by
    cases h : s.behind? berth serial with
    | none => rfl
    | some k => simpa using room k h
  rw [effect, doExtend, onAddressed_finds finds]
  simp [noDay, noOverlap, Nat.not_le.2 after]
  rfl

/-- Settles O2: CANCEL is an ending without a statement, EXTEND a change of one field of the booking. -/
theorem cancelAndExtend : Obligations.CancelAndExtend := by
  constructor
  · intro s station berth serial b ready here finds reserved
    obtain ⟨t, runs, rfl, replies, bst, bookings⟩ := exec_here_replies (i := .cancel station berth serial) rfl ready nofun
      (names_here here) (effect_cancel finds reserved)
    obtain ⟨gone, others⟩ := endBooking_removes finds.2.2 none
    obtain ⟨statements, ending, dirty⟩ := endBooking_cancels (s := s) (berth := berth) (b := b)
    refine ⟨_, runs, replies, ?_, fun n k other => ?_, ?_, ?_, ?_, State.ext_fields _ _ (by simp)⟩
    · rw [bookings]
      exact gone
    · rw [bookings]
      exact others n k other
    · rw [bst]
      exact statements
    · rw [bst]
      exact ending
    · exact fun n slot => dirtyRecord_same bst (dirty n slot)
  · intro s station berth serial departure b ready fits here finds after later room
    have found := finds.2.2
    refine ⟨_, exec_here_quiet (i := .extend station berth serial departure) rfl ready fits nofun (names_here here)
      (effect_extend finds after later room) (by simp) (by simp) (by simp), by simp [Tpc.answers], ?_, fun n k other => ?_,
      fun n slot => dirtyRecord_same rfl (changeBooking_dirty found _ slot), State.ext_fields _ _ (by simp)⟩
    · simp [booking?_changeBooking _ _ _ _ _ _ (keeps_departing departure), found, departing]
    · simp [booking?_changeBooking _ _ _ _ _ _ (keeps_departing departure), other]

/-- A booking with other tags, its epoch one on. -/
def retagged (tags : List Tag) (k : Booking) : Booking := { k with tags := tags, epoch := k.epoch + 1 }

theorem keeps_retagged (tags : List Tag) : Keeps (retagged tags) := fun _ => ⟨rfl, rfl⟩

theorem effect_setTags {s : State} {station berth serial : Nat} {tags : List Tag} {b : Booking}
    (finds : s.finds berth serial b) (good : badTags tags = false) (free : s.clash? serial tags = none) :
    effect s.tpc.limit (.setTags station berth serial tags) s =
      (revoke b.tags (changeBooking berth serial (retagged tags) s),
       answer .setTags .ok) := by
  rw [effect, doSetTags, onAddressed_finds finds]
  simp [good, free]
  rfl

/-- What revoking does where the queue has room: the copies dropped, the lookups marked, the notice queued (R122). -/
theorem revoke_room {tags : List Tag} {s : State} (some_tag : tags ≠ []) (room : s.qlc.queue.length < 16) :
    revoke tags s = (broadcast (.tagRevoke s.cfg.station tags) (markLookups tags (dropTags tags s))).1 := by
  obtain ⟨first, rest, rfl⟩ := List.exists_cons_of_ne_nil some_tag
  have taken : (broadcast (.tagRevoke s.cfg.station (first :: rest))
      (markLookups (first :: rest) (dropTags (first :: rest) s))).2 = true := by
    simp [broadcast, enqueue, markLookups, dropTags, room]
  simp only [revoke, taken, if_true]

/-- A notice queued for all stations where the queue has room (R177). -/
theorem broadcast_queuedWide {s : State} (body : FrameBody) (room : s.qlc.queue.length < 16) :
    s.queuedWide (broadcast body s).1 ⟨0, 0, body⟩ := by
  simp [State.queuedWide, broadcast, enqueue, room, Qlc.usable, Qlc.line, Channel.other]

/-- That a frame has joined the queue is a matter of QLC before and after. -/
theorem queuedWide_congr {s s' t t' : State} {f : Frame} (before : s'.qlc = s.qlc) (after : t'.qlc = t.qlc)
    (h : s.queuedWide t f) : s'.queuedWide t' f := by
  simpa only [State.queuedWide, before, after] using h

theorem queued_congr {s s' t t' : State} {c : Channel} {f : Frame} (before : s'.qlc = s.qlc) (after : t'.qlc = t.qlc)
    (h : s.queued t c f) : s'.queued t' c f := by
  simpa only [State.queued, before, after] using h

/-- What revoking leaves of the copies and the lookups. -/
theorem revoke_acu {tags : List Tag} {s : State} (some_tag : tags ≠ []) :
    (∀ e ∈ (revoke tags s).acu.cache, e.pinned = true ∨ e.record.tag ∉ tags) ∧
    ∀ l ∈ (revoke tags s).acu.lookups, l.tag ∈ tags → l.marked = true := by
  obtain ⟨first, rest, rfl⟩ := List.exists_cons_of_ne_nil some_tag
  have acu : (revoke (first :: rest) s).acu = (markLookups (first :: rest) (dropTags (first :: rest) s)).acu := by
    simp only [revoke]
    split <;> simp
  rw [acu]
  constructor
  · intro e he
    simpa using (List.mem_filter.1 he).2
  · intro l hl listed
    obtain ⟨x, -, rfl⟩ := mem_updWhere.1 hl
    by_cases marks : (first :: rest).contains x.tag = true
    · rw [if_pos marks]
    · rw [if_neg marks] at listed
      exact absurd (List.contains_iff_mem.2 listed) marks

/-- Settles O3: the tags and the epoch change in one step, and the old tags are revoked. -/
theorem setTagsRevokesOldTags : Obligations.SetTagsRevokesOldTags := by
  intro s station berth serial tags b ready fits here finds good free some_tag room
  have found := finds.2.2
  have bookings := booking?_changeBooking berth serial (f := retagged tags) (s := s) (hf := keeps_retagged tags)
  obtain ⟨copies, lookups⟩ := revoke_acu (s := changeBooking berth serial (retagged tags) s) some_tag
  have revoked := revoke_room (s := changeBooking berth serial (retagged tags) s) some_tag (by simpa using room)
  have classes : (revoke b.tags (changeBooking berth serial (retagged tags) s)).classOf = s.classOf := by
    rw [classOf_same (changeBooking berth serial (retagged tags) s) _ (by simp), changeBooking_classOf]
  refine ⟨_, exec_here_quiet (i := .setTags station berth serial tags) rfl ready fits nofun (names_here here)
    (effect_setTags finds good free) (by simp) (by simp) classes, by simp, ?_, fun n k other => ?_, fun n slot => ?_,
    copies, lookups, ?_, State.ext_fields _ _ ?_⟩
  · simp [bookings, found, retagged]
  · simp [bookings, other]
  · exact dirtyRecord_same (by simp) (changeBooking_dirty found (retagged tags) slot)
  · rw [revoked]
    exact queuedWide_congr (by simp) (by simp) (broadcast_queuedWide
      (s := markLookups b.tags (dropTags b.tags (changeBooking berth serial (retagged tags) s)))
      (.tagRevoke s.cfg.station b.tags) (by simpa using room))
  · rw [revoked]
    simp

end Sys2Proof.Machine
end

section
/-! SUPPORT. What a choice over a list comes to, and what arithmetic decides: the berth offered, the hold list, the preset, a
metered charge, the decision at a gate. -/

namespace Sys2Proof.Machine

/-! ### The least of a list -/

/-- A walk that keeps the least element so far. -/
def keepLeast {α : Type} (lt : α → α → Bool) (best : Option α) (x : α) : Option α :=
  match best with
  | none => some x
  | some b => if lt x b then some x else some b

/-- What a walk that keeps the least element ends with is in the list, and nothing in it is less. -/
theorem foldl_keepLeast {α : Type} {lt : α → α → Bool} (asymm : ∀ x y, lt x y = true → lt y x = false)
    (trans : ∀ x y z, lt x y = false → lt y z = false → lt x z = false) (l : List α) (best : Option α) {o : α}
    (h : l.foldl (keepLeast lt) best = some o) :
    (o ∈ l ∨ best = some o) ∧ ∀ x, x ∈ l ∨ best = some x → lt x o = false := by
  induction l generalizing best with
  | nil =>
    obtain rfl : best = some o := h
    refine ⟨.inr rfl, ?_⟩
    rintro x (none | ⟨⟨⟩⟩)
    · cases none
    · cases own : lt o o with
      | true => exact own ▸ asymm o o own
      | false => rfl
  | cons y l ih =>
    obtain ⟨mem, least⟩ := ih (keepLeast lt best y) h
    have tail (x : α) (hx : x ∈ l) : lt x o = false := least x (.inl hx)
    cases best with
    | none =>
      refine ⟨.inl ?_, ?_⟩
      · obtain mem | ⟨⟨⟩⟩ := mem
        · exact .tail _ mem
        · exact .head _
      · rintro x (hx | none)
        · obtain rfl | hx := List.mem_cons.1 hx
          · exact least x (.inr rfl)
          · exact tail x hx
        · cases none
    | some b =>
      by_cases less : lt y b = true
      · have step : keepLeast lt (some b) y = some y := if_pos less
        rw [step] at mem least
        refine ⟨.inl ?_, ?_⟩
        · obtain mem | ⟨⟨⟩⟩ := mem
          · exact .tail _ mem
          · exact .head _
        · have hy := least y (.inr rfl)
          rintro x (hx | ⟨⟨⟩⟩)
          · obtain rfl | hx := List.mem_cons.1 hx
            · exact hy
            · exact tail x hx
          · exact trans _ _ _ (asymm _ _ less) hy
      · have step : keepLeast lt (some b) y = some b := if_neg less
        rw [step] at mem least
        have hb := least b (.inr rfl)
        refine ⟨mem.imp_left (.tail _), ?_⟩
        rintro x (hx | ⟨⟨⟩⟩)
        · obtain rfl | hx := List.mem_cons.1 hx
          · exact trans _ _ _ (Bool.eq_false_iff.2 less) hb
          · exact tail x hx
        · exact hb

/-! ### The berth offered (R50, R51) -/

/-- One candidate costs less than another, or the same with the lower number (R51). -/
def cheaper (i : Image) (call : CallBody) (x y : Berth) : Bool :=
  costOf i call x < costOf i call y || (costOf i call x == costOf i call y && x.cfg.number < y.cfg.number)

theorem cheaper_eq_false {i : Image} {call : CallBody} {x y : Berth} : cheaper i call x y = false ↔
    costOf i call y < costOf i call x ∨ (costOf i call y = costOf i call x ∧ y.cfg.number ≤ x.cfg.number) := by
  simp only [cheaper, Bool.or_eq_false_iff, Bool.and_eq_false_imp, decide_eq_false_iff_not, beq_iff_eq]
  omega

theorem bestBerth?_eq (s : State) (call : CallBody) :
    s.bestBerth? call = (s.bst.berths.filter (candidate s.cfg call)).foldl (keepLeast (cheaper s.cfg call)) none := by
  unfold State.bestBerth?
  congr 1
  funext best b
  cases best <;> rfl

/-- Settles O15: the choice is a walk that keeps the least candidate. -/
theorem offerIsCheapestCandidate : Obligations.OfferIsCheapestCandidate := by
  intro s call b best
  rw [bestBerth?_eq] at best
  obtain ⟨mem, least⟩ := foldl_keepLeast
    (fun x y less => by
      simp only [cheaper_eq_false]
      simp only [cheaper, Bool.or_eq_true, Bool.and_eq_true, decide_eq_true_eq, beq_iff_eq] at less
      omega)
    (fun x y z xy yz => by
      simp only [cheaper_eq_false] at xy yz ⊢
      omega) _ _ best
  obtain ⟨stands, fitting⟩ := List.mem_filter.1 (mem.resolve_right nofun)
  exact ⟨stands, fitting, fun x hx fits => cheaper_eq_false.1 (least x (.inl (List.mem_filter.2 ⟨hx, fits⟩)))⟩

/-! ### The hold list (R31, R34, R39) -/

/-- Giving up the oldest SETTLED entry gives up no other, and where there is one it gives one up. -/
theorem evictOldest_spec (holds : List Hold) :
    (∀ x ∈ holds, x.state ≠ .settled → x ∈ evictOldest holds) ∧
    ((∃ x ∈ holds, x.state = .settled) → (evictOldest holds).length + 1 = holds.length) := by
  induction holds with
  | nil => exact ⟨nofun, nofun⟩
  | cons h rest ih =>
    obtain ⟨keeps, length⟩ := ih
    by_cases settled : h.state = .settled
    · refine ⟨fun x hx unsettled => ?_, by simp [evictOldest, settled]⟩
      obtain rfl | hx := List.mem_cons.1 hx
      · exact absurd settled unsettled
      · simpa [evictOldest, settled] using hx
    · refine ⟨fun x hx unsettled => ?_, ?_⟩
      · obtain rfl | hx := List.mem_cons.1 hx
        · simp [evictOldest, settled]
        · simpa [evictOldest, settled] using .inr (keeps x hx unsettled)
      · rintro ⟨x, hx, gone⟩
        obtain rfl | hx := List.mem_cons.1 hx
        · exact absurd gone settled
        · simpa [evictOldest, settled] using length ⟨x, hx, gone⟩

/-- A full list of which fewer than four entries are open holds a SETTLED one. -/
theorem exists_settled {holds : List Hold} (full : 4 ≤ holds.length) (room : openHolds holds < 4) :
    ∃ x ∈ holds, x.state = .settled := by
  by_contra none
  have all : holds.filter (fun h => h.state != .settled) = holds :=
    List.filter_eq_self.2 fun h mem => by simpa using fun settled => none ⟨h, mem, settled⟩
  rw [openHolds, all] at room
  omega

/-- An entry that is added where fewer than four are open. -/
theorem addHold_spec {h : Hold} {holds : List Hold} (within : holds.length ≤ 4) (room : openHolds holds < 4) :
    (addHold h holds).length ≤ 4 ∧ h ∈ addHold h holds ∧ ∀ x ∈ holds, x.state ≠ .settled → x ∈ addHold h holds := by
  obtain ⟨keeps, length⟩ := evictOldest_spec holds
  by_cases full : 4 ≤ holds.length
  · have shorter := length (exists_settled full room)
    simp only [addHold, full, if_true]
    exact ⟨by simp; omega, by simp, fun x hx unsettled => List.mem_append_left _ (keeps x hx unsettled)⟩
  · simp only [addHold, full, if_false]
    exact ⟨by simp; omega, by simp, fun x hx _ => List.mem_append_left _ hx⟩

/-- Settles O12. -/
theorem holdListStaysWithinFour : Obligations.HoldListStaysWithinFour := by
  refine fun holds h within => ⟨addHold_spec within, fun amount => ?_⟩
  by_cases full : 4 ≤ openHolds holds
  · simp only [addTombstone, full, if_true]
    exact ⟨within, fun _ hx _ => hx⟩
  · simp only [addTombstone, full, if_false]
    obtain ⟨length, -, keeps⟩ := addHold_spec (h := ⟨h.id, .settled, 0, 0, some amount⟩) within (by omega)
    exact ⟨length, keeps⟩

/-! ### The preset (R147) -/

/-- A volume's amount is within a grant just where the volume's price is within the grant's range before rounding. -/
theorem saleAmount_le {v price granted : Nat} : saleAmount v price ≤ granted ↔ v * price ≤ 1000 * granted + 499 := by
  unfold saleAmount
  omega

/-- Settles O38. -/
theorem presetIsLargestWithinGrant : Obligations.PresetIsLargestWithinGrant := by
  intro granted price positive
  refine ⟨saleAmount_le.2 ?_, min_le_left _ _, fun v small within => le_min small ?_⟩
  · exact (Nat.mul_le_mul_right price (min_le_right _ _)).trans (Nat.div_mul_le_self _ _)
  · exact (Nat.le_div_iff_mul_le positive).2 (saleAmount_le.1 within)

/-! ### A metered charge (R29, R30) -/

/-- A debit above the floor takes all of its cents off the balance, and nothing but a total and the day's charges besides. -/
theorem debit_above {b : Booking} {k : Charge} {d : Nat} (above : -(floorCents : Int) ≤ b.purse.balance - d) :
    (b.debit k d).purse.balance = b.purse.balance - d ∧ (b.debit k d).openDay.charges = b.openDay.charges + d ∧
    (b.debit k d).purse.remainder = b.purse.remainder ∧ (b.debit k d).purse.holds = b.purse.holds ∧
    (b.debit k d).purse.credits = b.purse.credits ∧ (b.debit k d).stay = b.stay ∧ (b.debit k d).tags = b.tags := by
  have applied : b.purse.applies d = d := if_pos above
  cases k <;> simp [Booking.debit, applied, Purse.take]

/-- Working the standing out again leaves of a booking all but the standing and the epoch. -/
theorem restood_fields (b : Booking) :
    (restood b).purse = { b.purse with standing := b.purse.standingNow } ∧ (restood b).openDay = b.openDay ∧
    (restood b).stay = b.stay ∧ (restood b).tags = b.tags := by
  unfold restood
  split
  · rename_i same
    exact ⟨by rw [← eq_of_beq same], rfl, rfl, rfl⟩
  · exact ⟨rfl, rfl, rfl, rfl⟩

theorem keeps_debit (k : Charge) (d : Nat) : Keeps (Booking.debit k d) := fun _ => ⟨rfl, rfl⟩

theorem keeps_onPurse (f : Purse → Purse) : Keeps (Booking.onPurse f) := fun _ => ⟨rfl, rfl⟩

/-- The bookings after a debit (R29). -/
theorem booking?_debit (n j m i : Nat) (k : Charge) (d : Nat) (positive : 0 < d) (s : State) :
    (debit n j k d s).booking? m i =
      if m = n ∧ i = j then (s.booking? m i).map (Booking.debit k d) else s.booking? m i := by
  unfold debit
  rw [if_neg (by omega)]
  split
  · rename_i none
    split
    · rename_i here
      rw [here.1, here.2, none]
      rfl
    · rfl
  · dsimp only
    rw [← booking?_changeBooking n j m i _ s (keeps_debit k d)]
    split
    · rw [report_booking?]
    · rfl

/-- The booking after a metered charge: the remainder kept, whole cents debited and the standing worked out again. -/
theorem booking?_meterCharge {s : State} {berth serial : Nat} {b : Booking} (found : s.booking? berth serial = some b)
    (k : Charge) (units rate : Nat) :
    (meterCharge berth serial k units rate s).booking? berth serial =
      let kept := b.onPurse fun p => { p with remainder := (b.purse.remainder + units * rate) % 1000 }
      some (if (b.purse.remainder + units * rate) / 1000 = 0 then kept
        else restood (kept.debit k ((b.purse.remainder + units * rate) / 1000))) := by
  have changed : (changeBooking berth serial
      (Booking.onPurse fun p => { p with remainder := (b.purse.remainder + units * rate) % 1000 }) s).booking? berth serial =
      some (b.onPurse fun p => { p with remainder := (b.purse.remainder + units * rate) % 1000 }) := by
    simp [booking?_changeBooking _ _ _ _ _ _ (keeps_onPurse _), found]
  unfold meterCharge
  simp only [found]
  split
  · exact changed
  · rename_i cents
    rw [booking?_restand, booking?_debit _ _ _ _ _ _ (Nat.pos_of_ne_zero cents), changed]
    simp

/-- Settles O11: whole cents leave the balance, the rest stays in the remainder. -/
theorem meterChargeKeepsMilliCents : Obligations.MeterChargeKeepsMilliCents := by
  intro s berth serial units rate k b found above
  have parts : (b.purse.remainder + units * rate) / 1000 * 1000 + (b.purse.remainder + units * rate) % 1000 =
      b.purse.remainder + units * rate := Nat.div_add_mod' _ _
  have small : (b.purse.remainder + units * rate) % 1000 < 1000 := Nat.mod_lt _ (by decide)
  refine ⟨_, booking?_meterCharge found k units rate, ?_⟩
  have total : ((units : Int) * rate) = ((units * rate : Nat) : Int) := by push_cast; rfl
  rw [total]
  generalize units * rate = milli at *
  generalize cents : (b.purse.remainder + milli) / 1000 = d at *
  generalize (b.purse.remainder + milli) % 1000 = rest at *
  split
  · exact ⟨Nat.le_of_lt_succ small, by simp only [Booking.onPurse]; omega, rfl, rfl, rfl, rfl, rfl⟩
  · obtain ⟨purse, day, stay, tags⟩ := restood_fields ((b.onPurse fun p => { p with remainder := rest }).debit k d)
    obtain ⟨balance, charges, remainder, holds, credits, stays, tagged⟩ := debit_above
      (b := b.onPurse fun p => { p with remainder := rest }) (k := k) (d := d) above
    simp only [purse, day, stay, tags, balance, charges, remainder, holds, credits, stays, tagged]
    simp only [Booking.onPurse]
    exact ⟨by omega, by omega, by omega, trivial, trivial, trivial, trivial⟩

/-! ### The decision at a gate (R129 to R131) -/

theorem inWindow_iff (first last second : Nat) : inWindow first last second = true ↔
    first ≤ second ∧ second ≤ last ∨ last < first ∧ (first ≤ second ∨ second ≤ last) := by
  unfold inWindow
  split <;> simp <;> omega

theorem ownGate_iff {station : Nat} {kind : GateKind} {c : Credential} :
    ownGate station kind c = true ↔ kind = .pontoon ∧ c.owner = station := by
  simp [ownGate]

/-- A booking that may pass: GRANT, logged in ARREARS (R130). -/
def passes (standing : Standing) : Decision := if standing = .arrears then .logged .arrears else .grant

/-- The state outcome of a RESIDENT's or VISITOR's booking that is not RESERVED (R130). -/
theorem stateOutcome_live {station : Nat} {kind : GateKind} {c : Credential} {b : CredBooking}
    (resident : c.cls = .resident ∨ c.cls = .visitor) (booked : c.booking = some b) (live : b.state ≠ .reserved) :
    stateOutcome station kind c =
      if b.standing = .barred then (if ownGate station kind c then .logged .barredOwnGate else .deny .barred)
      else passes b.standing := by
  obtain cls | cls := resident <;> cases standing : b.standing <;>
    simp [stateOutcome, passes, cls, booked, live, standing]

/-- The decision on a credential whose state outcome is no refusal is the mode's refusal, or that outcome (R131). -/
theorem decision_passes {station : Nat} {g : Gate} {clock : Option DayTime} {c : Credential} (source : Source) {d : Decision}
    (state : stateOutcome station g.cfg.kind c = d) (open_ : ∀ why, d ≠ .deny why) :
    decision station g clock (.found c source) =
      match modeDenies station g.cfg.kind clock g.mode c with
      | some why => .deny why
      | none => d := by
  cases d with
  | deny why => exact absurd rfl (open_ why)
  | grant => simp only [decision, state] <;> rfl
  | logged why => simp only [decision, state] <;> rfl

theorem passes_open (standing : Standing) (why : DenyReason) : passes standing ≠ .deny why := by
  unfold passes
  split <;> nofun

/-- Settles O33, by the class of the credential, the standing of its booking and the mode of the gate. -/
theorem decisionByStateAndMode : Obligations.DecisionByStateAndMode := by
  intro station g clock c source
  refine ⟨fun staff => ?_, fun b resident booked => ⟨fun reserved => ?_, fun live barred decides => ?_,
    fun live passes => ⟨fun card => ?_, fun restricted => ?_, fun closed => ?_⟩⟩, fun contractor => ⟨fun mode => ?_,
    fun card none => ?_, fun first last card window => ⟨fun unset => ?_, fun day second running => ?_⟩⟩, rfl, rfl⟩
  · cases mode : g.mode <;> simp [decision, stateOutcome, modeDenies, staff, mode]
  · obtain cls | cls := resident <;> simp [decision, stateOutcome, cls, booked, reserved]
  · have state := stateOutcome_live (station := station) (kind := g.cfg.kind) resident booked live
    rw [if_pos barred] at state
    by_cases own : ownGate station g.cfg.kind c = true
    · rw [if_pos own] at state
      rw [if_pos (ownGate_iff.1 own), decision_passes source state nofun]
      obtain cls | cls := resident <;> cases mode : g.mode <;> simp_all [modeDenies]
    · rw [if_neg own] at state
      rw [if_neg fun h => own (ownGate_iff.2 h)]
      simp [decision, state]
  · have state := stateOutcome_live (station := station) (kind := g.cfg.kind) resident booked live
    rw [if_neg passes] at state
    rw [decision_passes source state (passes_open _)]
    obtain cls | cls := resident <;> simp [modeDenies, card, cls, Machine.passes]
  · have state := stateOutcome_live (station := station) (kind := g.cfg.kind) resident booked live
    rw [if_neg passes] at state
    rw [decision_passes source state (passes_open _)]
    obtain cls | cls := resident
    · simp [modeDenies, restricted, cls, Machine.passes]
    · simp only [modeDenies, restricted, cls, ← ownGate_iff]
      cases ownGate station g.cfg.kind c <;> cases g.cfg.kind <;> simp [Machine.passes]
  · have state := stateOutcome_live (station := station) (kind := g.cfg.kind) resident booked live
    rw [if_neg passes] at state
    rw [decision_passes source state (passes_open _)]
    obtain cls | cls := resident <;> simp [modeDenies, closed, cls]
  · obtain mode | mode := mode <;> simp [decision, stateOutcome, modeDenies, contractor, mode]
  · simp [decision, stateOutcome, modeDenies, contractor, card, none, insideWindow]
  · simp [decision, stateOutcome, modeDenies, contractor, card, window, unset, insideWindow]
  · simp only [decision, stateOutcome, modeDenies, contractor, card, window, running, insideWindow, ← inWindow_iff]
    cases inWindow first last second <;> rfl

end Sys2Proof.Machine
end

section
/-! SUPPORT. The gates (chapter 7): doors, timers, modes and notices. -/

namespace Sys2Proof.Machine

/-! ### One entry in the journal -/

/-- One entry written where neither the clock nor the journal had changed. -/
theorem journalled_report {s t : State} (r : Report) (evj : t.evj = s.evj) (dck : t.dck = s.dck) :
    s.journalled (report r t) r := by
  rw [State.journalled, ← evj, ← dck]
  rfl

theorem journalled_congr {s t u : State} {r : Report} (evj : u.evj = t.evj) (h : s.journalled t r) : s.journalled u r := by
  rw [State.journalled, evj]
  exact h

/-! ### One gate moved -/

/-- From `s` to `t` the gate `n` has come to read `x`, and every other gate reads as it did. -/
def GateMoved (s t : State) (n : Nat) (x : Gate) : Prop := t.gate? n = some x ∧ s.sameGatesBut t n

theorem gateMoved_same {s t : State} {n : Nat} {g : Gate} (h : s.gate? n = some g) (gtc : t.gtc = s.gtc) :
    GateMoved s t n g :=
  ⟨by rw [gate?_same _ _ gtc]; exact h, by rw [State.sameGatesBut, gtc, gate?_same _ _ gtc]; exact ⟨rfl, fun _ _ => rfl⟩⟩

namespace GateMoved
variable {s t u : State} {n : Nat} {x : Gate}

theorem same (h : GateMoved s t n x) (gtc : u.gtc = t.gtc) : GateMoved s u n x := by
  obtain ⟨reads, others⟩ := h
  exact ⟨by rw [gate?_same _ _ gtc]; exact reads, by rw [State.sameGatesBut, gtc, gate?_same _ _ gtc]; exact others⟩

theorem report (h : GateMoved s t n x) (r : Report) : GateMoved s (report r t) n x := h.same (by simp)

theorem change (h : GateMoved s t n x) (f : Gate → Gate) (keeps : ∀ g, (f g).cfg = g.cfg := by intro; rfl) :
    GateMoved s (changeGate n f t) n (f x) := by
  obtain ⟨reads, others⟩ := h
  exact ⟨gate?_self n f t keeps x reads, sameGatesBut_trans others (sameGatesBut_changeGate n f t keeps)⟩

end GateMoved

/-- The same, seen from a state whose gates are those of `s`. -/
theorem GateMoved.since {r s t : State} {n : Nat} {x : Gate} (h : GateMoved s t n x) (gtc : s.gtc = r.gtc) :
    GateMoved r t n x := by
  obtain ⟨reads, others⟩ := h
  exact ⟨reads, by rw [State.sameGatesBut, ← gtc, ← gate?_same _ _ gtc]; exact others⟩

/-! ### Doors (R136) -/

theorem doorOpens_moves {s : State} {g : Gate} (h : s.gate? g.cfg.number = some g) :
    let o := { g with door := .opened, openedAt := some s.seconds, openedTime := s.dck.clock }
    let t := doorOpens g s
    ∃ x, GateMoved s t g.cfg.number x ∧
      match g.state with
      | .locked => x = { o with state := .forced, forcings := min top32 (g.forcings + 1) } ∧
          s.journalled t (.gateForced g.cfg.number)
      | .released => x = { o with
          state := .opened, strike := .held, releaseAt := none
          heldOpenAt := some (s.now + g.cfg.heldOpenLimit * 1000) } ∧ t.evj = s.evj
      | .opened | .ajar | .forced | .unlocked => x = o ∧ t.evj = s.evj := by
  have opened := (gateMoved_same h rfl).change fun x =>
    { x with door := .opened, openedAt := some s.seconds, openedTime := s.dck.clock }
  dsimp only
  unfold doorOpens
  dsimp only
  cases was : g.state with
  | locked => exact ⟨_, (opened.change fun x => { x with state := .forced, forcings := bumpTop x.forcings }).report _, rfl,
      journalled_report _ rfl rfl⟩
  | released => exact ⟨_, opened.change fun x => { x with
      state := .opened, strike := .held, releaseAt := none, heldOpenAt := some (s.now + x.cfg.heldOpenLimit * 1000) }, rfl,
      rfl⟩
  | opened | ajar | forced | unlocked => exact ⟨_, opened, by rw [was], rfl⟩

theorem doorCloses_moves {s : State} {g : Gate} (h : s.gate? g.cfg.number = some g) :
    let o := { g with door := .closed, openedAt := none, openedTime := none }
    let t := doorCloses g s
    ∃ x, GateMoved s t g.cfg.number x ∧
      match g.state with
      | .opened => x = { o with state := .locked, heldOpenAt := none } ∧ t.evj = s.evj
      | .ajar | .forced => x = { o with state := .locked } ∧
          s.journalled t (.doorClosed g.cfg.number (s.seconds - g.openedAt.getD s.seconds))
      | .locked | .released | .unlocked => x = o ∧ t.evj = s.evj := by
  have closed := (gateMoved_same h rfl).change fun x => { x with door := .closed, openedAt := none, openedTime := none }
  dsimp only
  unfold doorCloses
  dsimp only
  cases was : g.state with
  | opened => exact ⟨_, closed.change fun x => { x with state := .locked, heldOpenAt := none }, rfl, rfl⟩
  | ajar | forced => exact ⟨_, (closed.change fun x => { x with state := .locked }).report _, rfl, journalled_report _ rfl rfl⟩
  | locked | released | unlocked => exact ⟨_, closed, by rw [was], rfl⟩

/-- A door sense line moved: its own level, and nothing else. -/
theorem setDoorLine_eq {n : Nat} (position : n = 1 ∨ n = 2) (d : Door) (s : State) :
    (if n = 1 then (setDoorLine n d s).door1 else (setDoorLine n d s).door2) = d ∧
    (if n = 1 then (setDoorLine n d s).door2 = s.door2 else (setDoorLine n d s).door1 = s.door1) := by
  obtain rfl | rfl := position <;> exact ⟨rfl, rfl⟩

section
variable {s : State} {n : Nat} {g : Gate} {door : Door} (h : (setDoorLine n door s).gate? n = some g)
include h

theorem exec_doorSense_repeats (repeats : g.door = door) : exec (.doorSense n door) s = .next (setDoorLine n door s) := by
  simp [exec, execDoorSense, h, repeats]

theorem exec_doorSense_moves (moves : g.door ≠ door) : exec (.doorSense n door) s =
    .next (if door = .opened then doorOpens g (setDoorLine n door s) else doorCloses g (setDoorLine n door s)) := by
  cases door <;> simp [exec, execDoorSense, h, moves]

end

/-- Settles O30, by the state of the gate at the report. -/
theorem doorSenseMovesGate : Obligations.DoorSenseMovesGate := by
  intro s n door g position h
  obtain rfl := gate?_number h
  obtain ⟨level, other⟩ := setDoorLine_eq position door s
  have gtc : (setDoorLine g.cfg.number door s).gtc = s.gtc := by simp
  have now : (setDoorLine g.cfg.number door s).now = s.now := by simp
  have seconds : (setDoorLine g.cfg.number door s).seconds = s.seconds := by rw [State.seconds, now]; rfl
  have dck : (setDoorLine g.cfg.number door s).dck = s.dck := by simp
  have evj : (setDoorLine g.cfg.number door s).evj = s.evj := by simp
  have reads : (setDoorLine g.cfg.number door s).gate? g.cfg.number = some g := by
    rw [gate?_same s _ gtc]
    exact h
  by_cases repeats : g.door = door
  · refine ⟨_, exec_doorSense_repeats reads repeats, level, other, (gateMoved_same h gtc).2,
      State.ext_fields _ _ (by simp), ?_⟩
    rw [if_pos repeats]
    exact ⟨gtc, evj⟩
  · cases door with
    | opened =>
      obtain ⟨x, moved, outcome⟩ := doorOpens_moves reads
      obtain ⟨self, others⟩ := moved.since gtc
      refine ⟨_, exec_doorSense_moves reads repeats, by simpa using level, by simpa using other, others,
        State.ext_fields _ _ (by simp), ?_⟩
      rw [if_neg repeats, if_pos rfl]
      rw [State.journalled, now, seconds, dck, evj] at outcome
      cases was : g.state with
      | _ =>
        rw [was] at outcome
        obtain ⟨rfl, notes⟩ := outcome
        exact ⟨self, notes⟩
    | closed =>
      obtain ⟨x, moved, outcome⟩ := doorCloses_moves reads
      obtain ⟨self, others⟩ := moved.since gtc
      refine ⟨_, exec_doorSense_moves reads repeats, by simpa using level, by simpa using other, others,
        State.ext_fields _ _ (by simp), ?_⟩
      rw [if_neg repeats, if_neg nofun]
      rw [State.journalled, seconds, dck, evj] at outcome
      cases was : g.state with
      | _ =>
        rw [was] at outcome
        obtain ⟨rfl, notes⟩ := outcome
        exact ⟨self, notes⟩

end Sys2Proof.Machine
end

section
/-! SUPPORT. The gates (chapter 7): their timers, the exit releases in CONFIG_FAULT, SET_GATE_MODE and GATE_ACK. -/

namespace Sys2Proof.Machine

/-! ### Timers (R137) -/

theorem exec_releaseTimer {s : State} {n d : Nat} {g : Gate} (h : s.gate? n = some g) (runs : g.releaseAt = some d) :
    exec (.releaseTimer n) s = .next
      (changeGate n (fun x => { x with state := .locked, strike := .held, releaseAt := none }) (reach d s)) := by
  simp [exec, execReleaseTimer, h, runs]

theorem exec_heldOpenTimer {s : State} {n d : Nat} {g : Gate} (h : s.gate? n = some g) (runs : g.heldOpenAt = some d) :
    exec (.heldOpenTimer n) s = .next
      (raiseAjar g (changeGate n (fun x => { x with state := .ajar, heldOpenAt := none }) (reach d s))) := by
  simp [exec, execHeldOpenTimer, h, runs]

theorem releaseTimer_locks {s : State} {n d : Nat} {g : Gate} (h : s.gate? n = some g) (runs : g.releaseAt = some d) :
    ∃ t, exec (.releaseTimer n) s = .next t ∧ t.now = max s.now d ∧
      t.gate? n = some { g with state := .locked, strike := .held, releaseAt := none } ∧ s.sameGatesBut t n ∧
      t = { s with now := t.now, gtc := t.gtc } := by
  obtain ⟨reads, others⟩ := (gateMoved_same (t := reach d s) h rfl).change fun x =>
    { x with state := .locked, strike := .held, releaseAt := none }
  exact ⟨_, exec_releaseTimer h runs, rfl, reads, others, State.ext_fields _ _ (by simp)⟩

theorem heldOpenTimer_ajar {s : State} {n d : Nat} {g : Gate} (h : s.gate? n = some g) (runs : g.heldOpenAt = some d) :
    ∃ t, exec (.heldOpenTimer n) s = .next t ∧ t.now = max s.now d ∧
      t.gate? n = some { g with state := .ajar, heldOpenAt := none, ajar := some ⟨g.openedTime⟩ } ∧
      s.journalled t (.gateAjar n g.cfg.heldOpenLimit) ∧ s.sameGatesBut t n ∧
      t = { s with now := t.now, gtc := t.gtc, evj := t.evj } := by
  obtain rfl := gate?_number h
  obtain ⟨reads, others⟩ := (((gateMoved_same (t := reach d s) h rfl).change fun x =>
    { x with state := .ajar, heldOpenAt := none }).change fun x => { x with ajar := some ⟨g.openedTime⟩ }).report
      (.gateAjar g.cfg.number g.cfg.heldOpenLimit)
  exact ⟨_, exec_heldOpenTimer h runs, rfl, reads, journalled_report _ rfl rfl, others, State.ext_fields _ _ (by simp)⟩

/-! ### The exit releases in CONFIG_FAULT (R140) -/

theorem gate?_none {s : State} (none : s.gtc.gates = []) (n : Nat) : s.gate? n = .none := by
  simp [State.gate?, none]

theorem exec_exitButton_fault {s : State} {n : Nat} (none : s.gtc.gates = []) (fault : s.inFault = true) :
    exec (.exitButton n) s = .next (pressFaultExit n s) := by
  simp [exec, execExitButton, gate?_none none, fault]

theorem strikeLine_none {s : State} (none : s.gtc.gates = []) (n : Nat) : s.strikeLine n =
    if (if n = 1 then s.gtc.faultRelease1 else s.gtc.faultRelease2).isSome then .released else .held := by
  simp only [State.strikeLine, gate?_none none]

/-- Settles O31: the timers move their own gate, the exit releases their own strike. -/
theorem gateTimers : Obligations.GateTimers := by
  refine ⟨fun s n d g h _ runs => releaseTimer_locks h runs, fun s n d g h _ runs => heldOpenTimer_ajar h runs, ?_⟩
  intro s n d none position
  dsimp only
  refine ⟨fun fault => ?_, fun runs => ?_⟩
  · refine ⟨_, exec_exitButton_fault none fault, ?_⟩
    obtain rfl | rfl := position
    · exact ⟨strikeLine_none (s := pressFaultExit 1 s) none 1, rfl, ⟨rfl,
        (strikeLine_none (s := pressFaultExit 1 s) none 2).trans (strikeLine_none none 2).symm⟩, rfl⟩
    · exact ⟨strikeLine_none (s := pressFaultExit 2 s) none 2, rfl, ⟨rfl,
        (strikeLine_none (s := pressFaultExit 2 s) none 1).trans (strikeLine_none none 1).symm⟩, rfl⟩
  · obtain rfl | rfl := position
    · rw [if_pos rfl] at runs
      have ends : exec (.faultExitReleaseExpiry 1) s =
          .next ((reach d s).setGtc { s.gtc with faultRelease1 := .none }) := by
        simp [exec, execFaultExitReleaseExpiry, runs]
      exact ⟨_, ends, rfl, strikeLine_none (s := (reach d s).setGtc { s.gtc with faultRelease1 := .none }) none 1, rfl,
        ⟨rfl, (strikeLine_none (s := (reach d s).setGtc { s.gtc with faultRelease1 := .none }) none 2).trans
          (strikeLine_none none 2).symm⟩, rfl⟩
    · rw [if_neg (by decide)] at runs
      have ends : exec (.faultExitReleaseExpiry 2) s =
          .next ((reach d s).setGtc { s.gtc with faultRelease2 := .none }) := by
        simp [exec, execFaultExitReleaseExpiry, runs]
      exact ⟨_, ends, rfl, strikeLine_none (s := (reach d s).setGtc { s.gtc with faultRelease2 := .none }) none 2, rfl,
        ⟨rfl, (strikeLine_none (s := (reach d s).setGtc { s.gtc with faultRelease2 := .none }) none 1).trans
          (strikeLine_none none 1).symm⟩, rfl⟩

/-! ### SET_GATE_MODE and GATE_ACK (R138, R139) -/

/-- What setting a gate's mode to another one does to its record (R138). -/
def modeTo (m : GateMode) (now : Nat) (g x : Gate) : Gate :=
  if m = .opened then { x with mode := m, state := .unlocked, strike := .released, releaseAt := none, heldOpenAt := none }
  else if g.mode = .opened then
    if g.door = .closed then { x with mode := m, state := .locked, strike := .held }
    else { x with mode := m, state := .opened, strike := .held, heldOpenAt := some (now + g.cfg.heldOpenLimit * 1000) }
  else { x with mode := m }

theorem modeTo_cfg (m : GateMode) (now : Nat) (g x : Gate) : (modeTo m now g x).cfg = x.cfg := by
  unfold modeTo
  (repeat' split) <;> rfl

theorem moveMode_eq (g : Gate) (m : GateMode) (s : State) : moveMode g m s =
    report (.gateMode g.cfg.number g.mode m) (changeGate g.cfg.number (modeTo m s.now g) s) := by
  have each : modeTo m s.now g = fun x => modeTo m s.now g x := rfl
  rw [each]
  unfold moveMode modeTo
  simp only [beq_iff_eq]
  (repeat' split) <;> rfl

theorem moveMode_moves {s : State} {g : Gate} (h : s.gate? g.cfg.number = some g) (m : GateMode) :
    GateMoved s (moveMode g m s) g.cfg.number (modeTo m s.now g g) ∧
      s.journalled (moveMode g m s) (.gateMode g.cfg.number g.mode m) := by
  rw [moveMode_eq]
  exact ⟨((gateMoved_same h rfl).change _ (modeTo_cfg m s.now g)).report _, journalled_report _ rfl rfl⟩

theorem effect_setGateMode {s : State} {station n : Nat} {m : GateMode} {g : Gate} (h : s.gate? n = some g)
    (other : g.mode ≠ m) : effect s.tpc.limit (.setGateMode station n (some m)) s =
      (moveMode g m s, answer .setGateMode .ok [.gateState (modeTo m s.now g g).state]) := by
  obtain rfl := gate?_number h
  obtain ⟨reads, -⟩ := (moveMode_moves h m).1
  simp [effect, doSetGateMode, h, other, reads]

theorem effect_gateAck_escort {s : State} {station n : Nat} {g : Gate} {e : EscortNotice} (h : s.gate? n = some g)
    (raised : g.escort = some e) : effect s.tpc.limit (.gateAck station n .escort) s =
      (report (.noticeAck n .escort) (changeGate n (fun x => { x with escort := none }) s),
       answer .gateAck .ok [.escort e]) := by
  simp [effect, doGateAck, h, raised]

theorem effect_gateAck_ajar {s : State} {station n : Nat} {g : Gate} {a : AjarNotice} (h : s.gate? n = some g)
    (raised : g.ajar = some a) : effect s.tpc.limit (.gateAck station n .ajar) s =
      (report (.noticeAck n .ajar) (changeGate n (fun x => { x with ajar := none }) s),
       answer .gateAck .ok [.ajar a]) := by
  simp [effect, doGateAck, h, raised]

/-- Settles O32. -/
theorem gateCommandsAtTheTerminal : Obligations.GateCommandsAtTheTerminal := by
  refine ⟨fun s station n m g ready fits here h other => ?_, fun s station n g ready fits here h => ⟨fun e raised => ?_,
    fun a raised => ?_⟩⟩
  · obtain rfl := gate?_number h
    obtain ⟨moved, notes⟩ := moveMode_moves h m
    obtain ⟨reads, others⟩ := moved
    exact ⟨_, exec_here_quiet (i := .setGateMode station g.cfg.number (some m)) rfl ready fits nofun (names_here here)
      (effect_setGateMode h other) (by simp) (by simp) (classOf_same _ _ (by simp)), reads,
      by simp [Tpc.answers, modeTo],
      journalled_congr rfl notes, others, State.ext_fields _ _ (by simp)⟩
  · obtain ⟨reads, others⟩ := ((gateMoved_same h rfl).change fun x => { x with escort := none }).report
      (.noticeAck n .escort)
    exact ⟨_, exec_here_quiet (i := .gateAck station n .escort) rfl ready fits nofun (names_here here)
      (effect_gateAck_escort h raised) (by simp) (by simp) (classOf_same _ _ (by simp)), reads, by simp [Tpc.answers],
      journalled_report _ rfl rfl, others, State.ext_fields _ _ (by simp)⟩
  · obtain ⟨reads, others⟩ := ((gateMoved_same h rfl).change fun x => { x with ajar := none }).report
      (.noticeAck n .ajar)
    exact ⟨_, exec_here_quiet (i := .gateAck station n .ajar) rfl ready fits nofun (names_here here)
      (effect_gateAck_ajar h raised) (by simp) (by simp) (classOf_same _ _ (by simp)), reads, by simp [Tpc.answers],
      journalled_report _ rfl rfl, others, State.ext_fields _ _ (by simp)⟩

/-! ### FLUSH_CACHE (R127) and TENTATIVE_EXPIRY (R8) -/

theorem names_none {s : State} {c : TermCmd} (unnamed : c.names = none) : ∀ st, c.names = some st → s.isHere st := by
  rw [unnamed]
  nofun

/-- Settles O28. -/
theorem flushCacheDropsUnpinned : Obligations.FlushCacheDropsUnpinned := by
  intro s ready fits
  have does : effect s.tpc.limit .flushCache s =
      (report (.cacheFlushed (s.acu.cache.filter fun e => !e.pinned).length)
        (s.setAcu { s.acu with cache := s.acu.cache.filter fun e => e.pinned }),
       answer .flushCache .ok [.number (s.acu.cache.filter fun e => !e.pinned).length]) := rfl
  exact ⟨_, exec_here_quiet (i := .flushCache) rfl ready fits nofun (names_none rfl) does (by simp) (by simp)
    (classOf_same _ _ (by simp)), by simp, by simp [Tpc.answers], journalled_report _ rfl rfl, State.ext_fields _ _ (by simp)⟩

/-- A berth without the TENTATIVE bookings of a call that meet a test. -/
theorem berth?_dropTentative (n m : Nat) (ref : CallRef) (p : Booking → Bool) (s : State) :
    (dropTentative n ref p s).berth? m = (s.berth? m).map fun x =>
      if m = n then { x with bookings := x.bookings.filter fun b => !(tentativeOf ref b && p b) } else x := by
  have cfg (x : Berth) : ({ x with bookings := x.bookings.filter fun b => !(tentativeOf ref b && p b) } : Berth).cfg = x.cfg :=
    rfl
  rw [dropTentative, berth?_onBerth _ _ _ _ cfg]
  cases h : s.berth? m with
  | none => rfl
  | some x => simp [berth?_number h]

/-- Settles O7. -/
theorem tentativeExpiryRemovesBooking : Obligations.TentativeExpiryRemovesBooking := by
  intro s berth ref d up ends
  refine ⟨dropTentative berth ref (fun b => b.expiry == some d) (reach d s), ?_, rfl, fun n => ?_, rfl, rfl⟩
  · simp [exec, execTentativeExpiry, whenUp, up, ends]
  · exact berth?_dropTentative berth n ref _ (reach d s)

end Sys2Proof.Machine
end

section
/-! SUPPORT. A Settle Answer that finds no room (refutes O10): the debit lifts no bar, but the booking that is debited stands
BARRED in its purse alone; worked out again its standing is LOW, its tags are revoked and its two outlets resumed. The Tag
Revoke and the two Announces of the demand that rises twice fill the queue, for the entry an Announce takes has the number the
transmitter is recorded to send, so that it is not counted as waiting. -/

namespace Sys2Proof.Machine

/-- The booking on berth 1, noted BARRED with a balance that gives LOW, and an ACTIVE hold of FUEL station 9. -/
def barredBooking : Booking :=
  { tBooking with purse := { tBooking.purse with
    balance := 400, standing := .barred, holds := [⟨⟨9, 1, 0⟩, .active, 500, 29, none⟩] } }

/-- 13 frames wait, both outlets are SUSPENDED, and channel A is recorded to send the entry that the queue gives next but one. -/
def crowded : State :=
  { tWith [barredBooking] with
    pbc := { tPontoon.pbc with outlets :=
      [{ tOutlet with state := .suspended }, { tOutlet with number := 2, position := 2, state := .suspended }] }
    qlc := { tPontoon.qlc with
      queue := List.replicate 13 tQueued, nextEntry := 1, lineA := { sending := some ⟨2, tQueued.frame⟩ } } }

/-- The kinds of the frames that wait after a command. -/
def codesAfter (i : Instr) (s : State) : List Nat :=
  match exec i s with
  | .next t => t.qlc.queue.map fun e => e.frame.body.code
  | _ => []

theorem codesAfter_next {i : Instr} {s t : State} (h : exec i s = .next t) :
    codesAfter i s = t.qlc.queue.map fun e => e.frame.body.code := by
  simp only [codesAfter, h]

/-- The Settle Request for the ACTIVE hold, of 7 cents. -/
def crowdedRequest : Instr := .settleRequest .a 9 0 ⟨9, 1, 0⟩ 7 7

theorem codesAfter_crowded : codesAfter crowdedRequest crowded = List.replicate 13 5 ++ [7, 15, 15] := by decide +kernel

theorem crowded_heard : crowded.hears 9 ∧ crowded.qlc.queue.length < 14 ∧ crowded.finds 1 7 barredBooking ∧
    crowded.settleBooking? 7 = some (1, barredBooking) ∧
    holdOf? ⟨9, 1, 0⟩ barredBooking.purse.holds = some ⟨⟨9, 1, 0⟩, .active, 500, 29, none⟩ := by decide +kernel

/-- Refutes O10: a station whose queue the standing's own frames fill before the Settle Answer. -/
theorem not_settleRequestDebitsOnce : ¬ Obligations.SettleRequestDebitsOnce := by
  intro holds
  obtain ⟨heard, room, finds, settles, active⟩ := crowded_heard
  obtain ⟨t, runs, -, listed, -, -⟩ := holds crowded .a 9 0 ⟨9, 1, 0⟩ 7 7 heard room
  obtain ⟨⟨e, mem, frame, -⟩, -⟩ := (listed 1 barredBooking _ finds settles active).1 (.inl rfl)
  have codes : codesAfter crowdedRequest crowded = t.qlc.queue.map fun e => e.frame.body.code := codesAfter_next runs
  have answer : e.frame.body.code ∈ codesAfter crowdedRequest crowded := codes ▸ List.mem_map.mpr ⟨e, mem, rfl⟩
  rw [codesAfter_crowded, frame] at answer
  exact absurd answer (by decide)

end Sys2Proof.Machine
end

section
/-! SUPPORT. What a delivery finds once its channel has been heard: the channel usable, what joins the queue joins it behind
what waited before (R170, R174, R177). Calls: ALLOCATE and the answer to a Berth Call (R46 to R52). -/

namespace Sys2Proof.Machine

/-! ### The channel of a frame is usable (R170, R177) -/

theorem line_onLine_self (c : Channel) (f : Line → Line) (s : State) :
    (onLine c f s).qlc.line c = f (s.qlc.line c) := by
  cases c <;> rfl

theorem line_onLine_other (c : Channel) (f : Line → Line) (s : State) :
    (onLine c.other f s).qlc.line c = s.qlc.line c := by
  cases c <;> rfl

theorem line_congr {s t : State} (c : Channel) (a : t.qlc.lineA = s.qlc.lineA) (b : t.qlc.lineB = s.qlc.lineB) :
    t.qlc.line c = s.qlc.line c := by
  cases c
  · exact a
  · exact b

/-- A channel going DOWN leaves the record of the other one. -/
theorem line_channelDown_other (c : Channel) (cause : DownCause) (s : State) :
    (channelDown c.other cause s).qlc.line c = s.qlc.line c := by
  unfold channelDown
  split
  · refine (line_congr (s := onLine c.other (fun l => { l with state := .down }) s) c ?_ ?_).trans (line_onLine_other c _ s)
    · simp
    · simp
  · rfl

theorem heardOn_line_up (c : Channel) (s : State) : ((heardOn c s).qlc.line c).state = .up := by
  have up (t : State) (h : (t.qlc.line c).state = .up) :
      ((if (t.qlc.line c.other).silent then channelDown c.other .silence t else t).qlc.line c).state = .up := by
    split
    · rw [line_channelDown_other, h]
    · exact h
  unfold heardOn
  dsimp only
  refine up _ ?_
  split
  · simp [line_onLine_self]
  · rw [line_onLine_self]

/-- The channel a frame came by takes the answer to it. -/
theorem heardOn_prefer (c : Channel) (s : State) : (heardOn c s).qlc.prefer c = c := by
  simp [Qlc.prefer, Qlc.usable, heardOn_line_up]

theorem queued_heardOn {c ch : Channel} {s t : State} {f : Frame} (h : (heardOn c s).queued t ch f) : s.queued t ch f := by
  have next : (heardOn c s).qlc.nextEntry = s.qlc.nextEntry := (heardOn_qlc c s).1
  simpa only [State.queued, next] using h

/-- A frame queued on one channel joins the queue there where it has room. -/
theorem enqueueOn_queued {s : State} (c : Channel) (f : Frame) (room : s.qlc.queue.length < 16) :
    s.queued (enqueueOn c f s).1 c f ∧ (enqueueOn c f s).2.isSome = true := by
  simp [State.queued, enqueueOn, enqueue, room]

/-! ### This station's part of a call (R49, R52) -/

/-- A berth with one more entry on its list. -/
def withBooking (k : Booking) (x : Berth) : Berth := { x with bookings := insertBooking k x.bookings }

theorem withBooking_cfg (k : Booking) (x : Berth) : (withBooking k x).cfg = x.cfg := rfl

/-- The booking that an offer places (R49). -/
def offeredBooking (s : State) (ref : CallRef) (body : CallBody) : Booking :=
  tentativeBooking s.cfg ref body.stay (s.now + s.cfg.tentativeTime * 1000)

theorem evaluate_best {s : State} {ref : CallRef} {body : CallBody} {b : Berth} (role : s.cfg.role = .pontoon)
    (new : s.answered ref body.stay = false) (few : s.tentatives < 4) (best : s.bestBerth? body = some b) :
    evaluate ref body s = (onBerth b.cfg.number (withBooking (offeredBooking s ref body)) s,
      some ⟨s.cfg.station, b.cfg.number, costOf s.cfg body b⟩) := by
  simp [evaluate, role, new, Nat.not_le.2 few, best]
  rfl

theorem evaluate_none {s : State} {ref : CallRef} {body : CallBody} (best : s.bestBerth? body = none) :
    evaluate ref body s = (s, none) := by
  simp [evaluate, best]

theorem evaluate_classOf (s : State) (ref : CallRef) (body : CallBody) : (evaluate ref body s).1.classOf = s.classOf := by
  unfold evaluate
  split
  · rfl
  · split
    · rfl
    · exact classOf_onBerth _ _ _ fun _ => rfl

/-! ### The answer to a Berth Call (R49, R52) -/

theorem onBerthCall_offers {s : State} {c : Channel} {ref : CallRef} {body : CallBody} {b : Berth}
    (foreign : ref.asker ≠ s.cfg.station) (role : s.cfg.role = .pontoon) (new : s.answered ref body.stay = false)
    (few : s.tentatives < 4) (best : s.bestBerth? body = some b) (room : s.qlc.queue.length < 16) :
    onBerthCall c ref body s =
      (enqueueOn (s.qlc.prefer c) ⟨ref.asker, 0, .berthOffer ref b.cfg.number (costOf s.cfg body b)⟩
        (onBerth b.cfg.number (withBooking (offeredBooking s ref body)) s)).1 := by
  have placed := evaluate_best role new few best
  have taken := (enqueueOn_queued (s := onBerth b.cfg.number (withBooking (offeredBooking s ref body)) s) (s.qlc.prefer c)
    ⟨ref.asker, 0, .berthOffer ref b.cfg.number (costOf s.cfg body b)⟩ (by simpa using room)).2
  simp only [onBerthCall, foreign, if_false, placed, taken, if_true]

theorem onBerthCall_none {s : State} {c : Channel} {ref : CallRef} {body : CallBody} (best : s.bestBerth? body = none) :
    onBerthCall c ref body s = s := by
  simp [onBerthCall, evaluate_none best]

theorem dropTentative_classOf (berth : Nat) (ref : CallRef) (q : Booking → Bool) (s : State) :
    (dropTentative berth ref q s).classOf = s.classOf :=
  classOf_onBerth _ _ _ fun _ => rfl

theorem onBerthCall_classOf (c : Channel) (ref : CallRef) (body : CallBody) (s : State) :
    (onBerthCall c ref body s).classOf = s.classOf := by
  unfold onBerthCall
  dsimp only
  (repeat' split)
  · rfl
  · exact evaluate_classOf s ref body
  · rw [classOf_same (evaluate ref body s).1 _ (by simp), evaluate_classOf]
  · rw [dropTentative_classOf, classOf_same (evaluate ref body s).1 _ (by simp), evaluate_classOf]

/-- The best berth is chosen from the bookings, the berths and the configuration. -/
theorem bestBerth?_same {s t : State} (body : CallBody) (berths : t.bst.berths = s.bst.berths) (cfg : t.cfg = s.cfg) :
    t.bestBerth? body = s.bestBerth? body := by
  simp [State.bestBerth?, berths, cfg]

theorem answered_same {s t : State} (ref : CallRef) (stay : Stay) (berths : t.bst.berths = s.bst.berths) :
    t.answered ref stay = s.answered ref stay := by
  simp [State.answered, State.bookings, berths]

theorem tentatives_same {s t : State} (berths : t.bst.berths = s.bst.berths) : t.tentatives = s.tentatives := by
  simp [State.tentatives, State.bookings, berths]

theorem exec_berthCall {s : State} {ch : Channel} {source : Nat} (ref : CallRef) (body : CallBody) (hears : s.hears source) :
    exec (.berthCall ch source ref body) s = .next (onBerthCall ch ref body (heardOn ch s)) := by
  have classes : (onBerthCall ch ref body (heardOn ch s)).classOf = s.classOf := by
    rw [onBerthCall_classOf, classOf_same s _ (by simp)]
  exact congrArg _ (deliver_quiet ch source (onBerthCall ch ref body) s hears (by simp) (by simp) classes)

/-- Settles O14: this station's evaluation of the call, the offer on the channel of the call. -/
theorem berthCallPlacesTentative : Obligations.BerthCallPlacesTentative := by
  intro s ch source ref body hears foreign role new few
  have berths : (heardOn ch s).bst.berths = s.bst.berths := by simp
  have cfg : (heardOn ch s).cfg = s.cfg := by simp
  have heardNew : (heardOn ch s).answered ref body.stay = false := (answered_same ref body.stay berths).trans new
  have heardFew : (heardOn ch s).tentatives < 4 := (tentatives_same berths).trans_lt few
  have best := bestBerth?_same body berths cfg
  refine ⟨_, exec_berthCall ref body hears, State.ext_fields _ _ (by simp), ?_, fun b reads room => ?_, fun none => ?_⟩
  · have bst : (heardOn ch s).bst = s.bst := by simp
    rw [← bst]
    cases reads : (heardOn ch s).bestBerth? body with
    | none => rw [onBerthCall_none reads]
    | some b =>
      by_cases room : (heardOn ch s).qlc.queue.length < 16
      · rw [onBerthCall_offers (cfg ▸ foreign) (cfg ▸ role) heardNew heardFew reads room]
        simp [onBerth]
      · have placed := evaluate_best (cfg ▸ role) heardNew heardFew reads
        simp only [onBerthCall, placed]
        (repeat' split) <;> simp [onBerth, dropTentative]
  · have does := onBerthCall_offers (c := ch) (cfg ▸ foreign) (cfg ▸ role) heardNew heardFew (best.trans reads)
      (by simpa using room)
    rw [does, heardOn_prefer, cfg]
    refine ⟨queued_heardOn (c := ch) (queued_congr (s' := heardOn ch s) ?_ rfl
      (enqueueOn_queued (s := onBerth b.cfg.number (withBooking (offeredBooking (heardOn ch s) ref body)) (heardOn ch s))
        ch _ (by simpa using room)).1), fun n => ?_⟩
    · simp
    · rw [berth?_same (onBerth b.cfg.number (withBooking (offeredBooking (heardOn ch s) ref body)) (heardOn ch s)) _
          (by simp), berth?_onBerth _ _ _ _ (withBooking_cfg _), berth?_same s (heardOn ch s) (by simp)]
      cases found : s.berth? n with
      | none => rfl
      | some x => simp [berth?_number found, withBooking, offeredBooking]
  · rw [onBerthCall_none (best.trans none)]
    simp

/-! ### ALLOCATE (R46 to R48) -/

/-- A call as it opens (R47). -/
def openedCall (n : Num8) (request : CallRequest) (now : Nat) : Call :=
  { number := n, phase := .collecting, request := request, windowAt := some (now + 250) }

/-- The call table with a call opened (R47). -/
def calling (n : Num8) (request : CallRequest) (s : State) : State :=
  s.setAlc { s.alc.makeRoom n with
    nextCall := n + 1, calls := (s.alc.makeRoom n).calls ++ [openedCall n request s.now] }

/-- This station's own offer, where its evaluation gives one, joins the call's list (R48). -/
def ownOffer (n : Num8) (r : State × Option Offer) : State :=
  match r.2 with
  | some o => changeCall n (fun c => { c with offers := addOffer o c.offers }) r.1
  | none => r.1

theorem openCall_eq (n : Num8) (request : CallRequest) (s : State) :
    openCall n request s = ownOffer n (evaluate ⟨s.cfg.station, n⟩ request.body (calling n request s)) := rfl

theorem ownOffer_cases (n : Num8) (r : State × Option Offer) : ownOffer n r = r.1 ∨
    ∃ o, ownOffer n r = changeCall n (fun c => { c with offers := addOffer o c.offers }) r.1 := by
  unfold ownOffer
  split
  · exact .inr ⟨_, rfl⟩
  · exact .inl rfl

/-- An opened call stands in the table, the next number is one on, and nothing but BST and ALC has changed. -/
theorem openCall_opens (n : Num8) (request : CallRequest) (s : State) :
    (openCall n request s).alc.nextCall = n + 1 ∧
    (∃ c ∈ (openCall n request s).alc.calls, c.number = n ∧ c.phase = .collecting ∧ c.request = request ∧
      c.windowAt = some (s.now + 250)) ∧
    (openCall n request s).classOf = s.classOf ∧
    openCall n request s = { s with bst := (openCall n request s).bst, alc := (openCall n request s).alc } := by
  have stands : openedCall n request s.now ∈
      (evaluate ⟨s.cfg.station, n⟩ request.body (calling n request s)).1.alc.calls := by simp [calling]
  have classes : (evaluate ⟨s.cfg.station, n⟩ request.body (calling n request s)).1.classOf = s.classOf := by
    rw [evaluate_classOf]
    exact classOf_same _ _ rfl
  rw [openCall_eq]
  rcases ownOffer_cases n (evaluate ⟨s.cfg.station, n⟩ request.body (calling n request s)) with e | ⟨o, e⟩
  · rw [e]
    refine ⟨by simp [calling], ⟨_, stands, rfl, rfl, rfl, rfl⟩, classes, State.ext_fields _ _ ?_⟩
    simp [calling]
  · rw [e]
    refine ⟨by simp [calling, changeCall], ⟨_, mem_updWhere.2 ⟨_, stands, rfl⟩, ?_⟩, ?_, State.ext_fields _ _ ?_⟩
    · simp [openedCall]
    · exact (classOf_same _ _ rfl).trans classes
    · simp [calling]

theorem effect_allocate {s : State} {form : AllocateForm} {request : CallRequest} {day : Nat} (today : s.today = some day)
    (good : form.request? = some request) (future : day ≤ form.arrival) (after : form.arrival < form.departure)
    (tags : badTags form.tags = false) (free : s.alc.openCalls < 4) (room : s.qlc.queue.length < 16) :
    effect s.tpc.limit (.allocate form) s =
      (openCall s.alc.nextCall request (broadcast (.berthCall ⟨s.cfg.station, s.alc.nextCall⟩ request.body) s).1,
       answer .allocate .callOpen [.number s.alc.nextCall.toNat]) := by
  simp [effect, doAllocate, today, good, tags, Nat.not_lt.2 future, Nat.not_le.2 after, Nat.not_le.2 free, broadcast, enqueue,
    room]

/-- Settles O13: the Berth Call joins the queue, the call the table. -/
theorem allocateOpensCall : Obligations.AllocateOpensCall := by
  intro s form request day ready fits today good future after tags free room
  obtain ⟨next, ⟨c, mem, number, phase, asks, window⟩, classes, frame⟩ := openCall_opens s.alc.nextCall request
    (broadcast (.berthCall ⟨s.cfg.station, s.alc.nextCall⟩ request.body) s).1
  have qlc : (openCall s.alc.nextCall request
      (broadcast (.berthCall ⟨s.cfg.station, s.alc.nextCall⟩ request.body) s).1).qlc =
      (broadcast (.berthCall ⟨s.cfg.station, s.alc.nextCall⟩ request.body) s).1.qlc := by rw [frame]
  refine ⟨_, exec_here_quiet (i := .allocate form) rfl ready fits nofun (names_none rfl)
    (effect_allocate today good future after tags free room) ?_ ?_ ?_, by simp [Tpc.answers], next,
    ⟨c, mem, number, phase, asks, by simpa using window⟩,
    queuedWide_congr rfl qlc (broadcast_queuedWide (.berthCall ⟨s.cfg.station, s.alc.nextCall⟩ request.body) room),
    State.ext_fields _ _ ?_⟩
  · rw [frame]
    simp
  · rw [frame]
    simp
  · rw [classes]
    exact classOf_same _ _ (by simp)
  · rw [frame]
    simp

end Sys2Proof.Machine
end

section
/-! SUPPORT. The feeder's timers (R75, R78) and the terminal's commands on outlets and taps (R108). -/

namespace Sys2Proof.Machine

/-! ### The feeder's timers -/

/-- Without a queued outlet, and with K within A, shedding and restoring change nothing. -/
theorem settlePosts_idle {s : State} (fits : s.fits) (noneQueued : s.restoreQueue = []) : settlePosts s = s := by
  have shed : shedAll s = s := by
    unfold shedAll
    cases s.pbc.outlets.length with
    | zero => rfl
    | succ n => exact if_pos fits
  have passed : restorePass (shedAll s) = s := by rw [shed, restorePass, noneQueued]; rfl
  simp only [settlePosts, settleRounds, passed]
  exact if_pos fits

theorem settled_idle (before : State) {s : State} (fits : s.fits) (noneQueued : s.restoreQueue = []) :
    settled before s = s := by
  unfold settled
  split
  · rfl
  · exact settlePosts_idle fits noneQueued

theorem restoreQueue_nil {s : State} (awake : ∀ o ∈ s.pbc.outlets, o.queued = false) : s.restoreQueue = [] := by
  have none : s.pbc.outlets.filter Outlet.queued = [] := by simpa [List.filter_eq_nil_iff] using awake
  rw [State.restoreQueue, none]
  rfl

/-- Settles O21: after a raise K is within A a fortiori, and no outlet waits to be restored. -/
theorem feederTimers : Obligations.FeederTimers := by
  refine ⟨fun s up => ?_, fun s d up fits runs awake => ?_⟩
  · simp only [exec, execComputationTimer, whenUp, up, if_true, event]
    rfl
  · have raised : ∀ t : State, t.pbc = s.pbc → t.lsu.applied = max s.lsu.applied s.lsu.computed → settled s t = t := by
      intro t pbc applied
      refine settled_idle s ?_ (restoreQueue_nil fun o mem => ?_)
      · rw [State.fits, pbc, applied]
        exact le_max_of_le_left fits
      · rw [pbc] at mem
        simp [Outlet.queued, awake o mem]
    simp only [exec, execRaiseTimer, whenUp, up, if_true, event, runs]
    exact congrArg _ (raised _ rfl rfl)

/-! ### An outlet that waits for power stays in the queue or is switched LIVE -/

/-- The outlet of a number is WAITING, LIVE or SHED. -/
def AskingAt (n : Nat) (s : State) : Prop :=
  ∃ x, s.outlet? n = some x ∧ (x.state = .waiting ∨ x.state = .live ∨ x.state = .shed)

/-- The outlet read after a change of one, LSU told of it. -/
theorem outlet?_changeOutlet (n m : Nat) (f : Outlet → Outlet) (s : State) (h : ∀ o, (f o).number = o.number) :
    (changeOutlet n f s).outlet? m = (s.outlet? m).map fun o => if o.number == n then f o else o := by
  rw [← outlet?_patchOutlet n m f s h]
  exact congrFun (outlet?_same _ _ (by simp [changeOutlet])) m

theorem askingAt_changeOutlet {m n : Nat} {f : Outlet → Outlet} {s : State} (number : ∀ o, (f o).number = o.number)
    (asks : ∀ o, (f o).state = .waiting ∨ (f o).state = .live ∨ (f o).state = .shed) (h : AskingAt n s) :
    AskingAt n (changeOutlet m f s) := by
  obtain ⟨x, reads, state⟩ := h
  refine ⟨if x.number == m then f x else x, by rw [outlet?_changeOutlet _ _ _ _ number, reads]; rfl, ?_⟩
  split
  · exact asks x
  · exact state

theorem askingAt_same {n : Nat} {s t : State} (outlets : t.pbc.outlets = s.pbc.outlets) (h : AskingAt n s) :
    AskingAt n t := by
  simpa only [AskingAt, State.outlet?, outlets] using h

theorem askingAt_closed (n : Nat) : PostsClosed (AskingAt n) where
  shed s o r _ h := by
    refine askingAt_same (s := outletShed o.number s) (by simp) ?_
    exact askingAt_changeOutlet (fun _ => rfl) (fun _ => .inr (.inr rfl)) h
  live s m o _ _ _ h :=
    askingAt_changeOutlet (fun _ => rfl) (fun _ => .inr (.inl rfl)) (askingAt_same (t := (takeNumber s).2) rfl h)

/-- An outlet that waits with a join number (R99). -/
def waitingAt (join : Nat) (o : Outlet) : Outlet := { o with state := .waiting, join := some join, restAt := none }

theorem askingAt_outletWaits {n : Nat} {s : State} {o : Outlet} (reads : s.outlet? n = some o) :
    AskingAt n (outletWaits n s) := by
  have changed := outlet?_changeOutlet n n (waitingAt s.pbc.counter) (takeNumber s).2 fun _ => rfl
  have same : (takeNumber s).2.outlet? n = some o := reads
  rw [same, Option.map_some, if_pos (by simp [outlet?_number reads])] at changed
  exact ⟨waitingAt s.pbc.counter o, changed, .inl rfl⟩

/-- Of no outlet at all nothing is asked. -/
theorem offAt_nil (s : State) : OffAt [] s := fun _ _ listed => absurd listed List.not_mem_nil

/-! ### ENERGISE and OFF (R95, R96, R108) -/

theorem onNamedOutlet_finds {s : State} {berth place : Nat} {b : Berth} {o : Outlet} (kind : CmdKind)
    (role : s.cfg.role = .pontoon) (reads : s.berth? berth = some b) (at_place : s.outletAt? b place = some o)
    (f : Outlet → State → State × Reply) : onNamedOutlet kind berth place f s = f o s := by
  simp [onNamedOutlet, State.commandBerth?, role, reads, at_place]

theorem keeps_setWanted (place : Nat) (v : Bool) : Keeps (Booking.setWanted place v) := by
  intro b
  cases place <;> exact ⟨rfl, rfl⟩

theorem setWanted_self {b : Booking} {place : Nat} {v : Bool} (same : b.wantedAt place = v) : b.setWanted place v = b := by
  subst same
  cases place <;> rfl

theorem outletAt?_reads {s : State} {b : Berth} {place : Nat} {o : Outlet} (h : s.outletAt? b place = some o) :
    s.outlet? o.number = some o := by
  unfold State.outletAt? at h
  split at h
  · simp at h
  · obtain ⟨n, -, reads⟩ := Option.bind_eq_some_iff.1 h
    rwa [outlet?_number reads]

section
variable {s : State} {berth : Nat} {o : Outlet} {b : Booking} (own : o.berth = some berth)
  (holds : s.holding? berth = some b) (found : s.booking? berth (b.serial.getD 0) = some b)
include own holds

theorem holder?_holds : s.holder? o.berth = some (berth, b) := by
  simp [State.holder?, own, holds]

include found in
/-- The wanted flag of an outlet's holding booking, changed (R95, R96). -/
theorem booking?_setWanted (v : Bool) :
    (setWanted o v s).booking? berth (b.serial.getD 0) = some (b.setWanted (s.placeIn berth o.number) v) := by
  simp only [setWanted, holder?_holds own holds]
  split
  · rename_i same
    rw [found, setWanted_self (by simpa using same)]
  · rw [booking?_changeBooking _ _ _ _ _ _ (keeps_setWanted _ _), found]
    simp

theorem requestOutlet_good (standing : b.purse.standing = .good ∨ b.purse.standing = .low) :
    requestOutlet o s = (outletWaits o.number (setWanted o true s), none) := by
  have allowed : s.energiseRefusal o = none := by
    rcases standing with e | e <;> simp [State.energiseRefusal, holder?_holds own holds, e]
  simp only [requestOutlet, allowed]

end

theorem effect_energise {s : State} {station berth place : Nat} {bb : Berth} {o : Outlet} {b : Booking}
    (role : s.cfg.role = .pontoon) (reads : s.berth? berth = some bb) (at_place : s.outletAt? bb place = some o)
    (own : o.berth = some berth) (holds : s.holding? berth = some b) (off : o.state = .off)
    (standing : b.purse.standing = .good ∨ b.purse.standing = .low) :
    effect s.tpc.limit (.energise station berth place) s =
      (outletWaits o.number (setWanted o true s), answer .energise .ok [.outletState .waiting]) := by
  rw [effect, doEnergise, onNamedOutlet_finds _ role reads at_place]
  simp [off, requestOutlet_good own holds standing]

theorem effect_off {s : State} {station berth place : Nat} {bb : Berth} {o : Outlet}
    (role : s.cfg.role = .pontoon) (reads : s.berth? berth = some bb) (at_place : s.outletAt? bb place = some o)
    (powered : o.state = .live ∨ o.state = .waiting ∨ o.state = .shed ∨ o.state = .suspended) :
    effect s.tpc.limit (.off station berth place) s = (switchOff o s, answer .off .ok) := by
  rw [effect, doOff, onNamedOutlet_finds _ role reads at_place]
  rcases powered with e | e | e | e <;> simp [e]

/-- Settles O22: what follows in the event keeps an outlet that asks for power asking, and an OFF one OFF. -/
theorem energiseAndOff : Obligations.EnergiseAndOff := by
  intro s station berth place bb o b ready here role reads at_place own holds found
  refine ⟨fun off standing => ?_, fun powered => ?_⟩
  · obtain ⟨t, runs, rfl, replies, -, bookings⟩ := exec_here_replies (i := .energise station berth place) rfl ready nofun
      (names_here here) (effect_energise (station := station) role reads at_place own holds off standing)
    refine ⟨_, runs, replies, ?_, ?_, State.ext_fields _ _ (by simp)⟩
    · refine (askingAt_closed o.number).settled s _ (askingAt_same rfl ?_)
      exact askingAt_outletWaits ((congrFun (outlet?_same _ _ (by simp)) _).trans (outletAt?_reads at_place))
    · rw [bookings, booking?_same (setWanted o true s) _ (by simp)]
      exact booking?_setWanted own holds found true
  · obtain ⟨t, runs, rfl, replies, -, bookings⟩ := exec_here_replies (i := .off station berth place) rfl ready nofun
      (names_here here) (effect_off (station := station) role reads at_place powered)
    refine ⟨_, runs, replies, fun x mem number => ?_, ?_, State.ext_fields _ _ (by simp)⟩
    · exact (offAt_closed [o.number]).settled s _
        (offAt_same (s := switchOff o s) (by simp) (offAt_outletOff o.number [] (setWanted o false s) (offAt_nil _))) x mem
        (by simp [number])
    · rw [bookings, booking?_same (setWanted o false s) _ (by simp [switchOff])]
      exact booking?_setWanted own holds found false

/-! ### RESET_OUTLET and CLEAR_LEAK (R97, R104, R108) -/

theorem effect_resetOutlet {s : State} {station berth place : Nat} {bb : Berth} {o : Outlet}
    (role : s.cfg.role = .pontoon) (reads : s.berth? berth = some bb) (at_place : s.outletAt? bb place = some o)
    (tripped : o.state = .tripped) :
    effect s.tpc.limit (.resetOutlet station berth place) s =
      if o.faultSeen then (s, answer .resetOutlet .faultPresent)
      else (outletOff o.number s, answer .resetOutlet .ok) := by
  rw [effect, doResetOutlet, onNamedOutlet_finds _ role reads at_place]
  simp [tripped]

theorem resetOutlet_resets {s : State} {station berth place : Nat} {bb : Berth} {o : Outlet} (ready : s.ready)
    (fits : s.fits) (here : s.isHere station) (role : s.cfg.role = .pontoon) (reads : s.berth? berth = some bb)
    (at_place : s.outletAt? bb place = some o) (tripped : o.state = .tripped) :
    ∃ t, exec (.resetOutlet station berth place) s = .next t ∧
      (if o.faultSeen then t = s.setTpc (s.tpc.sending (answer .resetOutlet .faultPresent))
       else s.replies t (answer .resetOutlet .ok) ∧ (∀ x ∈ t.pbc.outlets, x.number = o.number → x.state = .off) ∧
         t = { s with pbc := t.pbc, lsu := t.lsu, qlc := t.qlc, tpc := t.tpc, evj := t.evj }) := by
  have does := effect_resetOutlet (station := station) role reads at_place tripped
  by_cases seen : o.faultSeen = true
  · simp only [seen, if_true] at does ⊢
    refine ⟨_, exec_here_quiet (i := .resetOutlet station berth place) rfl ready fits nofun (names_here here) does rfl rfl
      rfl, ?_⟩
    rfl
  · simp only [seen] at does ⊢
    obtain ⟨t, runs, rfl, replies, -, -⟩ := exec_here_replies (i := .resetOutlet station berth place) rfl ready nofun
      (names_here here) does
    refine ⟨_, runs, replies, fun x mem number => ?_, State.ext_fields _ _ (by simp)⟩
    exact (offAt_closed [o.number]).settled s _ (offAt_same (s := outletOff o.number s) (by simp)
      (offAt_outletOff o.number [] s (offAt_nil s))) x mem (by simp [number])

/-- A tap without its leak mark and count. -/
def leakless (x : Tap) : Tap := { x with leakMark := false, leakCount := 0 }

/-- CLEAR_LEAK on a tap: the mark and the count gone, the entry where the mark stood (R104). -/
def leakCleared (p : Tap) (n : Nat) (s : State) : State :=
  if p.leakMark then report (.leakCleared n) (changeTap n leakless s) else changeTap n leakless s

theorem leakCleared_same (p : Tap) (n : Nat) (s : State) :
    leakCleared p n s = { changeTap n leakless s with evj := (leakCleared p n s).evj } := by
  unfold leakCleared
  split
  · exact State.ext_fields _ _ (by simp)
  · rfl

theorem effect_clearLeak {s : State} {station berth n : Nat} {bb : Berth} {p : Tap} (role : s.cfg.role = .pontoon)
    (reads : s.berth? berth = some bb) (tap : bb.cfg.tap = some n) (found : s.tap? n = some p) :
    effect s.tpc.limit (.clearLeak station berth) s = (leakCleared p n s, answer .clearLeak .ok) := by
  simp only [effect, doClearLeak, State.commandBerth?, role, if_true, reads, tap, Option.bind_some, found,
    tap?_number found]
  rfl

theorem clearLeak_clears {s : State} {station berth n : Nat} {bb : Berth} {p : Tap} (ready : s.ready) (fits : s.fits)
    (here : s.isHere station) (role : s.cfg.role = .pontoon) (reads : s.berth? berth = some bb)
    (tap : bb.cfg.tap = some n) (found : s.tap? n = some p) :
    ∃ t, exec (.clearLeak station berth) s = .next t ∧ t.tpc = s.tpc.sending (answer .clearLeak .ok) ∧
      t.tap? n = some { p with leakMark := false, leakCount := 0 } ∧
      (if p.leakMark then s.journalled t (.leakCleared n) else t.evj = s.evj) ∧
      s.sameTapsBut t n ∧ t = { s with pbc := t.pbc, tpc := t.tpc, evj := t.evj } := by
  have frame := leakCleared_same p n s
  have pbc : (leakCleared p n s).pbc = (changeTap n leakless s).pbc := by rw [frame]
  have taps := tap?_same _ _ pbc
  have quiet : settled s (performHere (.clearLeak station berth) s) = performHere (.clearLeak station berth) s := by
    rw [performHere_eq, effect_clearLeak role reads tap found, frame]
    exact settled_same_outlets _ _ rfl rfl rfl (classOf_same _ _ rfl) fits
  have runs : exec (.clearLeak station berth) s = .next (settled s (performHere (.clearLeak station berth) s)) :=
    exec_here (i := .clearLeak station berth) rfl ready nofun (names_here here)
  rw [quiet, performHere_eq, effect_clearLeak role reads tap found] at runs
  refine ⟨_, runs, ?_, (congrFun taps n).trans (tap?_self n leakless s (fun _ => rfl) p found), ?_,
    ⟨?_, fun m other => (congrFun taps m).trans (tap?_other n m leakless s (fun _ => rfl) other)⟩, ?_⟩
  · rw [frame]
    rfl
  · by_cases marked : p.leakMark = true
    · simp only [leakCleared, marked, if_true]
      exact journalled_report _ rfl rfl
    · simp only [leakCleared, marked]
      rfl
  · rw [State.setTpc_pbc, pbc]
    rfl
  · rw [frame]
    rfl

/-- Settles O23. -/
theorem resetOutletAndClearLeak : Obligations.ResetOutletAndClearLeak :=
  ⟨fun _ _ _ _ _ _ ready fits here role reads at_place tripped =>
    resetOutlet_resets ready fits here role reads at_place tripped,
   fun _ _ _ _ _ _ ready fits here role reads tap found => clearLeak_clears ready fits here role reads tap found⟩

end Sys2Proof.Machine
end

section
/-! SUPPORT. The record store's writes, one at a time (R21, R22), and the writing of a configuration image (R197). -/

namespace Sys2Proof.Machine

/-! ### A record write (R21) -/

/-- The store after a completed write holds the copy, and else what it held. -/
theorem storeRecord_reads (id : RecordId) (r : StoredRecord) {st : Store} (form : st.wf) :
    storedAt id (storeRecord id r st) = r ∧
    (∀ other, placeOf other ≠ placeOf id → storedAt other (storeRecord id r st) = storedAt other st) ∧
    ∀ i, regionByte (storeRecord id r st) i = regionByte st i :=
  ⟨storedAt_storeRecord id r st form, fun other apart => storedAt_storeRecord_other id other r st apart, fun _ => rfl⟩

/-- BST once a write has completed: the record queued again at the tail where it changed meanwhile. -/
def doneBst (w : WriteInFlight) (b : Bst) : Bst :=
  { b with inFlight := none, queue := if w.changed then b.queue ++ [w.id] else b.queue }

theorem writeDone_first {w : WriteInFlight} {s : State} (first : w.retry = false) :
    writeDone w s = (s.setStore (storeRecord w.id w.copy s.store)).setBst (doneBst w s.bst) := by
  simp only [writeDone, first]
  rfl

theorem writeDone_retry {w : WriteInFlight} {s : State} (retry : w.retry = true) :
    writeDone w s = report (.storeOk (doneBst w s.bst).queue.length) ((s.setStore (storeRecord w.id w.copy s.store)).setBst
      { doneBst w s.bst with fault := false, retryAt := none }) := by
  simp only [writeDone, retry]
  rfl

theorem storeWriteEnd_runs {s : State} {w : WriteInFlight} (flight : s.bst.inFlight = some w) (equal : Bool) :
    exec (.storeWriteEnd equal) s = .next (if equal then writeDone w s else writeFailed w s) := by
  simp only [exec, execStoreWriteEnd, flight]

theorem storeWriteTimeout_runs {s : State} {w : WriteInFlight} (flight : s.bst.inFlight = some w) :
    exec .storeWriteTimeout s = .next (writeFailed w (reach w.deadline s)) := by
  simp only [exec, execStoreWriteTimeout, flight]

/-! ### A write that fails (R21, R22) -/

/-- BST once a write has failed: the record at the head again, STORE_FAULT with its retry timer. -/
def failedBst (w : WriteInFlight) (now : Nat) (b : Bst) : Bst :=
  { b with inFlight := none, queue := w.id :: b.queue, fault := true, retryAt := some (now + 10000) }

/-- A failed write up to what EVJ is told of it. -/
def failing (w : WriteInFlight) (s : State) : State := (breakSlot w.id s).setBst (failedBst w s.now s.bst)

theorem writeFailed_eq (w : WriteInFlight) (s : State) :
    writeFailed w s = if s.bst.fault then failing w s else report (.storeFault w.id) (failing w s) := rfl

/-- A write that fails leaves its slot as it was or damaged, every other place of the store, and STORE_FAULT. -/
theorem writeFailed_leaves (w : WriteInFlight) (s : State) :
    (writeFailed w s).bst = failedBst w s.now s.bst ∧
    (s.store.wf → storedAt w.id (writeFailed w s).store = storedAt w.id s.store ∨
      (storedAt w.id (writeFailed w s).store).good = false) ∧
    (∀ other, placeOf other ≠ placeOf w.id → storedAt other (writeFailed w s).store = storedAt other s.store) ∧
    (∀ i, regionByte (writeFailed w s).store i = regionByte s.store i) ∧
    if s.bst.fault then (writeFailed w s).evj = s.evj else s.journalled (writeFailed w s) (.storeFault w.id) := by
  have store : (writeFailed w s).store = (breakSlot w.id s).store := by
    rw [writeFailed_eq]
    split <;> simp [failing]
  rw [store]
  refine ⟨?_, storedAt_breakSlot w.id s, fun other apart => storedAt_breakSlot_other w.id other s apart, fun _ => rfl, ?_⟩
  · rw [writeFailed_eq]
    split <;> simp [failing]
  · rw [writeFailed_eq]
    split
    · rfl
    · exact journalled_report _ rfl rfl

theorem exec_storeWriteStart {s : State} {id : RecordId} {rest : List RecordId} (sound : s.bst.fault = false)
    (idle : s.bst.inFlight = none) (phase : s.cfl.phase = .idle) (waits : s.bst.queue = id :: rest) :
    exec .storeWriteStart s = .next (s.setBst { s.bst with
      queue := rest, inFlight := some { id := id, copy := s.copyOf id, deadline := s.now + 50 } }) := by
  simp [exec, execStoreWriteStart, sound, idle, phase, startWrite, waits]

/-- What a record holds is read from the blocks, not from the write queue or the time. -/
theorem copyOf_same {s t : State} (id : RecordId) (berths : t.bst.berths = s.bst.berths)
    (next : t.bst.nextSerial = s.bst.nextSerial) (ending : t.bst.lastEnding = s.bst.lastEnding)
    (statements : t.bst.statements = s.bst.statements) (fsc : t.fsc = s.fsc) : t.copyOf id = s.copyOf id := by
  cases id <;>
    simp [State.copyOf, State.contentOf, State.bySlot?, State.liveBookings, State.bookings, berths, next, ending, statements, fsc]

theorem exec_storeRetryTimer {s : State} {d : Nat} {id : RecordId} {rest : List RecordId} (runs : s.bst.retryAt = some d)
    (idle : s.bst.inFlight = none) (phase : s.cfl.phase = .idle) (waits : s.bst.queue = id :: rest) :
    exec .storeRetryTimer s = .next ((reach d s).setBst { s.bst with
      queue := rest, retryAt := none, inFlight := some ⟨id, s.copyOf id, false, max s.now d + 50, true⟩ }) := by
  have copy : ((reach d s).setBst { (reach d s).bst with retryAt := none }).copyOf id = s.copyOf id :=
    copyOf_same id rfl rfl rfl rfl rfl
  simp only [exec, execStoreRetryTimer, runs, reach_frame, idle, phase, waits, Option.isSome_none, List.isEmpty_cons, bne_self_eq_false,
    Bool.or_self, Bool.false_eq_true, if_false, startWrite, State.setBst_bst]
  rw [← copy]
  rfl

/-- Settles O6: each command of the write-through by the branch its conditions select. -/
theorem recordWrites : Obligations.RecordWrites := by
  refine ⟨fun s id rest sound idle phase waits => exec_storeWriteStart sound idle phase waits, fun s w flight first form => ?_,
    fun s w timeout flight => ?_, fun s d id rest runs idle phase waits => ?_, fun s w flight retry form => ?_⟩
  · obtain ⟨own, others, region⟩ := storeRecord_reads w.id w.copy form
    have done := writeDone_first (s := s) first
    refine ⟨_, storeWriteEnd_runs flight true, ?_⟩
    simp only [if_true, done]
    exact ⟨own, others, region, rfl, rfl⟩
  · cases timeout with
    | true =>
      obtain ⟨bst, own, others, region, entry⟩ := writeFailed_leaves w (reach w.deadline s)
      refine ⟨_, storeWriteTimeout_runs flight, (writeFailed_frame w (reach w.deadline s)).2.1, ?_, own, others, region, entry, State.ext_fields _ _ (by simp)⟩
      rw [bst]
      simp [failedBst]
    | false =>
      obtain ⟨bst, own, others, region, entry⟩ := writeFailed_leaves w s
      refine ⟨_, storeWriteEnd_runs flight false, by simp, ?_, own, others, region, entry, State.ext_fields _ _ (by simp)⟩
      rw [if_neg Bool.false_ne_true, bst]
      simp [failedBst]
  · exact ⟨_, exec_storeRetryTimer runs idle phase waits, rfl, rfl, rfl⟩
  · obtain ⟨own, others, region⟩ := storeRecord_reads w.id w.copy form
    have done := writeDone_retry (s := s) retry
    refine ⟨_, storeWriteEnd_runs flight true, ?_⟩
    simp only [if_true, done]
    exact ⟨own, others, region, rfl, journalled_report _ rfl rfl, rfl⟩

/-! ### WRITE_CONFIG (R197) -/

/-- WRITE_CONFIG and RESTART are taken once the load has ended, in CONFIG_FAULT too (R187, R197). -/
theorem exec_config {i : Instr} {c : TermCmd} (brings : terminalOf i = some c) {s : State} (loaded : s.cfl.starting = false)
    (listens : s.tpc.listens = true) (taken : CmdKind.inFault c.kind = true) :
    exec i s = .next (settled s (ownRule (Config.payloadBytes c) c s)) := by
  rw [exec_terminalOf brings]
  simp [terminalCommand, event, takeCommand, listens, loaded, taken]

/-- One that names no station and changes nothing but CFL is performed here, and no more follows in the event. -/
theorem exec_config_quiet {i : Instr} {c : TermCmd} (brings : terminalOf i = some c) {s : State}
    (loaded : s.cfl.starting = false) (listens : s.tpc.listens = true) (fits : s.fits)
    (taken : CmdKind.inFault c.kind = true) (own : ownRule (Config.payloadBytes c) c s = performHere c s) {cfl : Cfl}
    {r : Reply} (does : effect s.tpc.limit c s = (s.setCfl cfl, r)) :
    exec i s = .next ((s.setCfl cfl).setTpc (s.tpc.answers r)) := by
  rw [exec_config brings loaded listens taken, own, performHere_eq, does]
  exact congrArg _ (settled_same _ _ rfl rfl (classOf_same _ _ rfl) fits)

theorem effect_configData_taken {s : State} {bytes : List Byte} (filling : s.cfl.filling = true) (some_byte : bytes ≠ [])
    (short : bytes.length ≤ 200) (within : s.cfl.staged.length + bytes.length ≤ s.cfl.length) :
    effect s.tpc.limit (.writeConfigData s.cfl.staged.length bytes) s =
      (s.setCfl { s.cfl with staged := s.cfl.staged ++ bytes },
       answer .writeConfig .ok [.number (s.cfl.staged.length + bytes.length)]) := by
  simp [effect, doConfigData, filling, some_byte, Nat.not_lt.2 short, Nat.not_lt.2 within]

theorem effect_configData_offset {s : State} {offset : Nat} {bytes : List Byte} (filling : s.cfl.filling = true)
    (some_byte : bytes ≠ []) (short : bytes.length ≤ 200) (off : offset ≠ s.cfl.staged.length) :
    effect s.tpc.limit (.writeConfigData offset bytes) s =
      (s.setCfl s.cfl, answer .writeConfig .badOffset [.number s.cfl.staged.length]) := by
  simp [effect, doConfigData, filling, some_byte, Nat.not_lt.2 short, off]
  rfl

/-- COMMIT of a buffer that checks out makes TPC wait for the image write (R197). -/
theorem commit_waits {s : State} {image : Image} (loaded : s.cfl.starting = false) (listens : s.tpc.listens = true)
    (fits : s.fits) (filling : s.cfl.filling = true) (whole : s.cfl.length ≤ s.cfl.staged.length)
    (sound : checkImage s.cfl.staged = .ok image) :
    exec .writeConfigCommit s = .next (working .committing (s.setCfl { s.cfl with phase := .waiting })) := by
  have accepted : commitRefusal s = none := by simp [commitRefusal, filling, Nat.not_lt.2 whole, sound]
  rw [exec_config (i := .writeConfigCommit) rfl loaded listens rfl]
  simp only [ownRule, accepted, Option.isSome_none, Bool.false_eq_true, if_false]
  exact congrArg _ (settled_same _ _ rfl rfl (classOf_same _ _ rfl) fits)

/-- COMMIT of a buffer that does not check out is answered at once with what is wrong (R197). -/
theorem commit_refused {s : State} {reason : ConfigReason} {offset : Option Nat} (loaded : s.cfl.starting = false)
    (listens : s.tpc.listens = true) (fits : s.fits) (filling : s.cfl.filling = true)
    (whole : s.cfl.length ≤ s.cfl.staged.length) (bad : checkImage s.cfl.staged = .error (reason, offset)) :
    exec .writeConfigCommit s =
      .next (s.setTpc (s.tpc.answers (answer .writeConfig .badConfig [.reason reason offset]))) := by
  have refused : commitRefusal s = some (answer .writeConfig .badConfig [.reason reason offset]) := by
    simp [commitRefusal, filling, Nat.not_lt.2 whole, bad]
  have own : ownRule (Config.payloadBytes .writeConfigCommit) .writeConfigCommit s = performHere .writeConfigCommit s := by
    simp [ownRule, refused]
  exact exec_config_quiet (i := .writeConfigCommit) rfl loaded listens fits rfl own (cfl := s.cfl)
    (by simp only [effect, refused]; rfl)

/-! ### The image write (R197) -/

theorem configWriteEnd_runs {s : State} (writing : s.cfl.phase = .writing) (complete : Bool) :
    exec (.configWriteEnd complete) s = .next (if complete then imageDone s else imageFailed s) := by
  simp [exec, execConfigWriteEnd, writing]

/-- A completed image write: the buffer stands over the image region, and every record and the rest of the region stay. -/
theorem imageDone_writes {s : State} (form : s.store.wf) :
    (∀ id, storedAt id (imageDone s).store = storedAt id s.store) ∧
    (∀ i, s.cfl.staged.length ≤ i → regionByte (imageDone s).store i = regionByte s.store i) ∧
    (∀ i, i < s.cfl.staged.length → regionByte (imageDone s).store i = s.cfl.staged.getD i 0) := by
  have store : (imageDone s).store = writeRegion s.cfl.staged s.store := by simp [imageDone]
  rw [store]
  refine ⟨fun id => rfl, fun i past => mapGet_writeBytes_outside _ _ _ _ (.inr (by omega)), fun i inside => ?_⟩
  have reads := mapGet_writeBytes_inside s.cfl.staged 0 i s.store.region form.1 inside
  rw [Nat.zero_add] at reads
  simp only [regionByte, writeRegion, reads]
  simp [inside]

/-- A failed image write: no image that is accepted, and every record and the rest of the region stay. -/
theorem imageFailed_breaks {s : State} (form : s.store.wf) :
    (∀ id, storedAt id (imageFailed s).store = storedAt id s.store) ∧
    (∀ i, s.cfl.staged.length ≤ i → regionByte (imageFailed s).store i = regionByte s.store i) ∧
    (s.cfl.staged ≠ [] → ∃ e, checkImage (imageBytes (imageFailed s).store) = .error e) := by
  have store : (imageFailed s).store = breakRegion s.free s.cfl.staged.length s.store := by
    simp [imageFailed, breakImage, takeFree]
  rw [store]
  refine ⟨fun id => ?_, fun i past => regionByte_breakRegion _ _ _ _ past, fun some_byte =>
    checkImage_breakRegion _ _ _ form (List.length_pos_iff.2 some_byte)⟩
  simp [storedAt]

/-- Settles O51: WRITE_CONFIG by the state of its buffer, the image write by its end. -/
theorem stagedImageIsWritten : Obligations.StagedImageIsWritten := by
  refine ⟨fun s loaded listens fits => ⟨fun length low high => ?_, fun bytes filling some_byte short within => ?_,
    fun offset bytes filling some_byte short off => ?_, fun filling whole => ?_, ?_⟩, fun s waiting idle => ?_,
    fun s complete writing form => ?_⟩
  · exact exec_config_quiet (i := .writeConfigBegin length) rfl loaded listens fits rfl rfl
      (cfl := { s.cfl with filling := true, length := length, staged := [] })
      (by simp [effect, doConfigBegin, Nat.not_lt.2 low, Nat.not_lt.2 high]; rfl)
  · exact exec_config_quiet (i := .writeConfigData s.cfl.staged.length bytes) rfl loaded listens fits rfl rfl
      (effect_configData_taken filling some_byte short within)
  · exact exec_config_quiet (i := .writeConfigData offset bytes) rfl loaded listens fits rfl rfl
      (effect_configData_offset filling some_byte short off)
  · split
    · rename_i sound
      exact ⟨_, commit_waits loaded listens fits filling whole sound, rfl, rfl, rfl, rfl⟩
    · rename_i bad
      exact commit_refused loaded listens fits filling whole bad
  · exact exec_config_quiet (i := .restart) rfl loaded listens fits rfl rfl (cfl := s.cfl) rfl
  · simp [exec, execConfigWriteStart, waiting, idle]
  · cases complete with
    | true =>
      obtain ⟨records, rest, image⟩ := imageDone_writes form
      refine ⟨_, configWriteEnd_runs writing true, records, rest, fun _ => ⟨image, ?_, ?_, ?_⟩, nofun,
        State.ext_fields _ _ (by simp)⟩
      · simp [imageDone]
      · simp [imageDone]
      · exact journalled_congr (t := report (.configWritten s.cfl.length (imageCheck s.cfl.staged).toNat)
          ((s.setStore (writeRegion s.cfl.staged s.store)).setCfl
            { s.cfl with phase := .idle, filling := false, length := 0, staged := [] })) rfl (journalled_report _ rfl rfl)
    | false =>
      obtain ⟨records, rest, image⟩ := imageFailed_breaks form
      refine ⟨_, configWriteEnd_runs writing false, records, rest, nofun, fun _ => ⟨?_, ?_, image, ?_⟩,
        State.ext_fields _ _ (by simp)⟩
      · simp [imageFailed]
      · exact journalled_congr (t := report .configWriteFailed ((breakImage s).setCfl { s.cfl with phase := .idle })) rfl
          (journalled_report _ rfl rfl)
      · simp [imageFailed]

end Sys2Proof.Machine
end

section
/-! SUPPORT. What a listing carries of its items (R188), and READ_STATEMENTS (R12). -/

namespace Sys2Proof.Machine

/-! ### What a reply carries (R188) -/

/-- Filling takes items in their order, as many as fit, and names the first one left. -/
theorem fillItems_takes (room : Nat) (l : List (Nat × Item)) :
    (fillItems room l).1 = (l.map Prod.snd).take (fillItems room l).1.length ∧
    (fillItems room l).2 = l[(fillItems room l).1.length]?.map Prod.fst ∧
    ∀ i, (l.map Prod.snd)[(fillItems room l).1.length]? = some i →
      room < ((fillItems room l).1.map Config.itemBytes).sum + Config.itemBytes i := by
  induction l generalizing room with
  | nil => exact ⟨rfl, rfl, fun i h => by simp [fillItems] at h⟩
  | cons x rest ih =>
    obtain ⟨name, item⟩ := x
    by_cases fits : Config.itemBytes item ≤ room
    · obtain ⟨takes, names, full⟩ := ih (room - Config.itemBytes item)
      have step : fillItems room ((name, item) :: rest) =
          (item :: (fillItems (room - Config.itemBytes item) rest).1, (fillItems (room - Config.itemBytes item) rest).2) := by
        simp [fillItems, fits]
      rw [step]
      refine ⟨congrArg (item :: ·) takes, names, fun i next => ?_⟩
      have left := full i next
      simp only [List.map_cons, List.sum_cons]
      omega
    · have stop : fillItems room ((name, item) :: rest) = ([], some name) := by simp [fillItems, fits]
      rw [stop]
      refine ⟨rfl, rfl, fun i next => ?_⟩
      obtain rfl : item = i := by simpa using next
      simpa using fits

/-- The reply of a listing carries its items, and MORE with the name of the next one (R188). -/
theorem packReply_carries (k : CmdKind) (limit : Nat) (gap : Bool) (l : List (Nat × Item)) :
    Reply.carries (packReply k limit gap l) limit (l.map Prod.snd) ∧
    (packReply k limit gap l).resume = l[(packReply k limit gap l).items.length]?.map Prod.fst ∧
    (packReply k limit gap l).code = .known k ∧ (packReply k limit gap l).result = .ok ∧
    (packReply k limit gap l).gap = gap := by
  cases l with
  | nil => exact ⟨⟨rfl, fun h => absurd rfl h, fun _ => ⟨Nat.zero_le _, fun _ next => by simp at next⟩,
      fun cut => Bool.noConfusion cut⟩, rfl, rfl, rfl, rfl⟩
  | cons x rest =>
    obtain ⟨name, item⟩ := x
    by_cases fits : Config.itemBytes item ≤ limit
    · obtain ⟨takes, names, full⟩ := fillItems_takes limit ((name, item) :: rest)
      have packs : packReply k limit gap ((name, item) :: rest) =
          { code := .known k, result := .ok, gap := gap, resume := (fillItems limit ((name, item) :: rest)).2
            items := (fillItems limit ((name, item) :: rest)).1 } := by simp [packReply, fits]
      rw [packs]
      refine ⟨⟨takes, fun _ => ?_, fun _ => ⟨fillItems_fits _ _, full⟩, fun cut => Bool.noConfusion cut⟩, names, rfl, rfl, rfl⟩
      simp [fillItems, fits]
    · have packs : packReply k limit gap ((name, item) :: rest) =
          { code := .known k, result := .ok, gap := gap, cut := true, resume := rest.head?.map Prod.fst
            items := [item] } := by simp [packReply, fits]
      rw [packs]
      refine ⟨⟨rfl, fun _ => List.cons_ne_nil _ _, fun whole => Bool.noConfusion whole, fun _ => ⟨item, rfl, Nat.not_le.1 fits⟩⟩, ?_, rfl, rfl, rfl⟩
      cases rest <;> rfl

/-- The limit looks at a reply's items alone. -/
theorem within_resume (limit : Nat) (r : Reply) (resume : Option Nat) :
    ({ r with resume := resume } : Reply).within limit = { r.within limit with resume := resume } := by
  unfold Reply.within
  split <;> rfl

/-! ### Statements marked READ (R12, R20) -/

/-- A statement READ where its slot is one of some. -/
def readAt (slots : List Nat) (x : Statement) : Statement := if x.slot ∈ slots then { x with read := true } else x

theorem readAt_slot (slots : List Nat) (x : Statement) : (readAt slots x).slot = x.slot := by
  unfold readAt
  split <;> rfl

theorem markRead_statements (n : Nat) (s : State) :
    (markRead n s).bst.statements = s.bst.statements.map (readAt [n]) := by
  unfold markRead
  split
  · rw [queueRecord_statements]
    exact List.map_congr_left fun x _ => by by_cases h : x.slot = n <;> simp [readAt, h]
  · rename_i absent
    have absent : ∀ x ∈ s.bst.statements, x.slot ≠ n := by simpa using absent
    exact (List.map_id' _).symm.trans (List.map_congr_left fun x mem => by simp [readAt, absent x mem])

/-- The slots are marked one after the other. -/
def markAll (slots : List Nat) (s : State) : State := slots.foldl (fun x n => markRead n x) s

theorem markAll_statements (slots : List Nat) (s : State) :
    (markAll slots s).bst.statements = s.bst.statements.map (readAt slots) := by
  induction slots generalizing s with
  | nil => exact (List.map_id' _).symm.trans (List.map_congr_left fun x _ => by simp [readAt])
  | cons n slots ih =>
    rw [markAll, List.foldl_cons, ← markAll, ih, markRead_statements, List.map_map]
    refine List.map_congr_left fun x _ => ?_
    by_cases first : x.slot = n <;> by_cases later : x.slot ∈ slots <;> simp [readAt, first, later]

theorem dirtyRecord_markRead {id : RecordId} {s : State} (n : Nat) (h : s.dirtyRecord id) : (markRead n s).dirtyRecord id := by
  unfold markRead
  split
  · exact dirtyRecord_queueRecord _ (dirtyRecord_congr rfl rfl h)
  · exact h

theorem markRead_dirty {n : Nat} {s : State} (stands : ∃ x ∈ s.bst.statements, x.slot = n) :
    (markRead n s).dirtyRecord (.statement n) := by
  unfold markRead
  rw [if_pos (by simpa using stands)]
  exact queueRecord_dirty _ _

/-- Every slot marked is queued to be written. -/
theorem markAll_dirty {slots : List Nat} {s : State} (stand : ∀ n ∈ slots, ∃ x ∈ s.bst.statements, x.slot = n) :
    ∀ n ∈ slots, (markAll slots s).dirtyRecord (.statement n) := by
  have kept (l : List Nat) (id : RecordId) (t : State) (h : t.dirtyRecord id) : (markAll l t).dirtyRecord id :=
    foldl_keeps (fun t => t.dirtyRecord id) (fun x n => markRead n x) (fun _ n => dirtyRecord_markRead n) l t h
  induction slots generalizing s with
  | nil => exact fun n mem => absurd mem List.not_mem_nil
  | cons m slots ih =>
    intro n mem
    rcases List.mem_cons.1 mem with rfl | later
    · exact kept slots _ _ (markRead_dirty (stand n (.head _)))
    · refine ih (s := markRead m s) (fun k later => ?_) n later
      obtain ⟨x, there, slot⟩ := stand k (.tail _ later)
      rw [markRead_statements]
      exact ⟨readAt [m] x, List.mem_map.2 ⟨x, there, rfl⟩, (readAt_slot _ _).trans slot⟩

theorem markAll_same (slots : List Nat) (s : State) :
    markAll slots s = { s with bst := (markAll slots s).bst } ∧ (markAll slots s).bst.berths = s.bst.berths := by
  have step (n : Nat) (s : State) : markRead n s = { s with bst := (markRead n s).bst } ∧
      (markRead n s).bst.berths = s.bst.berths := by
    unfold markRead
    split
    · exact ⟨State.ext_fields _ _ (by simp), by simp⟩
    · exact ⟨rfl, rfl⟩
  induction slots generalizing s with
  | nil => exact ⟨rfl, rfl⟩
  | cons n slots ih =>
    obtain ⟨rest, berths⟩ := ih (markRead n s)
    obtain ⟨one, berth⟩ := step n s
    refine ⟨?_, berths.trans berth⟩
    rw [markAll, List.foldl_cons, ← markAll, rest, one]

/-! ### READ_STATEMENTS (R12) -/

/-- The statements a READ_STATEMENTS fills its reply from, each under its ending number. -/
def State.askedItems (s : State) (selector : StatementSelector) (resume : Nat) : List (Nat × Item) :=
  (s.askedStatements selector resume).map fun st => (st.ending, .statement st)

theorem askedItems_items (s : State) (selector : StatementSelector) (resume : Nat) :
    (s.askedItems selector resume).map Prod.snd = (s.askedStatements selector resume).map Item.statement := by
  simp [State.askedItems]

/-- The reply to a READ_STATEMENTS: while some are left it names the last statement carried. -/
def statementReply (items : List (Nat × Item)) (limit : Nat) : Reply :=
  { packReply .readStatements limit false items with
    resume := (packReply .readStatements limit false items).resume.bind fun _ =>
      ((packReply .readStatements limit false items).items.map itemEnding).getLast? }

theorem effect_readStatements (selector : StatementSelector) (resume : Nat) (s : State) :
    effect s.tpc.limit (.readStatements selector resume) s =
      (if selector = .unread then
        markAll ((statementReply (s.askedItems selector resume) s.tpc.limit).items.map itemSlot) s else s,
       statementReply (s.askedItems selector resume) s.tpc.limit) := by
  cases selector <;> rfl

theorem statementReply_within (items : List (Nat × Item)) (limit : Nat) :
    (statementReply items limit).within limit = statementReply items limit := by
  rw [statementReply, within_resume, within_packReply]

/-- What is carried stands in the list. -/
theorem carried_stand {s : State} {selector : StatementSelector} {resume : Nat} {n : Nat}
    (mem : n ∈ (statementReply (s.askedItems selector resume) s.tpc.limit).items.map itemSlot) :
    ∃ x ∈ s.bst.statements, x.slot = n := by
  obtain ⟨takes, -⟩ := (packReply_carries .readStatements s.tpc.limit false (s.askedItems selector resume)).1
  obtain ⟨i, carried, slot⟩ := List.mem_map.1 mem
  have asked : i ∈ (s.askedStatements selector resume).map Item.statement := by
    rw [← askedItems_items]
    rw [statementReply, takes] at carried
    exact List.mem_of_mem_take carried
  obtain ⟨x, listed, rfl⟩ := List.mem_map.1 asked
  refine ⟨x, ?_, slot⟩
  unfold State.askedStatements at listed
  split at listed
  · exact List.mem_of_mem_filter listed
  · exact absurd listed List.not_mem_nil

/-- Settles O8: the reply is packed from what is asked for, and exactly its slots are marked. -/
theorem readStatementsMarksWhatItCarries : Obligations.ReadStatementsMarksWhatItCarries := by
  intro s selector resume ready fits asked
  have list : (s.askedItems selector resume).map Prod.snd = asked.map Item.statement := askedItems_items s selector resume
  have length : (s.askedItems selector resume).length = asked.length := by
    simpa using congrArg List.length list
  obtain ⟨carries, more, code, result, gap⟩ :=
    packReply_carries .readStatements s.tpc.limit false (s.askedItems selector resume)
  rw [list] at carries
  have reply := statementReply_within (s.askedItems selector resume) s.tpc.limit
  have does := effect_readStatements selector resume s
  have resumes : (statementReply (s.askedItems selector resume) s.tpc.limit).resume =
      if asked.length ≤ (statementReply (s.askedItems selector resume) s.tpc.limit).items.length then none
      else ((statementReply (s.askedItems selector resume) s.tpc.limit).items.map itemEnding).getLast? := by
    simp only [statementReply, more]
    split
    · rename_i all
      rw [List.getElem?_eq_none (length ▸ all)]
      rfl
    · rename_i some_left
      rw [List.getElem?_eq_getElem (by omega)]
      rfl
  cases selector with
  | all =>
    have runs := exec_here_quiet (i := .readStatements .all resume) rfl ready fits nofun (names_none rfl) does rfl rfl rfl
    rw [reply] at runs
    refine ⟨_, statementReply (s.askedItems .all resume) s.tpc.limit, runs, rfl, code, result, gap, carries, resumes, ?_, nofun, rfl, fun _ => rfl⟩
    simp
  | unread =>
    obtain ⟨same, berths⟩ := markAll_same
      ((statementReply (s.askedItems .unread resume) s.tpc.limit).items.map itemSlot) s
    have runs := exec_here_quiet (i := .readStatements .unread resume) rfl ready fits nofun (names_none rfl) does
      (by rw [if_pos rfl, same]) (by rw [if_pos rfl, same]) (by rw [if_pos rfl]; exact classOf_same _ _ berths)
    rw [reply, if_pos rfl] at runs
    refine ⟨_, statementReply (s.askedItems .unread resume) s.tpc.limit, runs, ?_, code, result, gap, carries, resumes, ?_, fun _ n mem => ?_, ?_, nofun⟩
    · rw [same]
      rfl
    · refine (markAll_statements _ s).trans (List.map_congr_left fun x _ => ?_)
      simp [readAt]
    · exact markAll_dirty (fun _ => carried_stand) n mem
    · rw [same]
      rfl

end Sys2Proof.Machine
end

section
/-! SUPPORT. The reply size limit (R188), SELECT_TARIFF (R163), JOURNAL_ACK and an entry that joins the journal (R193 to
R195). -/

namespace Sys2Proof.Machine

/-! ### Which replies are cut by their own rule (R188) -/

/-- A reply set CUT by its own rule is one whose items are above the limit. -/
def CutFits (limit : Nat) (r : Reply) : Prop := r.cut = true → limit < (r.items.map Config.itemBytes).sum

theorem cutFits_whole {limit : Nat} {r : Reply} (whole : r.cut = false) : CutFits limit r := fun cut => by
  rw [whole] at cut
  cases cut

theorem cutFits_answer (limit : Nat) (k : CmdKind) (r : Result) (items : List Item) : CutFits limit (answer k r items) :=
  cutFits_whole rfl

theorem cutFits_pack (k : CmdKind) (limit : Nat) (gap : Bool) (items : List (Nat × Item)) :
    CutFits limit (packReply k limit gap items) := packReply_cut k limit gap items

theorem cutFits_onAddressed {limit : Nat} {kind : CmdKind} {f : Booking → State → State × Reply}
    (own : ∀ b s, CutFits limit (f b s).2) (berth serial : Nat) (s : State) :
    CutFits limit (onAddressed kind berth serial f s).2 := by
  unfold onAddressed
  split
  · exact cutFits_whole rfl
  · exact own _ _

theorem cutFits_onNamedOutlet {limit : Nat} {kind : CmdKind} {f : Outlet → State → State × Reply}
    (own : ∀ o s, CutFits limit (f o s).2) (berth place : Nat) (s : State) :
    CutFits limit (onNamedOutlet kind berth place f s).2 := by
  unfold onNamedOutlet
  (repeat' split)
  · exact cutFits_whole rfl
  · exact cutFits_whole rfl
  · exact own _ _

theorem cutFits_readBooking (limit berth serial resume : Nat) (s : State) :
    CutFits limit (doReadBooking berth serial resume limit s).2 := by
  unfold doReadBooking
  (repeat' split)
  · exact cutFits_whole rfl
  · exact cutFits_whole rfl
  · exact cutFits_pack _ _ _ _
  · exact cutFits_onAddressed (fun _ _ => cutFits_pack _ _ _ _) _ _ _

theorem cutFits_callStatus (limit : Nat) (call : Option Num8) (resume : Nat) (s : State) :
    CutFits limit (doCallStatus call resume limit s).2 := by
  unfold doCallStatus
  (repeat' split)
  · exact cutFits_whole rfl
  · exact cutFits_whole rfl
  · exact cutFits_pack _ _ _ _

theorem cutFits_journalRead (limit start : Nat) (s : State) : CutFits limit (doJournalRead start limit s).2 := by
  unfold doJournalRead
  generalize (if start = 0 then s.evj.mark else start) = first
  dsimp only
  by_cases above : s.evj.next < first
  · rw [if_pos above]
    exact cutFits_whole rfl
  · rw [if_neg above]
    exact cutFits_pack _ _ _ _

/-- What a command is answered by its own rule is cut only where it is above the limit: a listing by its packing, a berth or
outlet operation by what it does to the record it names, any other not at all (R188). -/
theorem effect_cutFits (limit : Nat) (c : TermCmd) (s : State) : CutFits limit (effect limit c s).2 := by
  cases c with
  | readBooking _ berth serial resume => exact cutFits_readBooking limit berth serial resume s
  | readStatements selector resume =>
    cases selector <;> exact packReply_cut .readStatements limit false (s.askedItems _ resume)
  | callStatus call resume => exact cutFits_callStatus limit call resume s
  | journalRead start => exact cutFits_journalRead limit start s
  | loadStatus | postStatus | linkStatus => exact cutFits_pack _ _ _ _
  | gateStatus | saleStatus =>
    dsimp only [effect, doGateStatus, doSaleStatus]
    split
    · exact cutFits_whole rfl
    · exact cutFits_pack _ _ _ _
  | checkOut | cancel | extend | setTags | credit | bar | unbar | setMarks | dropHold =>
    refine cutFits_onAddressed (fun b x => ?_) _ _ _
    (try dsimp only)
    (repeat' split) <;> exact cutFits_whole rfl
  | energise | off | resetOutlet =>
    refine cutFits_onNamedOutlet (fun o x => ?_) _ _ _
    (try dsimp only)
    (repeat' split) <;> exact cutFits_whole rfl
  | tagStatus | cacheStatus | flushCache | dayStatus | status | restart => exact cutFits_whole rfl
  | writeConfigCommit =>
    dsimp only [effect, commitRefusal]
    (repeat' split) <;> exact cutFits_whole rfl
  | _ =>
    dsimp only [effect, doAllocate, doClearLeak, doSetGateMode, doGateAck, doDirectAuthorise, doCancelSale, doWriteOffSale,
      doSetTime, doSelectTariff, doSetReplyLimit, doJournalAck, doConfigBegin, doConfigData]
    (repeat' split) <;> exact cutFits_whole rfl

/-! ### SET_REPLY_LIMIT, SELECT_TARIFF and JOURNAL_ACK (R163, R188, R194) -/

theorem exec_setReplyLimit {s : State} (limit : Nat) (ready : s.ready) (fits : s.fits) :
    exec (.setReplyLimit limit) s = .next (s.setTpc (if 16 ≤ limit ∧ limit ≤ 240 then
      { s.tpc with limit := limit }.sending (answer .setReplyLimit .ok)
    else s.tpc.sending (answer .setReplyLimit .badValue))) := by
  by_cases good : 16 ≤ limit ∧ limit ≤ 240
  · have does : effect s.tpc.limit (.setReplyLimit limit) s =
        (s.setTpc { s.tpc with limit := limit }, answer .setReplyLimit .ok) := by
      simp [effect, doSetReplyLimit, Nat.not_lt.2 good.1, Nat.not_lt.2 good.2]
    rw [exec_here_quiet (i := .setReplyLimit limit) rfl ready fits nofun (names_none rfl) does rfl rfl rfl, if_pos good]
    rfl
  · have does : effect s.tpc.limit (.setReplyLimit limit) s = (s, answer .setReplyLimit .badValue) := by
      have bad : (decide (limit < 16) || decide (240 < limit)) = true := by
        simp only [Bool.or_eq_true, decide_eq_true_eq]
        omega
      simp only [effect, doSetReplyLimit, bad, if_true]
    rw [exec_here_quiet (i := .setReplyLimit limit) rfl ready fits nofun (names_none rfl) does rfl rfl rfl, if_neg good]
    rfl

theorem effect_selectTariff {s : State} {station number : Nat} (named : number ≤ 4) :
    effect s.tpc.limit (.selectTariff station number) s =
      (report (.tariffStaged number s.dck.inForce)
        (s.setDck { s.dck with staged := if number = 0 then none else some number }),
       answer .selectTariff .ok [.inForce s.dck.inForce, .staged (if number = 0 then none else some number)]) := by
  simp [effect, doSelectTariff, Nat.not_lt.2 named]

/-- The read mark moved forward, EVJ looking at the attention line again; a mark that is already past stays (R194). -/
def acknowledged (sequence : Nat) (s : State) : State :=
  if sequence < s.evj.mark then s else lookAgain (s.setEvj { s.evj with mark := sequence + 1 })

theorem effect_journalAck {s : State} {sequence : Nat} (written : sequence < s.evj.next) :
    effect s.tpc.limit (.journalAck sequence) s =
      (acknowledged sequence s, answer .journalAck .ok [.number (acknowledged sequence s).evj.unread]) := by
  simp [effect, doJournalAck, Nat.not_le.2 written, acknowledged]

theorem acknowledged_moves (sequence : Nat) (s : State) :
    (acknowledged sequence s).evj.entries = s.evj.entries ∧
    (acknowledged sequence s).evj.mark = max s.evj.mark (sequence + 1) ∧
    (s.evj.mark ≤ sequence → (acknowledged sequence s).lineIsDue) ∧
    acknowledged sequence s = { s with evj := (acknowledged sequence s).evj } := by
  unfold acknowledged
  split
  · rename_i past
    exact ⟨rfl, (Nat.max_eq_left past).symm, fun h => absurd h (Nat.not_le.2 past), rfl⟩
  · rename_i ahead
    exact ⟨rfl, (Nat.max_eq_right (Nat.le_succ_of_le (Nat.not_lt.1 ahead))).symm, fun _ => lookAgain_lineIsDue _, rfl⟩

/-! ### An entry joins the journal (R192, R193) -/

theorem write_room {e : Evj} (time : Option DayTime) (r : Report) (room : e.entries.length < 256) :
    e.write time r = { e with entries := e.entries ++ [⟨e.next, time, r⟩], next := bump32 e.next } := by
  simp only [Evj.write, room, if_true]

/-- A full journal gives up its oldest entry; where that was unread it is counted, and the mark moves on. -/
theorem write_full {e : Evj} (time : Option DayTime) (r : Report) {oldest : JournalEntry} {rest : List JournalEntry}
    (entries : e.entries = oldest :: rest) (full : rest.length = 255) :
    e.write time r =
      if e.mark ≤ oldest.sequence then
        { e with entries := rest ++ [⟨e.next, time, r⟩], next := bump32 e.next, overflow := satAdd top16 e.overflow 1
                 mark := ((rest ++ [(⟨e.next, time, r⟩ : JournalEntry)]).head?.map JournalEntry.sequence).getD e.mark }
      else { e with entries := rest ++ [⟨e.next, time, r⟩], next := bump32 e.next } := by
  simp [Evj.write, entries, full]

/-- What an entry leaves of a journal of at most 256 (R192, R193). -/
def Joined (e e' : Evj) (entry : JournalEntry) : Prop :=
  e'.entries = (e.entries ++ [entry]).drop (e.entries.length - 255) ∧
  (e.next < 4294967295 → e'.next = e.next + 1) ∧
  (∀ oldest, e.entries.length = 256 → e.entries.head? = some oldest → e.mark ≤ oldest.sequence →
    e'.overflow = min 65535 (e.overflow + 1) ∧ e'.entries.head?.map JournalEntry.sequence = some e'.mark) ∧
  (e.entries.length < 256 ∨ (∀ oldest ∈ e.entries.head?, oldest.sequence < e.mark) →
    e'.overflow = e.overflow ∧ e'.mark = e.mark)

theorem bump32_next {n : Nat} (below : n < 4294967295) : bump32 n = n + 1 := if_pos below

theorem write_joins {e : Evj} (time : Option DayTime) (r : Report) (within : e.entries.length ≤ 256) :
    Joined e (e.write time r) ⟨e.next, time, r⟩ := by
  by_cases room : e.entries.length < 256
  · rw [write_room time r room]
    refine ⟨?_, bump32_next, fun _ full => absurd full (by omega), fun _ => ⟨rfl, rfl⟩⟩
    simp [Nat.sub_eq_zero_of_le (Nat.le_of_lt_succ room)]
  · obtain ⟨oldest, rest, entries⟩ := List.exists_cons_of_length_pos (l := e.entries) (by omega)
    have full : rest.length = 255 := by rw [entries] at within room; simp at within room; omega
    rw [write_full time r entries full]
    by_cases unread : e.mark ≤ oldest.sequence
    · rw [if_pos unread]
      refine ⟨?_, bump32_next, fun _ _ _ _ => ⟨rfl, ?_⟩, fun h => ?_⟩
      · simp [entries, full]
      · cases rest with
        | nil => simp at full
        | cons x rest => rfl
      · rcases h with h | h
        · exact absurd h room
        · exact absurd unread (Nat.not_le.2 (h oldest (by simp [entries])))
    · rw [if_neg unread]
      refine ⟨?_, bump32_next, fun o _ head unread' => ?_, fun _ => ⟨rfl, rfl⟩⟩
      · simp [entries, full]
      · rw [entries] at head
        obtain rfl : oldest = o := by simpa using head
        exact absurd unread' unread

/-- Settles O49: each command by its effect, every reply by the limit, every entry by the room the journal has. -/
theorem limitTariffAndReadMark : Obligations.LimitTariffAndReadMark := by
  refine ⟨fun s limit ready fits => exec_setReplyLimit limit ready fits,
    fun s limit c some_room => within_held limit _ some_room (effect_cutFits limit c s),
    fun s station number ready fits here named => ?_, fun s sequence ready fits written => ?_, fun r s within => ?_⟩
  · refine ⟨_, exec_here_quiet (i := .selectTariff station number) rfl ready fits nofun (names_here here)
      (effect_selectTariff named) (by simp) (by simp) (classOf_same _ _ (by simp)), by simp, by simp [Tpc.answers], ?_,
      State.ext_fields _ _ (by simp)⟩
    exact rfl
  · obtain ⟨entries, mark, due, frame⟩ := acknowledged_moves sequence s
    refine ⟨_, exec_here_quiet (i := .journalAck sequence) rfl ready fits nofun (names_none rfl) (effect_journalAck written)
      (by rw [frame]) (by rw [frame]) (by rw [frame]; exact classOf_same _ _ rfl), entries, mark, ?_,
      fun ahead => lineIsDue_same rfl rfl rfl (due ahead), ?_⟩
    · rw [frame]
      rfl
    · rw [frame]
      rfl
  · obtain ⟨joined, next, lost, kept⟩ := write_joins s.dck.clock r within
    exact ⟨joined, next, lost, kept, report_lineIsDue r s, rfl⟩

end Sys2Proof.Machine
end

section
/-! SUPPORT. A request that QLC takes, or cannot take (R178); the numbers that no entry uses (R144, R178). -/

namespace Sys2Proof.Machine

/-! ### Free numbers -/

/-- Where the number found is in use, so is every number passed on the way. -/
theorem freeNumber_passed (used : List Num8) (n : Num8) (k : Nat) (h : freeNumber used n k ∈ used) :
    ∀ i ≤ k, n + BitVec.ofNat 8 i ∈ used := by
  induction k generalizing n with
  | zero =>
    intro i zero
    obtain rfl : i = 0 := by omega
    simpa [freeNumber] using h
  | succ k ih =>
    by_cases taken : n ∈ used
    · have later : freeNumber used (n + 1) k ∈ used := by simpa [freeNumber, taken] using h
      intro i below
      cases i with
      | zero => simpa using taken
      | succ i =>
        have step := ih (n + 1) later i (by omega)
        have shift : n + 1 + BitVec.ofNat 8 i = n + BitVec.ofNat 8 (i + 1) := by
          have one : (1 : Num8).toNat = 1 := rfl
          apply BitVec.eq_of_toNat_eq
          simp only [BitVec.toNat_add, BitVec.toNat_ofNat, one]
          omega
        exact shift ▸ step
    · have found : freeNumber used n (k + 1) = n := by simp [freeNumber, taken]
      exact absurd (found ▸ h) taken

/-- A number is found that no entry has, where there are no more entries than numbers to try. -/
theorem freeNumber_fresh {used : List Num8} {n : Num8} {k : Nat} (few : used.length ≤ k) (small : k < 256) :
    freeNumber used n k ∉ used := by
  intro h
  have passed := freeNumber_passed used n k h
  have distinct : ((List.range (k + 1)).map fun i => n + BitVec.ofNat 8 i).Nodup := by
    refine List.Nodup.map_on (fun i hi j hj same => ?_) List.nodup_range
    have same := congrArg BitVec.toNat same
    simp only [List.mem_range, BitVec.toNat_add, BitVec.toNat_ofNat] at hi hj same
    have bound := n.isLt
    omega
  have listed : ((List.range (k + 1)).map fun i => n + BitVec.ofNat 8 i) ⊆ used := by
    intro x mem
    obtain ⟨i, below, rfl⟩ := List.mem_map.1 mem
    exact passed i (by simpa [Nat.lt_succ_iff] using below)
  have bound := (List.subperm_of_subset distinct listed).length_le
  simp only [List.length_map, List.length_range] at bound
  omega

/-- Counting up to 16 numbers, one is free where the list has at most 16 entries (R144). -/
theorem numbersListed_length (f : Fsc) (n : Nat) : (f.numbersListed n).length ≤ f.unsettled.length := by
  simpa [Fsc.numbersListed] using List.length_filter_le _ f.unsettled

/-! ### Asking (R178) -/

/-- The pending request that asking puts in the table. -/
def askedRequest (destination : Nat) (body : FrameBody) (originator : Originator) (s : State) : Pending :=
  ⟨destination, body, freeSequence (s.qlc.requests.map Pending.sequence) s.qlc.sequence 9, 1, s.qlc.prefer .a, none,
    s.now + 200, some s.qlc.nextEntry, originator⟩

/-- The entry of its first attempt. -/
def askedEntry (destination : Nat) (body : FrameBody) (originator : Originator) (s : State) : Entry :=
  ⟨s.qlc.nextEntry, ⟨destination, (askedRequest destination body originator s).sequence, body⟩,
    s.qlc.prefer .a == .a, s.qlc.prefer .a == .b⟩

/-- Where the table and the queue have room the request is pending and its first attempt waits. -/
theorem ask_room {s : State} (destination : Nat) (body : FrameBody) (originator : Originator)
    (table : s.qlc.requests.length < 8) (queue : s.qlc.queue.length < 16) :
    ask destination body originator s = (s.setQlc { s.qlc with
      queue := s.qlc.queue ++ [askedEntry destination body originator s]
      nextEntry := s.qlc.nextEntry + 1
      sequence := (askedRequest destination body originator s).sequence + 1
      requests := s.qlc.requests ++ [askedRequest destination body originator s] }, true) := by
  simp only [ask, Nat.not_le.2 table, if_false, enqueueOn, enqueue, queue, if_true]
  rfl

/-- Where the table or the queue is full it is refused; a full queue is counted. -/
theorem ask_busy {s : State} (destination : Nat) (body : FrameBody) (originator : Originator)
    (full : 8 ≤ s.qlc.requests.length ∨ 16 ≤ s.qlc.queue.length) :
    (ask destination body originator s).2 = false ∧
    ((ask destination body originator s).1 = s ∨
      (ask destination body originator s).1 = onErrors ErrorSummary.full s) := by
  by_cases table : 8 ≤ s.qlc.requests.length
  · simp [ask, table]
  · have queue : ¬ s.qlc.queue.length < 16 := by omega
    simp [ask, table, enqueueOn, enqueue_full _ _ _ _ queue]

/-- A request taken, as the statements say it. -/
theorem ask_asks {s : State} (destination : Nat) (body : FrameBody) (originator : Originator)
    (table : s.qlc.requests.length < 8) (queue : s.qlc.queue.length < 16) :
    ∃ e ∈ (ask destination body originator s).1.qlc.requests, e.body = body ∧ e.destination = destination ∧
      e.originator = originator ∧ e.attempt = 1 ∧
      s.queued (ask destination body originator s).1 (s.qlc.prefer .a) ⟨destination, e.sequence, body⟩ := by
  rw [ask_room _ _ _ table queue]
  refine ⟨askedRequest destination body originator s, by simp, rfl, rfl, rfl, rfl,
    askedEntry destination body originator s, by simp, rfl, Nat.le_refl _, rfl, rfl⟩

end Sys2Proof.Machine
end

section
/-! SUPPORT. One pump and the sale on it (chapter 8): what each operation makes of the pump's record, and that it leaves every
other pump and the rest of FSC. -/

namespace Sys2Proof.Machine

/-! ### One pump moved -/

/-- From `s` to `t` the pump `n` has come to read `x`; every other pump, and all of FSC but the pumps, is as it was. -/
def PumpMoved (s t : State) (n : Nat) (x : Pump) : Prop := t.pump? n = some x ∧ s.onlyPump t n

theorem pumpMoved_same {s t : State} {n : Nat} {p : Pump} (reads : s.pump? n = some p) (fsc : t.fsc = s.fsc) :
    PumpMoved s t n p := by
  rw [PumpMoved, State.onlyPump, State.samePumpsBut, pump?_same _ _ fsc, fsc]
  exact ⟨reads, rfl, fun _ _ => rfl⟩

/-- A pump without its sale, which its slot keeps (R146, R151, R154). -/
def leftPump (f : Sale → Sale) (p : Pump) : Pump :=
  { p with sale := none, last := p.sale.map f, state := if p.state == .fault then .fault else .idle
           command := .disabled, display := .idle, refusedUntil := none, readyAt := none, recovered := false }

/-- A pump whose sale begins to close (R150). -/
def closingPump (p : Pump) : Pump :=
  { p with command := .disabled, display := .settling, refusedUntil := none, readyAt := none
           state := if p.state == .fault then .fault else .settling
           sale := p.sale.map fun x => { x with stage := .settling } }

/-- A pump with its sale changed. -/
def resold (f : Sale → Sale) (p : Pump) : Pump := { p with sale := p.sale.map f }

namespace PumpMoved
variable {s t u : State} {n : Nat} {x y : Pump}

theorem reads (h : PumpMoved s t n x) : t.pump? n = some x := h.1
theorem only (h : PumpMoved s t n x) : s.onlyPump t n := h.2

theorem trans (h : PumpMoved s t n x) (k : PumpMoved t u n y) : PumpMoved s u n y := by
  obtain ⟨-, fsc, others⟩ := h
  obtain ⟨reads, fsc', others'⟩ := k
  exact ⟨reads, by rw [fsc', fsc], fun m other => (others' m other).trans (others m other)⟩

theorem same (h : PumpMoved s t n x) (fsc : u.fsc = t.fsc) : PumpMoved s u n x := h.trans (pumpMoved_same h.1 fsc)

theorem since (h : PumpMoved s t n x) (fsc : s.fsc = u.fsc) : PumpMoved u t n x := by
  obtain ⟨reads, only, others⟩ := h
  refine ⟨reads, by rw [only, fsc], fun m other => ?_⟩
  rw [others m other, pump?_same _ _ fsc]

theorem report (h : PumpMoved s t n x) (r : Report) : PumpMoved s (report r t) n x := h.same (by simp)

theorem queueRecord (h : PumpMoved s t n x) (id : RecordId) : PumpMoved s (queueRecord id t) n x := h.same (by simp)

theorem change (h : PumpMoved s t n x) (f : Pump → Pump) (keeps : ∀ p, (f p).cfg = p.cfg) :
    PumpMoved s (changePump n f t) n (f x) :=
  h.trans ⟨pump?_self n f t keeps x h.1, rfl, fun m other => pump?_other n m f t keeps other⟩

theorem changeSale (h : PumpMoved s t n x) (f : Sale → Sale) : PumpMoved s (changeSale n f t) n (resold f x) :=
  (h.change (resold f) fun _ => rfl).queueRecord _

theorem leavePump (h : PumpMoved s t n x) (f : Sale → Sale) : PumpMoved s (leavePump n f t) n (leftPump f x) :=
  (h.change (leftPump f) fun _ => rfl).queueRecord _

/-- Closing a sale, the part before its stage changes. -/
theorem closeSale (h : PumpMoved s t n x) : PumpMoved s (closeSale n t) n (closingPump x) :=
  (h.change (fun p =>
      { p with command := .disabled, display := .settling, refusedUntil := none, readyAt := none
               state := if p.state == .fault then .fault else .settling }) fun _ => rfl).changeSale
    fun x => { x with stage := .settling }

end PumpMoved

/-! ### Slots queued, entries written -/

theorem changeSale_dirty (n : Nat) (f : Sale → Sale) (s : State) : (changeSale n f s).dirtyRecord (.sale n) :=
  queueRecord_dirty _ _

theorem closeSale_dirty (n : Nat) (s : State) : (closeSale n s).dirtyRecord (.sale n) := queueRecord_dirty _ _

theorem leavePump_dirty (n : Nat) (f : Sale → Sale) (s : State) : (leavePump n f s).dirtyRecord (.sale n) :=
  queueRecord_dirty _ _

theorem dirtyRecord_changeSale {s : State} {id : RecordId} (n : Nat) (f : Sale → Sale) (h : s.dirtyRecord id) :
    (changeSale n f s).dirtyRecord id := dirtyRecord_queueRecord _ (dirtyRecord_same rfl h)

theorem dirtyRecord_leavePump {s : State} {id : RecordId} (n : Nat) (f : Sale → Sale) (h : s.dirtyRecord id) :
    (leavePump n f s).dirtyRecord id := dirtyRecord_queueRecord _ (dirtyRecord_same rfl h)

theorem dirtyRecord_report {s : State} {id : RecordId} (r : Report) (h : s.dirtyRecord id) :
    (report r s).dirtyRecord id := dirtyRecord_same rfl h

/-- What the newest entry says. -/
theorem lastReport_report (r : Report) (s : State) : (report r s).lastReport = some r := by
  simp only [State.lastReport, report, lookAgain, State.setEvj_evj, Evj.write]
  (repeat' split) <;> simp

/-! ### READY (R148) -/

/-- The sale of a pump that is granted an amount (R148). -/
def readySale (granted : Nat) (start : Option Totaliser) (x : Sale) : Sale :=
  { x with stage := .ready, granted := some granted, preset := some (presetVolume granted x.price), startTotal := start }

/-- A pump in READY (R148). -/
def readyPump (preset readyAt : Nat) (p : Pump) : Pump :=
  { p with state := .ready, command := .enabled preset, display := .ready, refusedUntil := none, readyAt := some readyAt }

/-- READY of a sale without a fault mark. -/
theorem enterReady_eq {s : State} {n granted : Nat} {p : Pump} {x : Sale} (reads : s.pump? n = some p)
    (sale : p.sale = some x) (sound : x.faultMark = false) :
    enterReady n granted s = report (.saleAuthorised n x.id.sale granted (presetVolume granted x.price) false)
      (changePump n (readyPump (presetVolume granted x.price) (s.now + s.cfg.readyTime * 1000))
        (changeSale n (fun y => { y with stage := .ready, granted := some granted
                                         preset := some (presetVolume granted x.price)
                                         startTotal := p.latest.map PumpReading.totaliser }) s)) := by
  simp only [enterReady, reads, sale, sound]
  rfl

theorem enterReady_moves {s : State} {n granted : Nat} {p : Pump} {x : Sale} (reads : s.pump? n = some p)
    (sale : p.sale = some x) (sound : x.faultMark = false) :
    PumpMoved s (enterReady n granted s) n
      { readyPump (presetVolume granted x.price) (s.now + s.cfg.readyTime * 1000) p with
        sale := some (readySale granted (p.latest.map PumpReading.totaliser) x) } ∧
    (enterReady n granted s).dirtyRecord (.sale n) ∧
    (enterReady n granted s).lastReport =
      some (.saleAuthorised n x.id.sale granted (presetVolume granted x.price) false) := by
  rw [enterReady_eq reads sale sound]
  refine ⟨?_, dirtyRecord_report _ (dirtyRecord_same rfl (changeSale_dirty n _ s)), lastReport_report _ _⟩
  have moved := (((pumpMoved_same reads rfl).changeSale (fun y : Sale => { y with
    stage := .ready, granted := some granted, preset := some (presetVolume granted x.price)
    startTotal := p.latest.map PumpReading.totaliser })).change
    (readyPump (presetVolume granted x.price) (s.now + s.cfg.readyTime * 1000)) fun _ => rfl).report
    (.saleAuthorised n x.id.sale granted (presetVolume granted x.price) false)
  simpa [resold, readyPump, sale, readySale] using moved

/-! ### A Hold Answer (R146) -/

theorem refuseSale_moves {s : State} {n : Nat} {p : Pump} {x : Sale} (reads : s.pump? n = some p) (sale : p.sale = some x)
    (working : p.state ≠ .fault) (why : SaleRefusal) :
    PumpMoved s (refuseSale n x why s) n { p with
      state := .idle, command := .disabled, display := .refused why, refusedUntil := some (s.now + 5000)
      readyAt := none, recovered := false, sale := none
      last := some { x with stage := .closed, outcome := some .refused } } ∧
    (refuseSale n x why s).dirtyRecord (.sale n) := by
  have now : (leavePump n (fun y => y.closed .refused) s).now = s.now := by simp
  have moved := (((pumpMoved_same reads rfl).leavePump fun y => y.closed .refused).change
    (fun p => { p with display := .refused why, refusedUntil := some (s.now + 5000) }) fun _ => rfl).report
    (.saleRefused n why ((x.party.map SaleParty.tag).getD 0) x.faultMark)
  constructor
  · rw [refuseSale, showRefused, now]
    simpa [leftPump, sale, working, Sale.closed] using moved
  · exact dirtyRecord_report _ (dirtyRecord_same rfl (leavePump_dirty n _ s))

theorem onPump?_reads {s : State} {id : HoldId} {q : Pump} {x : Sale} (reads : s.pump? id.pump = some q)
    (sale : q.sale = some x) (own : x.id = id) : s.onPump? id = some x := by
  simp [State.onPump?, reads, sale, own]

/-! ### An answer that closes its request (R180) -/

/-- Hearing a frame leaves which request an answer matches, but for the channel of that request. -/
theorem matching?_heardOn {s : State} {source : Nat} {sequence : Num8} {body : FrameBody} {p : Pending} (c : Channel)
    (h : s.matching? source sequence body = some p) :
    ∃ q, (heardOn c s).matching? source sequence body = some q ∧ q.sequence = p.sequence ∧ q.originator = p.originator ∧
      q.body = p.body ∧ q.destination = p.destination := by
  obtain ⟨-, requests, -, -⟩ := heardOn_moves c s
  have keeps (r : Pending) : (if s.qlc.queue.any fun e => s.strands c e && !e.on c && r.entry == some e.id
      then { r with channel := c } else r).sequence = r.sequence ∧
      (if s.qlc.queue.any fun e => s.strands c e && !e.on c && r.entry == some e.id
      then { r with channel := c } else r).originator = r.originator ∧
      (if s.qlc.queue.any fun e => s.strands c e && !e.on c && r.entry == some e.id
      then { r with channel := c } else r).body = r.body ∧
      (if s.qlc.queue.any fun e => s.strands c e && !e.on c && r.entry == some e.id
      then { r with channel := c } else r).destination = r.destination := by
    split <;> exact ⟨rfl, rfl, rfl, rfl⟩
  refine ⟨_, ?_, keeps p⟩
  rw [State.matching?, requests, State.requestsHeard, List.find?_map]
  have test : ((fun q : Pending => body.answers q.body && q.sequence == sequence &&
      (q.destination == source || q.kind == .tagQuery)) ∘ fun r =>
        if s.qlc.queue.any fun e => s.strands c e && !e.on c && r.entry == some e.id then { r with channel := c } else r) =
      fun q : Pending => body.answers q.body && q.sequence == sequence &&
        (q.destination == source || q.kind == .tagQuery) := by
    funext r
    simp only [Function.comp_apply]
    split <;> rfl
  rw [test, show s.qlc.requests.find? _ = some p from h]
  rfl

theorem matching?_sequence {s : State} {source : Nat} {sequence : Num8} {body : FrameBody} {p : Pending}
    (h : s.matching? source sequence body = some p) : p.sequence = sequence := by
  have := List.find?_some h
  simp only [Bool.and_eq_true, beq_iff_eq] at this
  exact this.1.2

theorem closeRequest_closes {p : Pending} {s : State} : ∀ y ∈ (closeRequest p s).qlc.requests, y.sequence ≠ p.sequence := by
  intro y mem
  simpa using (List.mem_filter.1 mem).2

end Sys2Proof.Machine
end

section
/-! SUPPORT. The owner's answers to FSC's requests: a Hold Answer decides a sale (R146, R148), a Settle Answer ends one (R151 to
R154). -/

namespace Sys2Proof.Machine

/-- An answer that matches closes its request and is handed on; the request differs from the one that waited by its channel
at most. -/
theorem takeAnswer_matches {s : State} {ch : Channel} {source : Nat} {sequence : Num8} {body : FrameBody} {p : Pending}
    (h : s.matching? source sequence body = some p) (hand : Pending → State → State) :
    ∃ q, takeAnswer source sequence body hand (heardOn ch s) = hand q (closeRequest q (heardOn ch s)) ∧
      q.sequence = sequence ∧ q.originator = p.originator := by
  obtain ⟨q, found, same, originator, -⟩ := matching?_heardOn ch h
  exact ⟨q, by simp only [takeAnswer, found], same.trans (matching?_sequence h), originator⟩

/-- After the request of an answer has been closed no request has its sequence, and FSC is as it was. -/
theorem closed_answer {s : State} (ch : Channel) {sequence : Num8} {q : Pending} (same : q.sequence = sequence) :
    (∀ y ∈ (closeRequest q (heardOn ch s)).qlc.requests, y.sequence ≠ sequence) ∧
    (closeRequest q (heardOn ch s)).fsc = s.fsc ∧ (closeRequest q (heardOn ch s)).now = s.now ∧
    (closeRequest q (heardOn ch s)).cfg = s.cfg := by
  subst same
  exact ⟨closeRequest_closes, by simp, by simp, by simp⟩

theorem takeAnswer_berths {source : Nat} {sequence : Num8} {body : FrameBody} {hand : Pending → State → State}
    (keeps : ∀ p x, (hand p x).bst.berths = x.bst.berths) (s : State) :
    (takeAnswer source sequence body hand s).bst.berths = s.bst.berths := by
  unfold takeAnswer
  split
  · rw [keeps]
    simp
  · simp

/-- Settles O35: the sale found by its hold ID enters READY, or is closed as REFUSED. -/
theorem holdAnswerDecidesSale : Obligations.HoldAnswerDecidesSale := by
  intro s ch source sequence id result p q x hears asked reads sale own sound working
  obtain ⟨r, hands, same, -⟩ := takeAnswer_matches (ch := ch) asked fun _ => holdResult id result
  obtain ⟨closed, fsc, now, cfg⟩ := closed_answer (s := s) ch same
  have runs : exec (.holdAnswer ch source sequence id result) s =
      .next (holdResult id result (closeRequest r (heardOn ch s))) := by
    rw [← hands]
    have berths := takeAnswer_berths (source := source) (sequence := sequence) (body := .holdAnswer id result)
      (hand := fun _ => holdResult id result) (fun _ x => (holdResult_shelf id result x).1) (heardOn ch s)
    exact congrArg _ (deliver_quiet ch source (onHoldAnswer source sequence id result) s hears (by simp) (by simp)
      (classOf_same _ _ (berths.trans (by simp))))
  have there : (closeRequest r (heardOn ch s)).pump? id.pump = some q :=
    (congrFun (pump?_same _ _ fsc) _).trans reads
  have found := onPump?_reads there sale own
  cases result with
  | granted g =>
    obtain ⟨moved, dirty, last⟩ := enterReady_moves (granted := g) there sale sound
    have does : holdResult id (.granted g) (closeRequest r (heardOn ch s)) =
        enterReady id.pump g (closeRequest r (heardOn ch s)) := by simp only [holdResult, found]
    rw [does] at runs
    have moved := moved.since fsc
    refine ⟨_, runs, by simpa using closed, dirty, moved.only, fun g' is => ?_, nofun, State.ext_fields _ _ (by simp)⟩
    cases is
    rw [moved.reads, last, now, cfg]
    exact ⟨rfl, rfl⟩
  | refused why =>
    obtain ⟨moved, dirty⟩ := refuseSale_moves there sale (by simp [working]) (refusalOf why)
    have does : holdResult id (.refused why) (closeRequest r (heardOn ch s)) =
        refuseSale id.pump x (refusalOf why) (closeRequest r (heardOn ch s)) := by simp only [holdResult, found]
    rw [does] at runs
    have moved := moved.since fsc
    refine ⟨_, runs, by simpa using closed, dirty, moved.only, nofun, fun why' is => ?_, State.ext_fields _ _ (by simp)⟩
    cases is
    rw [moved.reads, now]

/-! ### A Settle Answer (R151 to R154) -/

theorem reportSettled_last (x : Sale) (result : SettleResult) (s : State) :
    (∀ answered, result = .settled answered → (reportSettled x result s).lastReport = some (if answered = x.amount.getD 0
      then .saleSettled x.id.pump x.detail else .settleMismatch x.id (x.amount.getD 0) answered x.faultMark)) ∧
    (result = .noBooking → (reportSettled x result s).lastReport = some (.uncollected x.id.pump x.detail)) := by
  cases result with
  | settled answered =>
    refine ⟨fun a is => ?_, nofun⟩
    cases is
    simp only [reportSettled]
    split
    · exact lastReport_report _ _
    · exact lastReport_report _ _
  | noBooking => exact ⟨nofun, fun _ => lastReport_report _ _⟩

theorem reportSettled_same (x : Sale) (result : SettleResult) (s : State) :
    (reportSettled x result s).fsc = s.fsc ∧ (reportSettled x result s).bst = s.bst ∧
      (reportSettled x result s).qlc = s.qlc := by simp

theorem pumpSettled_moves {s : State} {id : HoldId} {q : Pump} {x : Sale} (reads : s.pump? id.pump = some q)
    (sale : q.sale = some x) (own : x.id = id) (result : SettleResult) :
    PumpMoved s (pumpSettled id result s) id.pump (leftPump (fun y => y.closed (settleOutcome result)) q) ∧
    (pumpSettled id result s).dirtyRecord (.sale id.pump) ∧
    pumpSettled id result s = reportSettled x result (leavePump id.pump (fun y => y.closed (settleOutcome result)) s) := by
  have does : pumpSettled id result s =
      reportSettled x result (leavePump id.pump (fun y => y.closed (settleOutcome result)) s) := by
    simp only [pumpSettled, onPump?_reads reads sale own]
  obtain ⟨fsc, bst, -⟩ := reportSettled_same x result (leavePump id.pump (fun y => y.closed (settleOutcome result)) s)
  rw [does]
  exact ⟨((pumpMoved_same reads rfl).leavePump _).same fsc, dirtyRecord_same bst (leavePump_dirty _ _ s), rfl⟩

/-! ### Leaving the unsettled list (R152, R153) -/

theorem queueSlots_dirty (slots : List Nat) (s : State) : ∀ n ∈ slots, (queueSlots slots s).dirtyRecord (.sale n) := by
  have kept (l : List Nat) (id : RecordId) (t : State) (h : t.dirtyRecord id) : (queueSlots l t).dirtyRecord id :=
    foldl_keeps (fun t => t.dirtyRecord id) (fun x n => queueRecord (.sale n) x)
      (fun _ n => dirtyRecord_queueRecord (.sale n)) l t h
  induction slots generalizing s with
  | nil => exact fun n mem => absurd mem List.not_mem_nil
  | cons m slots ih =>
    intro n mem
    rcases List.mem_cons.1 mem with rfl | later
    · exact kept slots _ _ (queueRecord_dirty _ _)
    · exact ih _ n later

theorem queueRecord_keepsFsc (id : RecordId) (s : State) : (queueRecord id s).fsc = s.fsc := by simp

/-- The entries of a hold ID are off the list and their slots queued; of the pumps at most the one of the hold ID has changed. -/
theorem leaveList_leaves (id : HoldId) (outcome : SaleOutcome) (s : State) :
    (leaveList id outcome s).fsc.unsettled = s.fsc.unsettled.filter (fun y => y.sale.id != id) ∧
    (∀ y ∈ s.fsc.unsettled, y.sale.id = id → (leaveList id outcome s).dirtyRecord (.sale y.slot)) ∧
    s.samePumpsBut (leaveList id outcome s) id.pump ∧ (leaveList id outcome s).fsc.lastOrder = s.fsc.lastOrder := by
  generalize freed : (s.fsc.unsettled.filter fun x => x.sale.id == id).map Unsettled.slot = slots
  generalize list : (s.setFsc { s.fsc with
    unsettled := s.fsc.unsettled.filter fun x => x.sale.id != id
    retryAt := if (s.fsc.unsettled.filter fun x => x.sale.id != id).isEmpty then none else s.fsc.retryAt }) = listed
  have fsc : (queueSlots slots listed).fsc = listed.fsc := by simp
  have dirty (y : Unsettled) (mem : y ∈ s.fsc.unsettled) (own : y.sale.id = id) :
      (queueSlots slots listed).dirtyRecord (.sale y.slot) := by
    refine queueSlots_dirty _ _ _ ?_
    rw [← freed]
    exact List.mem_map.2 ⟨y, by simp [mem, own], rfl⟩
  have pumps : (queueSlots slots listed).pump? = s.pump? := by
    funext n
    rw [pump?_same _ _ fsc, ← list]
    rfl
  have does : leaveList id outcome s =
      if ((queueSlots slots listed).pump? id.pump).any fun p => p.last.any fun x => x.id == id then
        queueRecord (.sale id.pump) (changePump id.pump (fun p => { p with last := p.last.map fun x => x.closed outcome })
          (queueSlots slots listed))
      else queueSlots slots listed := by
    rw [← freed, ← list]
    rfl
  rw [does]
  split
  · refine ⟨?_, fun y mem own => dirtyRecord_queueRecord _ (dirtyRecord_same rfl (dirty y mem own)), fun m other => ?_, ?_⟩
    · rw [queueRecord_keepsFsc]
      simp [changePump, ← list]
    · rw [pump?_same _ _ (queueRecord_keepsFsc _ _), ← pumps]
      exact pump?_other _ _ _ _ (by intro; rfl) other
    · rw [queueRecord_keepsFsc]
      simp [changePump, ← list]
  · exact ⟨by simp [← list], dirty, fun m _ => congrFun pumps m, by simp [← list]⟩

theorem listSettled_eq {s : State} {id : HoldId} {u : Unsettled} (listed : s.listed? id = some u) (result : SettleResult) :
    listSettled id result s = reportSettled u.sale result (leaveList id (settleOutcome result) s) := by
  simp only [listSettled, listed]

end Sys2Proof.Machine
end

section
/-! SUPPORT. The unsettled list: the retry walk (R152), and what ends a settlement (R151, R153). -/

namespace Sys2Proof.Machine

/-! ### The retry walk (R152) -/

/-- An entry sent again. -/
def resent (u : Unsettled) : Unsettled := { u with inFlight := true, attempts := satAdd top16 u.attempts 1 }

/-- The entries of a list that are sent, each marked. -/
def remark (sent : List Unsettled) (u : Unsettled) : Unsettled := if u ∈ sent then resent u else u

/-- How many requests QLC can take. -/
def State.room (s : State) : Nat := min (8 - s.qlc.requests.length) (16 - s.qlc.queue.length)

/-- The entries of a list that a walk over it sends. -/
def State.sends (s : State) (l : List Unsettled) : List Unsettled := (l.filter fun u => !u.inFlight).take s.room

/-- What a walk that sends some entries does. -/
structure Walked (s t : State) (sent : List Unsettled) : Prop where
  fsc : t.fsc = { s.fsc with unsettled := s.fsc.unsettled.map (remark sent) }
  asks : ∃ added, t.qlc.requests = s.qlc.requests ++ added ∧
    added.map (fun p => (p.destination, p.body, p.originator, p.attempt)) =
      sent.map fun u => (u.sale.owner, u.sale.settleBody, Originator.unsettled u.sale.id, 1)
  waits : ∃ extra : List Entry, t.qlc.queue = s.qlc.queue ++ extra ∧ extra.length = sent.length ∧
    ∀ u ∈ sent, ∃ e ∈ extra, (∃ k, e.frame = ⟨u.sale.owner, k, u.sale.settleBody⟩) ∧ s.qlc.nextEntry ≤ e.id ∧
      e.onA = (s.qlc.prefer .a == .a) ∧ e.onB = (s.qlc.prefer .a == .b)
  dirty : ∀ u ∈ sent, t.dirtyRecord (.sale u.slot)
  keeps : ∀ id, s.dirtyRecord id → t.dirtyRecord id

theorem remark_nil (l : List Unsettled) : l.map (remark []) = l :=
  (List.map_congr_left fun u _ => by simp [remark]).trans (List.map_id l)

/-- A walk that sends nothing, but may count a full queue. -/
theorem walked_nothing {s t : State} (fsc : t.fsc = s.fsc) (bst : t.bst = s.bst)
    (requests : t.qlc.requests = s.qlc.requests) (queue : t.qlc.queue = s.qlc.queue) : Walked s t [] where
  fsc := by rw [remark_nil, fsc]
  asks := ⟨[], by simp [requests], rfl⟩
  waits := ⟨[], by simp [queue], rfl, fun _ mem => absurd mem List.not_mem_nil⟩
  dirty := fun _ mem => absurd mem List.not_mem_nil
  keeps := fun _ => dirtyRecord_same bst

/-- One entry sent: asked for, marked, its slot queued. -/
def sendAgain (u : Unsettled) (s : State) : State :=
  queueRecord (.sale u.slot) (changeListed u.sale.id resent
    (ask u.sale.owner u.sale.settleBody (.unsettled u.sale.id) s).1)

/-- The list after one entry has been sent again. -/
theorem sendAgain_list {s : State} {u : Unsettled} (member : u ∈ s.fsc.unsettled)
    (once : (s.fsc.unsettled.map fun u => u.sale.id).Nodup) (rest : List Unsettled) (fresh : u ∉ rest)
    (idle : ∀ v ∈ rest, v.inFlight = false) :
    (sendAgain u s).fsc.unsettled.map (remark rest) = s.fsc.unsettled.map (remark (u :: rest)) := by
  have list : (sendAgain u s).fsc.unsettled = updWhere (fun x => x.sale.id == u.sale.id) resent s.fsc.unsettled := by
    simp [sendAgain, changeListed]
  rw [list, updWhere, List.map_map]
  refine List.map_congr_left fun v mem => ?_
  by_cases same : v.sale.id = u.sale.id
  · obtain rfl : v = u := List.inj_on_of_nodup_map once mem member same
    have flies : resent v ∉ rest := fun listed => by simpa [resent] using idle _ listed
    simp [remark, flies]
  · have other : v ≠ u := fun e => same (e ▸ rfl)
    simp [remark, same, other]

theorem sendAgain_qlc {s : State} {u : Unsettled} (table : s.qlc.requests.length < 8) (queue : s.qlc.queue.length < 16) :
    (sendAgain u s).qlc = { s.qlc with
      queue := s.qlc.queue ++ [askedEntry u.sale.owner u.sale.settleBody (.unsettled u.sale.id) s]
      nextEntry := s.qlc.nextEntry + 1
      sequence := (askedRequest u.sale.owner u.sale.settleBody (.unsettled u.sale.id) s).sequence + 1
      requests := s.qlc.requests ++ [askedRequest u.sale.owner u.sale.settleBody (.unsettled u.sale.id) s] } := by
  simp [sendAgain, changeListed, ask_room _ _ _ table queue]

theorem sendAgain_fsc (u : Unsettled) (s : State) :
    (sendAgain u s).fsc = { s.fsc with unsettled := (sendAgain u s).fsc.unsettled } := by
  simp [sendAgain, changeListed]

theorem sendAgain_dirty (u : Unsettled) (s : State) : (sendAgain u s).dirtyRecord (.sale u.slot) := queueRecord_dirty _ _

theorem sendAgain_keeps {u : Unsettled} {s : State} {id : RecordId} (h : s.dirtyRecord id) :
    (sendAgain u s).dirtyRecord id := dirtyRecord_queueRecord _ (dirtyRecord_same (by simp [changeListed]) h)

/-- One entry sent, and then some more. -/
theorem Walked.cons {s t : State} {u : Unsettled} {rest : List Unsettled} (table : s.qlc.requests.length < 8)
    (queue : s.qlc.queue.length < 16) (member : u ∈ s.fsc.unsettled)
    (once : (s.fsc.unsettled.map fun u => u.sale.id).Nodup) (fresh : u ∉ rest) (idle : ∀ v ∈ rest, v.inFlight = false)
    (h : Walked (sendAgain u s) t rest) : Walked s t (u :: rest) := by
  have qlc := sendAgain_qlc (u := u) table queue
  obtain ⟨fsc, ⟨added, requests, are⟩, ⟨extra, joined, many, sent⟩, dirty, keeps⟩ := h
  rw [qlc] at requests joined sent
  refine ⟨?_, ⟨askedRequest u.sale.owner u.sale.settleBody (.unsettled u.sale.id) s :: added, ?_, ?_⟩,
    ⟨askedEntry u.sale.owner u.sale.settleBody (.unsettled u.sale.id) s :: extra, ?_, ?_, ?_⟩, ?_, fun id h =>
      keeps id (sendAgain_keeps h)⟩
  · rw [fsc, sendAgain_list member once rest fresh idle, sendAgain_fsc]
  · simpa using requests
  · simpa [askedRequest] using are
  · simpa using joined
  · simpa using many
  · intro v mem
    rcases List.mem_cons.1 mem with rfl | later
    · exact ⟨_, .head _, ⟨_, rfl⟩, Nat.le_refl _, rfl, rfl⟩
    · obtain ⟨e, there, frame, after, a, b⟩ := sent v later
      exact ⟨e, .tail _ there, frame, Nat.le_of_succ_le after, a, b⟩
  · intro v mem
    rcases List.mem_cons.1 mem with rfl | later
    · exact keeps _ (sendAgain_dirty _ s)
    · exact dirty v later

/-- The entry of a hold ID, where each hold ID is listed once. -/
theorem listed?_member {s : State} {u : Unsettled} (member : u ∈ s.fsc.unsettled)
    (once : (s.fsc.unsettled.map fun u => u.sale.id).Nodup) : s.listed? u.sale.id = some u := by
  obtain ⟨v, found⟩ : ∃ v, s.listed? u.sale.id = some v :=
    Option.isSome_iff_exists.1 (List.find?_isSome.2 ⟨u, member, by simp⟩)
  have same : v.sale.id = u.sale.id := by simpa using List.find?_some found
  rw [found, List.inj_on_of_nodup_map once (List.mem_of_find?_eq_some found) member same]

theorem retryWalk_cons {s : State} {u : Unsettled} (found : s.listed? u.sale.id = some u) (ids : List HoldId) :
    retryWalk (u.sale.id :: ids) s =
      if u.inFlight then retryWalk ids s
      else if (ask u.sale.owner u.sale.settleBody (.unsettled u.sale.id) s).2 then retryWalk ids (sendAgain u s)
      else (ask u.sale.owner u.sale.settleBody (.unsettled u.sale.id) s).1 := by
  simp only [retryWalk, found]
  rfl

/-- A walk over entries of the list sends those not in flight, in their order, as many as QLC can take. -/
theorem retryWalk_walks (l : List Unsettled) (s : State) (members : ∀ u ∈ l, u ∈ s.fsc.unsettled)
    (once : (s.fsc.unsettled.map fun u => u.sale.id).Nodup) (distinct : (l.map fun u => u.sale.id).Nodup) :
    Walked s (retryWalk (l.map fun u => u.sale.id) s) (s.sends l) := by
  induction l generalizing s with
  | nil =>
    rw [show s.sends [] = [] by simp [State.sends]]
    exact walked_nothing rfl rfl rfl rfl
  | cons u l ih =>
    have member := members u (.head _)
    have rest (v : Unsettled) (mem : v ∈ l) : v ∈ s.fsc.unsettled := members v (.tail _ mem)
    obtain ⟨fresh, distinct⟩ : u.sale.id ∉ l.map (fun u => u.sale.id) ∧ (l.map fun u => u.sale.id).Nodup := by
      simpa using distinct
    rw [List.map_cons, retryWalk_cons (listed?_member member once)]
    by_cases flies : u.inFlight = true
    · rw [if_pos flies, show s.sends (u :: l) = s.sends l by simp [State.sends, flies]]
      exact ih s rest once distinct
    · rw [if_neg flies]
      by_cases full : 8 ≤ s.qlc.requests.length ∨ 16 ≤ s.qlc.queue.length
      · obtain ⟨refused, same⟩ := ask_busy u.sale.owner u.sale.settleBody (.unsettled u.sale.id) full
        have none : s.room = 0 := by unfold State.room; omega
        rw [refused, if_neg Bool.false_ne_true, show s.sends (u :: l) = [] by simp [State.sends, none]]
        rcases same with e | e <;> rw [e]
        · exact walked_nothing rfl rfl rfl rfl
        · exact walked_nothing (by simp) (by simp) (by simp [onErrors]) (by simp)
      · obtain ⟨table, queue⟩ := not_or.1 full
        have table := Nat.not_le.1 table
        have queue := Nat.not_le.1 queue
        have taken : (ask u.sale.owner u.sale.settleBody (.unsettled u.sale.id) s).2 = true := by
          rw [ask_room _ _ _ table queue]
        have less : (sendAgain u s).room + 1 = s.room := by
          have qlc := sendAgain_qlc (u := u) table queue
          simp only [State.room, qlc, List.length_append, List.length_singleton]
          omega
        have splits : s.sends (u :: l) = u :: (sendAgain u s).sends l := by
          simp [State.sends, flies, ← less]
        have list : (sendAgain u s).fsc.unsettled =
            updWhere (fun x => x.sale.id == u.sale.id) resent s.fsc.unsettled := by simp [sendAgain, changeListed]
        have apart (v : Unsettled) (mem : v ∈ l) : v.sale.id ≠ u.sale.id := fun e =>
          fresh (List.mem_map.2 ⟨v, mem, e⟩)
        have sentOf (v : Unsettled) (mem : v ∈ (sendAgain u s).sends l) : v ∈ l ∧ v.inFlight = false := by
          have := List.mem_of_mem_take mem
          simpa using this
        rw [if_pos taken, splits]
        refine Walked.cons table queue member once (fun mem => apart u (sentOf u mem).1 rfl)
          (fun v mem => (sentOf v mem).2) (ih _ (fun v mem => ?_) ?_ distinct)
        · rw [list]
          exact mem_updWhere.2 ⟨v, rest v mem, by simp [apart v mem]⟩
        · have ids := map_updWhere (fun v : Unsettled => v.sale.id) (fun x => x.sale.id == u.sale.id) resent
            s.fsc.unsettled fun _ => rfl
          rw [list, ids]
          exact once

/-- A walk writes nothing in the journal. -/
theorem retryWalk_evj (ids : List HoldId) (s : State) : (retryWalk ids s).evj = s.evj := by
  induction ids generalizing s with
  | nil => rfl
  | cons id ids ih =>
    simp only [retryWalk]
    (repeat' split)
    · exact ih s
    · exact ih s
    · rw [ih]
      simp [changeListed]
    · simp

theorem exec_saleRetryTimer {s : State} {d : Nat} (up : s.up = true) (runs : s.fsc.retryAt = some d) :
    exec .saleRetryTimer s = .next
      ((retryWalk (s.fsc.unsettled.map fun u => u.sale.id) (reach d s)).setFsc
        { (retryWalk (s.fsc.unsettled.map fun u => u.sale.id) (reach d s)).fsc with
          retryAt := some (max s.now d + 30000) }) := by
  simp only [exec, execSaleRetryTimer, whenUp, up, if_true, runs]
  rfl

/-! ### A Settle Answer (R151, R153) -/

/-- What a Settle Answer is handed to: the entry of the list, or the sale on its pump. -/
def settleHand (id : HoldId) (result : SettleResult) (p : Pending) : State → State :=
  match p.originator with
  | .unsettled _ => listSettled id result
  | _ => pumpSettled id result

theorem settleHand_list {id other : HoldId} {p : Pending} (result : SettleResult) (h : p.originator = .unsettled other) :
    settleHand id result p = listSettled id result := by
  simp only [settleHand, h]

theorem settleHand_pump {id : HoldId} {p : Pending} (result : SettleResult) (h : ∀ other, p.originator ≠ .unsettled other) :
    settleHand id result p = pumpSettled id result := by
  unfold settleHand
  split
  · exact absurd ‹_› (h _)
  · rfl

theorem settleHand_berths (id : HoldId) (result : SettleResult) (p : Pending) (s : State) :
    (settleHand id result p s).bst.berths = s.bst.berths := by
  cases origin : p.originator with
  | unsettled other =>
    rw [settleHand_list result origin]
    simp
  | _ =>
    rw [settleHand_pump result fun other h => by simp [origin] at h]
    simp

/-- A Settle Answer that matches reaches the sale on its pump, or the entry of the list that asked. -/
theorem settleAnswer_runs {s : State} {ch : Channel} {source : Nat} {sequence : Num8} {id : HoldId} {result : SettleResult}
    {p : Pending} (hears : s.hears source) (asked : s.matching? source sequence (.settleAnswer id result) = some p) :
    ∃ q, q.sequence = sequence ∧ q.originator = p.originator ∧ exec (.settleAnswer ch source sequence id result) s =
      .next (settleHand id result q (closeRequest q (heardOn ch s))) := by
  obtain ⟨q, hands, same, originator⟩ := takeAnswer_matches (ch := ch) asked (settleHand id result)
  have berths := takeAnswer_berths (source := source) (sequence := sequence) (body := .settleAnswer id result)
    (settleHand_berths id result) (heardOn ch s)
  have quiet := deliver_quiet ch source (onSettleAnswer source sequence id result) s hears (by simp) (by simp)
    (classOf_same _ _ (berths.trans (by simp)))
  exact ⟨q, same, originator, congrArg _ (quiet.trans hands)⟩

/-- What the answer leaves: its request closed, and of the state BST, FSC, QLC and the journal alone changed. -/
theorem settled_frame_of {s t : State} {ch : Channel} {sequence : Num8} {q : Pending} (same : q.sequence = sequence)
    (frame : t = { closeRequest q (heardOn ch s) with bst := t.bst, fsc := t.fsc, evj := t.evj }) :
    (∀ y ∈ t.qlc.requests, y.sequence ≠ sequence) ∧
      t = { s with bst := t.bst, fsc := t.fsc, qlc := t.qlc, evj := t.evj } := by
  obtain ⟨closed, -⟩ := closed_answer (s := s) ch same
  refine ⟨?_, ?_⟩
  · rw [frame]
    exact closed
  · rw [frame]
    exact State.ext_fields _ _ (by simp)

theorem pumpSettled_frame_of (id : HoldId) (result : SettleResult) (s : State) : pumpSettled id result s =
    { s with bst := (pumpSettled id result s).bst, fsc := (pumpSettled id result s).fsc
             evj := (pumpSettled id result s).evj } := by
  unfold pumpSettled
  split
  · rfl
  · exact State.ext_fields _ _ (by simp)

theorem listSettled_frame_of (id : HoldId) (result : SettleResult) (s : State) : listSettled id result s =
    { s with bst := (listSettled id result s).bst, fsc := (listSettled id result s).fsc
             evj := (listSettled id result s).evj } := by
  unfold listSettled
  split
  · rfl
  · exact State.ext_fields _ _ (by simp)

theorem settleAnswer_settles {s : State} {ch : Channel} {source : Nat} {sequence : Num8} {id : HoldId}
    {result : SettleResult} {p : Pending} (hears : s.hears source)
    (asked : s.matching? source sequence (.settleAnswer id result) = some p) :
    ∃ t, exec (.settleAnswer ch source sequence id result) s = .next t ∧
      (∀ y ∈ t.qlc.requests, y.sequence ≠ sequence) ∧
      (∀ q x, p.originator = .pumpSale id → s.pump? id.pump = some q → q.sale = some x → x.id = id →
        t.dirtyRecord (.sale id.pump) ∧ PumpMoved s t id.pump (leftPump (fun y => y.closed (settleOutcome result)) q) ∧
        ∃ u, t = reportSettled x result u) ∧
      (∀ u, p.originator = .unsettled id → s.listed? id = some u →
        t.fsc.unsettled = s.fsc.unsettled.filter (fun y => y.sale.id != id) ∧
        (∀ y ∈ s.fsc.unsettled, y.sale.id = u.sale.id → t.dirtyRecord (.sale y.slot)) ∧
        s.samePumpsBut t id.pump ∧ t.fsc.lastOrder = s.fsc.lastOrder) ∧
      t = { s with bst := t.bst, fsc := t.fsc, qlc := t.qlc, evj := t.evj } := by
  obtain ⟨q, same, originator, runs⟩ := settleAnswer_runs (ch := ch) hears asked
  obtain ⟨-, fsc, -⟩ := closed_answer (s := s) ch same
  cases origin : p.originator with
  | unsettled other =>
    rw [settleHand_list result (originator.trans origin)] at runs
    obtain ⟨closed, frame⟩ := settled_frame_of same (listSettled_frame_of id result (closeRequest q (heardOn ch s)))
    refine ⟨_, runs, closed, fun _ _ h => absurd h (by simp), fun u _ listed => ?_, frame⟩
    have there : (closeRequest q (heardOn ch s)).listed? id = some u := by
      rw [State.listed?, fsc]
      exact listed
    have own : u.sale.id = id := by simpa using List.find?_some listed
    obtain ⟨unsettled, dirty, others, order⟩ := leaveList_leaves id (settleOutcome result) (closeRequest q (heardOn ch s))
    obtain ⟨kept, bst, -⟩ := reportSettled_same u.sale result
      (leaveList id (settleOutcome result) (closeRequest q (heardOn ch s)))
    rw [fsc] at unsettled dirty order
    rw [listSettled_eq there, kept]
    refine ⟨unsettled, fun y mem is => dirtyRecord_same bst (dirty y mem (is.trans own)), fun m other => ?_, order⟩
    rw [pump?_same _ _ kept, others m other, pump?_same _ _ fsc]
  | _ =>
    rw [settleHand_pump result fun other h => by simp [originator, origin] at h] at runs
    obtain ⟨closed, frame⟩ := settled_frame_of same (pumpSettled_frame_of id result (closeRequest q (heardOn ch s)))
    refine ⟨_, runs, closed, fun k x _ reads sale own => ?_, fun _ h => absurd h (by simp), frame⟩
    obtain ⟨moved, dirty, does⟩ := pumpSettled_moves ((congrFun (pump?_same _ _ fsc) _).trans reads) sale own result
    exact ⟨dirty, moved.since fsc, _, does⟩

theorem saleRetryTimer_walks {s : State} {d : Nat} (up : s.up = true) (runs : s.fsc.retryAt = some d)
    (once : (s.fsc.unsettled.map fun u => u.sale.id).Nodup) :
    ∃ t, exec .saleRetryTimer s = .next t ∧ t.now = max s.now d ∧
      t.fsc = { s.fsc with
        retryAt := some (max s.now d + 30000)
        unsettled := s.fsc.unsettled.map (remark (s.sends s.fsc.unsettled)) } ∧
      Walked s (t.setFsc { t.fsc with retryAt := s.fsc.retryAt }) (s.sends s.fsc.unsettled) ∧
      t = { s with now := t.now, bst := t.bst, fsc := t.fsc, qlc := t.qlc } := by
  obtain ⟨fsc, asks, waits, dirty, keeps⟩ := retryWalk_walks s.fsc.unsettled (reach d s) (fun _ mem => mem) once once
  refine ⟨_, exec_saleRetryTimer up runs, by simp; rfl, ?_, ⟨?_, asks, waits, dirty, keeps⟩,
    State.ext_fields _ _ (by simp [retryWalk_evj])⟩
  · rw [fsc]
    rfl
  · rw [fsc]
    rfl

/-- Settles O36: an answer by its originator, the timer by the walk over the list. -/
theorem settlementsEnd : Obligations.SettlementsEnd := by
  refine ⟨fun s ch source sequence id result p hears asked => ?_, fun s d up runs once => ?_⟩
  · obtain ⟨t, does, closed, onPump, onList, frame⟩ := settleAnswer_settles (ch := ch) hears asked
    refine ⟨t, does, closed, fun q x origin reads sale own => ?_, onList, frame⟩
    obtain ⟨dirty, moved, u, ends⟩ := onPump q x origin reads sale own
    obtain ⟨settles, uncollected⟩ := reportSettled_last x result u
    subst own
    rw [← ends] at settles uncollected
    refine ⟨dirty, moved.only, ?_, settles, uncollected⟩
    rw [moved.reads]
    simp [leftPump, sale, Sale.closed]
  · obtain ⟨t, does, now, fsc, ⟨-, asks, ⟨extra, joined, many, sent⟩, dirty, -⟩, frame⟩ :=
      saleRetryTimer_walks up runs once
    refine ⟨t, does, now, fsc, asks, fun u mem => ⟨dirty u mem, ?_⟩, ?_, frame⟩
    · obtain ⟨e, there, ⟨k, is⟩, after, a, b⟩ := sent u mem
      exact ⟨k, e, by rw [show t.qlc.queue = _ from joined]; exact List.mem_append_right _ there, is, after, a, b⟩
    · rw [show t.qlc.queue = _ from joined, List.length_append, many]
      rfl

end Sys2Proof.Machine
end

section
/-! SUPPORT. Sales from the terminal and the ready timer: DIRECT_AUTHORISE, CANCEL_SALE, WRITE_OFF_SALE (R144, R148, R150, R153,
R155, R156). -/

namespace Sys2Proof.Machine

/-- A command that moves neither A nor the posts nor a priority class ends as its effect, but for TPC, which sends the reply. -/
theorem exec_here_leaves {i : Instr} {c : TermCmd} (brings : terminalOf i = some c) {s : State} (h : s.ready) (fits : s.fits)
    (noCommit : c ≠ .writeConfigCommit) (here : ∀ st, c.names = some st → s.isHere st) {e : State} {r : Reply}
    (does : effect s.tpc.limit c s = (e, r)) (pbc : e.pbc = s.pbc) (lsu : e.lsu = s.lsu)
    (berths : e.bst.berths = s.bst.berths) :
    ∃ t, exec i s = .next t ∧ t.tpc = e.tpc.sending (r.within s.tpc.limit) ∧ t = { e with tpc := t.tpc } :=
  ⟨_, exec_here_quiet brings h fits noCommit here does pbc lsu (classOf_same _ _ berths), rfl, rfl⟩

/-! ### DIRECT_AUTHORISE (R155) -/

/-- The direct sale that a pump begins (R155). -/
def directSale (s : State) (n amount : Nat) (q : Pump) : Sale :=
  { id := ⟨s.cfg.station, n, q.nextSale⟩, kind := .direct, stage := .ready, party := none
    price := s.fuelPrice q.cfg.grade, requested := amount }

/-- A pump that has taken its next sale number (R144). -/
def numbered (s : State) (n : Nat) (q : Pump) : Pump :=
  { q with nextSale := freeNumber (s.fsc.numbersListed n) (q.nextSale + 1) 16 }

theorem takeSaleNumber_moves {s : State} {n : Nat} {q : Pump} (reads : s.pump? n = some q) :
    PumpMoved s (takeSaleNumber q s) n (numbered s n q) := by
  have moved := (pumpMoved_same reads rfl).change
    (fun x => { x with nextSale := freeNumber (s.fsc.numbersListed n) (q.nextSale + 1) 16 }) fun _ => rfl
  rw [takeSaleNumber, pump?_number reads]
  exact moved

/-- The pump with the direct sale on it, before READY. -/
def withDirectSale (s : State) (n amount : Nat) (q : Pump) : State :=
  changePump n (fun p => { p with sale := some (directSale s n amount q) }) (takeSaleNumber q s)

theorem withDirectSale_moves {s : State} {n : Nat} {q : Pump} (reads : s.pump? n = some q) (amount : Nat) :
    PumpMoved s (withDirectSale s n amount q) n { numbered s n q with sale := some (directSale s n amount q) } :=
  (takeSaleNumber_moves reads).change (fun p => { p with sale := some (directSale s n amount q) }) fun _ => rfl

theorem effect_directAuthorise {s : State} {station n amount : Nat} {q : Pump} {r : PumpReading}
    (reads : s.pump? n = some q) (low : s.cfg.minimumSale ≤ amount) (high : amount ≤ 99999999) (idle : q.state = .idle)
    (heard : q.latest = some r) :
    effect s.tpc.limit (.directAuthorise station n amount) s = (enterReady n amount (withDirectSale s n amount q),
      answer .directAuthorise .ok [.number q.nextSale.toNat, .number (presetVolume amount (s.fuelPrice q.cfg.grade))]) := by
  simp [effect, doDirectAuthorise, reads, Nat.not_lt.2 low, Nat.not_lt.2 high, idle, heard]
  rfl

theorem directAuthorise_begins {s : State} {station n amount : Nat} {q : Pump} {r : PumpReading} (ready : s.ready)
    (fits : s.fits) (here : s.isHere station) (reads : s.pump? n = some q) (low : s.cfg.minimumSale ≤ amount)
    (high : amount ≤ 99999999) (idle : q.state = .idle) (heard : q.latest = some r) :
    ∃ t, exec (.directAuthorise station n amount) s = .next t ∧
      t.tpc = s.tpc.answers (answer .directAuthorise .ok [.number q.nextSale.toNat,
        .number (presetVolume amount (s.fuelPrice q.cfg.grade))]) ∧
      PumpMoved s t n { readyPump (presetVolume amount (s.fuelPrice q.cfg.grade)) (s.now + s.cfg.readyTime * 1000)
          (numbered s n q) with sale := some (readySale amount (some r.totaliser) (directSale s n amount q)) } ∧
      t.dirtyRecord (.sale n) ∧ t = { s with bst := t.bst, fsc := t.fsc, tpc := t.tpc, evj := t.evj } := by
  have started := withDirectSale_moves reads amount
  obtain ⟨moved, dirty, -⟩ := enterReady_moves (granted := amount) started.reads rfl rfl
  have same : (withDirectSale s n amount q).now = s.now ∧ (withDirectSale s n amount q).cfg = s.cfg := by
    simp [withDirectSale]
  have moved := started.trans moved
  rw [same.1, same.2] at moved
  obtain ⟨t, runs, tpc, frame⟩ := exec_here_leaves (i := .directAuthorise station n amount) rfl ready fits nofun
    (names_here here) (effect_directAuthorise reads low high idle heard) (by simp [withDirectSale])
    (by simp [withDirectSale]) (by simp [withDirectSale])
  have start : q.latest.map PumpReading.totaliser = some r.totaliser := by simp [heard]
  refine ⟨t, runs, ?_, ?_, dirtyRecord_same (by rw [frame]) dirty, ?_⟩
  · simpa [withDirectSale, Tpc.answers] using tpc
  · rw [← start]
    exact moved.same (by rw [frame])
  · rw [frame]
    exact State.ext_fields _ _ (by simp [withDirectSale])

/-! ### CANCEL_SALE and the ready timer (R148, R150, R156) -/

theorem effect_cancelSale {s : State} {station n : Nat} {q : Pump} (reads : s.pump? n = some q)
    (under_way : q.state = .ready ∨ q.state = .delivering) :
    effect s.tpc.limit (.cancelSale station n) s =
      (report (.saleCancelled n q.state (q.sale.any Sale.faultMark)) (closeSale n s), answer .cancelSale .ok) := by
  rcases under_way with e | e <;> simp [effect, doCancelSale, reads, e]

theorem cancelSale_closes {s : State} {station n : Nat} {q : Pump} (ready : s.ready) (fits : s.fits)
    (here : s.isHere station) (reads : s.pump? n = some q) (under_way : q.state = .ready ∨ q.state = .delivering) :
    ∃ t, exec (.cancelSale station n) s = .next t ∧ t.tpc = s.tpc.sending (answer .cancelSale .ok) ∧
      PumpMoved s t n (closingPump q) ∧ s.journalled t (.saleCancelled n q.state (q.sale.any Sale.faultMark)) ∧
      t.dirtyRecord (.sale n) ∧ t = { s with bst := t.bst, fsc := t.fsc, tpc := t.tpc, evj := t.evj } := by
  have moved := (pumpMoved_same reads rfl).closeSale.report (.saleCancelled n q.state (q.sale.any Sale.faultMark))
  obtain ⟨t, runs, tpc, frame⟩ := exec_here_leaves (i := .cancelSale station n) rfl ready fits nofun (names_here here)
    (effect_cancelSale reads under_way) (by simp) (by simp) (by simp)
  refine ⟨t, runs, by simpa using tpc, moved.same (by rw [frame]), ?_,
    dirtyRecord_same (by rw [frame]) (dirtyRecord_report (.saleCancelled n q.state (q.sale.any Sale.faultMark))
      (closeSale_dirty n s)), ?_⟩
  · exact journalled_congr (by rw [frame])
      (journalled_report (.saleCancelled n q.state (q.sale.any Sale.faultMark)) (by simp) (by simp))
  · rw [frame]
    exact State.ext_fields _ _ (by simp)

theorem readyTimer_closes {s : State} {n d : Nat} {q : Pump} (up : s.up = true) (reads : s.pump? n = some q)
    (runs : q.readyAt = some d) :
    ∃ t, exec (.readyTimer n) s = .next t ∧ t.now = max s.now d ∧ PumpMoved s t n (closingPump q) ∧
      t.dirtyRecord (.sale n) ∧ t = { s with now := t.now, bst := t.bst, fsc := t.fsc } := by
  refine ⟨closeSale n (reach d s), ?_, ?_, (pumpMoved_same (s := s) (t := reach d s) reads (by simp)).closeSale,
    closeSale_dirty n _,
    State.ext_fields _ _ (by simp)⟩
  · simp [exec, execReadyTimer, whenUp, up, reads, runs]
  · simp
    rfl

/-- A pump whose sale is under way, closing. -/
theorem closingPump_of {q : Pump} {x : Sale} (sale : q.sale = some x) (under_way : q.state = .ready ∨ q.state = .delivering) :
    closingPump q = { q with
      state := .settling, command := .disabled, display := .settling, refusedUntil := none, readyAt := none
      sale := some { x with stage := .settling } } := by
  rcases under_way with e | e <;> simp [closingPump, sale, e]

/-! ### WRITE_OFF_SALE (R153) -/

theorem effect_writeOffSale {s : State} {station n : Nat} {sale : Num8} {q : Pump} {u : Unsettled}
    (reads : s.pump? n = some q) (listed : s.listedSale? n sale = some u) (idle : u.inFlight = false) :
    effect s.tpc.limit (.writeOffSale station n sale) s =
      (report (.saleWrittenOff u.sale.id (u.sale.amount.getD 0) u.sale.faultMark) (leaveList u.sale.id .writtenOff s),
       answer .writeOffSale .ok) := by
  simp [effect, doWriteOffSale, reads, listed, idle]

theorem writeOffSale_leaves {s : State} {station n : Nat} {sale : Num8} {q : Pump} {u : Unsettled} (ready : s.ready)
    (fits : s.fits) (here : s.isHere station) (reads : s.pump? n = some q) (listed : s.listedSale? n sale = some u)
    (idle : u.inFlight = false) :
    ∃ t, exec (.writeOffSale station n sale) s = .next t ∧ t.tpc = s.tpc.sending (answer .writeOffSale .ok) ∧
      t.fsc.unsettled = s.fsc.unsettled.filter (fun y => y.sale.id != u.sale.id) ∧
      (∀ y ∈ s.fsc.unsettled, y.sale.id = u.sale.id → t.dirtyRecord (.sale y.slot)) ∧ s.samePumpsBut t n ∧
      s.journalled t (.saleWrittenOff u.sale.id (u.sale.amount.getD 0) u.sale.faultMark) ∧
      t = { s with bst := t.bst, fsc := t.fsc, tpc := t.tpc, evj := t.evj } := by
  obtain ⟨unsettled, dirty, others, -⟩ := leaveList_leaves u.sale.id .writtenOff s
  have pump : u.sale.id.pump = n := by
    have := List.find?_some listed
    simp only [Bool.and_eq_true, beq_iff_eq] at this
    exact this.1
  obtain ⟨t, runs, tpc, frame⟩ := exec_here_leaves (i := .writeOffSale station n sale) rfl ready fits nofun
    (names_here here) (effect_writeOffSale reads listed idle) (by simp) (by simp) (by simp)
  have fsc : t.fsc = (leaveList u.sale.id .writtenOff s).fsc := by rw [frame]; simp
  refine ⟨t, runs, by simpa using tpc, by rw [fsc]; exact unsettled,
    fun y mem own => dirtyRecord_same (by rw [frame]; simp) (dirty y mem own), fun m other => ?_, ?_, ?_⟩
  · rw [pump?_same _ _ fsc]
    exact others m (pump ▸ other)
  · exact journalled_congr (by rw [frame])
      (journalled_report (.saleWrittenOff u.sale.id (u.sale.amount.getD 0) u.sale.faultMark) (by simp) (by simp))
  · rw [frame]
    exact State.ext_fields _ _ (by simp)

/-- Settles O37: each command by what it makes of its pump or of its entry. -/
theorem salesFromTheTerminal : Obligations.SalesFromTheTerminal := by
  refine ⟨?_, ?_, fun s station n sale q u ready fits here reads listed idle =>
    writeOffSale_leaves ready fits here reads listed idle⟩
  · intro s station n amount q r ready fits here reads low high idle heard
    obtain ⟨t, does, tpc, moved, dirty, frame⟩ := directAuthorise_begins ready fits here reads low high idle heard
    refine ⟨t, does, tpc, ⟨_, _, moved.reads, rfl, rfl, rfl, fun few => ?_, rfl, rfl, rfl, rfl, rfl, rfl, rfl⟩, dirty,
      moved.only, frame⟩
    exact freeNumber_fresh ((numbersListed_length _ _).trans few) (by decide)
  · intro s station n q x reads sale under_way closed
    refine ⟨fun ready fits here => ?_, fun d up working runs => ?_⟩
    · obtain ⟨t, does, tpc, moved, entry, dirty, frame⟩ := cancelSale_closes ready fits here reads under_way
      rw [closingPump_of sale under_way] at moved
      rw [show q.sale.any Sale.faultMark = x.faultMark by simp [sale]] at entry
      exact ⟨t, does, tpc, moved.reads, entry, dirty, moved.only, frame⟩
    · obtain ⟨t, does, now, moved, dirty, frame⟩ := readyTimer_closes up reads runs
      rw [closingPump_of sale under_way] at moved
      exact ⟨t, does, now, moved.reads, dirty, moved.only, frame⟩

end Sys2Proof.Machine
end

section
/-! SUPPORT. The end reading of a sale and what follows it: a direct sale is done, a purse sale settles or joins the unsettled
list (R150, R151, R155, R158). -/

namespace Sys2Proof.Machine

/-! ### Entries written by the operations on a pump -/

theorem wrote_quiet {s t : State} (dck : t.dck = s.dck) (evj : t.evj = s.evj) : Wrote s t [] := .same dck evj

/-- What an operation that writes nothing adds to what was written. -/
theorem Wrote.quiet {s t u : State} {rs : List Report} (h : Wrote s t rs) (dck : u.dck = t.dck) (evj : u.evj = t.evj) :
    Wrote s u rs := by
  simpa using h.trans (.same dck evj)

theorem Wrote.report {s t : State} {rs : List Report} (h : Wrote s t rs) (r : Report) :
    Wrote s (report r t) (rs ++ [r]) := h.trans (wrote_report r t)

theorem Wrote.reportIf {s t : State} {rs : List Report} (h : Wrote s t rs) (c : Prop) [Decidable c] (r : Report) :
    Wrote s (if c then Machine.report r t else t) (rs ++ if c then [r] else []) := by
  split
  · exact h.report r
  · simpa using h

/-! ### Other pumps -/

theorem samePumpsBut_trans {s t u : State} {n : Nat} (h : s.samePumpsBut t n) (k : t.samePumpsBut u n) :
    s.samePumpsBut u n := fun m other => (k m other).trans (h m other)

theorem samePumpsBut_pumps {s t : State} (n : Nat) (pumps : t.fsc.pumps = s.fsc.pumps) : s.samePumpsBut t n := by
  intro m _
  simp [State.pump?, pumps]

theorem samePumpsBut_changePump (n : Nat) (f : Pump → Pump) (keeps : ∀ p, (f p).cfg = p.cfg) (s : State) :
    s.samePumpsBut (changePump n f s) n := fun m other => pump?_other n m f s keeps other

theorem samePumpsBut_changeSale (n : Nat) (f : Sale → Sale) (s : State) : s.samePumpsBut (changeSale n f s) n :=
  samePumpsBut_trans (samePumpsBut_changePump n (resold f) (fun _ => rfl) s) 
    (samePumpsBut_pumps n (congrArg Fsc.pumps (queueRecord_keepsFsc (.sale n) _)))

theorem samePumpsBut_leavePump (n : Nat) (f : Sale → Sale) (s : State) : s.samePumpsBut (leavePump n f s) n :=
  samePumpsBut_trans (samePumpsBut_changePump n (leftPump f) (fun _ => rfl) s) 
    (samePumpsBut_pumps n (congrArg Fsc.pumps (queueRecord_keepsFsc (.sale n) _)))

/-! ### The unsettled list (R151, R158) -/

/-- The entry of a sale that joins the list. -/
def listedSale (s : State) (x : Sale) (slot : Nat) : Unsettled :=
  ⟨{ x with stage := .listed }, bump32 s.fsc.lastOrder, 0, false, slot⟩

/-- The retry timer once an entry has joined: it runs from the first entry on (R152). -/
def State.retryFrom (s : State) : Option Nat := if s.fsc.unsettled = [] then some (s.now + 30000) else s.fsc.retryAt

/-- FSC with a sale moved from its pump to the list. -/
def movedToList (s : State) (n : Nat) (x : Sale) (slot : Nat) : State :=
  (leavePump n (fun _ => { x with stage := .listed }) s).setFsc
    { (leavePump n (fun _ => { x with stage := .listed }) s).fsc with
      unsettled := s.fsc.unsettled ++ [listedSale s x slot]
      lastOrder := bump32 s.fsc.lastOrder
      retryAt := s.retryFrom }

theorem toList_slot {s : State} {n slot : Nat} {p : Pump} {x : Sale} (reads : s.pump? n = some p) (sale : p.sale = some x)
    (free : lowestFree s.fsc.slotsUsed 5 16 = some slot) :
    toList n s = queueRecord (.sale slot) (movedToList s n x slot) := by
  have list : (leavePump n (fun _ => { x with stage := .listed }) s).fsc.unsettled = s.fsc.unsettled := by
    simp [leavePump, changePump]
  have timer : (leavePump n (fun _ => { x with stage := .listed }) s).fsc.retryAt = s.fsc.retryAt := by
    simp [leavePump, changePump]
  have now : (leavePump n (fun _ => { x with stage := .listed }) s).now = s.now := by simp
  simp only [toList, reads, Option.bind_some, sale, free, list, timer, now, List.isEmpty_iff]
  rfl

theorem toList_full {s : State} {n : Nat} {p : Pump} {x : Sale} (reads : s.pump? n = some p) (sale : p.sale = some x)
    (full : lowestFree s.fsc.slotsUsed 5 16 = none) :
    toList n s = report (.saleLost x.id (x.amount.getD 0) x.faultMark)
      (leavePump n (fun y => y.closed .uncollected) s) := by
  simp only [toList, reads, Option.bind_some, sale, full]

/-- A sale that joins the list leaves its pump, with its slot and the list's queued. -/
theorem toList_joins {s : State} {n slot : Nat} {p : Pump} {x : Sale} (reads : s.pump? n = some p) (sale : p.sale = some x)
    (free : lowestFree s.fsc.slotsUsed 5 16 = some slot) :
    (toList n s).pump? n = some (leftPump (fun _ => { x with stage := .listed }) p) ∧
    s.samePumpsBut (toList n s) n ∧ (toList n s).dirtyRecord (.sale n) ∧ (toList n s).dirtyRecord (.sale slot) ∧
    (toList n s).fsc.unsettled = s.fsc.unsettled ++ [listedSale s x slot] ∧
    (toList n s).fsc.retryAt = s.retryFrom ∧ (toList n s).fsc.lastOrder = bump32 s.fsc.lastOrder ∧
    Wrote s (toList n s) [] := by
  have moved := (pumpMoved_same reads rfl).leavePump fun _ => { x with stage := .listed }
  have pumps : (toList n s).pump? = (leavePump n (fun _ => { x with stage := .listed }) s).pump? := by
    funext m
    rw [toList_slot reads sale free]
    simp [State.pump?, movedToList]
  rw [pumps]
  refine ⟨moved.reads, fun m other => (congrFun pumps m).trans (moved.only.2 m other), ?_⟩
  rw [toList_slot reads sale free]
  exact ⟨dirtyRecord_queueRecord _ (dirtyRecord_same rfl (leavePump_dirty n _ s)), queueRecord_dirty _ _,
    by simp [movedToList], by simp [movedToList], by simp [movedToList], .same (by simp [movedToList]) (by simp [movedToList])⟩

/-- Without a free slot it is lost (R151, R158; log entry 38). -/
theorem toList_loses {s : State} {n : Nat} {p : Pump} {x : Sale} (reads : s.pump? n = some p) (sale : p.sale = some x)
    (full : lowestFree s.fsc.slotsUsed 5 16 = none) :
    PumpMoved s (toList n s) n (leftPump (fun y => y.closed .uncollected) p) ∧ (toList n s).dirtyRecord (.sale n) ∧
    Wrote s (toList n s) [.saleLost x.id (x.amount.getD 0) x.faultMark] := by
  rw [toList_full reads sale full]
  exact ⟨((pumpMoved_same reads rfl).leavePump _).report _, dirtyRecord_report _ (leavePump_dirty n _ s),
    (wrote_quiet (s := s) (by simp) (by simp)).report _⟩

/-! ### The end reading (R150) -/

/-- What a totaliser has moved by since the start of a sale. -/
def measured (x : Sale) (total : Totaliser) : Nat := (total - x.startTotal.getD total).toNat

/-- What an end reading notes: a volume cut, a preset overrun (R150). -/
def endNotes (n : Nat) (x : Sale) (total : Totaliser) : List Report :=
  (if 999999 < measured x total then [.volumeClamped n (measured x total) x.faultMark] else []) ++
  (if x.preset.getD 0 < min 999999 (measured x total) then
    [.saleOverrun n (x.preset.getD 0) (min 999999 (measured x total)) x.faultMark] else [])

/-- The station with the end reading in the sale and its notes written. -/
def readEnd (n : Nat) (x : Sale) (total : Totaliser) (s : State) : State :=
  let s1 := changeSale n (fun _ => Sale.atEnd x total) s
  let s2 := if 999999 < measured x total then report (.volumeClamped n (measured x total) x.faultMark) s1 else s1
  if x.preset.getD 0 < min 999999 (measured x total) then
    report (.saleOverrun n (x.preset.getD 0) (min 999999 (measured x total)) x.faultMark) s2 else s2

theorem readEnd_reads {s : State} {n : Nat} {p : Pump} {x : Sale} (reads : s.pump? n = some p) (sale : p.sale = some x)
    (total : Totaliser) :
    PumpMoved s (readEnd n x total s) n { p with sale := some (Sale.atEnd x total) } ∧
    (readEnd n x total s).dirtyRecord (.sale n) ∧ Wrote s (readEnd n x total s) (endNotes n x total) ∧
    (readEnd n x total s).qlc = s.qlc ∧ (readEnd n x total s).now = s.now := by
  have moved := (pumpMoved_same reads rfl).changeSale fun _ => Sale.atEnd x total
  rw [show resold (fun _ => Sale.atEnd x total) p = { p with sale := some (Sale.atEnd x total) } by simp [resold, sale]]
    at moved
  have wrote := ((wrote_quiet (s := s) (t := changeSale n (fun _ => Sale.atEnd x total) s) (by simp) (by simp)).reportIf
    (999999 < measured x total) (.volumeClamped n (measured x total) x.faultMark)).reportIf
    (x.preset.getD 0 < min 999999 (measured x total))
    (.saleOverrun n (x.preset.getD 0) (min 999999 (measured x total)) x.faultMark)
  refine ⟨moved.same ?_, dirtyRecord_same ?_ (changeSale_dirty n (fun _ => Sale.atEnd x total) s), wrote, ?_, ?_⟩
  all_goals
    unfold readEnd
    dsimp only
    (repeat' split) <;> simp

/-- What follows an end reading, by the kind of the sale (R151, R155, R158). -/
theorem endReading_eq {s : State} {n : Nat} {p : Pump} {x : Sale} (reads : s.pump? n = some p) (sale : p.sale = some x)
    (total : Totaliser) :
    endReading n total s =
      match x.kind with
      | .direct => report (.directSale n x.id.sale (x.preset.getD 0) (min 999999 (measured x total)) x.price
          (saleAmount (min 999999 (measured x total)) x.price) x.faultMark)
          (leavePump n (fun z => z.closed .directDone) (readEnd n x total s))
      | .purse =>
        if p.recovered then toList n (readEnd n x total s)
        else
          let r := ask (Sale.atEnd x total).owner (Sale.atEnd x total).settleBody (.pumpSale x.id) (readEnd n x total s)
          if r.2 then r.1 else toList n r.1 := by
  simp only [endReading, reads, sale]
  rfl

end Sys2Proof.Machine
end

section
/-! SUPPORT. The pumps polled (R142, R143, R148 to R150, R154): the Poll, the good Answer by the pump's state, the miss. -/

namespace Sys2Proof.Machine

/-! ### What an Answer finds -/

/-- A pump that has answered well (R142). -/
def answeredPump (r : PumpReading) (p : Pump) : Pump := { p with misses := 0, latest := some r, awaiting := none }

/-- The station with the reading taken. -/
def answered (n : Nat) (r : PumpReading) (s : State) : State := changePump n (answeredPump r) s

theorem exec_pumpAnswer {s : State} {n : Nat} {p : Pump} {sent : PumpCommand × Display} (r : PumpReading)
    (up : s.up = true) (reads : s.pump? n = some p) (waits : p.awaiting = some sent) :
    exec (.pumpAnswer n r) s = .next (pumpState p sent.1 r (answered n r s)) := by
  simp only [exec, execPumpAnswer, whenUp, up, if_true, reads, waits]
  rfl

theorem answered_moves {s : State} {n : Nat} {p : Pump} (reads : s.pump? n = some p) (r : PumpReading) :
    PumpMoved s (answered n r s) n (answeredPump r p) :=
  (pumpMoved_same reads rfl).change (answeredPump r) fun _ => rfl

theorem answered_wrote (n : Nat) (r : PumpReading) (s : State) : Wrote s (answered n r s) [] := .same rfl rfl

/-- PUMP_FLOW of a pump without a sale that has delivered (R143). -/
def flowNotes (n : Nat) (p : Pump) (r : PumpReading) : List Report :=
  match p.latest with
  | none => []
  | some b => if b.totaliser = r.totaliser then [] else [.pumpFlow n (r.totaliser - b.totaliser).toNat]

theorem noteFlow_notes {s t : State} {rs : List Report} (h : Wrote s t rs) (n : Nat) (p : Pump) (r : PumpReading) :
    Wrote s (noteFlow n p.latest r t) (rs ++ flowNotes n p r) ∧ (noteFlow n p.latest r t).fsc = t.fsc ∧
      (noteFlow n p.latest r t).bst = t.bst := by
  cases latest : p.latest with
  | none =>
    simp only [noteFlow, flowNotes, latest, List.append_nil]
    exact ⟨h, trivial, trivial⟩
  | some before =>
    simp only [noteFlow, flowNotes, latest]
    split
    · exact ⟨by simpa using h, rfl, rfl⟩
    · exact ⟨h.report _, by simp, by simp⟩

/-! ### A good Answer where no end reading is due -/

section
variable {s : State} {n : Nat} {p : Pump} {sent : PumpCommand} {r : PumpReading} (reads : s.pump? n = some p)
include reads

theorem pumpState_idle (state : p.state = .idle) :
    PumpMoved s (pumpState p sent r (answered n r s)) n (answeredPump r p) ∧
    (pumpState p sent r (answered n r s)).bst = s.bst ∧ Wrote s (pumpState p sent r (answered n r s)) (flowNotes n p r) := by
  obtain ⟨wrote, fsc, bst⟩ := noteFlow_notes (answered_wrote n r s) n p r
  simp only [pumpState, state, pump?_number reads]
  exact ⟨(answered_moves reads r).same fsc, bst, by simpa using wrote⟩

theorem pumpState_stays (stays : pumpState p sent r (answered n r s) = answered n r s) :
    PumpMoved s (pumpState p sent r (answered n r s)) n (answeredPump r p) ∧
    (pumpState p sent r (answered n r s)).bst = s.bst ∧ (pumpState p sent r (answered n r s)).evj = s.evj := by
  rw [stays]
  exact ⟨answered_moves reads r, rfl, rfl⟩

theorem pumpState_begins (state : p.state = .ready) (lifted : r.nozzleUp = true) :
    PumpMoved s (pumpState p sent r (answered n r s)) n { answeredPump r p with
      state := .delivering, display := .delivering, readyAt := none
      sale := p.sale.map fun x => { x with stage := .delivering } } ∧
    (pumpState p sent r (answered n r s)).dirtyRecord (.sale n) := by
  have moved := ((answered_moves reads r).change
    (fun q => { q with state := .delivering, display := .delivering, readyAt := none }) fun _ => rfl).changeSale
    fun x => { x with stage := .delivering }
  simp only [pumpState, state, lifted, if_true, pump?_number reads]
  exact ⟨moved, changeSale_dirty n _ _⟩

theorem pumpState_closes (state : p.state = .delivering) (ends : r.nozzleUp = false ∨ (r.running = false ∧ r.stop = .preset)) :
    PumpMoved s (pumpState p sent r (answered n r s)) n (closingPump (answeredPump r p)) ∧
    (pumpState p sent r (answered n r s)).dirtyRecord (.sale n) := by
  have over_now : (!r.nozzleUp || (!r.running && r.stop == .preset)) = true := by
    rcases ends with e | ⟨e, f⟩
    · simp [e]
    · simp [e, f]
  simp only [pumpState, state, over_now, if_true, pump?_number reads]
  exact ⟨(answered_moves reads r).closeSale, closeSale_dirty n _⟩

/-! ### The first good Answer in FAULT (R154) -/

/-- PUMP_OK (R143, R154). -/
theorem fault_over :
    PumpMoved s (report (.pumpOk n) (answered n r s)) n (answeredPump r p) ∧
    Wrote s (report (.pumpOk n) (answered n r s)) [.pumpOk n] :=
  ⟨(answered_moves reads r).report _, (answered_wrote n r s).report _⟩

theorem leaveFault_none (sale : p.sale = none) :
    PumpMoved s (leaveFault p r (answered n r s)) n { answeredPump r p with state := .idle } ∧
    Wrote s (leaveFault p r (answered n r s)) ([.pumpOk n] ++ flowNotes n p r) := by
  obtain ⟨moved, wrote⟩ := fault_over (r := r) reads
  have moved := moved.change (fun q => { q with state := .idle }) fun _ => rfl
  obtain ⟨notes, fsc, -⟩ := noteFlow_notes
    (wrote.quiet (u := changePump n (fun q => { q with state := .idle }) (report (.pumpOk n) (answered n r s))) rfl rfl) n p r
  simp only [leaveFault, sale, pump?_number reads]
  exact ⟨moved.same fsc, notes⟩

/-- A sale not begun, or already at its end, keeps its stage. -/
theorem leaveFault_keeps {x : Sale} {state : PumpState} (sale : p.sale = some x)
    (keeps : (x.stage = .authorising ∧ state = .authorising) ∨
      (x.stage ≠ .authorising ∧ x.endTotal ≠ none ∧ state = .settling)) :
    PumpMoved s (leaveFault p r (answered n r s)) n { answeredPump r p with state := state } ∧
    Wrote s (leaveFault p r (answered n r s)) [.pumpOk n] := by
  obtain ⟨moved, wrote⟩ := fault_over (r := r) reads
  have does : leaveFault p r (answered n r s) =
      changePump n (fun q => { q with state := state }) (report (.pumpOk n) (answered n r s)) := by
    rcases keeps with ⟨stage, rfl⟩ | ⟨stage, ended, rfl⟩
    · simp [leaveFault, sale, stage, pump?_number reads]
    · simp [leaveFault, sale, stage, Option.isSome_iff_ne_none.2 ended, pump?_number reads]
  rw [does]
  exact ⟨moved.change (fun q => { q with state := state }) fun _ => rfl, wrote.quiet rfl rfl⟩

end

end Sys2Proof.Machine
end

section
/-! SUPPORT. The good Answer that is an end reading (R150, R154), the misses of a pump and its Polls (R142). -/

namespace Sys2Proof.Machine

/-! ### What an end reading ends in -/

/-- Where a sale stands when its end reading is taken: `notes` is what the event wrote before. -/
structure EndDue (s u : State) (n : Nat) (q : Pump) (x : Sale) (notes : List Report) : Prop where
  moved : PumpMoved s u n q
  wrote : Wrote s u notes
  sale : q.sale = some x
  working : q.state ≠ .fault
  qlc : u.qlc = s.qlc
  now : u.now = s.now

/-- A pump with an end reading in its sale. -/
def readPump (q : Pump) (x : Sale) (total : Totaliser) : Pump := { q with sale := some (Sale.atEnd x total) }

section
variable {s u : State} {n : Nat} {q : Pump} {x : Sale} {notes : List Report} (due : EndDue s u n q x notes)
  (total : Totaliser)
include due

theorem EndDue.read : EndDue s (readEnd n x total u) n (readPump q x total) (Sale.atEnd x total)
    (notes ++ endNotes n x total) ∧ (readEnd n x total u).dirtyRecord (.sale n) := by
  obtain ⟨moved, dirty, wrote, qlc, now⟩ := readEnd_reads due.moved.reads due.sale total
  exact ⟨⟨due.moved.trans moved, due.wrote.trans wrote, rfl, due.working, qlc.trans due.qlc, now.trans due.now⟩, dirty⟩

theorem EndDue.direct (kind : x.kind = .direct) :
    PumpMoved s (endReading n total u) n (leftPump (fun z => z.closed .directDone) (readPump q x total)) ∧
    (endReading n total u).dirtyRecord (.sale n) ∧
    Wrote s (endReading n total u) (notes ++ endNotes n x total ++
      [.directSale n x.id.sale (x.preset.getD 0) (min 999999 (measured x total)) x.price
        (saleAmount (min 999999 (measured x total)) x.price) x.faultMark]) := by
  obtain ⟨⟨moved, wrote, -, -, -, -⟩, -⟩ := due.read total
  rw [endReading_eq due.moved.reads due.sale, kind]
  exact ⟨(moved.leavePump _).report _, dirtyRecord_report _ (leavePump_dirty n _ _),
    (wrote.quiet (by simp) (by simp)).report _⟩

/-- A purse sale whose Settle Request QLC takes stays on its pump (R151). -/
theorem EndDue.asks (kind : x.kind = .purse) (fresh : q.recovered = false) (table : s.qlc.requests.length < 8)
    (queue : s.qlc.queue.length < 16) :
    PumpMoved s (endReading n total u) n (readPump q x total) ∧ (endReading n total u).dirtyRecord (.sale n) ∧
    Wrote s (endReading n total u) (notes ++ endNotes n x total) ∧
    ∃ e ∈ (endReading n total u).qlc.requests, e.body = (Sale.atEnd x total).settleBody ∧
      e.destination = (Sale.atEnd x total).owner ∧ e.originator = .pumpSale x.id ∧ e.attempt = 1 ∧
      s.queued (endReading n total u) (s.qlc.prefer .a)
        ⟨(Sale.atEnd x total).owner, e.sequence, (Sale.atEnd x total).settleBody⟩ := by
  obtain ⟨⟨moved, wrote, -, -, qlc, -⟩, dirty⟩ := due.read total
  rw [← qlc] at table queue
  have taken : (ask (Sale.atEnd x total).owner (Sale.atEnd x total).settleBody (.pumpSale x.id)
      (readEnd n x total u)).2 = true := by rw [ask_room _ _ _ table queue]
  obtain ⟨e, pending, body, destination, originator, attempt, waits⟩ :=
    ask_asks (Sale.atEnd x total).owner (Sale.atEnd x total).settleBody (.pumpSale x.id) table queue
  have does : endReading n total u = (ask (Sale.atEnd x total).owner (Sale.atEnd x total).settleBody (.pumpSale x.id)
      (readEnd n x total u)).1 := by
    rw [endReading_eq due.moved.reads due.sale, kind]
    simp only [fresh, Bool.false_eq_true, if_false, taken, if_true]
  rw [does]
  refine ⟨moved.same (by simp), dirtyRecord_same (by simp) dirty, wrote.quiet (by simp) (by simp), e, pending, body,
    destination, originator, attempt, ?_⟩
  rw [← qlc]
  exact queued_congr qlc.symm rfl waits

/-- A purse sale that was recovered at a reset, or that QLC cannot take, goes to the list (R151, R158). -/
theorem EndDue.leaves (kind : x.kind = .purse)
    (refused : q.recovered = true ∨ 8 ≤ s.qlc.requests.length ∨ 16 ≤ s.qlc.queue.length) :
    ∃ v, endReading n total u = toList n v ∧ PumpMoved s v n (readPump q x total) ∧
      Wrote s v (notes ++ endNotes n x total) ∧ v.now = s.now := by
  obtain ⟨⟨moved, wrote, -, -, qlc, now⟩, -⟩ := due.read total
  rw [endReading_eq due.moved.reads due.sale, kind]
  by_cases recovered : q.recovered = true
  · exact ⟨readEnd n x total u, by simp [recovered], moved, wrote, now⟩
  · have full := refused.resolve_left recovered
    rw [← qlc] at full
    obtain ⟨no, -⟩ := ask_busy (Sale.atEnd x total).owner (Sale.atEnd x total).settleBody (.pumpSale x.id) full
    exact ⟨(ask (Sale.atEnd x total).owner (Sale.atEnd x total).settleBody (.pumpSale x.id) (readEnd n x total u)).1,
      by simp [recovered, no], moved.same (by simp), wrote.quiet (by simp) (by simp), by simpa using now⟩

/-- With a free slot it joins the list. -/
theorem EndDue.joins (kind : x.kind = .purse)
    (refused : q.recovered = true ∨ 8 ≤ s.qlc.requests.length ∨ 16 ≤ s.qlc.queue.length) {slot : Nat}
    (free : lowestFree s.fsc.slotsUsed 5 16 = some slot) :
    (endReading n total u).pump? n =
      some (leftPump (fun _ => { Sale.atEnd x total with stage := .listed }) (readPump q x total)) ∧
    s.samePumpsBut (endReading n total u) n ∧ (endReading n total u).dirtyRecord (.sale n) ∧
    (endReading n total u).dirtyRecord (.sale slot) ∧
    (endReading n total u).fsc.unsettled = s.fsc.unsettled ++ [listedSale s (Sale.atEnd x total) slot] ∧
    (endReading n total u).fsc.retryAt = s.retryFrom ∧ Wrote s (endReading n total u) (notes ++ endNotes n x total) := by
  obtain ⟨v, does, moved, wrote, now⟩ := due.leaves total kind refused
  obtain ⟨reads, fsc, others⟩ := moved
  have same : lowestFree v.fsc.slotsUsed 5 16 = some slot := by rw [fsc]; exact free
  obtain ⟨left, rest, dirty, listed, unsettled, timer, -, none⟩ := toList_joins reads rfl same
  rw [does]
  refine ⟨left, samePumpsBut_trans others rest, dirty, listed, ?_, ?_, by simpa using wrote.trans none⟩
  · rw [unsettled, listedSale, fsc]
    rfl
  · rw [timer, State.retryFrom, fsc, now]
    rfl

/-- Without one it is lost (log entry 38). -/
theorem EndDue.loses (kind : x.kind = .purse)
    (refused : q.recovered = true ∨ 8 ≤ s.qlc.requests.length ∨ 16 ≤ s.qlc.queue.length)
    (full : lowestFree s.fsc.slotsUsed 5 16 = none) :
    PumpMoved s (endReading n total u) n (leftPump (fun y => y.closed .uncollected) (readPump q x total)) ∧
    (endReading n total u).dirtyRecord (.sale n) ∧
    Wrote s (endReading n total u) (notes ++ endNotes n x total ++
      [.saleLost x.id (saleAmount (min 999999 (measured x total)) x.price) x.faultMark]) := by
  obtain ⟨v, does, moved, wrote, now⟩ := due.leaves total kind refused
  have same : lowestFree v.fsc.slotsUsed 5 16 = none := by rw [moved.only.1]; exact full
  obtain ⟨lost, dirty, entry⟩ := toList_loses moved.reads rfl same
  rw [does]
  exact ⟨moved.trans lost, dirty, wrote.trans entry⟩

/-- Whatever its kind, the sale's slot is queued, and no other pump changes. -/
theorem EndDue.always :
    s.samePumpsBut (endReading n total u) n ∧ (endReading n total u).dirtyRecord (.sale n) := by
  cases kind : x.kind with
  | direct =>
    obtain ⟨moved, dirty, -⟩ := due.direct total kind
    exact ⟨moved.only.2, dirty⟩
  | purse =>
    by_cases refused : q.recovered = true ∨ 8 ≤ s.qlc.requests.length ∨ 16 ≤ s.qlc.queue.length
    · cases free : lowestFree s.fsc.slotsUsed 5 16 with
      | some slot =>
        obtain ⟨-, others, dirty, -⟩ := due.joins total kind refused free
        exact ⟨others, dirty⟩
      | none =>
        obtain ⟨moved, dirty, -⟩ := due.loses total kind refused free
        exact ⟨moved.only.2, dirty⟩
    · obtain ⟨fresh, room⟩ := not_or.1 refused
      obtain ⟨table, queue⟩ := not_or.1 room
      obtain ⟨moved, dirty, -⟩ := due.asks total kind (by simpa using fresh) (by omega) (by omega)
      exact ⟨moved.only.2, dirty⟩

end

/-! ### Which Answers are end readings (R150, R154) -/

/-- The pump as its end reading finds it: in SETTLING, or leaving FAULT with its sale closed first. -/
def endingPump (r : PumpReading) (p : Pump) : Pump :=
  if p.state = .fault then closingPump { answeredPump r p with state := .settling } else answeredPump r p

/-- The sale as its end reading finds it. -/
def endingSale (p : Pump) (x : Sale) : Sale := { x with stage := if p.state = .fault then .settling else x.stage }

/-- What is written before the end reading. -/
def endingNotes (n : Nat) (p : Pump) : List Report := if p.state = .fault then [.pumpOk n] else []

theorem pumpState_ends {s : State} {n : Nat} {p : Pump} {x : Sale} {sent : PumpCommand} (r : PumpReading)
    (reads : s.pump? n = some p) (sale : p.sale = some x)
    (ends : p.state = .settling ∧ sent = .disabled ∧ x.endTotal = none ∨
      p.state = .fault ∧ x.stage ≠ .authorising ∧ x.endTotal = none) :
    ∃ u, pumpState p sent r (answered n r s) = endReading n r.totaliser u ∧
      EndDue s u n (endingPump r p) (endingSale p x) (endingNotes n p) := by
  rcases ends with ⟨state, rfl, open_yet⟩ | ⟨state, begun, open_yet⟩
  · refine ⟨answered n r s, ?_, ⟨?_, ?_, ?_, ?_, rfl, rfl⟩⟩
    · simp [pumpState, state, sale, open_yet, pump?_number reads]
    · simpa [endingPump, state] using answered_moves reads r
    · simpa [endingNotes, state] using answered_wrote n r s
    · simp [endingPump, endingSale, state, answeredPump, sale]
    · simp [endingPump, state, answeredPump]
  · obtain ⟨moved, wrote⟩ := fault_over (r := r) reads
    have moved := (moved.change (fun q => { q with state := .settling }) fun _ => rfl).closeSale
    refine ⟨closeSale n (changePump n (fun q => { q with state := .settling }) (report (.pumpOk n) (answered n r s))),
      ?_, ⟨?_, ?_, ?_, ?_, by simp [answered], by simp [answered]⟩⟩
    · simp [pumpState, leaveFault, state, sale, begun, open_yet, pump?_number reads]
    · simpa [endingPump, state] using moved
    · simpa [endingNotes, state] using wrote.quiet (by simp) (by simp)
    · simp [endingPump, endingSale, state, closingPump, answeredPump, sale]
    · simp [endingPump, state, closingPump]

end Sys2Proof.Machine
end

section
/-! SUPPORT. A pump's Polls, Answers and misses, as the statement gives them (R142, R143, R148 to R150, R154). -/

namespace Sys2Proof.Machine

/-! ### The Poll, the REFUSED display, the miss (R142) -/

theorem pumpPollTimer_polls {s : State} {n : Nat} {p : Pump} (up : s.up = true) (reads : s.pump? n = some p) :
    ∃ t, exec (.pumpPollTimer n) s = .next t ∧ t.now = max s.now p.pollAt ∧
      t.pump? n = some { p with pollAt := p.pollAt + 500, awaiting := some (p.command, p.display) } ∧
      s.onlyPump t n ∧ t = { s with now := t.now, fsc := t.fsc } := by
  have moved := (pumpMoved_same (t := reach p.pollAt s) reads rfl).change
    (fun q => { q with pollAt := p.pollAt + 500, awaiting := some (p.command, p.display) }) fun _ => rfl
  refine ⟨_, ?_, rfl, moved.reads, moved.only, rfl⟩
  simp [exec, execPumpPollTimer, whenUp, up, reads]

theorem refusedDisplay_ends {s : State} {n d : Nat} {p : Pump} (up : s.up = true) (reads : s.pump? n = some p)
    (shown : p.refusedUntil = some d) :
    ∃ t, exec (.pumpRefusedDisplayExpiry n) s = .next t ∧ t.now = max s.now d ∧
      t.pump? n = some { p with display := Pump.stateDisplay p, refusedUntil := none } ∧
      s.onlyPump t n ∧ t = { s with now := t.now, fsc := t.fsc } := by
  have moved := (pumpMoved_same (t := reach d s) reads rfl).change
    (fun q => { q with display := Pump.stateDisplay q, refusedUntil := none }) fun _ => rfl
  refine ⟨_, ?_, rfl, moved.reads, moved.only, rfl⟩
  simp [exec, execPumpRefusedDisplayExpiry, whenUp, up, reads, shown]

/-- A pump one miss on (R142). -/
def missedPump (p : Pump) : Pump := { p with awaiting := none, misses := min 3 (p.misses + 1) }

theorem missed_moves {s : State} {n : Nat} {p : Pump} (reads : s.pump? n = some p) :
    PumpMoved s (changePump n missedPump s) n (missedPump p) :=
  (pumpMoved_same reads rfl).change missedPump fun _ => rfl

theorem exec_pumpMiss {s : State} {n : Nat} {p : Pump} {sent : PumpCommand × Display} (up : s.up = true)
    (reads : s.pump? n = some p) (waits : p.awaiting = some sent) :
    exec (.pumpMiss n) s = .next (if p.state != .fault && 2 ≤ p.misses then enterFault p (changePump n missedPump s)
      else changePump n missedPump s) := by
  simp only [exec, execPumpMiss, whenUp, up, if_true, reads, waits]
  rfl

/-- A pump in FAULT, before its sale is marked (R142, R154). -/
def faultPump (p : Pump) : Pump := { p with state := .fault, misses := 3, readyAt := none, recovered := false }

/-- A pump whose sale stops where it was enabled (R154). -/
def stoppedPump (p : Pump) : Pump := { p with command := .disabled, display := .settling, refusedUntil := none }

theorem enterFault_moves {s t : State} {n : Nat} {p q : Pump} (moved : PumpMoved s t n q) (wrote : Wrote s t [])
    (number : p.cfg.number = n) (sale : q.sale = p.sale) :
    Wrote s (enterFault p t) [.pumpFault n p.state] ∧
    ∃ k, PumpMoved s (enterFault p t) n k ∧ k.state = .fault ∧ k.misses = 3 ∧ k.readyAt = none ∧
      ∀ x, p.sale = some x → k.sale = some { x with faultMark := true } ∧
        (x.stage = .ready ∨ x.stage = .delivering → k.command = .disabled) := by
  have entered := (moved.change faultPump fun _ => rfl).report (.pumpFault n p.state)
  have entry := (wrote.quiet (u := changePump n faultPump t) rfl rfl).report (.pumpFault n p.state)
  cases has : p.sale with
  | none =>
    have does : enterFault p t = report (.pumpFault n p.state) (changePump n faultPump t) := by
      simp only [enterFault, has, number]
      rfl
    rw [does]
    exact ⟨entry, _, entered, rfl, rfl, rfl, fun _ h => by cases h⟩
  | some x =>
    have marked := entered.changeSale fun y => { y with faultMark := true }
    have still : (resold (fun y => { y with faultMark := true }) (faultPump q)).sale = some { x with faultMark := true } := by
      simp [resold, faultPump, sale, has]
    have does : enterFault p t =
        (if x.stage == .ready || x.stage == .delivering then
          changePump n stoppedPump (changeSale n (fun y => { y with faultMark := true })
            (report (.pumpFault n p.state) (changePump n faultPump t)))
        else changeSale n (fun y => { y with faultMark := true })
          (report (.pumpFault n p.state) (changePump n faultPump t))) := by
      simp only [enterFault, has, number]
      rfl
    rw [does]
    by_cases enabled : (x.stage == .ready || x.stage == .delivering) = true
    · rw [if_pos enabled]
      refine ⟨entry.quiet (by simp) (by simp), _, marked.change stoppedPump fun _ => rfl, rfl, rfl, rfl, fun y h => ?_⟩
      cases h
      exact ⟨still, fun _ => rfl⟩
    · rw [if_neg enabled]
      refine ⟨entry.quiet (by simp) (by simp), _, marked, rfl, rfl, rfl, fun y h => ?_⟩
      cases h
      exact ⟨still, fun stage => absurd stage (by simpa using enabled)⟩

theorem pumpMiss_misses {s : State} {n : Nat} {p : Pump} {sent : PumpCommand × Display} (up : s.up = true)
    (reads : s.pump? n = some p) (waits : p.awaiting = some sent) :
    ∃ t, exec (.pumpMiss n) s = .next t ∧ s.onlyPump t n ∧
      (p.misses < 2 → t.pump? n = some { p with misses := p.misses + 1, awaiting := none } ∧ t.bst = s.bst ∧ t.evj = s.evj) ∧
      (p.misses = 2 → p.state ≠ .fault → s.journalled t (.pumpFault n p.state) ∧
        ∃ q, t.pump? n = some q ∧ q.state = .fault ∧ q.misses = 3 ∧ q.readyAt = none ∧
          ∀ x, p.sale = some x → q.sale = some { x with faultMark := true } ∧
            (x.stage = .ready ∨ x.stage = .delivering → q.command = .disabled)) ∧
      t = { s with bst := t.bst, fsc := t.fsc, qlc := t.qlc, evj := t.evj } := by
  have moved := missed_moves reads
  have runs := exec_pumpMiss up reads waits
  by_cases third : (p.state != .fault && decide (2 ≤ p.misses)) = true
  · rw [if_pos third] at runs
    obtain ⟨wrote, q, faulted, state, misses, ready, sale⟩ :=
      enterFault_moves moved (.same rfl rfl) (pump?_number reads) rfl
    have many : 2 ≤ p.misses := by simpa using (Bool.and_eq_true_iff.1 third).2
    exact ⟨_, runs, faulted.only, fun few => absurd few (by omega), fun _ _ =>
      ⟨wrote.all, q, faulted.reads, state, misses, ready, sale⟩, State.ext_fields _ _ (by simp)⟩
  · rw [if_neg third] at runs
    refine ⟨_, runs, moved.only, fun few => ⟨?_, rfl, rfl⟩, fun two working => ?_, rfl⟩
    · rw [moved.reads, missedPump, Nat.min_eq_right (by omega)]
    · exact absurd third (by simp [two, working])

/-! ### The Answers (R142, R143, R148 to R150, R154) -/

theorem samePumpsBut_noteFlow (n : Nat) (b : Option PumpReading) (r : PumpReading) (m : Nat) (s : State) :
    s.samePumpsBut (noteFlow n b r s) m := by
  refine samePumpsBut_pumps m ?_
  unfold noteFlow
  (repeat' split) <;> simp

/-- In SETTLING an Answer is taken no further where it is no end reading. -/
theorem pumpState_settling {s : State} {p : Pump} {sent : PumpCommand} (r : PumpReading) (state : p.state = .settling)
    (no_end : sent ≠ .disabled ∨ ∀ x, p.sale = some x → x.endTotal ≠ none) : pumpState p sent r s = s := by
  have closed : (sent == .disabled && p.sale.any fun x => x.endTotal.isNone) = false := by
    rcases no_end with enabled | ended
    · simp [enabled]
    · cases sale : p.sale with
      | none => simp
      | some x => simp [Option.isNone_eq_false_iff, Option.isSome_iff_ne_none, ended x sale]
  simp only [pumpState, state, closed]
  rfl

/-- In FAULT the first good Answer ends the fault. -/
theorem pumpState_fault {s : State} {p : Pump} {sent : PumpCommand} {r : PumpReading} (state : p.state = .fault) :
    pumpState p sent r s = leaveFault p r s := by
  simp only [pumpState, state]

/-- Whatever the state of the pump, an Answer changes no other pump. -/
theorem pumpState_others {s : State} {n : Nat} {p : Pump} (sent : PumpCommand) (r : PumpReading)
    (reads : s.pump? n = some p) : s.samePumpsBut (pumpState p sent r (answered n r s)) n := by
  have stays (same : pumpState p sent r (answered n r s) = answered n r s) := (pumpState_stays reads same).1.only.2
  cases state : p.state with
  | idle => exact (pumpState_idle reads state).1.only.2
  | authorising => exact stays (by simp only [pumpState, state])
  | ready =>
    by_cases lifted : r.nozzleUp = true
    · exact (pumpState_begins reads state lifted).1.only.2
    · exact stays (by simp [pumpState, state, lifted])
  | delivering =>
    by_cases ends : r.nozzleUp = false ∨ (r.running = false ∧ r.stop = .preset)
    · exact (pumpState_closes reads state ends).1.only.2
    · exact stays (by simp [pumpState, state]; tauto)
  | settling =>
    by_cases due : ∃ x, p.sale = some x ∧ sent = .disabled ∧ x.endTotal = none
    · obtain ⟨x, sale, disabled, open_yet⟩ := due
      obtain ⟨u, does, due⟩ := pumpState_ends r reads sale (.inl ⟨state, disabled, open_yet⟩)
      rw [does]
      exact (due.always r.totaliser).1
    · refine stays (pumpState_settling r state ?_)
      by_cases disabled : sent = .disabled
      · exact .inr fun x sale open_yet => due ⟨x, sale, disabled, open_yet⟩
      · exact .inl disabled
  | fault =>
    cases sale : p.sale with
    | none =>
      rw [pumpState_fault state]
      exact (leaveFault_none reads sale).1.only.2
    | some x =>
      by_cases begun : x.stage = .authorising
      · rw [pumpState_fault state]
        exact (leaveFault_keeps reads sale (.inl ⟨begun, rfl⟩)).1.only.2
      · by_cases open_yet : x.endTotal = none
        · obtain ⟨u, does, due⟩ := pumpState_ends (sent := sent) r reads sale (.inr ⟨state, begun, open_yet⟩)
          rw [does]
          exact (due.always r.totaliser).1
        · rw [pumpState_fault state]
          exact (leaveFault_keeps reads sale (.inr ⟨begun, open_yet, rfl⟩)).1.only.2

theorem endingPump_recovered (r : PumpReading) (p : Pump) : (endingPump r p).recovered = p.recovered := by
  unfold endingPump
  split <;> rfl

/-- The pump as the statement gives it once its sale has left it after an end reading. -/
theorem leftPump_ending (r : PumpReading) {p : Pump} {x : Sale} (f : Sale → Sale)
    (ending : p.state = .settling ∨ p.state = .fault) :
    leftPump f (readPump (endingPump r p) (endingSale p x) r.totaliser) = { answeredPump r p with
      state := .idle, command := .disabled, display := .idle, refusedUntil := none, readyAt := none, recovered := false
      sale := none, last := some (f (Sale.atEnd (endingSale p x) r.totaliser)) } := by
  rcases ending with e | e <;> simp [leftPump, readPump, endingPump, closingPump, answeredPump, e]

/-- Settles O34: the Poll, the Answer by the pump's state, the end reading by the kind of the sale, the miss, the display. -/
theorem pumpPolled : Obligations.PumpPolled := by
  refine ⟨fun s n p up reads => pumpPollTimer_polls up reads, ?_, ?_, ?_, ?_⟩
  · intro s n p sent r up reads waits
    have stays (same : pumpState p sent.1 r (answered n r s) = answered n r s) := pumpState_stays (s := s) reads same
    refine ⟨_, exec_pumpAnswer r up reads waits, pumpState_others sent.1 r reads, State.ext_fields _ _ (by simp [answered]),
      fun state => ?_, fun state => ?_, fun state lifted => ?_, fun state down => ?_, fun state ends => ?_,
      fun state lifted runs => ?_, fun state no_end => ?_, fun state sale => ?_, fun x state sale begun => ?_,
      fun x state sale begun ended => ?_⟩
    · obtain ⟨moved, bst, wrote⟩ := pumpState_idle (sent := sent.1) (r := r) reads state
      exact ⟨⟨moved.reads, moved.only.1⟩, bst, wrote.all⟩
    · obtain ⟨moved, bst, evj⟩ := stays (by simp only [pumpState, state])
      exact ⟨⟨moved.reads, moved.only.1⟩, bst, evj⟩
    · obtain ⟨moved, dirty⟩ := pumpState_begins (sent := sent.1) reads state lifted
      exact ⟨dirty, moved.reads, moved.only.1⟩
    · obtain ⟨moved, bst, -⟩ := stays (by simp [pumpState, state, down])
      exact ⟨⟨moved.reads, moved.only.1⟩, bst⟩
    · obtain ⟨moved, dirty⟩ := pumpState_closes (sent := sent.1) reads state ends
      refine ⟨dirty, ?_, moved.only.1⟩
      rw [moved.reads]
      simp [closingPump, answeredPump, state]
    · have flows : (!r.nozzleUp || (!r.running && r.stop == .preset)) = false := by
        rcases runs with e | e <;> simp [lifted, e]
      obtain ⟨moved, bst, -⟩ := stays (by simp [pumpState, state, flows])
      exact ⟨⟨moved.reads, moved.only.1⟩, bst⟩
    · obtain ⟨moved, bst, -⟩ := stays (pumpState_settling r state no_end)
      exact ⟨⟨moved.reads, moved.only.1⟩, bst⟩
    · obtain ⟨moved, wrote⟩ := leaveFault_none (r := r) reads sale
      rw [pumpState_fault state]
      exact ⟨⟨moved.reads, moved.only.1⟩, wrote.all⟩
    · obtain ⟨moved, wrote⟩ := leaveFault_keeps (r := r) reads sale (.inl ⟨begun, rfl⟩)
      rw [pumpState_fault state]
      exact ⟨⟨moved.reads, moved.only.1⟩, wrote.all⟩
    · obtain ⟨moved, wrote⟩ := leaveFault_keeps (r := r) reads sale (.inr ⟨begun, ended, rfl⟩)
      rw [pumpState_fault state]
      exact ⟨⟨moved.reads, moved.only.1⟩, wrote.all⟩
  · intro s n p sent r x up reads waits sale ends
    obtain ⟨u, does, due⟩ := pumpState_ends r reads sale ends
    have ending : p.state = .settling ∨ p.state = .fault := ends.imp (fun h => h.1) fun h => h.1
    obtain ⟨others, dirty⟩ := due.always r.totaliser
    have runs := exec_pumpAnswer r up reads waits
    have frame : pumpState p sent.1 r (answered n r s) = { s with
        bst := (pumpState p sent.1 r (answered n r s)).bst, fsc := (pumpState p sent.1 r (answered n r s)).fsc
        qlc := (pumpState p sent.1 r (answered n r s)).qlc, evj := (pumpState p sent.1 r (answered n r s)).evj } :=
      State.ext_fields _ _ (by simp [answered])
    rw [does] at runs frame
    refine ⟨_, runs, others, dirty, frame, fun kind => ?_, fun kind fresh table queue => ?_, fun kind refused =>
      ⟨fun slot free => ?_, fun full => ?_⟩⟩
    · obtain ⟨moved, -, wrote⟩ := due.direct r.totaliser kind
      rw [leftPump_ending r _ ending] at moved
      rw [endNotes, ← List.append_assoc] at wrote
      exact ⟨moved.reads, moved.only.1, wrote.all⟩
    · have once : (endingPump r p).recovered = false := (endingPump_recovered r p).trans fresh
      obtain ⟨moved, -, wrote, asks⟩ := due.asks r.totaliser kind once table queue
      rw [endNotes, ← List.append_assoc] at wrote
      refine ⟨?_, moved.only.1, wrote.all, asks⟩
      rw [moved.reads]
      rcases ending with e | e <;>
        simp [readPump, endingPump, endingSale, closingPump, answeredPump, Sale.atEnd, e]
    · obtain ⟨pump, -, -, listed, unsettled, timer, wrote⟩ := due.joins r.totaliser kind
        (refused.imp_left (endingPump_recovered r p).trans) free
      rw [leftPump_ending r _ ending] at pump
      rw [endNotes, ← List.append_assoc] at wrote
      exact ⟨pump, listed, unsettled, timer, wrote.all⟩
    · obtain ⟨moved, -, wrote⟩ := due.loses r.totaliser kind
        (refused.imp_left (endingPump_recovered r p).trans) full
      rw [leftPump_ending r _ ending] at moved
      rw [endNotes, ← List.append_assoc] at wrote
      exact ⟨moved.reads, moved.only.1, wrote.all⟩
  · exact fun s n p sent up reads waits => pumpMiss_misses up reads waits
  · exact fun s n d p up reads shown => refusedDisplay_ends up reads shown

end Sys2Proof.Machine
end

section
/-! SUPPORT. The clock's second (R159, R162, R164). -/

namespace Sys2Proof.Machine

/-- The rollover leaves of DCK the new day and the set that is in force from then on. -/
theorem rollover_dck (closing second : Nat) (s : State) :
    (rollover closing second s).dck =
      { s.dck with clock := some ⟨closing + 1, second⟩, inForce := s.dck.staged.getD s.dck.inForce, staged := none } := by
  have kept (l : List Nat) (p : State × Nat) (r : Rollover) :
      (l.foldl (fun x n => rollBerth r n x) p).1.dck = p.1.dck :=
    foldl_pair_same State.dck _ (fun _ _ => by simp) l p
  unfold rollover
  dsimp only
  simp only [report_frame, installTariff, State.setDck_dck, kept]

theorem advance_now (t : DayTime) (s : State) : (advance t s).now = max s.now s.dck.tickAt := by
  unfold advance
  dsimp only
  (repeat' split) <;> simp [reach]

/-- Settles O40: a second that brings no new day moves nothing that the posts look at. -/
theorem clockSecondAdvances : Obligations.ClockSecondAdvances := by
  intro s up fits
  have ticks {t : DayTime} (clock : s.dck.clock = some t) : exec .clockSecond s = .next (settled s (advance t s)) := by
    simp only [exec, execClockSecond, event, whenUp, up, if_true, clock]
  refine ⟨fun unset => ?_, fun day second clock => ?_⟩
  · simp only [exec, execClockSecond, event, whenUp, up, if_true, unset]
    exact congrArg _ (settled_same s s rfl rfl rfl fits)
  · refine ⟨_, ticks clock, by simp [advance_now], fun open_day => ?_, fun closes last => ?_, fun closes more => ?_⟩
    · have quiet : settled s (advance ⟨day, second⟩ s) = advance ⟨day, second⟩ s :=
        settled_same s _ (by simp [advance, open_day]) (by simp [advance, open_day])
          (classOf_same s _ (by simp [advance, open_day])) fits
      rw [quiet, advance, if_neg open_day]
      exact State.ext_fields _ _ (by simp)
    · have quiet : settled s (advance ⟨day, second⟩ s) = advance ⟨day, second⟩ s :=
        settled_same s _ (by simp [advance, closes, last]) (by simp [advance, closes, last])
          (classOf_same s _ (by simp [advance, closes, last])) fits
      rw [quiet, advance, if_pos closes, if_pos last]
      exact ⟨State.ext_fields _ _ (by simp), lastReport_report _ _⟩
    · rw [advance, if_pos closes, if_neg more]
      exact ⟨by simp [rollover_dck], State.ext_fields _ _ (by simp)⟩

end Sys2Proof.Machine
end

section
/-! SUPPORT. What the posts, the purses and the bookings do to QLC: they send Tag Revokes and generate Announces, and do nothing
else to it (R122, R183). One lemma per operation, for every relation of the state before and after that these keep. -/

namespace Sys2Proof.Machine

/-- A relation that holds where QLC is as it was, and is kept by a Tag Revoke sent and by an Announce generated. -/
structure Background (R : State → State → Prop) : Prop where
  same : ∀ s t, t.qlc = s.qlc → R s t
  trans : ∀ s t u, R s t → R t u → R s u
  revokes : ∀ station tags s, R s (broadcast (.tagRevoke station tags) s).1
  announces : ∀ s, R s (generateAnnounce s)

namespace Background
variable {R : State → State → Prop} (bg : Background R)
include bg

theorem refl (s : State) : R s s := bg.same s s rfl

/-- A step that leaves QLC, at the end. -/
theorem andSame {s t u : State} (h : R s t) (qlc : u.qlc = t.qlc) : R s u := bg.trans s t u h (bg.same t u qlc)

/-- A step that leaves QLC, at the beginning. -/
theorem afterSame {s t u : State} (h : R t u) (qlc : t.qlc = s.qlc := by simp) : R s u :=
  bg.trans s t u (bg.same s t qlc) h

theorem report {s t : State} (h : R s t) (r : Report) : R s (Machine.report r t) := bg.andSame h (by simp)

omit bg in
theorem ite {s t u : State} {p : Prop} [Decidable p] (yes : R s t) (no : R s u) : R s (if p then t else u) := by
  split
  · exact yes
  · exact no

theorem foldl {α : Type} {f : State → α → State} (h : ∀ s a, R s (f s a)) (l : List α) (s : State) : R s (l.foldl f s) :=
  foldl_rel bg.refl (fun s t u => bg.trans s t u) h l s

theorem revoke (tags : List Tag) (s : State) : R s (revoke tags s) := by
  cases tags with
  | nil => exact bg.refl s
  | cons first rest =>
    have sent := bg.afterSame (t := markLookups (first :: rest) (dropTags (first :: rest) s)) (s := s)
      (bg.revokes s.cfg.station (first :: rest) _)
    exact ite sent (bg.report sent _)

theorem compute (n : Nat) (s : State) : R s (compute n s) := bg.same s _ (by simp)

theorem declare (d : Nat) (s : State) : R s (declare d s) :=
  bg.afterSame (t := s.setLsu { s.lsu with declared := d }) (bg.compute s.cfg.station _)

theorem noteLoad (s : State) : R s (noteLoad s) := by
  have demand (d : Nat) : R s (s.setLsu { s.lsu with demand := d }) := bg.same s _ rfl
  unfold Machine.noteLoad
  split
  · dsimp only
    (repeat' split)
    · exact demand _
    · exact bg.trans _ _ _ (bg.afterSame (bg.announces _)) (bg.compute _ _)
    · exact bg.trans _ _ _ (demand _) (bg.declare _ _)
    · exact demand _
  · exact bg.refl s

/-! ### PBC -/

theorem changeOutlet (n : Nat) (f : Outlet → Outlet) (s : State) : R s (changeOutlet n f s) :=
  bg.afterSame (bg.noteLoad _)

theorem outletWaits (n : Nat) (s : State) : R s (outletWaits n s) := bg.afterSame (bg.changeOutlet n _ _)

theorem outletLive (n : Nat) (s : State) : R s (outletLive n s) := bg.afterSame (bg.changeOutlet n _ _)

theorem berthOff (n : Nat) (s : State) : R s (berthOff n s) := by
  have off (l : List Nat) : R s (l.foldl (fun x n => outletOff n x) s) :=
    bg.foldl (f := fun x n => outletOff n x) (fun x n => bg.changeOutlet n _ x) l s
  unfold Machine.berthOff
  split
  · exact bg.refl s
  · rename_i b _
    dsimp only
    split
    · exact bg.andSame (off b.cfg.outlets) (by simp)
    · exact off _

theorem displaced (n : Nat) (b : Booking) (s : State) : R s (displaced n b s) := bg.afterSame (bg.berthOff n _)

theorem afterCurrent (n : Nat) (before s : State) : R s (afterCurrent n before s) := by
  unfold Machine.afterCurrent
  split
  · exact ite (bg.refl s) (bg.displaced _ _ s)
  · exact bg.refl s

theorem noticeOutlet (old new : Standing) (n : Nat) (s : State) : R s (noticeOutlet old new n s) := by
  unfold Machine.noticeOutlet
  split
  · exact bg.refl s
  · exact ite (ite (bg.changeOutlet _ _ s) (bg.refl s)) (ite (bg.outletWaits _ s) (bg.refl s))

theorem postsNotice (n k : Nat) (old new : Standing) (s : State) : R s (postsNotice n k old new s) := by
  have outlets (l : List Nat) : R s (l.foldl (fun x n => Machine.noticeOutlet old new n x) s) :=
    bg.foldl (f := fun x n => Machine.noticeOutlet old new n x) (fun x n => bg.noticeOutlet old new n x) l s
  unfold Machine.postsNotice
  split
  · exact bg.refl s
  · rename_i b _
    refine ite ?_ (bg.refl s)
    dsimp only
    split
    · exact bg.andSame (outlets b.cfg.outlets) (by simp)
    · exact outlets _

theorem settled (before s : State) : R s (settled before s) :=
  PostsClosed.settled (P := R s)
    { shed := fun t _ r _ h => bg.report (bg.trans _ _ _ h (bg.changeOutlet _ _ t)) r
      live := fun t n _ _ _ _ h => bg.trans _ _ _ h (bg.outletLive n t) } before s (bg.refl s)

/-! ### PRS -/

theorem notice (n k : Nat) (old new : Standing) (s : State) : R s (notice n k old new s) := by
  unfold Machine.notice
  split
  · exact bg.refl s
  · exact bg.report (bg.trans _ _ _ (bg.afterSame (bg.revoke _ _)) (bg.postsNotice _ _ _ _ _)) _

theorem restand (n k : Nat) (s : State) : R s (restand n k s) := by
  unfold Machine.restand
  split
  · exact bg.refl s
  · exact ite (bg.refl s) (bg.afterSame (bg.notice _ _ _ _ _))

theorem meterCharge (n k : Nat) (c : Charge) (u r : Nat) (s : State) : R s (meterCharge n k c u r s) := by
  unfold Machine.meterCharge
  split
  · exact bg.refl s
  · exact ite (bg.same _ _ (by simp)) (bg.afterSame (bg.restand _ _ _))

theorem ageBooking (n : Nat) (b : Booking) (s : State) : R s (ageBooking n b s) := by
  have expired (l : List Hold) (u : State) : R u (reportExpired n l u) := bg.same _ _ (by simp)
  have aged (f : Booking → Booking) (l : List Hold) : R s (reportExpired n l (changeBooking n (b.serial.getD 0) f s)) :=
    bg.same _ _ (by simp)
  unfold Machine.ageBooking
  exact ite (ite (aged _ _) (bg.trans _ _ _ (aged _ _) (bg.restand _ _ _))) (bg.refl s)

/-! ### BST -/

theorem makeCurrent (n k : Nat) (s : State) : R s (makeCurrent n k s) := bg.afterSame (bg.afterCurrent _ _ _)

theorem arrivals (n d : Nat) (s : State) : R s (arrivals n d s) := by
  unfold Machine.arrivals
  split
  · exact bg.refl s
  · exact bg.foldl (fun x _ => bg.makeCurrent _ _ x) _ s

theorem examine (d : Nat) (s : State) : R s (examine d s) :=
  bg.foldl (f := fun x n => Machine.arrivals n d x) (fun x n => bg.arrivals n d x) _ s

theorem convert (n : Nat) (ref : CallRef) (stay : Stay) (tags : List Tag) (name : Option BoatName) (s : State) :
    R s (convert n ref stay tags name s).1 := bg.afterSame (bg.afterCurrent _ _ _)

end Background

/-! ### Frames joined, and nothing else -/

/-- A frame of the background: a Tag Revoke or an Announce. -/
def BackgroundFrame (f : Frame) : Prop := f.body.code = 7 ∨ f.body.code = 15

/-- Frames of the background have joined the transmit queue, or been counted as lost, and QLC is otherwise as it was. -/
structure Sends (s t : State) : Prop where
  rest : t.qlc = { s.qlc with
    queue := t.qlc.queue, nextEntry := t.qlc.nextEntry, lastAnnounce := t.qlc.lastAnnounce, errors := t.qlc.errors }
  queue : ∃ more, t.qlc.queue = s.qlc.queue ++ more ∧ ∀ e ∈ more, s.qlc.nextEntry ≤ e.id ∧ BackgroundFrame e.frame
  next : s.qlc.nextEntry ≤ t.qlc.nextEntry

theorem sends_enqueue (f : Frame) (a b : Bool) (s : State) (background : BackgroundFrame f) : Sends s (enqueue f a b s).1 := by
  unfold enqueue
  split
  · exact ⟨rfl, ⟨_, rfl, by simp [background]⟩, by simp⟩
  · exact ⟨rfl, ⟨[], by simp [onErrors]⟩, by simp [onErrors]⟩

theorem Sends.trans {s t u : State} (st : Sends s t) (tu : Sends t u) : Sends s u := by
  obtain ⟨first, firstQueue, firstNew⟩ := st.queue
  obtain ⟨more, moreQueue, moreNew⟩ := tu.queue
  refine ⟨tu.rest.trans (by rw [st.rest]), ⟨first ++ more, by rw [moreQueue, firstQueue, List.append_assoc], ?_⟩,
    st.next.trans tu.next⟩
  intro e mem
  obtain old | new := List.mem_append.1 mem
  · exact firstNew e old
  · exact ⟨st.next.trans (moreNew e new).1, (moreNew e new).2⟩

theorem Sends.same {s t : State} (qlc : t.qlc = s.qlc) : Sends s t :=
  ⟨by rw [qlc], ⟨[], by simp [qlc]⟩, by rw [qlc]⟩

theorem sends_background : Background Sends where
  same _ _ := Sends.same
  trans _ _ _ := Sends.trans
  revokes _ _ s := sends_enqueue _ _ _ s (.inl rfl)
  announces s := by
    have sent := sends_enqueue ⟨0, 0, .announce none⟩ (s.qlc.announceChannel == .a) (s.qlc.announceChannel == .b) s (.inr rfl)
    have noted (t : State) (c : Option Channel) : Sends t (t.setQlc { t.qlc with lastAnnounce := c }) :=
      ⟨rfl, ⟨[], by simp⟩, le_refl _⟩
    unfold generateAnnounce
    split
    · exact .same rfl
    · exact Background.ite (sent.trans (noted _ _)) sent

end Sys2Proof.Machine
end

section
/-! SUPPORT. The peer table and the Announce (R75, R83, R183, R185). -/

namespace Sys2Proof.Machine

/-! ### The peer table -/

theorem peer?_same {s t : State} (peers : t.qlc.peers = s.qlc.peers) (n : Nat) : t.peer? n = s.peer? n := by
  simp only [State.peer?, peers]

/-- After a change the peer of the number reads as changed, and every other peer as before. -/
theorem changePeer_reads {n : Nat} {f : Peer → Peer} {s t : State} {p : Peer} (reads : s.peer? n = some p)
    (keeps : ∀ p, (f p).number = p.number) (after : t.qlc.peers = (changePeer n f s).qlc.peers) :
    t.peer? n = some (f p) ∧ ∀ m, m ≠ n → t.peer? m = s.peer? m := by
  refine ⟨?_, fun m other => ?_⟩
  · rw [peer?_same after, peer?_changePeer _ _ _ _ keeps, reads]
    simp [peer?_number reads]
  · rw [peer?_same after, peer?_changePeer _ _ _ _ keeps]
    cases found : s.peer? m with
    | none => rfl
    | some q => simp [peer?_number found, other]

theorem settled_peers (before s : State) : (settled before s).qlc.peers = s.qlc.peers := by
  rw [(sends_background.settled before s).rest]

/-! ### An Announce taken, and a peer gone STALE (R185) -/

/-- A peer with the values of its Announce. -/
def announcedPeer (ch : Channel) (body : AnnounceBody) (staleAt : Nat) (p : Peer) : Peer :=
  { p with
    state := .present, role := some body.role, floor := some body.floor, ceiling := some body.ceiling
    demand := some body.demand, errors := some body.errors, lastChannel := some ch, staleAt := some staleAt }

/-- The peer table after an Announce, with the entries written. -/
def announceNoted (ch : Channel) (source : Nat) (body : AnnounceBody) (p : Peer) (s : State) : State :=
  let heard := changePeer source (announcedPeer ch body (s.now + s.cfg.stalenessTime * 1000)) s
  let noted := if p.state = .present then heard else report (.peerHeard source p.state) heard
  if body.errors = {} then noted else report (.peerErrors source body.errors) noted

theorem onAnnounce_eq {ch : Channel} {source : Nat} {body : AnnounceBody} {p : Peer} {s : State}
    (reads : s.peer? source = some p) :
    onAnnounce ch source body s = compute source (announceNoted ch source body p s) := by
  unfold onAnnounce announceNoted
  rw [reads]
  simp only [beq_iff_eq, ErrorSummary.any, bne_iff_ne, ne_eq, ite_not]
  rfl

theorem announceNoted_frame (ch : Channel) (source : Nat) (body : AnnounceBody) (p : Peer) (s : State) :
    (announceNoted ch source body p s).qlc =
      (changePeer source (announcedPeer ch body (s.now + s.cfg.stalenessTime * 1000)) s).qlc ∧
    announceNoted ch source body p s =
      { s with qlc := (announceNoted ch source body p s).qlc, evj := (announceNoted ch source body p s).evj } := by
  by_cases present : p.state = .present <;> by_cases clean : body.errors = {} <;>
    exact ⟨by simp [announceNoted, present, clean], State.ext_fields _ _ (by simp [announceNoted, present, clean, changePeer])⟩

theorem announceNoted_wrote (ch : Channel) (source : Nat) (body : AnnounceBody) (p : Peer) (s : State) :
    Wrote s (announceNoted ch source body p s)
      ((if p.state = .present then [] else [.peerHeard source p.state]) ++
        (if body.errors = {} then [] else [.peerErrors source body.errors])) := by
  have changed : Wrote s (changePeer source (announcedPeer ch body (s.now + s.cfg.stalenessTime * 1000)) s) [] :=
    .same rfl rfl
  unfold announceNoted
  by_cases present : p.state = .present <;> by_cases clean : body.errors = {} <;> simp only [present, clean, if_true, if_false]
  · exact changed
  · exact changed.report _
  · exact changed.report _
  · exact (changed.report _).report _

theorem announce_taken (s : State) (ch : Channel) (source : Nat) (body : AnnounceBody) (p : Peer) (hears : s.hears source)
    (reads : s.peer? source = some p) :
    ∃ t, exec (.announce ch source body) s = .next t ∧
      t.peer? source = some (announcedPeer ch body (s.now + s.cfg.stalenessTime * 1000) p) ∧
      (∀ n, n ≠ source → t.peer? n = s.peer? n) ∧
      (∃ u, t = settled s (compute source u) ∧ u = { s with qlc := u.qlc, evj := u.evj } ∧ u.qlc.peers = t.qlc.peers ∧
        u.qlc.queue.map Entry.frame = s.qlc.queue.map Entry.frame ∧
        ((s.qlc.line ch.other).silent = false ∨ (s.qlc.line ch.other).state = .down → s.journalledAll u (
          (if (s.qlc.line ch).state = .down then [.channelUp ch] else []) ++
          (if p.state = .present then [] else [.peerHeard source p.state]) ++
          (if body.errors = {} then [] else [.peerErrors source body.errors])))) ∧
      t = { s with pbc := t.pbc, lsu := t.lsu, qlc := t.qlc, evj := t.evj } := by
  have heardPeers : (heardOn ch s).qlc.peers = s.qlc.peers := by simp
  have heardReads : (heardOn ch s).peer? source = some p := by rwa [peer?_same heardPeers]
  have now : (heardOn ch s).now = s.now := by simp
  have cfg : (heardOn ch s).cfg = s.cfg := by simp
  obtain ⟨qlc, frame⟩ := announceNoted_frame ch source body p (heardOn ch s)
  have wrote := (heardOn_wrote ch s).trans (announceNoted_wrote ch source body p (heardOn ch s))
  rw [now, cfg] at qlc
  refine ⟨settled s (compute source (announceNoted ch source body p (heardOn ch s))), ?_, ?_⟩
  · rw [← onAnnounce_eq heardReads]
    simp only [exec, execAnnounce, event, receive_hears ch source _ s hears]
  · generalize announceNoted ch source body p (heardOn ch s) = u at qlc frame wrote ⊢
    have peers : (settled s (compute source u)).qlc.peers = u.qlc.peers := by rw [settled_peers]; simp
    obtain ⟨changed, others⟩ := changePeer_reads (t := settled s (compute source u))
      (f := announcedPeer ch body (s.now + s.cfg.stalenessTime * 1000)) heardReads (fun _ => rfl)
      (peers.trans (congrArg Qlc.peers qlc))
    have whole : u = { s with qlc := u.qlc, evj := u.evj } := by
      rw [frame]
      exact State.ext_fields _ _ (by simp)
    refine ⟨changed, fun n other => (others n other).trans (peer?_same heardPeers n), ⟨u, rfl, whole, peers.symm, ?_, ?_⟩, ?_⟩
    · have frames : (heardOn ch s).qlc.frames = s.qlc.frames := by simp
      rw [qlc]
      simpa [Qlc.frames, Function.comp_def, changePeer] using congrArg (List.map Prod.snd) frames
    · intro calm
      have up : s.heardReports ch = if (s.qlc.line ch).state = .down then [.channelUp ch] else [] := by
        rcases calm with h | h <;> simp [State.heardReports, State.silences, h]
      rw [List.append_assoc, ← up]
      exact wrote.all
    · exact State.ext_fields _ _ (by rw [whole]; simp)

/-- A peer gone STALE. -/
def stalePeer (p : Peer) : Peer := { p with state := .stale, staleAt := none }

theorem peer_goneStale (s : State) (n d : Nat) (p : Peer) (up : s.up = true) (reads : s.peer? n = some p)
    (present : p.state = .present) (due : p.staleAt = some d) :
    ∃ t, exec (.stalenessTimer n) s = .next t ∧ t.now = max s.now d ∧
      t.peer? n = some (stalePeer p) ∧ (∀ m, m ≠ n → t.peer? m = s.peer? m) ∧
      (∃ u, t = settled s (compute n u) ∧ u.qlc = { s.qlc with peers := t.qlc.peers } ∧ s.journalled u (.peerStale n) ∧
        u = { s with now := t.now, qlc := u.qlc, evj := u.evj }) ∧
      t = { s with now := t.now, pbc := t.pbc, lsu := t.lsu, qlc := t.qlc, evj := t.evj } := by
  have runs : exec (.stalenessTimer n) s =
      .next (settled s (compute n (report (.peerStale n) (changePeer n stalePeer (reach d s))))) := by
    simp only [exec, execStalenessTimer, event, whenUp, up, if_true, reads, present, due]
    rfl
  have peers : (settled s (compute n (report (.peerStale n) (changePeer n stalePeer (reach d s))))).qlc.peers =
      (changePeer n stalePeer s).qlc.peers := by
    rw [settled_peers]
    simp [changePeer]
  obtain ⟨changed, others⟩ := changePeer_reads (f := stalePeer) reads (fun _ => rfl) peers
  refine ⟨_, runs, by simp [reach, changePeer], changed, others, ⟨_, rfl, ?_, journalled_report _ rfl rfl, ?_⟩,
    State.ext_fields _ _ (by simp [changePeer])⟩
  · rw [peers]
    simp [changePeer]
  · exact State.ext_fields _ _ (by simp [changePeer])

/-! ### This station's own Announce (R83, R183) -/

theorem refreshDeclared_qlc (s : State) : (refreshDeclared s).qlc = s.qlc := by
  unfold refreshDeclared
  split <;> simp [declare]

/-- An Announce that neither is held nor finds one waiting joins the queue where it has room (R183). -/
theorem generateAnnounce_queued {s : State} (free : s.lsu.held = false) (alone : s.qlc.announceWaits = false)
    (room : s.qlc.queue.length < 16) : s.queued (generateAnnounce s) s.qlc.announceChannel ⟨0, 0, .announce none⟩ := by
  obtain ⟨joined, taken⟩ := enqueueOn_queued s.qlc.announceChannel ⟨0, 0, .announce none⟩ room
  simp only [generateAnnounce, free, alone, Bool.or_self, taken, if_true]
  exact joined

/-- What has joined the queue stays in it when the posts and the purses send their own frames. -/
theorem queued_sends {s t u : State} {c : Channel} {f : Frame} (h : s.queued t c f) (sends : Sends t u) : s.queued u c f := by
  obtain ⟨e, mem, frame⟩ := h
  obtain ⟨more, queue, -⟩ := sends.queue
  exact ⟨e, queue ▸ List.mem_append_left more mem, frame⟩

/-- A computation does not change whether announcing is held. -/
theorem compute_held (n : Nat) (s : State) : (compute n s).lsu.held = s.lsu.held := by
  rw [(compute_spec n s).1]

theorem refreshDeclared_held (s : State) : (refreshDeclared s).lsu.held = s.lsu.held := by
  unfold refreshDeclared
  split
  · rw [declare, compute_held]
    rfl
  · rfl

/-- The announce timer started again (R183). -/
def announceRestarted (s : State) : State :=
  (reach s.qlc.announceAt s).setQlc { s.qlc with announceAt := s.qlc.announceAt + 1000 }

theorem exec_announceTimer {s : State} (up : s.up = true) : exec .announceTimer s = .next (settled s
    (if s.lsu.held then announceRestarted s else generateAnnounce (refreshDeclared (announceRestarted s)))) := by
  simp only [exec, execAnnounceTimer, event, whenUp, up, if_true]
  rfl

theorem announce_timer (s : State) (up : s.up = true) (fits : s.fits) :
    ∃ t, exec .announceTimer s = .next t ∧ t.now = max s.now s.qlc.announceAt ∧
      t.qlc.announceAt = s.qlc.announceAt + 1000 ∧
      (s.lsu.held = true → t = { s with now := t.now, qlc := { s.qlc with announceAt := s.qlc.announceAt + 1000 } }) ∧
      (s.lsu.held = false → s.qlc.announceWaits = false → s.qlc.queue.length < 16 →
        s.queued t s.qlc.announceChannel ⟨0, 0, .announce none⟩) ∧
      t = { s with now := t.now, pbc := t.pbc, lsu := t.lsu, qlc := t.qlc, evj := t.evj } := by
  have runs := exec_announceTimer up
  cases held : s.lsu.held
  · simp only [held, Bool.false_eq_true, if_false] at runs
    have qlc : (refreshDeclared (announceRestarted s)).qlc = { s.qlc with announceAt := s.qlc.announceAt + 1000 } :=
      refreshDeclared_qlc _
    have free : (refreshDeclared (announceRestarted s)).lsu.held = false := (refreshDeclared_held _).trans held
    have sends := (sends_background.announces (refreshDeclared (announceRestarted s))).trans
      (sends_background.settled s _)
    refine ⟨_, runs, by simp [announceRestarted, reach], ?_, nofun, fun _ alone room => ?_,
      State.ext_fields _ _ (by simp [announceRestarted])⟩
    · exact (congrArg Qlc.announceAt sends.rest).trans (congrArg Qlc.announceAt qlc)
    · generalize refreshDeclared (announceRestarted s) = u at qlc free
      have waits : u.qlc.announceWaits = false := by rw [qlc]; exact alone
      have queued := generateAnnounce_queued free waits (by rw [qlc]; exact room)
      have channel : u.qlc.announceChannel = s.qlc.announceChannel := by rw [qlc]; rfl
      have next : u.qlc.nextEntry = s.qlc.nextEntry := by rw [qlc]
      rw [channel] at queued
      exact queued_sends (by simpa only [State.queued, next] using queued) (sends_background.settled s _)
  · simp only [held, if_true] at runs
    rw [settled_same s (announceRestarted s) rfl rfl rfl fits] at runs
    exact ⟨_, runs, by simp [announceRestarted, reach], rfl, fun _ => State.ext_fields _ _ (by simp [announceRestarted]),
      nofun, State.ext_fields _ _ (by simp [announceRestarted])⟩

/-- Settles O42: what shedding and restoring do to QLC is to send frames; the peer table stays. -/
theorem peersAndAnnounces : Obligations.PeersAndAnnounces :=
  ⟨announce_taken, peer_goneStale, announce_timer⟩

end Sys2Proof.Machine
end

section
/-! SUPPORT. The channels of the Quayline: their records, a channel going DOWN, transmit faults, silence, bad frames (R170, R171,
R174, R176, R177, R184). -/

namespace Sys2Proof.Machine

/-! ### The records of the two channels -/

theorem other_other (c : Channel) : c.other.other = c := by cases c <;> rfl

theorem line_withLine_self (q : Qlc) (c : Channel) (l : Line) : (q.withLine c l).line c = l := by cases c <;> rfl

theorem line_withLine_other (q : Qlc) (c : Channel) (l : Line) : (q.withLine c.other l).line c = q.line c := by
  cases c <;> rfl

theorem line_onLine_of_other (c : Channel) (f : Line → Line) (s : State) :
    (onLine c f s).qlc.line c.other = s.qlc.line c.other := by
  cases c <;> rfl

/-- An UP channel is usable, so what waits for it stays (R170, R177). -/
theorem adjust_up {c : Channel} {s : State} (p : Entry → Bool) (up : (s.qlc.line c).state = .up) : adjust c p s = s := by
  simp [adjust, Qlc.usable, up]

/-- What waits for a DOWN channel while the other one is UP moves (R177). -/
theorem adjust_down {c : Channel} {s : State} (p : Entry → Bool) (down : (s.qlc.line c).state = .down)
    (otherUp : (s.qlc.line c.other).state = .up) :
    (adjust c p s).qlc.queue = updWhere (fun e => p e && !s.qlc.beingSent e.id c) (fun e => e.moved c) s.qlc.queue := by
  simp [adjust, Qlc.usable, down, otherUp]

theorem line_adjust (c d : Channel) (p : Entry → Bool) (s : State) : (adjust c p s).qlc.line d = s.qlc.line d :=
  line_congr d (by simp) (by simp)

/-- A channel that is DOWN already does not go DOWN again. -/
theorem channelDown_down {c : Channel} {s : State} (cause : DownCause) (down : (s.qlc.line c).state = .down) :
    channelDown c cause s = s := by
  simp [channelDown, down]

/-- An UP channel goes DOWN: its record, the count, the entry (R171, R184). -/
theorem channelDown_up {c : Channel} {s : State} (cause : DownCause) (up : (s.qlc.line c).state = .up) :
    (channelDown c cause s).qlc.line c = { s.qlc.line c with state := .down } ∧
    (channelDown c cause s).qlc.errors = s.qlc.errors.down c ∧
    s.journalled (channelDown c cause s) (.channelDown c cause) ∧
    channelDown c cause s = { s with qlc := (channelDown c cause s).qlc, evj := (channelDown c cause s).evj } := by
  refine ⟨?_, ?_, (by simpa [up] using wrote_channelDown c cause s : Wrote s _ [_]).all, State.ext_fields _ _ (by simp)⟩
  · simp only [channelDown, up, beq_self_eq_true, if_true, line_adjust]
    exact line_onLine_self c _ s
  · simp only [channelDown, up, beq_self_eq_true, if_true, adjust_qlc]
    cases c <;> rfl

/-! ### Transmit faults (R176) -/

theorem yieldAnnounce_afterLoss (c : Channel) (s : State) : yieldAnnounce c s = s.setQlc (s.qlc.afterLoss c) := by
  unfold yieldAnnounce Qlc.afterLoss
  cases (s.qlc.line c).sending with
  | none => rfl
  | some x => cases announces : x.frame.body.announces <;> simp only [announces, Option.any_some] <;> rfl

theorem line_afterLoss (q : Qlc) (c d : Channel) : (q.afterLoss c).line d = q.line d := by
  unfold Qlc.afterLoss
  split
  · cases d <;> rfl
  · rfl

theorem errors_afterLoss (q : Qlc) (c : Channel) : (q.afterLoss c).errors = q.errors := by
  unfold Qlc.afterLoss
  split <;> rfl

/-- A channel's record once its sending has failed. -/
def faultedLine (l : Line) : Line := { l with sending := none, faults := min 3 (l.faults + 1) }

/-- A fault below the third leaves the channel UP (R176). -/
theorem sendingFault_few {c : Channel} {s : State} (entry : Nat) (up : (s.qlc.line c).state = .up)
    (few : (s.qlc.line c).faults < 2) : sendingFault c entry s = onLine c faultedLine s := by
  have faults : ¬ 3 ≤ ((onLine c faultedLine s).qlc.line c).faults := by
    rw [line_onLine_self]
    simp [faultedLine]
    omega
  have stays : ((onLine c faultedLine s).qlc.line c).state = .up := by rw [line_onLine_self]; exact up
  have whole : sendingFault c entry s = adjust c (fun e => e.id == entry)
      (if 3 ≤ ((onLine c faultedLine s).qlc.line c).faults then channelDown c .faults (onLine c faultedLine s)
       else onLine c faultedLine s) := rfl
  rw [whole, if_neg faults, adjust_up _ stays]

/-- The third fault takes the channel DOWN (R171, R176). -/
theorem sendingFault_third {c : Channel} {s : State} (entry : Nat) (up : (s.qlc.line c).state = .up)
    (third : (s.qlc.line c).faults = 2) :
    (sendingFault c entry s).qlc.line c = { s.qlc.line c with state := .down, sending := none, faults := 3 } ∧
    (sendingFault c entry s).qlc.errors = s.qlc.errors.down c ∧
    s.journalled (sendingFault c entry s) (.channelDown c .faults) ∧
    sendingFault c entry s = { s with qlc := (sendingFault c entry s).qlc, evj := (sendingFault c entry s).evj } := by
  have line : (onLine c faultedLine s).qlc.line c = faultedLine (s.qlc.line c) := line_onLine_self _ _ _
  have stays : ((onLine c faultedLine s).qlc.line c).state = .up := by rw [line]; exact up
  have whole : sendingFault c entry s = adjust c (fun e => e.id == entry) (channelDown c .faults (onLine c faultedLine s)) := by
    have faults : 3 ≤ ((onLine c faultedLine s).qlc.line c).faults := by
      rw [line]
      simp [faultedLine, third]
    exact congrArg (adjust c _) (if_pos faults)
  obtain ⟨down, errors, wrote, -⟩ := channelDown_up .faults stays
  refine ⟨?_, ?_, ?_, State.ext_fields _ _ (by simp)⟩
  · rw [whole, line_adjust, down, line]
    simp [faultedLine, third]
  · rw [whole]
    simpa using errors
  · refine journalled_congr (t := channelDown c .faults (onLine c faultedLine s)) (by rw [whole]; simp) ?_
    exact wrote

/-- What a transmit fault and a medium that stays busy come to (R176). -/
theorem exec_fault {s : State} {c : Channel} {i : Instr} (up : s.up = true)
    (fault : i = .transmitFault c ∧ (s.qlc.line c).sending.isSome = true ∨
      i = .mediumBusyTimeout c ∧ (s.qlc.line c).sending = none ∧ (bestEntry c s.qlc.queue).isSome = true) :
    ∃ entry, exec i s = .next (sendingFault c entry (s.setQlc (s.qlc.afterLoss c))) := by
  obtain ⟨rfl, sends⟩ | ⟨rfl, idle, waits⟩ := fault
  · obtain ⟨x, sending⟩ := Option.isSome_iff_exists.1 sends
    refine ⟨x.entry, ?_⟩
    rw [← yieldAnnounce_afterLoss]
    simp only [exec, execTransmitFault, whenUp, up, if_true, sending]
  · obtain ⟨e, best⟩ := Option.isSome_iff_exists.1 waits
    refine ⟨e.id, ?_⟩
    have same : s.setQlc (s.qlc.afterLoss c) = s := by
      simp only [Qlc.afterLoss, idle, Option.any_none, Bool.false_eq_true, if_false]
      rfl
    rw [same]
    simp only [exec, execMediumBusyTimeout, whenUp, up, if_true, idle, Option.isSome_none, Bool.false_eq_true, if_false, best]

/-- A channel's record once its silence time has run out. -/
def silentLine (l : Line) : Line := { l with silent := true }

/-- The channel's silent mark set, at the end of its silence time. -/
def silenced (c : Channel) (s : State) : State := onLine c silentLine (reach (s.qlc.line c).silenceAt s)

theorem silenced_reads (s : State) (c : Channel) :
    (silenced c s).now = max s.now (s.qlc.line c).silenceAt ∧ (silenced c s).qlc.line c = silentLine (s.qlc.line c) :=
  ⟨by simp [silenced, reach], line_onLine_self _ _ _⟩

theorem exec_silenceTimer {s : State} {c : Channel} (up : s.up = true) (heard : (s.qlc.line c).silent = false) :
    exec (.silenceTimer c) s = .next
      (if (s.qlc.line c.other).lastFrame.any fun t => max s.now (s.qlc.line c).silenceAt ≤ t + 5000 then
        channelDown c .silence (silenced c s)
      else silenced c s) := by
  have other : (silenced c s).qlc.line c.other = s.qlc.line c.other :=
    line_onLine_of_other c _ _
  have now : (silenced c s).now = max s.now (s.qlc.line c).silenceAt := (silenced_reads s c).1
  simp only [exec, execSilenceTimer, whenUp, up, if_true, heard, Bool.false_eq_true, if_false]
  rw [← other, ← now]
  rfl

/-- Settles O44: a channel goes DOWN from UP alone, and what gives way to a faulted Announce goes first. -/
theorem faultsAndSilenceTakeChannelsDown : Obligations.FaultsAndSilenceTakeChannelsDown := by
  refine ⟨fun s c i up lineUp fault => ?_, fun s c up heard => ?_⟩
  · obtain ⟨entry, runs⟩ := exec_fault up fault
    have line : ((s.setQlc (s.qlc.afterLoss c)).qlc.line c) = s.qlc.line c := line_afterLoss _ c c
    refine ⟨_, runs, fun few => ?_, fun third => ?_⟩
    · rw [sendingFault_few entry (by rw [line]; exact lineUp) (by rw [line]; exact few)]
      have counted : faultedLine (s.qlc.line c) =
          { s.qlc.line c with sending := none, faults := (s.qlc.line c).faults + 1 } := by
        simp [faultedLine]
        omega
      rw [← counted, ← line]
      rfl
    · obtain ⟨down, errors, wrote, frame⟩ := sendingFault_third entry (by rw [line]; exact lineUp) (by rw [line]; exact third)
      rw [line] at down
      refine ⟨down, errors.trans (congrArg (·.down c) (errors_afterLoss _ _)), wrote, frame⟩
  · obtain ⟨now, line⟩ := silenced_reads s c
    have runs := exec_silenceTimer up heard
    split at runs
    · rename_i recent
      have after : (channelDown c .silence (silenced c s)).now = max s.now (s.qlc.line c).silenceAt := by simp [now]
      refine ⟨_, runs, after, fun lineUp _ => ?_, fun quiet => ?_, State.ext_fields _ _ (by simp [silenced])⟩
      · obtain ⟨down, errors, wrote, -⟩ := channelDown_up (c := c) (s := silenced c s) .silence (by rw [line]; exact lineUp)
        rw [line] at down
        exact ⟨down, by simpa [silenced] using errors, wrote⟩
      · rw [after] at quiet ⊢
        obtain down | old := quiet
        · rw [channelDown_down (s := silenced c s) .silence (by rw [line]; exact down)]
          rfl
        · exact absurd recent (by rw [old]; decide)
    · rename_i old
      refine ⟨_, runs, now, fun _ recent => absurd (now ▸ recent) old, fun _ => ?_, State.ext_fields _ _ (by simp [silenced])⟩
      rw [now]
      rfl

end Sys2Proof.Machine
end

section
/-! SUPPORT. Frames that are dropped, and what any frame with a good header does to the channels (R170, R171, R174, R184). -/

namespace Sys2Proof.Machine

/-! ### A frame heard (R170, R171) -/

/-- A channel's record once a frame has been received on it. -/
def heardLine (now : Nat) (l : Line) : Line :=
  { l with
    state := .up, faults := if l.state = .down then 0 else l.faults
    lastFrame := some now, silenceAt := now + 5000, silent := false }

/-- The channel of a frame heard, before the other one is looked at. -/
def woken (c : Channel) (s : State) : State :=
  if (s.qlc.line c).state = .down then report (.channelUp c) (onLine c (heardLine s.now) s) else onLine c (heardLine s.now) s

theorem woken_qlc (c : Channel) (s : State) :
    (woken c s).qlc = s.qlc.withLine c (heardLine s.now (s.qlc.line c)) ∧
    woken c s = { s with qlc := (woken c s).qlc, evj := (woken c s).evj } := by
  unfold woken
  split
  · exact ⟨by simp [onLine], State.ext_fields _ _ (by simp)⟩
  · exact ⟨rfl, State.ext_fields _ _ (by simp)⟩

theorem woken_wrote (c : Channel) (s : State) :
    WroteOnly s (woken c s) (if (s.qlc.line c).state = .down then [.channelUp c] else []) := by
  have heard : WroteOnly s (onLine c (heardLine s.now) s) [] := .same (by simp) (by simp)
  unfold woken
  split
  · exact heard.trans (wroteOnly_report _ _)
  · exact heard

theorem heardOn_woken (c : Channel) (s : State) :
    heardOn c s = if (s.qlc.line c.other).silent then channelDown c.other .silence (woken c s) else woken c s := by
  have other : (woken c s).qlc.line c.other = s.qlc.line c.other := by
    rw [(woken_qlc c s).1]
    cases c <;> rfl
  have whole : heardOn c s =
      if ((woken c s).qlc.line c.other).silent then channelDown c.other .silence (woken c s) else woken c s := by
    unfold heardOn woken
    simp only [beq_iff_eq]
    rfl
  rw [whole, other]

/-! ### The checks (R174) -/

theorem checkFrame_header {bytes : List Byte} (bad : headerGood bytes = false) : checkFrame bytes = .error .headerCheck := by
  simp [checkFrame, bad]

section
variable {bytes : List Byte} (header : headerGood bytes = true)
include header

theorem checkFrame_long (long : 48 < (byteAt bytes 4).toNat) : checkFrame bytes = .error .length := by
  simp [checkFrame, header, long]

variable (short : (byteAt bytes 4).toNat ≤ 48)
include short

theorem checkFrame_payload (bad : payloadGood bytes = false) : checkFrame bytes = .error .payloadCheck := by
  simp [checkFrame, header, Nat.not_lt.2 short, bad]

variable (payload : payloadGood bytes = true)
include payload

theorem checkFrame_kind (unknown : kindPriority (byteAt bytes 1).toNat ≠ some ((byteAt bytes 0).toNat / 32)) :
    checkFrame bytes = .error .unknownKind := by
  simp [checkFrame, header, Nat.not_lt.2 short, payload, unknown]

theorem checkFrame_length (known : kindPriority (byteAt bytes 1).toNat = some ((byteAt bytes 0).toNat / 32))
    (bad : kindLengthOk (byteAt bytes 1).toNat (byteAt bytes 4).toNat = false) : checkFrame bytes = .error .length := by
  simp [checkFrame, header, Nat.not_lt.2 short, payload, known, bad]

end

/-! ### What a dropped frame leaves -/

theorem exec_dropped {s t : State} {c : Channel} {bytes : List Byte} (up : s.up = true) (fits : s.fits)
    (takes : takeWire c bytes s = t) (frame : t = { s with qlc := t.qlc, evj := t.evj }) :
    exec (.quaylineFrameDropped c bytes) s = .next t := by
  have quiet : settled s t = t := settled_same s t (by rw [frame]) (by rw [frame]) (by rw [frame]; rfl) fits
  simp only [exec, execQuaylineFrameDropped, event, whenUp, up, if_true, takes, quiet]

theorem takeWire_error {bytes : List Byte} {e : FrameError} (fails : checkFrame bytes = .error e)
    (header : e ≠ .headerCheck) (c : Channel) (s : State) :
    takeWire c bytes s = onErrors (FrameError.count e) (heardOn c s) := by
  unfold takeWire
  rw [fails]
  cases e
  case headerCheck => exact absurd rfl header
  all_goals rfl

theorem takeWire_clash {bytes : List Byte} {f : WireFrame} {c : Channel} {s : State} (good : checkFrame bytes = .ok f)
    (own : f.source = s.cfg.station) : takeWire c bytes s = report (.stationClash c) (heardOn c s) := by
  unfold takeWire
  rw [good]
  simp [own]

theorem takeWire_foreign {bytes : List Byte} {f : WireFrame} {c : Channel} {s : State} (good : checkFrame bytes = .ok f)
    (source : f.source ≠ s.cfg.station) (wide : f.destination ≠ 0) (foreign : f.destination ≠ s.cfg.station) :
    takeWire c bytes s = heardOn c s := by
  unfold takeWire
  rw [good]
  simp [source, wide, foreign]

/-- What a command leaves that wakes the channel and ends with an error summary and some entries. -/
abbrev WakesTo (s : State) (c : Channel) (bytes : List Byte) (errors : ErrorSummary) (notes : List Report) : Prop :=
  ∃ t, exec (.quaylineFrameDropped c bytes) s = .next t ∧
    s.journalledAll t ((if (s.qlc.line c).state = .down then [.channelUp c] else []) ++ notes) ∧
    ((if (s.qlc.line c).state = .down then [.channelUp c] else []) ++ notes = [] → t.evj = s.evj) ∧
    t = { s with
      qlc := { s.qlc.withLine c (heardLine s.now (s.qlc.line c)) with errors := errors }, evj := t.evj }

theorem heardOn_calm {s : State} {c : Channel} (calm : (s.qlc.line c.other).silent = false) : heardOn c s = woken c s := by
  rw [heardOn_woken, calm]
  rfl

/-- What follows the waking of the channel counts at most an error and writes entries. -/
theorem wakesTo_of {s t : State} {c : Channel} {bytes : List Byte} {errors : ErrorSummary} {notes : List Report}
    (up : s.up = true) (fits : s.fits) (takes : takeWire c bytes s = t) (wrote : WroteOnly (woken c s) t notes)
    (frame : t = { woken c s with qlc := { (woken c s).qlc with errors := errors }, evj := t.evj }) :
    WakesTo s c bytes errors notes := by
  obtain ⟨qlc, wokenFrame⟩ := woken_qlc c s
  have whole : t = { s with
      qlc := { s.qlc.withLine c (heardLine s.now (s.qlc.line c)) with errors := errors }, evj := t.evj } := by
    rw [← qlc, frame]
    exact State.ext_fields _ _ (by rw [wokenFrame]; simp)
  obtain ⟨all, silent⟩ := (woken_wrote c s).trans wrote
  exact ⟨t, exec_dropped up fits takes (by rw [whole]), all.all, silent, whole⟩

/-- Settles O46: the checks in their order, the channel woken, the other one silenced. -/
theorem badFramesAreCountedAndDropped : Obligations.BadFramesAreCountedAndDropped := by
  intro s c bytes up fits
  obtain ⟨qlc, frame⟩ := woken_qlc c s
  have errors : (woken c s).qlc.errors = s.qlc.errors := by rw [qlc]; cases c <;> rfl
  refine ⟨fun bad => ?_, fun calm => ?_, fun f good source wide foreign silent otherUp => ?_⟩
  · refine exec_dropped up fits ?_ rfl
    simp only [takeWire, checkFrame_header bad]
    rfl
  · have heard := heardOn_calm calm
    have counts {e : FrameError} (fails : checkFrame bytes = .error e) (header : e ≠ .headerCheck) :
        WakesTo s c bytes (FrameError.count e s.qlc.errors) [] := by
      refine wakesTo_of up fits ((takeWire_error fails header c s).trans (congrArg _ heard)) (.same rfl rfl) ?_
      rw [← errors]
      rfl
    refine ⟨fun header long => counts (checkFrame_long header long) nofun,
      fun header short bad => counts (checkFrame_payload header short bad) nofun,
      fun header short payload => ⟨fun unknown => counts (checkFrame_kind header short payload unknown) nofun,
        fun known bad => counts (checkFrame_length header short payload known bad) nofun⟩,
      fun f good => ⟨fun own => ?_, fun source wide foreign => ?_⟩⟩
    · exact wakesTo_of up fits ((takeWire_clash good own).trans (congrArg _ heard)) (wroteOnly_report _ _)
        (by rw [← errors]; exact State.ext_fields _ _ (by simp))
    · exact wakesTo_of up fits ((takeWire_foreign good source wide foreign).trans heard) (.same rfl rfl)
        (by rw [← errors])
  · have line : (woken c s).qlc.line c.other = s.qlc.line c.other := by rw [qlc]; cases c <;> rfl
    have self : (woken c s).qlc.line c = heardLine s.now (s.qlc.line c) := by rw [qlc, line_withLine_self]
    have taken : takeWire c bytes s = channelDown c.other .silence (woken c s) := by
      rw [takeWire_foreign good source wide foreign, heardOn_woken, if_pos silent]
    obtain ⟨down, counted, -, downFrame⟩ := channelDown_up (c := c.other) (s := woken c s) .silence (by rw [line]; exact otherUp)
    have wrote := (woken_wrote c s).1.trans (wrote_channelDown c.other .silence (woken c s))
    rw [line, if_pos otherUp] at wrote
    have whole : channelDown c.other .silence (woken c s) = { s with
        qlc := (channelDown c.other .silence (woken c s)).qlc, evj := (channelDown c.other .silence (woken c s)).evj } := by
      refine State.ext_fields _ _ ?_
      rw [frame]
      simp
    refine ⟨_, exec_dropped up fits taken whole, (line_channelDown_other c .silence _).trans self, ?_, ?_, ?_, wrote.all, whole⟩
    · rw [down, line]
    · rw [counted, errors]
    · have heard : channelDown c.other .silence (woken c s) = heardOn c s := by rw [heardOn_woken, if_pos silent]
      rw [heard, (heardOn_moves c s).1]
      refine List.map_congr_left fun e _ => ?_
      have silences : s.silences c = true := by simp [State.silences, silent, otherUp]
      cases sent : s.qlc.beingSent e.id c.other <;> simp [State.strands, silences, sent, moved_eq]

end Sys2Proof.Machine
end

section
/-! SUPPORT. The transmit queue and the transmitters (R170, R175 to R179, R181 to R184), and the bytes on the channel (R172). -/

namespace Sys2Proof.Machine

/-! ### Usable channels (R170) -/

theorem usable_iff (q : Qlc) (c : Channel) :
    q.usable c = true ↔ (q.line c).state = .up ∨ ((q.line .a).state = .down ∧ (q.line .b).state = .down) := by
  unfold Qlc.usable
  cases c <;> cases first : (q.line .a).state <;> cases second : (q.line .b).state <;>
    simp [Channel.other, first, second]

/-! ### Taking a frame into the queue (R175, R177, R178, R181) -/

theorem freeSequence_eq (used : List Num8) (n : Num8) (k : Nat) :
    freeSequence used n k = freeNumber used n k := by
  induction k generalizing n with
  | zero => rfl
  | succ k ih => simp only [freeSequence, freeNumber, ih]

/-- With room in the table the sequence given is one that no request of it has (R178). -/
theorem askedRequest_fresh {s : State} (destination : Nat) (body : FrameBody) (originator : Originator)
    (table : s.qlc.requests.length < 8) :
    (askedRequest destination body originator s).sequence ∉ s.qlc.requests.map Pending.sequence := by
  have few : (s.qlc.requests.map Pending.sequence).length ≤ 9 := by
    rw [List.length_map]
    omega
  have fresh := freeNumber_fresh (n := s.qlc.sequence) few (by omega)
  rwa [← freeSequence_eq] at fresh

/-- Where no request has the counter's value that one is given (R178). -/
theorem askedRequest_next {s : State} (destination : Nat) (body : FrameBody) (originator : Originator)
    (free : s.qlc.sequence ∉ s.qlc.requests.map Pending.sequence) :
    (askedRequest destination body originator s).sequence = s.qlc.sequence := by
  have unused : (s.qlc.requests.map Pending.sequence).contains s.qlc.sequence = false := by simpa using free
  simp only [askedRequest, freeSequence, unused, Bool.false_eq_true, if_false]

/-! ### The entry sent next (R175) -/

/-- One step of the choice of the entry to send. -/
def betterEntry (c : Channel) (best : Option Entry) (e : Entry) : Option Entry :=
  if e.on c then
    match best with
    | some b => if e.frame.body.priority < b.frame.body.priority then some e else some b
    | none => some e
  else best

theorem bestEntry_eq (c : Channel) (l : List Entry) : bestEntry c l = l.foldl (betterEntry c) none := rfl

/-- What the choice has come to once a list has been gone through: the first, of those for the channel, of its priority, and
none is before it in rank. -/
def ChosenFrom (c : Channel) (l : List Entry) (best : Option Entry) : Prop :=
  match best with
  | none => ∀ x ∈ l, x.on c = false
  | some e => l.find? (fun x => x.on c && x.frame.body.priority == e.frame.body.priority) = some e ∧
      ∀ x ∈ l, x.on c = true → e.frame.body.priority ≤ x.frame.body.priority

theorem chosenFrom_step {c : Channel} {l : List Entry} {best : Option Entry} (e : Entry) (h : ChosenFrom c l best) :
    ChosenFrom c (l ++ [e]) (betterEntry c best e) := by
  have later {p : Entry → Prop} (old : ∀ x ∈ l, p x) (new : p e) : ∀ x ∈ l ++ [e], p x := by
    intro x mem
    obtain mem | mem := List.mem_append.1 mem
    · exact old x mem
    · exact List.mem_singleton.1 mem ▸ new
  unfold betterEntry
  cases stands : e.on c
  · cases best with
    | none => exact later h stands
    | some b =>
      obtain ⟨first, least⟩ := h
      exact ⟨by rw [List.find?_append, first]; rfl, later least fun on => absurd (stands.symm.trans on) nofun⟩
  · cases best with
    | none =>
      have none_old : l.find? (fun x => x.on c && x.frame.body.priority == e.frame.body.priority) = none := by
        refine List.find?_eq_none.2 fun x mem => ?_
        rw [show x.on c = false from h x mem]
        simp
      exact ⟨by simp [List.find?_append, none_old, stands],
        later (fun x mem on => absurd ((h x mem).symm.trans on) nofun) fun _ => le_refl _⟩
    | some b =>
      obtain ⟨first, least⟩ := h
      simp only [if_true]
      split
      · rename_i ahead
        have none_old : l.find? (fun x => x.on c && x.frame.body.priority == e.frame.body.priority) = none := by
          refine List.find?_eq_none.2 fun x mem found => ?_
          obtain ⟨on, same⟩ : x.on c = true ∧ x.frame.body.priority = e.frame.body.priority := by simpa using found
          exact absurd (least x mem on) (by omega)
        exact ⟨by simp [List.find?_append, none_old, stands],
          later (fun x mem on => ahead.le.trans (least x mem on)) fun _ => le_refl _⟩
      · rename_i behind
        exact ⟨by rw [List.find?_append, first]; rfl, later least fun _ => Nat.not_lt.1 behind⟩

theorem bestEntry_chosen (c : Channel) (l : List Entry) : ChosenFrom c l (bestEntry c l) := by
  have chosen (done todo : List Entry) (best : Option Entry) (h : ChosenFrom c done best) :
      ChosenFrom c (done ++ todo) (todo.foldl (betterEntry c) best) := by
    induction todo generalizing done best with
    | nil => simpa using h
    | cons e rest ih => simpa using ih (done ++ [e]) _ (chosenFrom_step e h)
  exact chosen [] l none fun _ mem => absurd mem List.not_mem_nil

/-! ### The bytes on the channel (R172) -/

theorem byteAt_append {l m : List Byte} {n : Nat} (i : Nat) (h : l.length = n) : byteAt (l ++ m) (n + i) = byteAt m i := by
  subst h
  simp [byteAt, List.getD_eq_getElem?_getD, List.getElem?_append_right]

theorem kindPriority_bounds {code priority : Nat} (h : kindPriority code = some priority) : priority < 8 ∧ code < 256 := by
  unfold kindPriority at h
  split at h <;> cases h <;> omega

/-- The six bytes of a frame's header (R172). -/
def headerBytes (priority : Nat) (w : WireFrame) : List Byte :=
  let head : List Byte := [BitVec.ofNat 8 (32 * priority + w.source), BitVec.ofNat 8 w.code,
    BitVec.ofNat 8 w.destination, w.sequence, BitVec.ofNat 8 w.payload.length]
  head ++ [crc8 head]

/-- The payload of a frame and its check (R172). -/
def payloadBytesOf (w : WireFrame) : List Byte :=
  if w.payload.isEmpty then [] else w.payload ++ highLow (crc16 w.payload)

theorem wireBytes_eq (priority : Nat) (w : WireFrame) :
    wireBytes priority w = headerBytes priority w ++ payloadBytesOf w := rfl

theorem drop_wireBytes (priority : Nat) (w : WireFrame) : (wireBytes priority w).drop 6 = payloadBytesOf w := rfl

theorem take_payloadBytesOf (w : WireFrame) : (payloadBytesOf w).take w.payload.length = w.payload := by
  unfold payloadBytesOf
  split
  · rename_i empty
    simp [List.isEmpty_iff.1 empty]
  · simp

theorem payloadGood_wireBytes (priority : Nat) (w : WireFrame) (short : w.payload.length ≤ 48) :
    payloadGood (wireBytes priority w) = true := by
  have size : (byteAt (wireBytes priority w) 4).toNat = w.payload.length := by
    have : (byteAt (wireBytes priority w) 4).toNat = w.payload.length % 256 := rfl
    omega
  by_cases empty : w.payload.length = 0
  · simp [payloadGood, size, empty]
  · have present : w.payload.isEmpty = false := by simpa [List.isEmpty_iff, List.length_eq_zero_iff] using empty
    have whole : wireBytes priority w = (headerBytes priority w ++ w.payload) ++ highLow (crc16 w.payload) := by
      rw [wireBytes_eq, payloadBytesOf, present, List.append_assoc]
      rfl
    have head : (headerBytes priority w ++ w.payload).length = 6 + w.payload.length := by
      rw [List.length_append]
      rfl
    have high : byteAt (wireBytes priority w) (6 + w.payload.length) = (highLow (crc16 w.payload)).getD 0 0 := by
      rw [whole]
      exact byteAt_append 0 head
    have low : byteAt (wireBytes priority w) (7 + w.payload.length) = (highLow (crc16 w.payload)).getD 1 0 := by
      rw [whole, show 7 + w.payload.length = 6 + w.payload.length + 1 by omega]
      exact byteAt_append 1 head
    have long : w.payload.length + 8 ≤ (wireBytes priority w).length := by
      rw [whole, List.length_append, head]
      simp [highLow]
      omega
    simp only [payloadGood, size, drop_wireBytes, take_payloadBytesOf, high, low, word16_highLow, long]
    simp

theorem checkFrame_wireBytes (priority : Nat) (w : WireFrame) (kind : kindPriority w.code = some priority)
    (source : w.source ≤ 31) (destination : w.destination ≤ 255) (length : kindLengthOk w.code w.payload.length = true) :
    checkFrame (wireBytes priority w) = .ok w := by
  obtain ⟨top, small⟩ := kindPriority_bounds kind
  have short := kindLengthOk_le _ _ length
  have first : (byteAt (wireBytes priority w) 0).toNat = 32 * priority + w.source := by
    have : (byteAt (wireBytes priority w) 0).toNat = (32 * priority + w.source) % 256 := rfl
    omega
  have code : (byteAt (wireBytes priority w) 1).toNat = w.code := by
    have : (byteAt (wireBytes priority w) 1).toNat = w.code % 256 := rfl
    omega
  have target : (byteAt (wireBytes priority w) 2).toNat = w.destination := by
    have : (byteAt (wireBytes priority w) 2).toNat = w.destination % 256 := rfl
    omega
  have size : (byteAt (wireBytes priority w) 4).toNat = w.payload.length := by
    have : (byteAt (wireBytes priority w) 4).toNat = w.payload.length % 256 := rfl
    omega
  have sequence : byteAt (wireBytes priority w) 3 = w.sequence := rfl
  have above : (32 * priority + w.source) / 32 = priority := by omega
  have below : (32 * priority + w.source) % 32 = w.source := by omega
  simp only [checkFrame, headerGood_wireBytes, payloadGood_wireBytes priority w short, first, code, target, size, sequence,
    above, below, kind, length, drop_wireBytes, take_payloadBytesOf]
  simp [short]

/-! ### The transmitters -/

/-- What a transmitter is sending, and since the event its sending began (R175, R183). -/
theorem exec_transmitStart {s : State} {c : Channel} {e : Entry} (up : s.up = true) (free : (s.qlc.line c).sending = none)
    (best : bestEntry c s.qlc.queue = some e) :
    exec (.transmitStart c) s = .next (s.setQlc (s.qlc.withLine c { s.qlc.line c with
      sending := some ⟨e.id, Frame.withValues e.frame s.announceValues⟩ })) := by
  simp only [exec, execTransmitStart, whenUp, up, if_true, beginSending, free, Option.isSome_none, Bool.false_eq_true,
    if_false, best]
  rfl

theorem withValues_eq (f : Frame) (v : AnnounceBody) :
    Frame.withValues f v = if f.body.announces then { f with body := .announce (some v) } else f := by
  obtain ⟨destination, sequence, body⟩ := f
  cases body <;> rfl

/-- A completed transmission but for the error counts (R176, R179). -/
def sentQlc (c : Channel) (x : Sending) (s : State) : Qlc :=
  { s.qlc.withLine c { s.qlc.line c with sending := none, faults := 0 } with
    queue := (updWhere (fun e => e.id == x.entry) (fun e => e.without c) s.qlc.queue).filter fun e => e.onA || e.onB
    requests := updWhere (fun p => p.entry == some x.entry)
      (fun p => { p with deadline := some (s.now + s.cfg.responseTimeout), entry := none }) s.qlc.requests
    leftovers := s.qlc.leftovers.filter fun l => l.entry != x.entry }

theorem sentQlc_line (c : Channel) (x : Sending) (s : State) :
    (sentQlc c x s).line c = { s.qlc.line c with sending := none, faults := 0 } ∧
    (sentQlc c x s).line c.other = s.qlc.line c.other := by
  cases c <;> exact ⟨rfl, rfl⟩

theorem sentQlc_rest (c : Channel) (x : Sending) (s : State) :
    sentQlc c x s = { s.qlc with
      lineA := (sentQlc c x s).lineA, lineB := (sentQlc c x s).lineB, queue := (sentQlc c x s).queue
      requests := (sentQlc c x s).requests, leftovers := s.qlc.leftovers.filter fun l => l.entry != x.entry } := by
  cases c <;> rfl

theorem endSending_announce {s : State} {c : Channel} {x : Sending} {v : AnnounceBody}
    (sends : (s.qlc.line c).sending = some x) (body : x.frame.body = .announce (some v)) :
    endSending c s = s.setQlc { sentQlc c x s with errors := s.qlc.errors.less v.errors } := by
  unfold endSending
  rw [sends]
  simp only [body]
  cases c <;> rfl

theorem endSending_plain {s : State} {c : Channel} {x : Sending} (sends : (s.qlc.line c).sending = some x)
    (body : ∀ v, x.frame.body ≠ .announce (some v)) : endSending c s = s.setQlc (sentQlc c x s) := by
  unfold endSending
  rw [sends]
  dsimp only
  split
  · exact absurd ‹_› (body _)
  · cases c <;> rfl

theorem endSending_leaves {s : State} {c : Channel} {x : Sending} (sends : (s.qlc.line c).sending = some x) :
    ∃ errors, endSending c s = s.setQlc { sentQlc c x s with errors := errors } ∧
      (∀ v, x.frame.body = .announce (some v) → errors = s.qlc.errors.less v.errors) ∧
      ((∀ v, x.frame.body ≠ .announce (some v)) → errors = s.qlc.errors) := by
  by_cases announce : ∃ v, x.frame.body = .announce (some v)
  · obtain ⟨v, body⟩ := announce
    exact ⟨_, endSending_announce sends body, fun w same => by cases body.symm.trans same; rfl, fun plain => absurd body (plain v)⟩
  · have plain : ∀ v, x.frame.body ≠ .announce (some v) := fun v body => announce ⟨v, body⟩
    refine ⟨s.qlc.errors, (endSending_plain sends plain).trans ?_, fun v body => absurd body (plain v), fun _ => rfl⟩
    rw [sentQlc_rest]

/-! ### Joining the queue -/

section
variable (s : State) (c : Channel) (destination : Nat) (sequence : Num8) (body : FrameBody)

/-- QLC with a frame that has joined its queue (R175). -/
def joinedQlc (f : Frame) (onA onB : Bool) : Qlc :=
  { s.qlc with queue := s.qlc.queue ++ [⟨s.qlc.nextEntry, f, onA, onB⟩], nextEntry := s.qlc.nextEntry + 1 }

theorem joins_room (room : s.qlc.queue.length < 16) :
    broadcast body s = (s.setQlc (joinedQlc s ⟨0, 0, body⟩ (s.qlc.usable .a) (s.qlc.usable .b)), true) ∧
    sendAnswer c destination sequence body s =
      s.setQlc (joinedQlc s ⟨destination, sequence, body⟩ (s.qlc.prefer c == .a) (s.qlc.prefer c == .b)) := by
  simp only [broadcast, sendAnswer, enqueueOn, enqueue, room, if_true]
  exact ⟨rfl, rfl⟩

theorem joins_full (full : 16 ≤ s.qlc.queue.length) (originator : Originator) :
    broadcast body s = (s.setQlc { s.qlc with errors := s.qlc.errors.full }, false) ∧
    sendAnswer c destination sequence body s = s.setQlc { s.qlc with errors := s.qlc.errors.full } ∧
    (s.qlc.requests.length < 8 →
      ask destination body originator s = (s.setQlc { s.qlc with errors := s.qlc.errors.full }, false)) := by
  have none (f : Frame) (a b : Bool) : enqueue f a b s = (s.setQlc { s.qlc with errors := s.qlc.errors.full }, none) :=
    enqueue_full f a b s (Nat.not_lt.2 full)
  refine ⟨by simp [broadcast, none], by simp [sendAnswer, enqueueOn, none], fun table => ?_⟩
  simp [ask, Nat.not_le.2 table, enqueueOn, none]

end

/-- Settles O43: each clause is one operation of QLC. -/
theorem transmittersServeTheQueue : Obligations.TransmittersServeTheQueue := by
  refine ⟨fun q c => ⟨usable_iff q c, by cases c <;> rfl⟩, fun s c destination sequence body originator => ?_,
    fun s c e up free best => ?_, fun s c x up sends => ?_, fun s c up => ?_, fun s c x sends => ?_, checkFrame_wireBytes⟩
  · refine ⟨fun room => ?_, fun full => joins_full s c destination sequence body full originator, fun busy => if_pos busy⟩
    obtain ⟨wide, answer⟩ := joins_room s c destination sequence body room
    exact ⟨wide, answer, fun table => ⟨(askedRequest destination body originator s).sequence,
      askedRequest_fresh destination body originator table, askedRequest_next destination body originator,
      ask_room destination body originator table room⟩⟩
  · obtain ⟨first, least⟩ : ChosenFrom c s.qlc.queue (some e) := best ▸ bestEntry_chosen c s.qlc.queue
    refine ⟨first, least, ?_⟩
    rw [exec_transmitStart up free best, withValues_eq]
    rfl
  · obtain ⟨errors, ends, lowered, kept⟩ := endSending_leaves sends
    obtain ⟨self, other⟩ := sentQlc_line c x s
    have runs : exec (.transmitComplete c) s = .next (endSending c s) := by
      simp only [exec, execTransmitComplete, whenUp, up, if_true]
    rw [ends] at runs
    refine ⟨_, runs, ?_, ?_, ?_, ?_, fun v body => ?_, kept, ?_, rfl⟩
    · exact self
    · simp [sentQlc, updWhere]
    · simp [sentQlc, updWhere]
    · exact other
    · exact lowered v body
    · simp only [State.setQlc_qlc]
      rw [sentQlc_rest]
  · simp only [exec, execArbitrationLost, whenUp, up, if_true, yieldAnnounce_afterLoss]
    have line : (s.setQlc (s.qlc.afterLoss c)).qlc.line c = s.qlc.line c := line_afterLoss _ c c
    rw [onLine, line]
    rfl
  · refine ⟨(priority_range x.frame.body).1, ?_, ?_⟩
    · rw [payload_length]
      exact payloadLength_ok x.frame.body
    · simp only [State.sentBytes, sends]
      rfl

end Sys2Proof.Machine
end

section
/-! SUPPORT. A lookup result delivered to the readers that wait for it (R112, R126, R132 to R134). -/

namespace Sys2Proof.Machine

/-! ### At a gate (R132 to R134) -/

theorem deliverGate_unlocked {s : State} {n : Nat} {g : Gate} {tag : Tag} {r : LookupResult} (reads : s.gate? n = some g)
    (unlocked : g.state = .unlocked) : deliverGate n tag r s = s := by
  simp [deliverGate, reads, unlocked]

/-- A gate that a decision lets someone through (R132). -/
def passedGate (now : Nat) (g : Gate) : Gate :=
  if g.state = .locked ∨ g.state = .released then
    { g with state := .released, strike := .released, releaseAt := some (now + g.cfg.releaseTime * 1000) }
  else g

/-- The strike released where the gate is LOCKED or RELEASED. -/
def passing (n : Nat) (g : Gate) (s : State) : State :=
  if g.state == .locked || g.state == .released then releaseGate n s else s

theorem passing_moves {s : State} {n : Nat} {g : Gate} (reads : s.gate? n = some g) :
    GateMoved s (passing n g s) n (passedGate s.now g) ∧ WroteOnly s (passing n g s) [] := by
  have stays := gateMoved_same (t := s) reads rfl
  by_cases moves : g.state = .locked ∨ g.state = .released
  · have released : passing n g s = releaseGate n s := if_pos (by simpa using moves)
    rw [released, passedGate, if_pos moves]
    exact ⟨stays.change fun x =>
      { x with state := .released, strike := .released, releaseAt := some (s.now + x.cfg.releaseTime * 1000) },
      .same rfl rfl⟩
  · have same : passing n g s = s := if_neg (by simpa using moves)
    rw [same, passedGate, if_neg moves]
    exact ⟨stays, .same rfl rfl⟩

/-- The escort notice of a credential with a count (R134). -/
def escortNotice (clock : Option DayTime) (c : Credential) (count : Nat) : EscortNotice :=
  ⟨c.tag, c.owner, (c.booking.map CredBooking.berth).getD 0, (c.booking.map CredBooking.serial).getD 0, clock, count⟩

/-- A gate that holds an escort notice. -/
def escorted (notice : EscortNotice) (g : Gate) : Gate := { g with escort := some notice }

/-- EVJ looks at the attention line again, and writes nothing. -/
theorem Wrote.lookAgain {s t : State} {notes : List Report} (wrote : Wrote s t notes) : Wrote s (lookAgain t) notes := by
  obtain ⟨dck, _, evj⟩ := wrote
  exact ⟨dck, t.attentionDue, by rw [Machine.lookAgain, State.setEvj_evj, evj]; rfl⟩

theorem raiseEscort_moves {s t : State} {n : Nat} {g x : Gate} {notes : List Report} (c : Credential)
    (moved : GateMoved s t n x) (escort : x.escort = g.escort) (wrote : Wrote s t notes) :
    GateMoved s (raiseEscort n c t) n (escorted (escortNotice s.dck.clock c
      (min 255 ((g.escort.map EscortNotice.count).getD 0 + 1))) x) ∧
    Wrote s (raiseEscort n c t) (notes ++
      if g.escort = none then [.escort c.tag n c.owner ((c.booking.map CredBooking.berth).getD 0)] else []) := by
  have clock : t.dck.clock = s.dck.clock := congrArg Dck.clock wrote.1
  have raised (count : Nat) : GateMoved s (changeGate n (escorted (escortNotice t.dck.clock c count)) t) n
      (escorted (escortNotice s.dck.clock c count) x) := by
    rw [← clock]
    exact moved.change (escorted (escortNotice t.dck.clock c count))
  have quiet (count : Nat) : Wrote s (changeGate n (escorted (escortNotice t.dck.clock c count)) t) notes :=
    wrote.quiet rfl rfl
  have reads : t.gate? n = some x := moved.1
  cases notice : g.escort with
  | none =>
    have whole : raiseEscort n c t = report (.escort c.tag n c.owner ((c.booking.map CredBooking.berth).getD 0))
        (changeGate n (escorted (escortNotice t.dck.clock c 1)) t) := by
      simp only [raiseEscort, reads, Option.bind_some, escort, notice]
      rfl
    rw [whole]
    exact ⟨(raised 1).report _, (quiet 1).report _⟩
  | some old =>
    have whole : raiseEscort n c t =
        lookAgain (changeGate n (escorted (escortNotice t.dck.clock c (min 255 (old.count + 1)))) t) := by
      simp only [raiseEscort, reads, Option.bind_some, escort, notice]
      rfl
    rw [whole]
    refine ⟨(raised _).same (by simp), ?_⟩
    simpa using (quiet _).lookAgain

theorem deliverGate_moves {s : State} {n : Nat} {g : Gate} (tag : Tag) (r : LookupResult) (reads : s.gate? n = some g)
    (decides : g.state ≠ .unlocked) :
    GateMoved s (deliverGate n tag r s) n (s.gateAfter g r) ∧ WroteOnly s (deliverGate n tag r s) (s.gateNotes g tag r) := by
  have number := gate?_number reads
  have whole : deliverGate n tag r s = record n tag r (decision s.cfg.station g s.dck.clock r)
      (match decision s.cfg.station g s.dck.clock r with
        | .deny _ => s
        | _ => passing n g s) := by
    simp only [deliverGate, reads, beq_iff_eq, decides, if_false]
    rfl
  obtain ⟨passed, quiet⟩ := passing_moves reads
  have stays := gateMoved_same (t := s) reads rfl
  rw [whole]
  cases decided : decision s.cfg.station g s.dck.clock r with
  | grant =>
    have after : s.gateAfter g r = { passedGate s.now g with grants := bumpTop (passedGate s.now g).grants } := by
      by_cases moves : g.state = .locked ∨ g.state = .released <;>
        simp [State.gateAfter, decided, passedGate, moves, bumpTop, satAdd]
    have notes : s.gateNotes g tag r = [] := by simp only [State.gateNotes, decided]
    rw [after, notes]
    exact ⟨passed.change fun x => { x with grants := bumpTop x.grants },
      quiet.trans (.same rfl rfl)⟩
  | logged why =>
    have after : s.gateAfter g r = { passedGate s.now g with logged := bumpTop (passedGate s.now g).logged } := by
      by_cases moves : g.state = .locked ∨ g.state = .released <;>
        simp [State.gateAfter, decided, passedGate, moves, bumpTop, satAdd]
    have notes : s.gateNotes g tag r = [.accessLogged tag (accessDetail n r) why] := by
      simp only [State.gateNotes, decided, number]
      cases r <;> rfl
    rw [after, notes]
    exact ⟨(passed.change fun x => { x with logged := bumpTop x.logged }).report _,
      quiet.trans ((WroteOnly.same rfl rfl).trans (wroteOnly_report _ _))⟩
  | deny why =>
    have denied : GateMoved s (report (.accessDenied tag (accessDetail n r) why)
        (changeGate n (fun x => { x with denials := bumpTop x.denials }) s)) n { g with denials := bumpTop g.denials } :=
      (stays.change fun x => { x with denials := bumpTop x.denials }).report _
    have wrote : WroteOnly s (report (.accessDenied tag (accessDetail n r) why)
        (changeGate n (fun x => { x with denials := bumpTop x.denials }) s)) [.accessDenied tag (accessDetail n r) why] :=
      (WroteOnly.same rfl rfl).trans (wroteOnly_report _ _)
    have plain (other : why ≠ .barred ∨ r = .unknown ∨ r = .noAnswer) :
        s.gateAfter g r = { g with denials := bumpTop g.denials } ∧
        s.gateNotes g tag r = [.accessDenied tag (accessDetail n r) why] ∧
        record n tag r (.deny why) s = report (.accessDenied tag (accessDetail n r) why)
          (changeGate n (fun x => { x with denials := bumpTop x.denials }) s) := by
      simp only [State.gateAfter, State.gateNotes, record, decided, number]
      obtain other | rfl | rfl := other
      · cases why <;> cases r <;> first | exact absurd rfl other | exact ⟨rfl, rfl, rfl⟩
      · cases why <;> exact ⟨rfl, rfl, rfl⟩
      · cases why <;> exact ⟨rfl, rfl, rfl⟩
    by_cases other : why ≠ .barred ∨ r = .unknown ∨ r = .noAnswer
    · obtain ⟨after, notes, recorded⟩ := plain other
      simp only [after, notes, recorded]
      exact ⟨denied, wrote⟩
    · obtain ⟨rfl, c, source, rfl⟩ : why = .barred ∧ ∃ c source, r = .found c source := by
        simp only [not_or, ne_eq, not_not] at other
        cases r with
        | found c source => exact ⟨other.1, c, source, rfl⟩
        | unknown => exact absurd rfl other.2.1
        | noAnswer => exact absurd rfl other.2.2
      have notes : s.gateNotes g tag (.found c source) = [.accessDenied tag (accessDetail n (.found c source)) .barred] ++
          if g.escort = none then [.escort c.tag n c.owner ((c.booking.map CredBooking.berth).getD 0)] else [] := by
        simp only [State.gateNotes, decided, number]
        rfl
      have after : s.gateAfter g (.found c source) = escorted (escortNotice s.dck.clock c
          (min 255 ((g.escort.map EscortNotice.count).getD 0 + 1))) { g with denials := bumpTop g.denials } := by
        simp only [State.gateAfter, decided]
        rfl
      obtain ⟨moved, written⟩ := raiseEscort_moves c denied (g := g) rfl wrote.1
      rw [after, notes]
      exact ⟨moved, written, fun none => absurd none (by simp)⟩

/-- What a delivery at a gate comes to, in the words of the statements. -/
theorem deliverGate_delivered {s : State} {n : Nat} {g : Gate} (tag : Tag) (r : LookupResult)
    (reads : s.gate? n = some g) : s.gateDelivered (deliverGate n tag r s) n g tag r := by
  refine ⟨fun unlocked => ?_, fun decides => ?_⟩
  · rw [deliverGate_unlocked reads unlocked]
    exact ⟨rfl, rfl⟩
  · obtain ⟨⟨after, others⟩, wrote⟩ := deliverGate_moves tag r reads decides
    exact ⟨after, others, wrote.1.all, wrote.2⟩

/-! ### At a pump (R144 to R146) -/

/-- A refusal shown at a pump for 5 s and journalled (R145, R146). -/
abbrev RefusedAt (s t : State) (n : Nat) (tag : Tag) (q : Pump) (why : SaleRefusal) : Prop :=
  t.pump? n = some { q with display := .refused why, refusedUntil := some (s.now + 5000) } ∧
    t.fsc = { s.fsc with pumps := t.fsc.pumps } ∧ t.bst = s.bst ∧ s.journalled t (.saleRefused n why tag false)

theorem refusedAt_shown {s u : State} {n : Nat} {q : Pump} (tag : Tag) (why : SaleRefusal) (moved : PumpMoved s u n q)
    (bst : u.bst = s.bst) (evj : u.evj = s.evj) (dck : u.dck = s.dck) (now : u.now = s.now) :
    RefusedAt s (report (.saleRefused n why tag false) (showRefused n why u)) n tag q why := by
  obtain ⟨reads, only, -⟩ := (moved.change
    (fun p => { p with display := .refused why, refusedUntil := some (u.now + 5000) }) fun _ => rfl).report
      (.saleRefused n why tag false)
  rw [now] at reads only
  exact ⟨by rw [showRefused, now]; exact reads, by rw [showRefused, now]; exact only, by simp [showRefused, bst],
    journalled_report _ (by simp [showRefused, evj]) (by simp [showRefused, dck])⟩

section
variable {s : State} {n : Nat} {p : Pump} (tag : Tag) (reads : s.pump? n = some p)
include reads

theorem deliverPump_busy (r : LookupResult) (busy : p.state ≠ .idle) :
    deliverPump n tag r s = report (.saleRefused n .pumpBusy tag false) s := by
  simp [deliverPump, reads, busy]

theorem deliverPump_refused {r : LookupResult} {why : SaleRefusal} (idle : p.state = .idle)
    (refuses : presentRefusal p (s.fsc.unsettled.length + s.fsc.purseSales n) r = some why) :
    RefusedAt s (deliverPump n tag r s) n tag p why := by
  have shown : deliverPump n tag r s = report (.saleRefused n why tag false) (showRefused n why s) := by
    simp [deliverPump, reads, idle, refuses]
  rw [shown]
  exact refusedAt_shown tag why (pumpMoved_same reads rfl) rfl rfl rfl rfl

theorem deliverPump_begins {c : Credential} {source : Source} (idle : p.state = .idle)
    (admits : presentRefusal p (s.fsc.unsettled.length + s.fsc.purseSales n) (.found c source) = none) :
    deliverPump n tag (.found c source) s = beginSale p tag c s := by
  simp [deliverPump, reads, idle, admits]

/-- The request that a purse sale makes of its owner (R146). -/
def saleBody (s : State) (p : Pump) (tag : Tag) (c : Credential) : FrameBody :=
  .holdRequest (s.newPurseSale p tag c).id tag (((s.newPurseSale p tag c).party.map SaleParty.serial).getD 0) s.cfg.saleLimit

/-- A pump with a purse sale that has begun (R146). -/
def authorisingPump (x : Sale) (q : Pump) : Pump :=
  { q with state := .authorising, display := .ready, refusedUntil := none, sale := some x }

theorem beginSale_eq (c : Credential) : beginSale p tag c s =
    let r := ask (s.newPurseSale p tag c).owner (saleBody s p tag c) (.pumpSale (s.newPurseSale p tag c).id)
      (takeSaleNumber p s)
    if r.2 then queueRecord (.sale n) (changePump n (authorisingPump (s.newPurseSale p tag c)) r.1)
    else report (.saleRefused n .linkBusy tag false) (showRefused n .linkBusy r.1) := by
  rw [← pump?_number reads]
  rfl

theorem beginSale_room (c : Credential) (table : s.qlc.requests.length < 8) (queue : s.qlc.queue.length < 16) :
    PumpMoved s (beginSale p tag c s) n (authorisingPump (s.newPurseSale p tag c) (numbered s n p)) ∧
    (beginSale p tag c s).dirtyRecord (.sale n) ∧ (beginSale p tag c s).evj = s.evj ∧
    ∃ e ∈ (beginSale p tag c s).qlc.requests, e.destination = (s.newPurseSale p tag c).owner ∧
      e.body = saleBody s p tag c ∧ e.originator = .pumpSale (s.newPurseSale p tag c).id ∧ e.attempt = 1 ∧
      s.queued (beginSale p tag c s) (s.qlc.prefer .a)
        ⟨(s.newPurseSale p tag c).owner, e.sequence, saleBody s p tag c⟩ := by
  have moved := takeSaleNumber_moves reads
  have qlc : (takeSaleNumber p s).qlc = s.qlc := rfl
  obtain ⟨e, listed, body, destination, originator, attempt, queued⟩ := ask_asks (s := takeSaleNumber p s)
    (s.newPurseSale p tag c).owner (saleBody s p tag c) (.pumpSale (s.newPurseSale p tag c).id) (by rw [qlc]; exact table)
    (by rw [qlc]; exact queue)
  have taken := congrArg Prod.snd (ask_room (s := takeSaleNumber p s) (s.newPurseSale p tag c).owner (saleBody s p tag c)
    (.pumpSale (s.newPurseSale p tag c).id) (by rw [qlc]; exact table) (by rw [qlc]; exact queue))
  rw [beginSale_eq tag reads]
  simp only [taken, if_true]
  refine ⟨((moved.same (by simp)).change (authorisingPump (s.newPurseSale p tag c)) fun _ => rfl).queueRecord _,
    queueRecord_dirty _ _, by simp, e, by simpa using listed, destination, body, originator, attempt, ?_⟩
  have prefers : (takeSaleNumber p s).qlc.prefer .a = s.qlc.prefer .a := by rw [qlc]
  rw [← prefers]
  exact queued_congr qlc.symm (by simp) queued

theorem beginSale_busy (c : Credential) (full : 8 ≤ s.qlc.requests.length ∨ 16 ≤ s.qlc.queue.length) :
    RefusedAt s (beginSale p tag c s) n tag (numbered s n p) .linkBusy := by
  have refused := (ask_busy (s := takeSaleNumber p s) (s.newPurseSale p tag c).owner (saleBody s p tag c)
    (.pumpSale (s.newPurseSale p tag c).id) full).1
  rw [beginSale_eq tag reads]
  simp only [refused, Bool.false_eq_true, if_false]
  exact refusedAt_shown tag _ ((takeSaleNumber_moves reads).same (by simp)) (by simp) (by simp) (by simp) (by simp)

/-- What a delivery at a pump comes to, in the words of the statements. -/
theorem deliverPump_delivered (r : LookupResult) : s.pumpDelivered (deliverPump n tag r s) n p tag r := by
  refine ⟨fun busy => ?_, fun idle => ⟨fun unheard => ?_, fun heard => ⟨fun is => ?_, fun is => ?_, fun c source is =>
    ⟨fun other => ?_, fun b boat booked => ⟨fun early => ?_, fun arrived low => ?_, fun arrived good full => ?_,
      fun arrived good room => ?_⟩⟩⟩⟩⟩
  · rw [deliverPump_busy tag reads r busy]
    exact ⟨by simp, journalled_report _ rfl rfl⟩
  · exact deliverPump_refused tag reads idle (by simp [presentRefusal, unheard])
  · exact deliverPump_refused tag reads idle (by simp [presentRefusal, heard, is])
  · exact deliverPump_refused tag reads idle (by simp [presentRefusal, heard, is])
  · exact deliverPump_refused tag reads idle (by simp [presentRefusal, heard, is, other])
  · exact deliverPump_refused tag reads idle (by rcases boat with e | e <;> simp [presentRefusal, heard, is, e, booked, early])
  · exact deliverPump_refused tag reads idle (by
      rcases boat with e | e <;> simp [presentRefusal, heard, is, e, booked, arrived, low])
  · have within : ¬(b.standing = .arrears ∨ b.standing = .barred) := by rcases good with e | e <;> simp [e]
    exact deliverPump_refused tag reads idle (by
      rcases boat with e | e <;> simp [presentRefusal, heard, is, e, booked, arrived, within, Fsc.purseSales, full])
  · have within : ¬(b.standing = .arrears ∨ b.standing = .barred) := by rcases good with e | e <;> simp [e]
    have admits : presentRefusal p (s.fsc.unsettled.length + s.fsc.purseSales n) (.found c source) = none := by
      have few : ¬ 16 ≤ s.fsc.unsettled.length + s.fsc.purseSales n := Nat.not_le.2 room
      rcases boat with e | e <;> simp [presentRefusal, heard, e, booked, arrived, within, few]
    have sale : s.newPurseSale p tag c = {
        id := ⟨s.cfg.station, n, p.nextSale⟩, kind := .purse, stage := .authorising
        party := some ⟨tag, c.owner, b.berth, b.serial, b.epoch⟩
        price := (s.cfg.tariff s.dck.inForce).fuel p.cfg.grade, requested := s.cfg.saleLimit } := by
      simp [State.newPurseSale, booked, pump?_number reads, State.fuelPrice]
    have body : saleBody s p tag c = .holdRequest ⟨s.cfg.station, n, p.nextSale⟩ tag b.serial s.cfg.saleLimit := by
      simp [saleBody, sale]
    have few : (s.fsc.numbersListed n).length ≤ 16 := by
      have listed := numbersListed_length s.fsc n
      omega
    rw [is, deliverPump_begins tag reads idle admits]
    refine ⟨freeNumber_fresh few (by omega), fun table queue => ?_, fun full => beginSale_busy tag reads c full⟩
    obtain ⟨⟨after, only, -⟩, slot, evj, e, listed, destination, asks, originator, attempt, queued⟩ :=
      beginSale_room tag reads c table queue
    rw [sale] at after originator
    rw [body] at asks queued
    have owner : (s.newPurseSale p tag c).owner = c.owner := by simp [Sale.owner, sale]
    rw [owner] at destination queued
    exact ⟨after, only, slot, evj, e, listed, destination, asks, originator, attempt, queued⟩

/-- Every pump but that of the reader reads as it did. -/
theorem deliverPump_others (r : LookupResult) : s.samePumpsBut (deliverPump n tag r s) n := by
  have shown (why : SaleRefusal) {u : State} (kept : s.samePumpsBut u n) :
      s.samePumpsBut (report (.saleRefused n why tag false) (showRefused n why u)) n :=
    samePumpsBut_trans (samePumpsBut_trans kept (samePumpsBut_changePump n
      (fun p => { p with display := .refused why, refusedUntil := some (u.now + 5000) }) (fun _ => rfl) u))
      (samePumpsBut_pumps n (by simp [showRefused]))
  simp only [deliverPump, reads]
  split
  · exact samePumpsBut_pumps n (by simp)
  · split
    · exact shown _ fun _ _ => rfl
    · split
      · rename_i c source _
        have asked := samePumpsBut_trans (takeSaleNumber_moves reads).2.2 (samePumpsBut_pumps (s := takeSaleNumber p s)
          (t := (ask (s.newPurseSale p tag c).owner (saleBody s p tag c) (.pumpSale (s.newPurseSale p tag c).id)
            (takeSaleNumber p s)).1) n (by simp))
        rw [beginSale_eq tag reads]
        dsimp only
        split
        · exact samePumpsBut_trans (samePumpsBut_trans asked (samePumpsBut_changePump n
            (authorisingPump (s.newPurseSale p tag c)) (fun _ => rfl) _)) (samePumpsBut_pumps n (by simp))
        · exact shown _ asked
      · exact fun _ _ => rfl

end

/-! ### To every reader that waits (R112, R126) -/

/-- Every gate but that of the reader reads as it did. -/
theorem deliver_gate_other {s : State} {n : Nat} {reader : Reader} (tag : Tag) (r : LookupResult)
    (other : reader ≠ .gate n) : (deliver tag r reader s).gate? n = s.gate? n := by
  cases reader with
  | pump m => exact congrFun (gate?_same s _ (by simp [deliver])) n
  | gate m =>
    have different : n ≠ m := fun same => other (same ▸ rfl)
    have moved : s.sameGatesBut (deliverGate m tag r s) m := by
      cases reads : s.gate? m with
      | none =>
        have same : deliverGate m tag r s = s := by simp [deliverGate, reads]
        rw [same]
        exact ⟨rfl, fun _ _ => rfl⟩
      | some g =>
        by_cases unlocked : g.state = .unlocked
        · rw [deliverGate_unlocked reads unlocked]
          exact ⟨rfl, fun _ _ => rfl⟩
        · exact (deliverGate_moves tag r reads unlocked).1.2
    exact moved.2 n different

/-- A gate once a result has been delivered at it. -/
def State.gateGiven (s : State) (g : Gate) (r : LookupResult) : Gate := if g.state = .unlocked then g else s.gateAfter g r

theorem gateGiven_same {s t : State} (g : Gate) (r : LookupResult) (now : t.now = s.now) (cfg : t.cfg = s.cfg)
    (dck : t.dck = s.dck) : t.gateGiven g r = s.gateGiven g r := by
  simp only [State.gateGiven, State.gateAfter, now, cfg, dck]

theorem deliverGate_given {s : State} {n : Nat} {g : Gate} (tag : Tag) (r : LookupResult) (reads : s.gate? n = some g) :
    (deliverGate n tag r s).gate? n = some (s.gateGiven g r) := by
  unfold State.gateGiven
  split
  · rw [deliverGate_unlocked reads ‹_›, reads]
  · exact (deliverGate_moves tag r reads ‹_›).1.1

/-- The counts after a result has been delivered once (R126). -/
def countedOnce (r : LookupResult) (c : CacheCounts) : CacheCounts :=
  match r with
  | .unknown => { c with unknowns := bumpTop c.unknowns }
  | .noAnswer => { c with noAnswers := bumpTop c.noAnswers }
  | .found _ .localBooking => { c with locals := bumpTop c.locals }
  | .found _ .pinned => { c with pinnedHits := bumpTop c.pinnedHits }
  | .found _ .cache => { c with cacheHits := bumpTop c.cacheHits }
  | .found _ .query => c

theorem deliverAll_nil (tag : Tag) (r : LookupResult) (s : State) : deliverAll tag r [] s = s := rfl

theorem deliverAll_cons (tag : Tag) (r : LookupResult) (reader : Reader) (rest : List Reader) (s : State) :
    deliverAll tag r (reader :: rest) s = deliverAll tag r rest (deliver tag r reader (onCounts (countedOnce r) s)) := rfl

/-- A gate whose reader does not wait stays as it is. -/
theorem deliverAll_absent {n : Nat} {readers : List Reader} (tag : Tag) (r : LookupResult) (s : State)
    (absent : Reader.gate n ∉ readers) : (deliverAll tag r readers s).gate? n = s.gate? n := by
  induction readers generalizing s with
  | nil => rfl
  | cons reader rest ih =>
    obtain ⟨other, later⟩ : Reader.gate n ≠ reader ∧ Reader.gate n ∉ rest := by simpa using absent
    rw [deliverAll_cons, ih _ later, deliver_gate_other tag r other.symm]
    exact congrFun (gate?_same _ _ rfl) n

/-- A gate whose reader waits once is decided once (R117, R132). -/
theorem deliverAll_gate {n : Nat} {g : Gate} {readers : List Reader} (tag : Tag) (r : LookupResult) (s : State)
    (distinct : readers.Nodup) (waits : Reader.gate n ∈ readers) (reads : s.gate? n = some g) :
    (deliverAll tag r readers s).gate? n = some (s.gateGiven g r) := by
  induction readers generalizing s with
  | nil => exact absurd waits List.not_mem_nil
  | cons reader rest ih =>
    obtain ⟨absent, later⟩ := List.nodup_cons.1 distinct
    have counted : (onCounts (countedOnce r) s).gate? n = some g := (congrFun (gate?_same _ _ rfl) n).trans reads
    rw [deliverAll_cons]
    by_cases here : reader = .gate n
    · subst here
      rw [deliverAll_absent tag r _ absent]
      exact deliverGate_given tag r counted
    · have mem : Reader.gate n ∈ rest := by simpa [Ne.symm here] using waits
      rw [ih _ later mem ((deliver_gate_other tag r here).trans counted)]
      exact congrArg _ (gateGiven_same g r (by simp [onCounts]) (by simp [onCounts]) (by simp [onCounts]))

end Sys2Proof.Machine
end

section
/-! SUPPORT. The call table: an entry changed, a call finished, its TENTATIVE bookings gone (R47, R58 to R60). -/

namespace Sys2Proof.Machine

/-! ### The entries of the table -/

theorem call?_same {s t : State} (calls : t.alc.calls = s.alc.calls) (n : Num8) : t.call? n = s.call? n := by
  simp only [State.call?, calls]

/-- From `s` to `t` the entry of the call `n` has come to read `x`, and every other entry, and ALC's next call number, are as they
were. -/
def CallMoved (s t : State) (n : Num8) (x : Call) : Prop :=
  t.call? n = some x ∧ (∀ m, m ≠ n → t.call? m = s.call? m) ∧
    t.alc = { s.alc with calls := t.alc.calls, finished := t.alc.finished }

theorem callMoved_same {s t : State} {n : Num8} {c : Call} (reads : s.call? n = some c) (alc : t.alc = s.alc) :
    CallMoved s t n c := by
  refine ⟨(call?_same (by rw [alc]) n).trans reads, fun m _ => call?_same (by rw [alc]) m, by rw [alc]⟩

namespace CallMoved
variable {s t u : State} {n : Num8} {x y : Call}

theorem trans (h : CallMoved s t n x) (k : CallMoved t u n y) : CallMoved s u n y := by
  obtain ⟨-, others, rest⟩ := h
  obtain ⟨reads, others', rest'⟩ := k
  exact ⟨reads, fun m other => (others' m other).trans (others m other), by rw [rest', rest]⟩

theorem same (h : CallMoved s t n x) (alc : u.alc = t.alc) : CallMoved s u n x := h.trans (callMoved_same h.1 alc)

theorem report (h : CallMoved s t n x) (r : Report) : CallMoved s (report r t) n x := h.same (by simp)

theorem change (h : CallMoved s t n x) (f : Call → Call) (keeps : ∀ c, (f c).number = c.number) :
    CallMoved s (changeCall n f t) n (f x) := by
  refine h.trans ⟨?_, fun m other => ?_, rfl⟩
  · rw [call?_changeCall _ _ _ _ keeps, h.1]
    simp [call?_number h.1]
  · rw [call?_changeCall _ _ _ _ keeps]
    cases found : t.call? m with
    | none => rfl
    | some c => simp [call?_number found, other]

end CallMoved

/-! ### The TENTATIVE bookings of a call removed (R60) -/

/-- A berth without the TENTATIVE bookings of a call. -/
def withoutCall (ref : CallRef) (x : Berth) : Berth :=
  { x with bookings := x.bookings.filter fun b => !(b.state == .tentative && b.callRef == ref) }

theorem withoutCall_twice (ref : CallRef) (x : Berth) : withoutCall ref (withoutCall ref x) = withoutCall ref x := by
  simp [withoutCall, List.filter_filter]

theorem dropTentative_all (n : Nat) (ref : CallRef) (s : State) :
    dropTentative n ref (fun _ => true) s = onBerth n (withoutCall ref) s := by
  unfold dropTentative withoutCall tentativeOf
  simp only [Bool.and_true]

/-- One berth's part of a Close at a station (R60). -/
def closeBerth (station : Nat) (ref : CallRef) (winner : Option (Nat × Nat)) (n : Nat) (s : State) : State :=
  if winner == some (station, n) then s else onBerth n (withoutCall ref) s

theorem applyClose_eq (ref : CallRef) (winner : Option (Nat × Nat)) (s : State) :
    applyClose ref winner s =
      (s.bst.berths.map fun b => b.cfg.number).foldl (fun x n => closeBerth s.cfg.station ref winner n x) s := by
  unfold applyClose closeBerth
  simp only [dropTentative_all]

theorem closeBerth_berth? (station : Nat) (ref : CallRef) (winner : Option (Nat × Nat)) (n m : Nat) (s : State) :
    (closeBerth station ref winner n s).berth? m = (s.berth? m).map fun x =>
      if winner = some (station, m) ∨ m ≠ n then x else withoutCall ref x := by
  unfold closeBerth
  by_cases wins : winner = some (station, n)
  · have kept (x : Berth) : (if winner = some (station, m) ∨ m ≠ n then x else withoutCall ref x) = x := by
      refine if_pos ?_
      by_cases same : m = n
      · exact .inl (same ▸ wins)
      · exact .inr same
    rw [if_pos (by simpa using wins)]
    simp only [kept, Option.map_id']
  · rw [if_neg (by simpa using wins), berth?_onBerth _ _ (withoutCall ref) _ fun _ => rfl]
    cases found : s.berth? m with
    | none => rfl
    | some x =>
      by_cases same : m = n
      · subst same
        simp [berth?_number found, wins]
      · simp [berth?_number found, same]

theorem closeBerths_berth? (station : Nat) (ref : CallRef) (winner : Option (Nat × Nat)) (l : List Nat) (m : Nat) (s : State) :
    (l.foldl (fun x n => closeBerth station ref winner n x) s).berth? m = (s.berth? m).map fun x =>
      if winner = some (station, m) ∨ m ∉ l then x else withoutCall ref x := by
  induction l generalizing s with
  | nil => simp
  | cons n l ih =>
    rw [List.foldl_cons, ih, closeBerth_berth?]
    cases s.berth? m with
    | none => rfl
    | some x =>
      simp only [Option.map_some, List.mem_cons, not_or]
      by_cases wins : winner = some (station, m)
      · simp [wins]
      · by_cases here : m = n
        · subst here
          by_cases later : m ∈ l <;> simp [wins, later, withoutCall_twice]
        · by_cases later : m ∈ l <;> simp [wins, later, here]

/-- What a Close makes of each berth (R60). -/
theorem applyClose_berth? (ref : CallRef) (winner : Option (Nat × Nat)) (m : Nat) (s : State) :
    (applyClose ref winner s).berth? m = (s.berth? m).map fun x =>
      if winner = some (s.cfg.station, m) then x else withoutCall ref x := by
  rw [applyClose_eq, closeBerths_berth?]
  cases found : s.berth? m with
  | none => rfl
  | some x =>
    have listed : m ∈ s.bst.berths.map fun b => b.cfg.number :=
      List.mem_map.2 ⟨x, List.mem_of_find?_eq_some found, berth?_number found⟩
    simp [listed]

/-- A Close changes the berths of BST and nothing else of it. -/
theorem applyClose_bst (ref : CallRef) (winner : Option (Nat × Nat)) (s : State) :
    (applyClose ref winner s).bst = { s.bst with berths := (applyClose ref winner s).bst.berths } := by
  have closed (l : List Nat) (t : State) :
      (l.foldl (fun x n => closeBerth s.cfg.station ref winner n x) t).bst =
        { t.bst with berths := (l.foldl (fun x n => closeBerth s.cfg.station ref winner n x) t).bst.berths } := by
    induction l generalizing t with
    | nil => rfl
    | cons n l ih =>
      rw [List.foldl_cons, ih]
      unfold closeBerth
      split <;> rfl
  rw [applyClose_eq]
  exact closed _ s

theorem applyClose_classOf (ref : CallRef) (winner : Option (Nat × Nat)) (s : State) :
    (applyClose ref winner s).classOf = s.classOf := by
  rw [applyClose_eq]
  refine foldl_same State.classOf _ (fun x n => ?_) _ s
  unfold closeBerth
  split
  · rfl
  · exact classOf_onBerth n (withoutCall ref) x fun _ => rfl

/-! ### A call finished (R59) -/

/-- An entry FINISHED with an outcome. -/
def finishedCall (outcome : CallOutcome) (order : Nat) (c : Call) : Call :=
  { c with phase := .finished, windowAt := none, offers := [], inFlight := none, outcome := some outcome
           finishOrder := some order }

/-- The winner that a Close names. -/
def winnerOf : CallOutcome → Option (Nat × Nat)
  | .allocated st berth _ => some (st, berth)
  | .noBerth => none

theorem finishCall_eq (n : Num8) (o : CallOutcome) (s : State) :
    finishCall n o s = report (.callDone n o) (applyClose ⟨s.cfg.station, n⟩ (winnerOf o)
      (broadcast (.berthClose ⟨s.cfg.station, n⟩ (winnerOf o)) (changeCall n (finishedCall o (s.alc.finished + 1))
        (s.setAlc { s.alc with finished := s.alc.finished + 1 }))).1) := by
  cases o <;> rfl

section
variable {s : State} {n : Num8} {c : Call} (o : CallOutcome)

theorem finishCall_moves (reads : s.call? n = some c) :
    CallMoved s (finishCall n o s) n (finishedCall o (s.alc.finished + 1) c) := by
  have counted : CallMoved s (s.setAlc { s.alc with finished := s.alc.finished + 1 }) n c :=
    ⟨reads, fun _ _ => rfl, rfl⟩
  rw [finishCall_eq]
  exact ((counted.change (finishedCall o (s.alc.finished + 1)) fun _ => rfl).same (by simp)).report _

theorem finishCall_wrote (n : Num8) (s : State) : Wrote s (finishCall n o s) [.callDone n o] := by
  rw [finishCall_eq]
  exact Wrote.report (rs := []) (.same (by simp [changeCall]) (by simp [changeCall])) _

/-- What finishing does to BST: the TENTATIVE bookings of the call go, but for the winner's here (R60). -/
theorem finishCall_berths (n : Num8) (s : State) :
    (finishCall n o s).bst = { s.bst with berths := (finishCall n o s).bst.berths } ∧
    ∀ m, (finishCall n o s).berth? m = (s.berth? m).map fun x =>
      if winnerOf o = some (s.cfg.station, m) then x else withoutCall ⟨s.cfg.station, n⟩ x := by
  have bst : (finishCall n o s).bst = (applyClose ⟨s.cfg.station, n⟩ (winnerOf o)
      (broadcast (.berthClose ⟨s.cfg.station, n⟩ (winnerOf o)) (changeCall n (finishedCall o (s.alc.finished + 1))
        (s.setAlc { s.alc with finished := s.alc.finished + 1 }))).1).bst := by
    rw [finishCall_eq]
    simp
  refine ⟨?_, fun m => ?_⟩
  · rw [bst, applyClose_bst]
    simp [changeCall]
  · have same : (finishCall n o s).berth? m = (applyClose ⟨s.cfg.station, n⟩ (winnerOf o)
        (broadcast (.berthClose ⟨s.cfg.station, n⟩ (winnerOf o)) (changeCall n (finishedCall o (s.alc.finished + 1))
          (s.setAlc { s.alc with finished := s.alc.finished + 1 }))).1).berth? m := by
      simp only [State.berth?, bst]
    rw [same, applyClose_berth?]
    simp [State.berth?, changeCall]

theorem finishCall_classOf (n : Num8) (s : State) : (finishCall n o s).classOf = s.classOf := by
  have last : (finishCall n o s).classOf = (applyClose ⟨s.cfg.station, n⟩ (winnerOf o)
      (broadcast (.berthClose ⟨s.cfg.station, n⟩ (winnerOf o)) (changeCall n (finishedCall o (s.alc.finished + 1))
        (s.setAlc { s.alc with finished := s.alc.finished + 1 }))).1).classOf :=
    classOf_same _ _ (by rw [finishCall_eq]; simp)
  rw [last, applyClose_classOf]
  exact classOf_same _ _ (by simp [changeCall])

theorem finishCall_requests (n : Num8) (s : State) : (finishCall n o s).qlc.requests = s.qlc.requests := by
  rw [finishCall_eq]
  simp only [report_frame, applyClose_frame, broadcast, enqueue]
  split <;> simp [changeCall, onErrors]

/-- The Close joins the queue where it has room (R59). -/
theorem finishCall_closes (n : Num8) (s : State) (room : s.qlc.queue.length < 16) : s.closes (finishCall n o s) n o := by
  have queued := broadcast_queuedWide (s := changeCall n (finishedCall o (s.alc.finished + 1))
    (s.setAlc { s.alc with finished := s.alc.finished + 1 })) (.berthClose ⟨s.cfg.station, n⟩ (winnerOf o)) room
  have whole := queuedWide_congr (s' := s) (t' := finishCall n o s) rfl (by rw [finishCall_eq]; simp) queued
  cases o <;> exact whole

end

end Sys2Proof.Machine
end

section
/-! SUPPORT. A booking converted, and a holding booking displaced by one that has become CURRENT (R4, R7, R94): what the list
reads, and that at most one Announce joins the queue (R82). -/

namespace Sys2Proof.Machine

/-! ### How many Announces a falling demand can bring (R81, R82) -/

/-- The frames that wait, and one more while the declared demand is below the demand. -/
def State.pressure (s : State) : Nat := s.qlc.queue.length + if s.lsu.declared < s.demandNow then 1 else 0

theorem generateAnnounce_length (s : State) : (generateAnnounce s).qlc.queue.length ≤ s.qlc.queue.length + 1 := by
  unfold generateAnnounce enqueueOn enqueue
  split
  · omega
  · dsimp only
    (repeat' split) <;> simp [onErrors]

theorem demandNow_same {s t : State} (pbc : t.pbc = s.pbc) (cfg : t.cfg = s.cfg) : t.demandNow = s.demandNow := by
  simp only [State.demandNow, pbc, cfg]

theorem compute_declared (n : Nat) (s : State) : (compute n s).lsu.declared = s.lsu.declared := by
  rw [(compute_spec n s).1]

/-- What LSU's hearing of the load makes of the declared demand and the queue (R81, R82). -/
theorem noteLoad_declares (s : State) :
    ((noteLoad s).lsu.declared = s.lsu.declared ∧ (noteLoad s).qlc.queue.length = s.qlc.queue.length) ∨
    ((noteLoad s).lsu.declared = s.demandNow ∧
      (noteLoad s).qlc.queue.length ≤ s.qlc.queue.length + if s.lsu.declared < s.demandNow then 1 else 0) := by
  unfold noteLoad
  split
  · dsimp only
    split
    · exact .inl ⟨rfl, rfl⟩
    · rename_i differs
      split
      · rename_i rises
        have below : s.lsu.declared < s.demandNow := by
          have : s.lsu.declared ≠ s.demandNow := differs
          have : s.lsu.declared + s.cfg.hysteresis ≤ s.demandNow := rises
          omega
        refine .inr ⟨by rw [compute_declared]; simp, ?_⟩
        rw [if_pos below]
        simpa using generateAnnounce_length ((s.setLsu { s.lsu with demand := s.demandNow }).setLsu
          { s.lsu with demand := s.demandNow, declared := s.demandNow })
      · split
        · exact .inr ⟨by rw [declare, compute_declared]; rfl, by simp [declare]⟩
        · exact .inl ⟨rfl, rfl⟩
  · exact .inl ⟨rfl, rfl⟩

theorem noteLoad_demandNow (s : State) : (noteLoad s).demandNow = s.demandNow := demandNow_same (by simp) (by simp)

/-- LSU's hearing of a demand no greater than before brings an Announce only where one was due. -/
theorem noteLoad_pressure {s t : State} (qlc : t.qlc = s.qlc) (declared : t.lsu.declared = s.lsu.declared)
    (falls : t.demandNow ≤ s.demandNow) : (noteLoad t).pressure ≤ s.pressure := by
  unfold State.pressure
  rw [noteLoad_demandNow, ← qlc, ← declared]
  obtain ⟨same, length⟩ | ⟨now, length⟩ := noteLoad_declares t
  · rw [same, length]
    split <;> split <;> omega
  · rw [now]
    split at length <;> split <;> split <;> omega

/-! ### Outlets turned OFF one after the other (R94) -/

/-- An outlet that is OFF. -/
def offOutlet (o : Outlet) : Outlet := { o with state := .off, join := none, restAt := none }

/-- An outlet that claims no more than before, and asks for nothing, raises no demand. -/
theorem demandNow_falls {f : Outlet → Outlet} (n : Nat) {s : State} (less : ∀ o, s.pbc.claim (f o) ≤ s.pbc.claim o)
    (leaves : ∀ o, (f o).queued = false) : (patchOutlet n f s).demandNow ≤ s.demandNow := by
  have claims (l : List Outlet) : ((updWhere (fun o => o.number == n) f l).map s.pbc.claim).sum ≤
      (l.map s.pbc.claim).sum := by
    induction l with
    | nil => simp [updWhere]
    | cons o l ih =>
      have fewer : s.pbc.claim (if o.number == n then f o else o) ≤ s.pbc.claim o := by
        split
        · exact less o
        · exact le_refl _
      simpa [updWhere] using Nat.add_le_add fewer ih
  have starts (l : List Outlet) : (((updWhere (fun o => o.number == n) f l).filter Outlet.queued).map
      Outlet.startClaim).sum ≤ ((l.filter Outlet.queued).map Outlet.startClaim).sum := by
    induction l with
    | nil => simp [updWhere]
    | cons o l ih =>
      simp only [updWhere, List.map_cons, List.filter_cons] at ih ⊢
      by_cases changed : o.number == n
      · simp only [changed, if_true, leaves o, Bool.false_eq_true, if_false]
        split
        · simpa using ih.trans (Nat.le_add_left _ _)
        · exact ih
      · simp only [changed, if_false, Bool.false_eq_true]
        split
        · simpa using ih
        · exact ih
  have claim : (patchOutlet n f s).pbc.claim = s.pbc.claim := rfl
  simp only [State.demandNow, Pbc.committed, claim]
  exact min_le_min (le_refl _) (Nat.add_le_add (claims _) (starts _))

theorem demandNow_outletOff (n : Nat) (s : State) : (patchOutlet n offOutlet s).demandNow ≤ s.demandNow :=
  demandNow_falls n (fun o => by simp [Pbc.claim, offOutlet]) fun _ => rfl

theorem outletOff_pressure (n : Nat) (s : State) : (outletOff n s).pressure ≤ s.pressure :=
  noteLoad_pressure (t := patchOutlet n offOutlet s) rfl rfl (demandNow_outletOff n s)

theorem pressure_moveTap (n : Nat) (target : TapState) (runAt : Option Nat) (s : State) :
    (moveTap n target runAt s).pressure = s.pressure := rfl

theorem berthOff_pressure (n : Nat) (s : State) : (berthOff n s).pressure ≤ s.pressure := by
  have offs (l : List Nat) (s : State) : (l.foldl (fun x n => outletOff n x) s).pressure ≤ s.pressure := by
    induction l generalizing s with
    | nil => exact le_refl _
    | cons n l ih => exact (ih _).trans (outletOff_pressure n s)
  unfold berthOff
  split
  · exact le_refl _
  · rename_i b _
    dsimp only
    split
    · exact le_trans (le_of_eq (pressure_moveTap _ _ _ _)) (offs b.cfg.outlets s)
    · exact offs b.cfg.outlets s

/-- At most one Announce joins the queue when a berth's outlets are turned OFF. -/
theorem berthOff_length (n : Nat) (s : State) : (berthOff n s).qlc.queue.length ≤ s.qlc.queue.length + 1 := by
  have bound := berthOff_pressure n s
  have most : s.pressure ≤ s.qlc.queue.length + 1 := by
    unfold State.pressure
    split <;> omega
  have least : (berthOff n s).qlc.queue.length ≤ (berthOff n s).pressure := Nat.le_add_right _ _
  omega

/-- A booking without its wanted flags. -/
def unwanted (k : Booking) : Booking := { k with wantedFirst := false, wantedSecond := false }

theorem displaced_eq (n : Nat) (former : Booking) (s : State) :
    displaced n former s = berthOff n (changeBooking n (former.serial.getD 0) unwanted s) := rfl

theorem afterCurrent_length (n : Nat) (before s : State) :
    (afterCurrent n before s).qlc.queue.length ≤ s.qlc.queue.length + 1 := by
  unfold afterCurrent
  split
  · split
    · omega
    · rw [displaced_eq]
      refine (berthOff_length n _).trans (le_of_eq ?_)
      simp
  · omega

/-! ### The former holding booking displaced (R94) -/

/-- A booking whose wanted flags may have been cleared, and is otherwise as it was. -/
def SameButWanted (x y : Booking) : Prop :=
  y = { x with wantedFirst := y.wantedFirst, wantedSecond := y.wantedSecond }

theorem SameButWanted.refl (x : Booking) : SameButWanted x x := rfl

theorem SameButWanted.trans {x y z : Booking} (h : SameButWanted x y) (k : SameButWanted y z) : SameButWanted x z := by
  unfold SameButWanted at *
  rw [k, h]

theorem keeps_unwanted : Keeps unwanted := fun _ => ⟨rfl, rfl⟩

theorem displaced_booking? {n m k : Nat} {former : Booking} {s : State} {x : Booking} (reads : s.booking? m k = some x) :
    ∃ y, (displaced n former s).booking? m k = some y ∧ SameButWanted x y := by
  have off : (displaced n former s).booking? = (changeBooking n (former.serial.getD 0) unwanted s).booking? :=
    booking?_same _ _ (by rw [displaced_eq]; simp)
  rw [off, booking?_changeBooking _ _ _ _ _ _ keeps_unwanted, reads]
  split
  · exact ⟨unwanted x, rfl, rfl⟩
  · exact ⟨x, rfl, rfl⟩

theorem afterCurrent_booking? {n m k : Nat} {before s : State} {x : Booking} (reads : s.booking? m k = some x) :
    ∃ y, (afterCurrent n before s).booking? m k = some y ∧ SameButWanted x y := by
  unfold afterCurrent
  split
  · split
    · exact ⟨x, reads, rfl⟩
    · exact displaced_booking? reads
  · exact ⟨x, reads, rfl⟩

/-! ### The conversion (R4, R5) -/

section
variable (berth : Nat) (ref : CallRef) (stay : Stay) (tags : List Tag) (name : Option BoatName) (s : State)

/-- What a conversion makes of the TENTATIVE booking (R4). -/
def conversionOf : Booking → Booking := fun b =>
  convertedBooking b s.nextSerialGiven ((lowestFree s.slotsUsed 1 256).getD 0) (s.conversionState stay.arrival) tags name

/-- A berth with the TENTATIVE booking of a call and stay converted. -/
def withConversion (x : Berth) : Berth :=
  { x with bookings := updFirst (fun b => tentativeOf ref b && b.stay == stay) (conversionOf stay tags name s) x.bookings }

/-- The station with the booking converted, before a displacement is looked at. -/
def placed : State :=
  report (.bookingMade berth s.nextSerialGiven stay.arrival)
    (queueRecord (.booking ((lowestFree s.slotsUsed 1 256).getD 0))
      (onBerth berth (withConversion ref stay tags name s)
        (queueRecord .station (s.setBst { s.bst with nextSerial := serialAfter s.nextSerialGiven }))))

theorem convert_eq : convert berth ref stay tags name s =
    (afterCurrent berth s (placed berth ref stay tags name s), s.nextSerialGiven) := rfl

theorem placed_berth? (m : Nat) : (placed berth ref stay tags name s).berth? m = (s.berth? m).map fun x =>
    if x.cfg.number == berth then withConversion ref stay tags name s x else x := by
  have shown : (placed berth ref stay tags name s).berth? m = (onBerth berth (withConversion ref stay tags name s)
      (queueRecord .station (s.setBst { s.bst with nextSerial := serialAfter s.nextSerialGiven }))).berth? m :=
    congrFun (berth?_same _ _ (by simp [placed])) m
  rw [shown, berth?_onBerth _ _ (withConversion ref stay tags name s) _ fun _ => rfl]
  exact congrArg (Option.map _) (congrFun (berth?_same _ _ (by simp)) m)

theorem placed_wrote : Wrote s (placed berth ref stay tags name s) [.bookingMade berth s.nextSerialGiven stay.arrival] :=
  Wrote.report (rs := []) (.same (by simp) (by simp)) _

end

section
variable {berth : Nat} {ref : CallRef} {stay : Stay} (tags : List Tag) (name : Option BoatName) {s : State} {b : Berth}
  (reads : s.berth? berth = some b)
  (stands : ∃ k ∈ b.bookings, k.state = .tentative ∧ k.callRef = ref ∧ k.stay = stay)
include reads

omit reads in
include stands in
/-- The list with the booking converted in its place. -/
theorem withConversion_splits : ∃ before k after, b.bookings = before ++ k :: after ∧
    k.state = .tentative ∧ k.callRef = ref ∧ k.stay = stay ∧
    (withConversion ref stay tags name s b).bookings = before ++ conversionOf stay tags name s k :: after := by
  obtain ⟨_, absent⟩ | ⟨before, k, after, split, meets, _, changed⟩ := updFirst_cases
      (fun b => tentativeOf ref b && b.stay == stay) (conversionOf stay tags name s) b.bookings
  · obtain ⟨k, mem, tentative, call, same⟩ := stands
    have := absent k mem
    simp [tentativeOf, tentative, call, same] at this
  · obtain ⟨⟨tentative, call⟩, same⟩ : (k.state = .tentative ∧ k.callRef = ref) ∧ k.stay = stay := by
      simpa [tentativeOf] using meets
    exact ⟨before, k, after, split, tentative, call, same, changed⟩

theorem serial_listed {k : Booking} (mem : k ∈ b.bookings) (live : k.live = true) {serial : Nat}
    (has : k.serial = some serial) : serial ∈ s.serials := by
  have berth : b ∈ s.bst.berths := List.mem_of_find?_eq_some reads
  refine List.mem_filterMap.2 ⟨(b.cfg.number, k), List.mem_filter.2 ⟨?_, live⟩, has⟩
  exact List.mem_flatMap.2 ⟨b, berth, List.mem_map.2 ⟨k, mem, rfl⟩⟩

omit reads in
/-- A conversion makes a live booking, RESERVED or CURRENT. -/
theorem conversionState_cases (s : State) (day : Nat) : s.conversionState day = .reserved ∨ s.conversionState day = .current := by
  unfold State.conversionState
  (repeat' split) <;> simp

omit reads in
theorem conversionOf_live (k : Booking) : (conversionOf stay tags name s k).live = true := by
  rcases conversionState_cases s stay.arrival with h | h <;> simp [conversionOf, convertedBooking, Booking.live, h]

include stands in
/-- The booking converted reads under its new serial (R4, R5). -/
theorem placed_booking? (fresh : s.nextSerialGiven ∉ s.serials) : ∃ k, k.callRef = ref ∧ k.stay = stay ∧
    (placed berth ref stay tags name s).booking? berth s.nextSerialGiven = some (conversionOf stay tags name s k) := by
  obtain ⟨before, k, after, split, tentative, call, same, changed⟩ := withConversion_splits tags name (s := s) stands
  refine ⟨k, call, same, ?_⟩
  have none_before : before.find? (fun k => k.live && k.serial == some s.nextSerialGiven) = none := by
    refine List.find?_eq_none.2 fun x mem found => fresh ?_
    obtain ⟨live, serial⟩ : x.live = true ∧ x.serial = some s.nextSerialGiven := by simpa using found
    exact serial_listed reads (split ▸ List.mem_append_left _ mem) live serial
  rw [State.booking?, placed_berth?, reads]
  simp only [Option.map_some, Option.bind_some, berth?_number reads, beq_self_eq_true, if_true, Berth.live?, changed,
    List.find?_append, none_before, Option.none_or]
  rw [List.find?_cons_of_pos]
  simp [conversionOf_live]
  rfl

include stands in
/-- A conversion that becomes RESERVED leaves the holding booking. -/
theorem placed_holding? (reserved : s.conversionState stay.arrival = .reserved) :
    (placed berth ref stay tags name s).holding? berth = s.holding? berth := by
  obtain ⟨before, k, after, split, tentative, -, -, changed⟩ := withConversion_splits tags name (s := s) stands
  rw [State.holding?, placed_berth?, State.holding?, reads]
  simp only [Option.map_some, Option.bind_some, berth?_number reads, beq_self_eq_true, if_true, Berth.holding?, changed,
    split, List.find?_append]
  rw [List.find?_cons_of_neg (by simp [conversionOf, convertedBooking, reserved]),
    List.find?_cons_of_neg (by simp [tentative])]

/-- A conversion that becomes RESERVED, or on a berth without a holding booking, displaces nothing. -/
theorem convert_alone
    (alone : s.conversionState stay.arrival = .reserved ∨ s.holding? berth = none)
    (stands : ∃ k ∈ b.bookings, k.state = .tentative ∧ k.callRef = ref ∧ k.stay = stay) :
    (convert berth ref stay tags name s).1 = placed berth ref stay tags name s := by
  rw [convert_eq]
  unfold afterCurrent
  obtain reserved | free := alone
  · rw [placed_holding? tags name reads stands reserved]
    cases s.holding? berth <;> simp
  · rw [free]

/-- The booking converted, as the statements say it. -/
theorem convert_booking? (fresh : s.nextSerialGiven ∉ s.serials)
    (stands : ∃ k ∈ b.bookings, k.state = .tentative ∧ k.callRef = ref ∧ k.stay = stay) :
    ∃ k, (convert berth ref stay tags name s).1.booking? berth s.nextSerialGiven = some k ∧
      k.state = s.conversionState stay.arrival ∧ k.callRef = ref ∧ k.stay = stay ∧ k.tags = tags ∧ k.name = name ∧
      k.expiry = none ∧ k.slot = some ((lowestFree s.slotsUsed 1 256).getD 0) := by
  obtain ⟨k, call, same, found⟩ := placed_booking? tags name reads stands fresh
  obtain ⟨y, reads', wanted⟩ := afterCurrent_booking? (n := berth) (before := s) found
  refine ⟨y, reads', ?_⟩
  rw [wanted]
  exact ⟨rfl, call, same, rfl, rfl, rfl, rfl⟩

end

theorem convert_length (berth : Nat) (ref : CallRef) (stay : Stay) (tags : List Tag) (name : Option BoatName) (s : State) :
    (convert berth ref stay tags name s).1.qlc.queue.length ≤ s.qlc.queue.length + 1 := by
  rw [convert_eq]
  exact (afterCurrent_length _ _ _).trans (le_of_eq (by simp [placed]))

theorem displaced_bst (n : Nat) (former : Booking) (s : State) :
    (displaced n former s).bst = (changeBooking n (former.serial.getD 0) unwanted s).bst := by
  rw [displaced_eq]
  simp

theorem afterCurrent_bst {id : RecordId} {s : State} (n : Nat) (before : State) (dirty : s.dirtyRecord id) :
    (afterCurrent n before s).bst.nextSerial = s.bst.nextSerial ∧ (afterCurrent n before s).dirtyRecord id := by
  unfold afterCurrent
  split
  · split
    · exact ⟨rfl, dirty⟩
    · exact ⟨by rw [displaced_bst]; simp,
        dirtyRecord_same (displaced_bst _ _ _) (dirtyRecord_changeBooking _ _ _ dirty)⟩
  · exact ⟨rfl, dirty⟩

/-- The station record waits to be written, and the counter is one on (R5). -/
theorem convert_bst (berth : Nat) (ref : CallRef) (stay : Stay) (tags : List Tag) (name : Option BoatName) (s : State) :
    (convert berth ref stay tags name s).1.bst.nextSerial = serialAfter s.nextSerialGiven ∧
    (convert berth ref stay tags name s).1.dirtyRecord .station := by
  have dirty : (placed berth ref stay tags name s).dirtyRecord .station :=
    dirtyRecord_report _ (dirtyRecord_queueRecord _ (dirtyRecord_congr rfl rfl (queueRecord_dirty _ _)))
  obtain ⟨next, after⟩ := afterCurrent_bst berth s dirty
  exact ⟨by rw [convert_eq, next]; simp [placed, onBerth], after⟩

end Sys2Proof.Machine
end

section
/-! SUPPORT. The owner's answer to a Take (R56, R57), and what the asking station does with the offers of a call (R53 to R60). -/

namespace Sys2Proof.Machine

/-! ### The owner (R56, R57) -/

section
variable {s : State} {berth : Nat} {ref : CallRef} {stay : Stay} {tags : List Tag} {name : Option BoatName} {b : Berth}
  (role : s.cfg.role = .pontoon) (reads : s.berth? berth = some b)
include role reads

theorem ownerTake_repeat {k : Booking} (again : takeRepeat? ref stay b = some k) :
    ownerTake ref berth stay tags name s = (s, .accept (k.serial.getD 0)) := by
  simp [ownerTake, role, reads, again]

variable (new : takeRepeat? ref stay b = none)
include new

theorem ownerTake_missing (gone : ¬∃ k ∈ b.bookings, k.state = .tentative ∧ k.callRef = ref ∧ k.stay = stay) :
    ownerTake ref berth stay tags name s = (s, .refuse) := by
  have none : (b.bookings.any fun k => tentativeOf ref k && k.stay == stay) = false := by
    rw [List.any_eq_false]
    rintro k mem found
    obtain ⟨⟨tentative, call⟩, same⟩ : (k.state = .tentative ∧ k.callRef = ref) ∧ k.stay = stay := by
      simpa [tentativeOf] using found
    exact gone ⟨k, mem, tentative, call, same⟩
  simp [ownerTake, role, reads, new, none]

variable (stands : ∃ k ∈ b.bookings, k.state = .tentative ∧ k.callRef = ref ∧ k.stay = stay)
include stands

omit role reads new in
theorem stands_any : (b.bookings.any fun k => tentativeOf ref k && k.stay == stay) = true := by
  obtain ⟨k, mem, tentative, call, same⟩ := stands
  exact List.any_eq_true.2 ⟨k, mem, by simp [tentativeOf, tentative, call, same]⟩

theorem ownerTake_clash {tag : Tag} (taken : s.takenTag? tags = some tag) :
    ownerTake ref berth stay tags name s = (s, .tagInUse tag) := by
  have any := stands_any stands
  simp only [ownerTake, role, reads, new, any, taken]
  rfl

theorem ownerTake_converts (free : s.takenTag? tags = none) :
    ownerTake ref berth stay tags name s =
      ((convert berth ref stay tags name s).1, .accept s.nextSerialGiven) := by
  have any := stands_any stands
  simp only [ownerTake, role, reads, new, any, free]
  rfl

end

theorem ownerTake_elsewhere {s : State} {berth : Nat} (ref : CallRef) (stay : Stay) (tags : List Tag) (name : Option BoatName)
    (absent : s.cfg.role ≠ .pontoon ∨ s.berth? berth = none) : ownerTake ref berth stay tags name s = (s, .refuse) := by
  unfold ownerTake
  obtain role | gone := absent
  · simp [role]
  · simp [gone]

/-! ### A Take taken (R56) -/

theorem nextSerialGiven_same {s t : State} (berths : t.bst.berths = s.bst.berths)
    (next : t.bst.nextSerial = s.bst.nextSerial) : t.nextSerialGiven = s.nextSerialGiven := by
  simp only [State.nextSerialGiven, State.serials, State.liveBookings, State.bookings, berths, next]

theorem slotsUsed_same {s t : State} (berths : t.bst.berths = s.bst.berths) : t.slotsUsed = s.slotsUsed := by
  simp only [State.slotsUsed, State.liveBookings, State.bookings, berths]

theorem takenTag?_same {s t : State} (berths : t.bst.berths = s.bst.berths) (tags : List Tag) :
    t.takenTag? tags = s.takenTag? tags := by
  simp only [State.takenTag?, State.liveBookings, State.bookings, berths]

theorem conversionState_same {s t : State} (dck : t.dck = s.dck) (day : Nat) : t.conversionState day = s.conversionState day := by
  simp only [State.conversionState, State.today, dck]

/-- Settles O17: the frame heard, the booking converted, the answer queued, the posts settled. -/
theorem takeConvertsTentative : Obligations.TakeConvertsTentative := by
  intro s ch source sequence ref berth stay tags name b hears role reads new stands free fresh
  have bst : (heardOn ch s).bst = s.bst := by simp
  have berths : (heardOn ch s).bst.berths = s.bst.berths := by rw [bst]
  have given : (heardOn ch s).nextSerialGiven = s.nextSerialGiven := nextSerialGiven_same berths (by rw [bst])
  have target : (heardOn ch s).conversionState stay.arrival = s.conversionState stay.arrival :=
    conversionState_same (by simp) _
  have found : (heardOn ch s).berth? berth = some b := (congrFun (berth?_same _ _ berths) _).trans reads
  have takes := ownerTake_converts (name := name) (s := heardOn ch s) (by simpa using role) found new stands
    ((takenTag?_same berths tags).trans free)
  rw [given] at takes
  have runs : exec (.berthTake ch source sequence ref berth stay tags name) s = .next (settled s
      (sendAnswer ch source sequence (.takeAnswer ref berth (.accept s.nextSerialGiven))
        (convert berth ref stay tags name (heardOn ch s)).1)) := by
    simp only [exec, execBerthTake, event, receive_hears ch source _ s hears, onBerthTake, takes]
  have fresh' : (heardOn ch s).nextSerialGiven ∉ (heardOn ch s).serials := by
    rw [given]
    simpa [State.serials, State.liveBookings, State.bookings, berths] using fresh
  obtain ⟨k, stored, state, call, same, tagged, named, expiry, slot⟩ := convert_booking? tags name found fresh' stands
  obtain ⟨next, dirty⟩ := convert_bst berth ref stay tags name (heardOn ch s)
  rw [given] at stored next
  rw [target] at state
  rw [slotsUsed_same berths] at slot
  refine ⟨_, runs, ⟨k, ?_, state, call, same, tagged, named, expiry, slot⟩, ?_, ?_, fun reserved room => ?_, ?_⟩
  · rw [booking?_same (convert berth ref stay tags name (heardOn ch s)).1 _ (by simp)]
    exact stored
  · simpa using next
  · exact dirtyRecord_same (by simp) dirty
  · refine queued_sends ?_ (sends_background.settled s _)
    rw [convert_alone tags name found (.inl (target.trans reserved)) stands]
    have queued := sendAnswer_queued ch source sequence (.takeAnswer ref berth (.accept s.nextSerialGiven))
      (placed berth ref stay tags name (heardOn ch s)) (by simpa [placed] using room)
    have prefers : (placed berth ref stay tags name (heardOn ch s)).qlc.prefer ch = ch := by
      have qlc : (placed berth ref stay tags name (heardOn ch s)).qlc = (heardOn ch s).qlc := by simp [placed]
      rw [qlc, heardOn_prefer]
    rw [prefers] at queued
    exact queued_heardOn (queued_congr (s' := heardOn ch s) (by simp [placed]) rfl queued)
  · exact State.ext_fields _ _ (by simp)

end Sys2Proof.Machine
end

section
/-! SUPPORT. The offers of a call taken one after the other (R55, R57 to R60). -/

namespace Sys2Proof.Machine

/-! ### A call still under way -/

/-- A station in the middle of taking the offers of a call: since `s` only the call table, the error counts and the journal have
changed, `rest` are the offers left and `notes` what was written. -/
structure TakesFrom (s x : State) (n : Num8) (c : Call) (rest : List Offer) (notes : List Report) : Prop where
  call : ∃ y, CallMoved s x n y ∧ y.offers = rest ∧ y.request = c.request
  wrote : Wrote s x notes
  frame : x = { s with now := x.now, alc := x.alc, qlc := { s.qlc with errors := x.qlc.errors }, evj := x.evj }

/-- The entry of a call that takes an offer. -/
def takingCall (o : Offer) (c : Call) : Call := { c with phase := .taking, windowAt := none, inFlight := some (o.station, o.berth) }

/-- The entry of a call without its head offer. -/
def beheadedCall (c : Call) : Call := { c with offers := c.offers.tail, inFlight := none }

theorem takeHead_empty {k : Nat} {n : Num8} {s : State} {c : Call} (reads : s.call? n = some c) (empty : c.offers = []) :
    takeHead k n s = finishCall n .noBerth s := by
  cases k with
  | zero => rfl
  | succ k => simp [takeHead, reads, empty]

/-- The body of a Berth Take (R55). -/
def takeBody (s : State) (n : Num8) (c : Call) (o : Offer) : FrameBody :=
  .berthTake ⟨s.cfg.station, n⟩ o.berth c.request.stay c.request.tags c.request.name

/-- What a call goes on with when its own station has answered a Take (R55, R58). -/
def afterTake (k : Nat) (n : Num8) (o : Offer) (r : State × TakeResult) : State :=
  match r.2 with
  | .accept serial => finishCall n (.allocated o.station o.berth serial) r.1
  | .refuse => takeHead k n (changeCall n beheadedCall r.1)
  | .tagInUse t =>
    takeHead k n (changeCall n beheadedCall (report (.tagClash t (some (o.station, o.berth)) (some n)) r.1))

section
variable {k : Nat} {n : Num8} {s : State} {c : Call} {o : Offer} {rest : List Offer} (reads : s.call? n = some c)
  (offers : c.offers = o :: rest)
include reads offers

theorem takeHead_foreign (foreign : o.station ≠ s.cfg.station) :
    takeHead (k + 1) n s =
      if (ask o.station (takeBody s n c o) (.call n) (changeCall n (takingCall o) s)).2 then
        (ask o.station (takeBody s n c o) (.call n) (changeCall n (takingCall o) s)).1
      else takeHead k n (changeCall n beheadedCall
        (ask o.station (takeBody s n c o) (.call n) (changeCall n (takingCall o) s)).1) := by
  simp only [takeHead, reads, offers, foreign, if_false]
  rfl

theorem takeHead_own (own : o.station = s.cfg.station) :
    takeHead (k + 1) n s = afterTake k n o (ownerTake ⟨s.cfg.station, n⟩ o.berth c.request.stay c.request.tags
      c.request.name (changeCall n (takingCall o) s)) := by
  simp only [takeHead, reads, offers, own, if_true]
  unfold afterTake takingCall
  rw [own]
  rfl

end

/-! ### What is left to the end of the event -/

/-- The posts of `b`, whose event it is, are those of `s`, and fit. -/
structure PostsAsIn (b s : State) : Prop where
  pbc : s.pbc = b.pbc
  applied : s.lsu.applied = b.lsu.applied
  classes : s.classOf = b.classOf
  fits : b.fits

theorem PostsAsIn.settled {b s t : State} (as : PostsAsIn b s) (pbc : t.pbc = s.pbc) (lsu : t.lsu = s.lsu)
    (classes : t.classOf = s.classOf) : settled b t = t :=
  settled_same b t (pbc.trans as.pbc) ((congrArg Lsu.applied lsu).trans as.applied) (classes.trans as.classes) as.fits

namespace TakesFrom
variable {s x : State} {n : Num8} {c : Call} {o : Offer} {rest : List Offer} {notes : List Report}
  (h : TakesFrom s x n c rest notes)
include h

theorem bst : x.bst = s.bst := by rw [h.frame]
theorem cfg : x.cfg = s.cfg := by rw [h.frame]
theorem pbc : x.pbc = s.pbc := by rw [h.frame]
theorem lsu : x.lsu = s.lsu := by rw [h.frame]
theorem dck : x.dck = s.dck := by rw [h.frame]
theorem queue : x.qlc.queue = s.qlc.queue := congrArg (fun x => x.qlc.queue) h.frame
theorem requests : x.qlc.requests = s.qlc.requests := congrArg (fun x => x.qlc.requests) h.frame
theorem nextEntry : x.qlc.nextEntry = s.qlc.nextEntry := congrArg (fun x => x.qlc.nextEntry) h.frame
theorem prefer (ch : Channel) : x.qlc.prefer ch = s.qlc.prefer ch := congrArg (fun x => x.qlc.prefer ch) h.frame
theorem classOf : x.classOf = s.classOf := classOf_same _ _ (by rw [h.bst])

/-- The call finished here, as the statements say it (R59, R60). -/
theorem finishes {b : State} (as : PostsAsIn b s) (outcome : CallOutcome) :
    s.finishes (Machine.settled b (finishCall n outcome x)) n outcome ∧
    (∀ winner : Option Nat, (∀ m, winnerOf outcome = some (s.cfg.station, m) ↔ winner = some m) →
      s.released (Machine.settled b (finishCall n outcome x)) ⟨s.cfg.station, n⟩ winner) ∧
    s.journalledAll (Machine.settled b (finishCall n outcome x)) (notes ++ [.callDone n outcome]) := by
  obtain ⟨y, moved, offers, request⟩ := h.call
  have idle : Machine.settled b (finishCall n outcome x) = finishCall n outcome x :=
    as.settled (by simp [h.pbc]) (by simp [h.lsu]) (by rw [finishCall_classOf, h.classOf])
  have call := finishCall_moves outcome moved.1
  obtain ⟨berths, each⟩ := finishCall_berths outcome n x
  rw [h.bst] at berths
  rw [idle]
  refine ⟨⟨⟨_, call.1, rfl, rfl, rfl, rfl⟩, fun room => ?_⟩, fun winner names => ⟨berths, fun m => ?_⟩,
    (h.wrote.trans (finishCall_wrote outcome n x)).all⟩
  · have closes := finishCall_closes outcome n x (by rw [h.queue]; exact room)
    simpa only [State.closes, State.queuedWide, h.cfg, h.nextEntry] using closes
  · rw [each, h.cfg, congrFun (berth?_same s x (by rw [h.bst])) m]
    simp only [names]
    rfl

theorem change (f : Call → Call) (keeps : ∀ c, (f c).number = c.number) {left : List Offer}
    (offers : ∀ y, y.offers = rest → (f y).offers = left) (request : ∀ y, (f y).request = y.request) :
    TakesFrom s (changeCall n f x) n c left notes := by
  obtain ⟨y, moved, old, asked⟩ := h.call
  exact ⟨⟨f y, moved.change f keeps, offers y old, (request y).trans asked⟩, h.wrote.quiet rfl rfl, by
    conv_lhs => rw [h.frame]
    rfl⟩

theorem taking (o : Offer) : TakesFrom s (changeCall n (takingCall o) x) n c rest notes :=
  h.change (takingCall o) (fun _ => rfl) (fun _ same => same) fun _ => rfl

theorem behead : TakesFrom s (changeCall n beheadedCall x) n c rest.tail notes :=
  h.change beheadedCall (fun _ => rfl) (fun _ same => congrArg List.tail same) fun _ => rfl

theorem errors (f : ErrorSummary → ErrorSummary) : TakesFrom s (onErrors f x) n c rest notes := by
  obtain ⟨y, moved, old, asked⟩ := h.call
  exact ⟨⟨y, moved.same rfl, old, asked⟩, h.wrote.quiet rfl rfl, by
    conv_lhs => rw [h.frame]
    rfl⟩

theorem report (r : Report) : TakesFrom s (Machine.report r x) n c rest (notes ++ [r]) := by
  obtain ⟨y, moved, old, asked⟩ := h.call
  refine ⟨⟨y, moved.report r, old, asked⟩, h.wrote.report r, State.ext_fields _ _ ?_⟩
  rw [h.frame]
  simp

omit h in
/-- The head offer of another station asked for (R55). -/
theorem asks {b : State} (as : PostsAsIn b s) (table : s.qlc.requests.length < 8) (queue : s.qlc.queue.length < 16)
    (h : TakesFrom s x n c (o :: rest) notes) :
    let t := Machine.settled b (ask o.station (takeBody s n c o) (.call n) (changeCall n (takingCall o) x)).1
    (∃ x, t.call? n = some x ∧ x.phase = .taking ∧ x.inFlight = some (o.station, o.berth) ∧ x.offers = o :: rest) ∧
    (∃ p ∈ t.qlc.requests, p.destination = o.station ∧ p.originator = .call n ∧ p.attempt = 1 ∧
      p.body = takeBody s n c o ∧ s.queued t (s.qlc.prefer .a) ⟨o.station, p.sequence, p.body⟩) ∧
    t.bst = s.bst ∧ s.journalledAll t notes := by
  obtain ⟨y, moved, offers, -⟩ := h.call
  have taking := h.taking o
  obtain ⟨e, listed, body, destination, originator, attempt, queued⟩ := ask_asks (s := changeCall n (takingCall o) x)
    o.station (takeBody s n c o) (.call n) (by rw [taking.requests]; exact table) (by rw [taking.queue]; exact queue)
  have idle : Machine.settled b (ask o.station (takeBody s n c o) (.call n) (changeCall n (takingCall o) x)).1 =
      (ask o.station (takeBody s n c o) (.call n) (changeCall n (takingCall o) x)).1 :=
    as.settled (by simp [h.pbc]) (by simp [h.lsu])
      ((classOf_same (changeCall n (takingCall o) x) _ (by simp)).trans taking.classOf)
  have call := (moved.change (takingCall o) fun _ => rfl).same
    (u := (ask o.station (takeBody s n c o) (.call n) (changeCall n (takingCall o) x)).1) (by simp)
  dsimp only
  rw [idle]
  refine ⟨⟨_, call.1, rfl, rfl, offers⟩, ⟨e, listed, destination, originator, attempt, body, ?_⟩, by simp [h.bst], ?_⟩
  · rw [body]
    rw [taking.prefer] at queued
    simpa only [State.queued, taking.nextEntry] using queued
  · exact (taking.wrote.quiet (by simp) (by simp)).all

end TakesFrom

/-! ### Entries written on the way -/

theorem Wrote.grows {s t : State} {rs : List Report} (h : Wrote s t rs) : Grows s t := by
  obtain ⟨dck, a, evj⟩ := h
  exact ⟨dck, rs, a, evj⟩

theorem Grows.wrote {s t : State} (h : Grows s t) : ∃ rs, Wrote s t rs := by
  obtain ⟨dck, rs, a, evj⟩ := h
  exact ⟨rs, dck, a, evj⟩

/-- An entry written between two growths is among what the journal took. -/
theorem noted_between {s t u v : State} {r : Report} {notes : List Report} (before : Grows s t) (wrote : Wrote t u notes)
    (mem : r ∈ notes) (after : Grows u v) : s.noted v r := by
  obtain ⟨first, wroteFirst⟩ := before.wrote
  obtain ⟨last, wroteLast⟩ := after.wrote
  obtain ⟨front, back, rfl⟩ := List.append_of_mem mem
  refine ⟨first ++ front, back ++ last, ?_⟩
  have all := ((wroteFirst.trans wrote).trans wroteLast).all
  simpa [List.append_assoc] using all

/-- What has joined the queue on every usable channel stays there when the posts and the purses send their own frames. -/
theorem queuedWide_sends {s t u : State} {f : Frame} (h : s.queuedWide t f) (sends : Sends t u) : s.queuedWide u f := by
  obtain ⟨e, mem, frame, new, onA, onB⟩ := h
  obtain ⟨more, queue, -⟩ := sends.queue
  have usable (c : Channel) : u.qlc.usable c = t.qlc.usable c := by
    rw [sends.rest]
    cases c <;> rfl
  exact ⟨e, queue ▸ List.mem_append_left more mem, frame, new, by rw [usable, onA], by rw [usable, onB]⟩

/-! ### This station's own head offer converted (R56) -/

section
variable {b s x : State} {n : Num8} {c : Call} {o : Offer} {rest : List Offer} {notes : List Report} {bb : Berth}
  (h : TakesFrom s x n c rest notes) (own : o.station = s.cfg.station) (reads : s.berth? o.berth = some bb)
  (stands : ∃ k ∈ bb.bookings, k.state = .tentative ∧ k.callRef = ⟨s.cfg.station, n⟩ ∧ k.stay = c.request.stay)
  (fresh : s.nextSerialGiven ∉ s.serials)
include h own reads stands fresh

/-- The call finished with the conversion, as the statements say it (R4, R5, R59). -/
theorem TakesFrom.converts :
    let serial := s.nextSerialGiven
    let t := Machine.settled b (finishCall n (.allocated o.station o.berth serial)
      (convert o.berth ⟨s.cfg.station, n⟩ c.request.stay c.request.tags c.request.name x).1)
    t.finished n (.allocated o.station o.berth serial) ∧
    (let alone := s.conversionState c.request.stay.arrival = .reserved ∨ s.holding? o.berth = none
     s.qlc.queue.length < (if alone then 16 else 15) → s.closes t n (.allocated o.station o.berth serial)) ∧
    (∃ k, t.booking? o.berth serial = some k ∧ k.state = s.conversionState c.request.stay.arrival ∧
      k.callRef = ⟨s.cfg.station, n⟩ ∧ k.stay = c.request.stay ∧ k.tags = c.request.tags ∧ k.name = c.request.name ∧
      k.expiry = none) ∧
    t.bst.nextSerial = serialAfter serial ∧ t.dirtyRecord .station ∧ (∀ r ∈ notes, s.noted t r) ∧
    s.noted t (.bookingMade o.berth serial c.request.stay.arrival) ∧
    s.noted t (.callDone n (.allocated o.station o.berth serial)) := by
  have given : x.nextSerialGiven = s.nextSerialGiven := nextSerialGiven_same (by rw [h.bst]) (by rw [h.bst])
  have target := conversionState_same h.dck c.request.stay.arrival
  have found : x.berth? o.berth = some bb := (congrFun (berth?_same _ _ (by rw [h.bst])) _).trans reads
  have holding : x.holding? o.berth = s.holding? o.berth := by simp only [State.holding?, found, reads]
  have new : x.nextSerialGiven ∉ x.serials := by
    rw [given]
    simpa only [State.serials, State.liveBookings, State.bookings, h.bst] using fresh
  obtain ⟨y, moved, -, -⟩ := h.call
  obtain ⟨k, stored, state, call, same, tagged, named, expiry, -⟩ :=
    convert_booking? c.request.tags c.request.name found new stands
  obtain ⟨next, dirty⟩ := convert_bst o.berth ⟨s.cfg.station, n⟩ c.request.stay c.request.tags c.request.name x
  have grown := (convert_length o.berth ⟨s.cfg.station, n⟩ c.request.stay c.request.tags c.request.name x)
  have sent := sends_background.convert o.berth ⟨s.cfg.station, n⟩ c.request.stay c.request.tags c.request.name x
  have alone := convert_alone (s := x) c.request.tags c.request.name found (stay := c.request.stay)
    (ref := ⟨s.cfg.station, n⟩)
  have placing := placed_wrote o.berth ⟨s.cfg.station, n⟩ c.request.stay c.request.tags c.request.name x
  have displacing := grows_afterCurrent o.berth x (placed o.berth ⟨s.cfg.station, n⟩ c.request.stay c.request.tags c.request.name x)
  have grows : Grows x (convert o.berth ⟨s.cfg.station, n⟩ c.request.stay c.request.tags c.request.name x).1 :=
    placing.grows.trans displacing
  have alc : (convert o.berth ⟨s.cfg.station, n⟩ c.request.stay c.request.tags c.request.name x).1.alc = x.alc := by simp
  have cfg : (convert o.berth ⟨s.cfg.station, n⟩ c.request.stay c.request.tags c.request.name x).1.cfg = s.cfg := by
    simp [h.cfg]
  have made (t : State)
      (after : Grows (convert o.berth ⟨s.cfg.station, n⟩ c.request.stay c.request.tags c.request.name x).1 t) :
      s.noted t (.bookingMade o.berth s.nextSerialGiven c.request.stay.arrival) := by
    rw [given] at placing
    exact noted_between h.wrote.grows placing (List.mem_singleton.2 rfl) (displacing.trans after)
  have quiet (undisplaced : s.conversionState c.request.stay.arrival = .reserved ∨ s.holding? o.berth = none) :
      (convert o.berth ⟨s.cfg.station, n⟩ c.request.stay c.request.tags c.request.name x).1.qlc.queue.length =
        s.qlc.queue.length := by
    rw [alone (by rw [target, holding]; exact undisplaced) stands]
    simp [placed, h.queue]
  rw [given] at stored next
  rw [target] at state
  rw [h.queue] at grown
  generalize (convert o.berth ⟨s.cfg.station, n⟩ c.request.stay c.request.tags c.request.name x).1 = v at *
  have finish := finishCall_moves (.allocated o.station o.berth s.nextSerialGiven) (moved.same alc).1
  have done := finishCall_wrote (.allocated o.station o.berth s.nextSerialGiven) n v
  obtain ⟨bst, berths⟩ := finishCall_berths (.allocated o.station o.berth s.nextSerialGiven) n v
  have settles := grows_settled b (finishCall n (.allocated o.station o.berth s.nextSerialGiven) v)
  have kept : (settled b (finishCall n (.allocated o.station o.berth s.nextSerialGiven) v)).bst =
      (finishCall n (.allocated o.station o.berth s.nextSerialGiven) v).bst := by simp
  refine ⟨⟨_, (call?_same (by simp) n).trans finish.1, rfl, rfl, rfl, rfl⟩, fun room => ?_,
    ⟨k, ?_, state, call, same, tagged, named, expiry⟩, ?_, ?_, fun r mem => ?_, made _ (done.grows.trans settles), ?_⟩
  · have small : v.qlc.queue.length < 16 := by
      split at room
      · rw [quiet ‹_›]
        exact room
      · omega
    obtain ⟨e, listed, frame, later, onA, onB⟩ := finishCall_closes (.allocated o.station o.berth s.nextSerialGiven) n v small
    refine queuedWide_sends ⟨e, listed, ?_, ?_, onA, onB⟩ (sends_background.settled b _)
    · rw [← cfg]
      exact frame
    · rw [← h.nextEntry]
      exact sent.next.trans later
  · rw [booking?_same _ (settled b _) (congrArg Bst.berths kept), State.booking?, berths]
    rw [State.booking?] at stored
    simp only [winnerOf, own, cfg, if_true, Option.map_id', stored]
  · rw [kept, bst]
    exact next
  · exact dirtyRecord_congr (s := v) (by rw [kept, bst]) (by rw [kept, bst]) dirty
  · exact noted_between (.refl s) h.wrote mem ((grows.trans done.grows).trans settles)
  · exact noted_between (h.wrote.grows.trans grows) done (List.mem_singleton.2 rfl) settles

end

/-! ### All the offers of a call (R55, R57 to R60) -/

section
variable {b s : State} (as : PostsAsIn b s) {n : Num8} {c : Call} {o : Offer} {rest : List Offer} {k : Nat}
  (later : ∀ (x : State) (notes : List Report), TakesFrom s x n c rest notes →
    s.takesOffers (settled b (takeHead k n x)) n c rest notes)
  {x : State} {notes : List Report} (h : TakesFrom s x n c (o :: rest) notes)
include as later h

theorem takesOffers_foreign (foreign : o.station ≠ s.cfg.station) :
    let t := settled b (takeHead (k + 1) n x)
    (s.qlc.requests.length < 8 → s.qlc.queue.length < 16 →
      (∃ x, t.call? n = some x ∧ x.phase = .taking ∧ x.inFlight = some (o.station, o.berth) ∧ x.offers = o :: rest) ∧
      (∃ p ∈ t.qlc.requests, p.destination = o.station ∧ p.originator = .call n ∧ p.attempt = 1 ∧
        p.body = takeBody s n c o ∧ s.queued t (s.qlc.prefer .a) ⟨o.station, p.sequence, p.body⟩) ∧
      t.bst = s.bst ∧ s.journalledAll t notes) ∧
    (8 ≤ s.qlc.requests.length ∨ 16 ≤ s.qlc.queue.length → s.takesOffers t n c rest notes) := by
  obtain ⟨y, moved, offers, request⟩ := h.call
  have body : takeBody x n y o = takeBody s n c o := by simp only [takeBody, h.cfg, request]
  have taking := h.taking o
  have step := takeHead_foreign (k := k) moved.1 offers (by rw [h.cfg]; exact foreign)
  rw [body] at step
  dsimp only
  rw [step]
  refine ⟨fun table queue => ?_, fun full => ?_⟩
  · have taken := congrArg Prod.snd (ask_room (s := changeCall n (takingCall o) x) o.station (takeBody s n c o) (.call n)
      (by rw [taking.requests]; exact table) (by rw [taking.queue]; exact queue))
    rw [if_pos taken]
    exact TakesFrom.asks as table queue h
  · obtain ⟨refused, left⟩ := ask_busy (s := changeCall n (takingCall o) x) o.station (takeBody s n c o) (.call n)
      (by rw [taking.requests, taking.queue]; exact full)
    rw [if_neg (by simp [refused])]
    refine later _ notes ?_
    obtain same | counted := left
    · rw [same]
      exact taking.behead
    · rw [counted]
      exact (taking.errors _).behead

theorem takesOffers_own (own : o.station = s.cfg.station) :
    s.takesOffers (settled b (takeHead (k + 1) n x)) n c (o :: rest) notes := by
  obtain ⟨y, moved, offers, request⟩ := h.call
  have taking := h.taking o
  have step := takeHead_own (k := k) moved.1 offers (by rw [h.cfg]; exact own)
  rw [h.cfg, request] at step
  have refused := later _ notes taking.behead
  have berth : (changeCall n (takingCall o) x).berth? = s.berth? := berth?_same _ _ (by rw [taking.bst])
  have role : (changeCall n (takingCall o) x).cfg.role = s.cfg.role := by rw [taking.cfg]
  have tagged := takenTag?_same (s := s) (t := changeCall n (takingCall o) x) (by rw [taking.bst]) c.request.tags
  rw [State.takesOffers]
  refine ⟨fun foreign => absurd own foreign, fun _ => ⟨fun absent => ?_, fun bb pontoon reads =>
    ⟨fun again repeated => ?_, fun new => ⟨fun gone => ?_, fun tag stands taken => ?_, fun stands free fresh => ?_⟩⟩⟩⟩
  · rw [step, ownerTake_elsewhere _ _ _ _ (by rw [role, berth]; exact absent)]
    exact refused
  · rw [step, ownerTake_repeat (role.trans pontoon) (by rw [berth]; exact reads) repeated]
    obtain ⟨finished, released, written⟩ := taking.finishes as (.allocated o.station o.berth (again.serial.getD 0))
    exact ⟨finished, released (some o.berth) fun m => by simp [winnerOf, own], written⟩
  · rw [step, ownerTake_missing (role.trans pontoon) (by rw [berth]; exact reads) new gone]
    exact refused
  · rw [step, ownerTake_clash (role.trans pontoon) (by rw [berth]; exact reads) new stands (tagged.trans taken)]
    exact later _ _ (taking.report _).behead
  · rw [step, ownerTake_converts (role.trans pontoon) (by rw [berth]; exact reads) new stands (tagged.trans free)]
    have given : (changeCall n (takingCall o) x).nextSerialGiven = s.nextSerialGiven :=
      nextSerialGiven_same (by rw [taking.bst]) (by rw [taking.bst])
    rw [given]
    exact taking.converts own reads stands fresh

end

/-- Taking the offers of a call, the head first (R55, R57 to R60). -/
theorem takeHead_takes {b s : State} (as : PostsAsIn b s) {n : Num8} {c : Call} (rest : List Offer) (k : Nat)
    (enough : rest.length ≤ k) (x : State) (notes : List Report) (h : TakesFrom s x n c rest notes) :
    s.takesOffers (settled b (takeHead k n x)) n c rest notes := by
  induction rest generalizing k x notes with
  | nil =>
    obtain ⟨y, moved, offers, -⟩ := h.call
    obtain ⟨finished, released, written⟩ := h.finishes as .noBerth
    rw [takeHead_empty moved.1 offers, State.takesOffers]
    exact ⟨finished, released none fun m => by simp [winnerOf], written⟩
  | cons o rest ih =>
    obtain _ | k := k
    · exact absurd enough (by simp)
    · have later := ih k (by simpa using enough)
      by_cases own : o.station = s.cfg.station
      · exact takesOffers_own as later h own
      · rw [State.takesOffers]
        exact ⟨fun foreign => takesOffers_foreign as later h foreign, fun same => absurd same own⟩

end Sys2Proof.Machine
end

section
/-! SUPPORT. Offers collected, the window, Take Answers and Closes (R53 to R60). -/

namespace Sys2Proof.Machine

theorem ownerTake_alc (ref : CallRef) (berth : Nat) (stay : Stay) (tags : List Tag) (name : Option BoatName) (s : State) :
    (ownerTake ref berth stay tags name s).1.alc = s.alc := by
  unfold ownerTake
  (repeat' split) <;> simp

/-- Taking the offers of a call changes its entry and no other one. -/
theorem takeHead_moved {s : State} {n : Num8} {c : Call} (k : Nat) (reads : s.call? n = some c) :
    ∃ y, CallMoved s (takeHead k n s) n y := by
  induction k generalizing s c with
  | zero => exact ⟨_, finishCall_moves .noBerth reads⟩
  | succ k ih =>
    cases offers : c.offers with
    | nil =>
      rw [takeHead_empty reads offers]
      exact ⟨_, finishCall_moves .noBerth reads⟩
    | cons o rest =>
      have taking := (callMoved_same (t := s) reads rfl).change (takingCall o) fun _ => rfl
      have goesOn {u : State} (h : CallMoved s u n (takingCall o c)) :
          ∃ y, CallMoved s (takeHead k n (changeCall n beheadedCall u)) n y := by
        have dropped := h.change beheadedCall fun _ => rfl
        obtain ⟨y, rest⟩ := ih dropped.1
        exact ⟨y, dropped.trans rest⟩
      by_cases own : o.station = s.cfg.station
      · rw [takeHead_own reads offers own]
        have owned := taking.same (u := (ownerTake ⟨s.cfg.station, n⟩ o.berth c.request.stay c.request.tags c.request.name
          (changeCall n (takingCall o) s)).1) (ownerTake_alc _ _ _ _ _ _)
        unfold afterTake
        split
        · exact ⟨_, owned.trans (finishCall_moves _ owned.1)⟩
        · exact goesOn owned
        · exact goesOn (owned.report _)
      · rw [takeHead_foreign reads offers own]
        have asked := taking.same (u := (ask o.station (takeBody s n c o) (.call n) (changeCall n (takingCall o) s)).1)
          (by simp)
        split
        · exact ⟨_, asked⟩
        · exact goesOn asked

theorem takeNext_moved {s : State} {n : Num8} {c : Call} (reads : s.call? n = some c) : ∃ y, CallMoved s (takeNext n s) n y :=
  takeHead_moved _ reads

theorem takeNext_takes {b s x : State} {n : Num8} {c : Call} {rest : List Offer} {notes : List Report}
    (as : PostsAsIn b s) (h : TakesFrom s x n c rest notes) :
    s.takesOffers (settled b (takeNext n x)) n c rest notes := by
  obtain ⟨y, moved, offers, -⟩ := h.call
  refine takeHead_takes as rest _ ?_ x notes h
  rw [moved.1]
  simp [offers]

/-! ### Offers and the window (R53, R54) -/

/-- A call with one offer more. -/
def offeredCall (o : Offer) (c : Call) : Call := { c with offers := addOffer o c.offers }

theorem onBerthOffer_adds {s : State} {source berth cost : Nat} {ref : CallRef} {c : Call} (asker : ref.asker = s.cfg.station)
    (reads : s.call? ref.number = some c) (open_call : c.phase = .collecting)
    (new : ∀ o ∈ c.offers, ¬(o.station = source ∧ o.berth = berth)) :
    onBerthOffer source ref berth cost s = changeCall ref.number (offeredCall ⟨source, berth, cost⟩) s := by
  have absent : (c.offers.any fun o => o.station == source && o.berth == berth) = false := by
    rw [List.any_eq_false]
    intro o mem found
    exact new o mem (by simpa using found)
  simp only [onBerthOffer, asker, reads, open_call, absent, bne_self_eq_false, Bool.or_self, Bool.false_eq_true, if_false]
  rfl

theorem onBerthOffer_classOf (source : Nat) (ref : CallRef) (berth cost : Nat) (s : State) :
    (onBerthOffer source ref berth cost s).classOf = s.classOf := classOf_same _ _ (by simp)

/-- Settles O16: the entry of the call is followed through each Take. -/
theorem offersAreCollectedAndTaken : Obligations.OffersAreCollectedAndTaken := by
  refine ⟨fun s ch source ref berth cost c hears asker reads collecting new => ?_,
    fun s n c d up fits reads collecting window => ?_⟩
  · have alc : (heardOn ch s).alc = s.alc := by simp
    have found : (heardOn ch s).call? ref.number = some c := (call?_same (by rw [alc]) _).trans reads
    have adds := onBerthOffer_adds (cost := cost) (by simpa using asker) found collecting new
    have runs := deliver_quiet ch source (onBerthOffer source ref berth cost) s hears (by simp) (by simp)
      ((onBerthOffer_classOf _ _ _ _ _).trans (classOf_same _ _ (by simp)))
    rw [adds] at runs
    have next : exec (.berthOffer ch source ref berth cost) s =
        .next (changeCall ref.number (offeredCall ⟨source, berth, cost⟩) (heardOn ch s)) := congrArg Host.Outcome.next runs
    have moved := (callMoved_same (t := heardOn ch s) found rfl).change (offeredCall ⟨source, berth, cost⟩) fun _ => rfl
    exact ⟨_, next, moved.1, State.ext_fields _ _ (by simp)⟩
  · have runs : exec (.windowExpiry n) s = .next (settled s (takeNext n (reach d s))) := by
      simp only [exec, execWindowExpiry, event, whenUp, up, if_true, reads, collecting, beq_self_eq_true, window,
        Option.getD_some]
    have start : TakesFrom s (reach d s) n c c.offers [] :=
      ⟨⟨c, callMoved_same reads rfl, rfl, rfl⟩, .same rfl rfl, rfl⟩
    obtain ⟨y, -, others, alc⟩ := takeNext_moved (s := reach d s) reads
    have taken := takeNext_takes (b := s) ⟨rfl, rfl, rfl, fits⟩ start
    refine ⟨_, runs, by simp [reach], fun m other => ?_, ?_, State.ext_fields _ _ (by simp), taken⟩
    · exact (call?_same (by simp) m).trans (others m other)
    · have kept : (settled s (takeNext n (reach d s))).alc = (takeNext n (reach d s)).alc := by simp
      rw [kept]
      exact alc

end Sys2Proof.Machine
end

section
/-! SUPPORT. Answers that end a request, and Closes (R58 to R60, R170, R171, R178, R180). -/

namespace Sys2Proof.Machine

/-! ### The answer to a pending request (R178, R180) -/

theorem wroteOnly_channelDown (c : Channel) (cause : DownCause) (s : State) :
    WroteOnly s (channelDown c cause s) (if (s.qlc.line c).state = .up then [.channelDown c cause] else []) := by
  refine ⟨wrote_channelDown c cause s, fun none => ?_⟩
  have down : (s.qlc.line c).state = .down := by
    cases state : (s.qlc.line c).state
    · simp [state] at none
    · rfl
  simp only [channelDown, down]
  rfl

theorem heardOn_wroteOnly (c : Channel) (s : State) : WroteOnly s (heardOn c s) (s.heardReports c) := by
  refine ⟨heardOn_wrote c s, fun none => ?_⟩
  obtain ⟨upNone, downNone⟩ := List.append_eq_nil_iff.1 none
  have woke := (woken_wrote c s).2 upNone
  rw [heardOn_woken]
  split
  case isFalse => exact woke
  case isTrue silent =>
    have other : (woken c s).qlc.line c.other = s.qlc.line c.other := by
      rw [(woken_qlc c s).1]
      cases c <;> rfl
    have down : (s.qlc.line c.other).state ≠ .up := fun up => by simp [State.silences, silent, up] at downNone
    refine ((wroteOnly_channelDown c.other .silence (woken c s)).2 ?_).trans woke
    rw [other, if_neg down]

/-- Which request an answer matches once its frame has been heard: the same one, its channel that of the frame where its frame
had waited on the other one alone (R178). -/
theorem matching?_hears {s : State} {source : Nat} {sequence : Num8} {body : FrameBody} {p : Pending} (c : Channel)
    (h : s.matching? source sequence body = some p) :
    ∃ q, (heardOn c s).matching? source sequence body = some q ∧ q = { p with channel := q.channel } := by
  obtain ⟨-, requests, -, -⟩ := heardOn_moves c s
  refine ⟨if s.qlc.queue.any fun e => s.strands c e && !e.on c && p.entry == some e.id then { p with channel := c } else p,
    ?_, by split <;> rfl⟩
  rw [State.matching?, requests, State.requestsHeard, List.find?_map]
  have test : ((fun q : Pending => body.answers q.body && q.sequence == sequence &&
      (q.destination == source || q.kind == .tagQuery)) ∘ fun r =>
        if s.qlc.queue.any fun e => s.strands c e && !e.on c && r.entry == some e.id then { r with channel := c } else r) =
      fun q : Pending => body.answers q.body && q.sequence == sequence &&
        (q.destination == source || q.kind == .tagQuery) := by
    funext r
    simp only [Function.comp_apply]
    split <;> rfl
  rw [test, show s.qlc.requests.find? _ = some p from h]
  rfl

/-- An answer heard closes the request it matches and is handed on with it. -/
theorem takeAnswer_closes {s : State} {source : Nat} {sequence : Num8} {body : FrameBody} {p : Pending} (ch : Channel)
    (h : s.matching? source sequence body = some p) (hand : Pending → State → State) :
    ∃ q, takeAnswer source sequence body hand (heardOn ch s) = hand q (closeRequest p (heardOn ch s)) ∧
      q = { p with channel := q.channel } := by
  obtain ⟨q, found, same⟩ := matching?_hears ch h
  have closes : closeRequest q (heardOn ch s) = closeRequest p (heardOn ch s) := by rw [same]; rfl
  exact ⟨q, by simp only [takeAnswer, found, closes], same⟩

/-- The station once a frame has been heard and the request it answers has left the table. -/
theorem closeRequest_heardOn (p : Pending) (ch : Channel) (s : State) :
    let u := closeRequest p (heardOn ch s)
    u = { s with qlc := u.qlc, evj := u.evj } ∧
    u.qlc.requests = (s.requestsHeard ch).filter (fun x => x.sequence != p.sequence) ∧
    u.qlc.queue = (s.queueHeard ch).filter (fun e => !(p.entry == some e.id && s.qlc.waits e.id)) ∧
    u.qlc.nextEntry = s.qlc.nextEntry ∧ WroteOnly s u (s.heardReports ch) := by
  obtain ⟨queue, requests, next, waits⟩ := heardOn_moves ch s
  refine ⟨State.ext_fields _ _ (by simp), by simp [closeRequest, requests], ?_, next, ?_⟩
  · simp only [closeRequest, State.setQlc_qlc, queue, waits]
  · have closed := (heardOn_wroteOnly ch s).trans (WroteOnly.same (t := closeRequest p (heardOn ch s)) (by simp) (by simp))
    rwa [List.append_nil] at closed

/-! ### A Take Answer (R58) -/

section
variable {s : State} {ch : Channel} {source : Nat} {sequence : Num8} {ref : CallRef} {berth : Nat} {result : TakeResult}
  {p : Pending} {n : Num8} (hears : s.hears source)
  (matched : s.matching? source sequence (.takeAnswer ref berth result) = some p) (asked : p.originator = .call n)
include hears matched asked

theorem exec_takeAnswer :
    exec (.takeAnswer ch source sequence ref berth result) s =
      .next (settled s (takeResult n result (closeRequest p (heardOn ch s)))) := by
  obtain ⟨q, hands, same⟩ := takeAnswer_closes ch matched fun p => match p.originator with
    | .call n => takeResult n result
    | _ => id
  have originator : q.originator = .call n := by rw [same]; exact asked
  have does : onTakeAnswer source sequence ref berth result (heardOn ch s) =
      takeResult n result (closeRequest p (heardOn ch s)) := by
    refine Eq.trans hands ?_
    simp only [originator]
  simp only [exec, execTakeAnswer, event, receive_hears _ _ _ _ hears, does]

end

theorem takeResult_drops {s : State} {n : Num8} {c : Call} {st place : Nat} (reads : s.call? n = some c)
    (flight : c.inFlight = some (st, place)) :
    takeResult n .refuse s = takeNext n (changeCall n beheadedCall s) ∧
    ∀ tag, takeResult n (.tagInUse tag) s =
      takeNext n (changeCall n beheadedCall (report (.tagClash tag (some (st, place)) (some n)) s)) := by
  simp only [takeResult, reads, flight]
  exact ⟨rfl, fun _ => rfl⟩

theorem takeResult_accepts {s : State} {n : Num8} {c : Call} {st place : Nat} (reads : s.call? n = some c)
    (flight : c.inFlight = some (st, place)) (serial : Nat) :
    takeResult n (.accept serial) s = finishCall n (.allocated st place serial) s := by
  simp only [takeResult, reads, flight]

/-- A call at the start of an event that goes on with its offers. -/
theorem takesFrom_start {s : State} {n : Num8} {c : Call} (reads : s.call? n = some c) :
    TakesFrom s s n c c.offers [] :=
  ⟨⟨c, callMoved_same reads rfl, rfl, rfl⟩, .same rfl rfl, rfl⟩

/-- Settles O18: the call is followed from the station with the frame heard and the request off the table. -/
theorem answersAndClosesEndCalls : Obligations.AnswersAndClosesEndCalls := by
  refine ⟨fun s ch source sequence ref berth serial p n c st place hears matched asked reads flight => ?_,
    fun s ch source sequence ref berth result p n c st place hears matched asked reads flight => ?_,
    fun s ch source ref winner hears => ?_⟩
  · obtain ⟨frame, requests, queue, next, wrote⟩ := closeRequest_heardOn p ch s
    have there : (closeRequest p (heardOn ch s)).call? n = some c := (call?_same (by simp) n).trans reads
    have as : PostsAsIn s (closeRequest p (heardOn ch s)) :=
      ⟨by simp, by simp, classOf_same _ _ (by simp), hears.2.1⟩
    obtain ⟨finished, released, written⟩ := (takesFrom_start there).finishes as (.allocated st place serial)
    have runs := exec_takeAnswer (ch := ch) hears matched asked
    rw [takeResult_accepts there flight] at runs
    refine ⟨_, runs, ⟨⟨frame, requests, queue, next, wrote.1.all, wrote.2⟩, finished, ?_, written⟩, ?_, ?_⟩
    · have station : (closeRequest p (heardOn ch s)).cfg.station = s.cfg.station := by simp
      rw [station] at released
      refine released _ fun m => ?_
      by_cases own : st = s.cfg.station
      · simp [winnerOf, own]
      · simp [winnerOf, own]
    · have idle := as.settled (t := finishCall n (.allocated st place serial) (closeRequest p (heardOn ch s))) (by simp)
        (by simp) (finishCall_classOf _ _ _)
      rw [idle, finishCall_requests, ← matching?_sequence matched]
      exact closeRequest_closes
    · rw [as.settled (t := finishCall n (.allocated st place serial) (closeRequest p (heardOn ch s))) (by simp)
        (by simp) (finishCall_classOf _ _ _)]
      exact State.ext_fields _ _ (by simp)
  · obtain ⟨frame, requests, queue, next, wrote⟩ := closeRequest_heardOn p ch s
    have there : (closeRequest p (heardOn ch s)).call? n = some c := (call?_same (by simp) n).trans reads
    have as : PostsAsIn s (closeRequest p (heardOn ch s)) :=
      ⟨by simp, by simp, classOf_same _ _ (by simp), hears.2.1⟩
    obtain ⟨refused, clashes⟩ := takeResult_drops there flight
    have start := takesFrom_start there
    refine ⟨_, exec_takeAnswer hears matched asked, ⟨⟨frame, requests, queue, next, wrote.1.all, wrote.2⟩,
      fun is => ?_, fun tag is => ?_⟩, State.ext_fields _ _ (by simp)⟩
    · rw [is, refused]
      exact takeNext_takes as start.behead
    · rw [is, clashes]
      exact takeNext_takes as (start.report _).behead
  · have runs : exec (.berthClose ch source ref winner) s = .next (applyClose ref winner (heardOn ch s)) :=
      congrArg Host.Outcome.next (deliver_quiet ch source (applyClose ref winner) s hears (by simp) (by simp)
        ((applyClose_classOf _ _ _).trans (classOf_same _ _ (by simp))))
    refine ⟨_, runs, fun n => ?_, ?_, State.ext_fields _ _ (by simp)⟩
    · rw [applyClose_berth?, congrFun (berth?_same s (heardOn ch s) (by simp)) n]
      simp only [heardOn_frame]
      rfl
    · rw [applyClose_bst]
      simp

end Sys2Proof.Machine
end

section
/-! SUPPORT. The deadline of a request (R179): its next attempt, or TIMED_OUT to the one who asked; an attempt withdrawn. -/

namespace Sys2Proof.Machine

/-! ### The next attempt (R177, R179) -/

section
variable {s : State} {n : Num8} {p : Pending} {d : Nat} (up : s.up = true)
  (pending : s.request? n = some p) (due : p.deadline = some d)
include up pending due

theorem exec_responseTimeout :
    exec (.responseTimeout n) s = .next (settled s (deadlineCome p handTimedOut (reach d s))) := by
  simp only [exec, execResponseTimeout, event, whenUp, up, if_true, pending, due]

end

/-- A request once an attempt has been made, or has found the queue full. -/
def attempted (now timeout : Nat) (c : Channel) (entry : Option Nat) (p x : Pending) : Pending :=
  { x with attempt := p.attempt + 1, channel := c, entry := entry, dropAt := now + 200
           deadline := if entry.isSome then none else some (now + timeout) }

theorem nextAttempt_eq (p : Pending) (s : State) :
    nextAttempt p s =
      let r := enqueueOn (s.qlc.prefer p.channel.other) ⟨p.destination, p.sequence, p.body⟩ s
      onRequest p.sequence (attempted s.now s.cfg.responseTimeout (s.qlc.prefer p.channel.other) r.2 p) r.1 := rfl

theorem request?_attempted {s : State} {n : Num8} {p : Pending} (pending : s.request? n = some p) (timeout : Nat) (c : Channel)
    (entry : Option Nat) {t : State} (requests : t.qlc.requests = s.qlc.requests) :
    (onRequest p.sequence (attempted s.now timeout c entry p) t).request? n = some (attempted s.now timeout c entry p p) := by
  have found : t.request? n = some p := by rw [State.request?, requests]; exact pending
  rw [request?_onRequest _ _ (attempted s.now timeout c entry p) _ fun _ => rfl, found]
  simp

theorem nextAttempt_room {s : State} {n : Num8} {p : Pending} (pending : s.request? n = some p)
    (queue : s.qlc.queue.length < 16) :
    (nextAttempt p s).request? n = some { p with
      attempt := p.attempt + 1, channel := s.qlc.prefer p.channel.other, deadline := none, dropAt := s.now + 200
      entry := some s.qlc.nextEntry } ∧
    s.queued (nextAttempt p s) (s.qlc.prefer p.channel.other) ⟨p.destination, n, p.body⟩ := by
  obtain rfl := request?_sequence pending
  rw [nextAttempt_eq]
  simp only [enqueueOn, enqueue, queue, if_true]
  exact ⟨request?_attempted pending _ _ _ rfl, ⟨s.qlc.nextEntry, ⟨p.destination, p.sequence, p.body⟩,
    s.qlc.prefer p.channel.other == .a, s.qlc.prefer p.channel.other == .b⟩, by simp [onRequest], rfl, Nat.le_refl _, rfl, rfl⟩

theorem nextAttempt_full {s : State} {n : Num8} {p : Pending} (pending : s.request? n = some p)
    (queue : 16 ≤ s.qlc.queue.length) :
    (nextAttempt p s).request? n = some { p with
      attempt := p.attempt + 1, channel := s.qlc.prefer p.channel.other
      deadline := some (s.now + s.cfg.responseTimeout), dropAt := s.now + 200, entry := none } ∧
    (nextAttempt p s).qlc.queue = s.qlc.queue ∧ (nextAttempt p s).qlc.errors = s.qlc.errors.full := by
  obtain rfl := request?_sequence pending
  rw [nextAttempt_eq]
  simp only [enqueueOn, enqueue_full _ _ _ _ (Nat.not_lt.2 queue)]
  exact ⟨request?_attempted pending _ _ _ rfl, rfl, rfl⟩

/-! ### TIMED_OUT to TPC, ALC and FSC (R58, R146, R151, R153, R189) -/

theorem officeTimedOut_forwarding {s : State} {k : CmdKind} {st : Nat} (state : s.tpc.state = .forwarding k st) :
    officeTimedOut s = sendReply (answer k .noAnswer) (report (.officeUncertain st k) s) := by
  simp only [officeTimedOut, state]

theorem takeTimedOut_drops {s : State} {n : Num8} {c : Call} {st place : Nat} (reads : s.call? n = some c)
    (flight : c.inFlight = some (st, place)) :
    takeTimedOut n s = takeNext n (changeCall n beheadedCall (report (.takeUncertain st place n) s)) := by
  simp only [takeTimedOut, reads, flight]
  rfl

/-- A sale refused leaves its pump, in whatever state the pump is. -/
theorem refuseSale_leaves {s : State} {n : Nat} {p : Pump} {x : Sale} (reads : s.pump? n = some p) (why : SaleRefusal) :
    PumpMoved s (refuseSale n x why s) n { leftPump (fun y => y.closed .refused) p with
      display := .refused why, refusedUntil := some (s.now + 5000) } ∧
    s.journalled (refuseSale n x why s) (.saleRefused n why ((x.party.map SaleParty.tag).getD 0) x.faultMark) := by
  have now : (leavePump n (fun y => y.closed .refused) s).now = s.now := by simp
  constructor
  · rw [refuseSale, showRefused, now]
    exact (((pumpMoved_same reads rfl).leavePump fun y => y.closed .refused).change
      (fun p => { p with display := .refused why, refusedUntil := some (s.now + 5000) }) fun _ => rfl).report _
  · exact journalled_report _ (by simp [showRefused]) (by simp [showRefused])

section
variable {s : State} {id : HoldId} {q : Pump} {x : Sale} (reads : s.pump? id.pump = some q) (sale : q.sale = some x)
  (own : x.id = id)
include reads sale own

theorem pumpTimedOut_refuses (stage : x.stage = .authorising) :
    pumpTimedOut id s = refuseSale id.pump x .noAnswer s := by
  simp [pumpTimedOut, onPump?_reads reads sale own, stage]

theorem pumpTimedOut_lists (stage : x.stage ≠ .authorising) : pumpTimedOut id s = toList id.pump s := by
  simp [pumpTimedOut, onPump?_reads reads sale own, stage]

end

/-! ### TIMED_OUT to a lookup (R117) -/

/-- UNKNOWN begins no sale, and so asks nothing. -/
theorem deliverPump_unknown_qlc (n : Nat) (tag : Tag) (s : State) : (deliverPump n tag .unknown s).qlc = s.qlc := by
  unfold deliverPump
  split
  · rfl
  · split
    · simp
    · split <;> simp [showRefused]

theorem deliver_unknown_qlc (tag : Tag) (reader : Reader) (s : State) : (deliver tag .unknown reader s).qlc = s.qlc := by
  cases reader with
  | gate n => simp [deliver]
  | pump n => exact deliverPump_unknown_qlc n tag s

theorem deliverAll_unknown_qlc (tag : Tag) (readers : List Reader) (s : State) :
    (deliverAll tag .unknown readers s).qlc = s.qlc := by
  induction readers generalizing s with
  | nil => rfl
  | cons reader rest ih =>
    rw [deliverAll_cons, ih, deliver_unknown_qlc]
    rfl

/-- Deliveries count, and leave the lookups. -/
theorem deliverAll_lookups (tag : Tag) (r : LookupResult) (readers : List Reader) (s : State) :
    (deliverAll tag r readers s).acu.lookups = s.acu.lookups :=
  foldl_same (fun x => x.acu.lookups) _ (fun x reader => by simp [onCounts]) readers s

theorem lookupTimedOut_delivers {s : State} {tag : Tag} {l : Lookup} (reads : s.lookup? tag = some l) :
    lookupTimedOut tag s = deliverAll tag .unknown l.waiting (dropLookup tag s) := by
  simp only [lookupTimedOut, reads]

/-- What is unknown is denied, with nothing known of its holder (R132, R133). -/
theorem gateAfter_unknown (s : State) (g : Gate) (tag : Tag) :
    s.gateAfter g .unknown = { g with denials := min top32 (g.denials + 1) } ∧
    s.gateNotes g tag .unknown = [.accessDenied tag ⟨g.cfg.number, none, none, none, none, none, none⟩ .unknown] :=
  ⟨rfl, rfl⟩

/-! ### The request off the table -/

/-- The station whose request has just left the table at its deadline. -/
abbrev timedOut (p : Pending) (d : Nat) (s : State) : State := closeRequest p (reach d s)

section
variable {s : State} {n : Num8} {p : Pending} (d : Nat) (pending : s.request? n = some p)
include pending

theorem timedOut_requests : (timedOut p d s).qlc.requests = s.qlc.requests.filter fun x => x.sequence != n := by
  obtain rfl := request?_sequence pending
  rfl

theorem timedOut_room : (timedOut p d s).qlc.requests.length < s.qlc.requests.length := by
  rw [timedOut_requests d pending]
  have listed := List.mem_of_find?_eq_some pending
  refine List.length_filter_lt_length_iff_exists.2 ⟨p, listed, ?_⟩
  simp [request?_sequence pending]

end

theorem timedOut_queue (p : Pending) (d : Nat) (s : State) : (timedOut p d s).qlc.queue.length ≤ s.qlc.queue.length :=
  List.length_filter_le _ _

theorem postsAsIn_timedOut {s : State} (fits : s.fits) (p : Pending) (d : Nat) : PostsAsIn s (timedOut p d s) :=
  ⟨by simp [reach], by simp [reach], classOf_same _ _ (by simp [reach]), fits⟩

/-! ### The originators, one by one -/

section
variable {s : State} {n m : Num8} {p : Pending} {d st berth : Nat} {c : Call} (fits : s.fits) (pending : s.request? n = some p)
  (reads : s.call? m = some c) (flight : c.inFlight = some (st, berth))
include fits reads flight

/-- A call whose Take is uncertain goes on with the offers behind the head (R58). -/
theorem takeTimedOut_does :
    takeTimedOut m (timedOut p d s) =
      takeNext m (changeCall m beheadedCall (report (.takeUncertain st berth m) (timedOut p d s))) ∧
    TakesFrom (timedOut p d s) (changeCall m beheadedCall (report (.takeUncertain st berth m) (timedOut p d s))) m c
      c.offers.tail [.takeUncertain st berth m] ∧
    PostsAsIn s (timedOut p d s) := by
  have there : (timedOut p d s).call? m = some c := (call?_same (by simp [reach]) m).trans reads
  exact ⟨takeTimedOut_drops there flight, ((takesFrom_start there).report _).behead, postsAsIn_timedOut fits p d⟩

include pending

theorem takeTimedOut_finishes {o : Offer} (only : c.offers = [o]) :
    let t := settled s (takeTimedOut m (timedOut p d s))
    (∃ x, t.call? m = some x ∧ x.phase = .finished ∧ x.outcome = some .noBerth) ∧
    t.qlc.requests = s.qlc.requests.filter (fun x => x.sequence != n) ∧
    s.journalledAll t [.takeUncertain st berth m, .callDone m .noBerth] := by
  obtain ⟨does, goesOn, as⟩ := takeTimedOut_does (p := p) (d := d) fits reads flight
  rw [only] at goesOn
  obtain ⟨y, moved, offers, -⟩ := goesOn.call
  have ends : takeTimedOut m (timedOut p d s) = finishCall m .noBerth
      (changeCall m beheadedCall (report (.takeUncertain st berth m) (timedOut p d s))) := by
    rw [does, takeNext]
    exact takeHead_empty moved.1 offers
  obtain ⟨⟨⟨x, found, phase, outcome, -⟩, -⟩, -, written⟩ := goesOn.finishes as .noBerth
  have idle := as.settled (t := finishCall m .noBerth
    (changeCall m beheadedCall (report (.takeUncertain st berth m) (timedOut p d s)))) (by simp) (by simp)
    ((finishCall_classOf _ _ _).trans goesOn.classOf)
  dsimp only
  rw [ends]
  refine ⟨⟨x, found, phase, outcome⟩, ?_, ?_⟩
  · rw [idle, finishCall_requests, goesOn.requests, timedOut_requests d pending]
  · exact written

theorem takeTimedOut_asks {old o : Offer} {rest : List Offer} (offers : c.offers = old :: o :: rest)
    (foreign : o.station ≠ s.cfg.station) (table : s.qlc.requests.length ≤ 8) (queue : s.qlc.queue.length < 16) :
    let t := settled s (takeTimedOut m (timedOut p d s))
    (∃ x, t.call? m = some x ∧ x.phase = .taking ∧ x.inFlight = some (o.station, o.berth) ∧ x.offers = o :: rest) ∧
    s.journalled t (.takeUncertain st berth m) ∧
    ∃ e ∈ t.qlc.requests, e.destination = o.station ∧ e.originator = .call m ∧ e.attempt = 1 ∧
      e.body = .berthTake ⟨s.cfg.station, m⟩ o.berth c.request.stay c.request.tags c.request.name := by
  obtain ⟨does, goesOn, as⟩ := takeTimedOut_does (p := p) (d := d) fits reads flight
  have taken := takeNext_takes as goesOn
  rw [offers, List.tail_cons, State.takesOffers] at taken
  rw [does]
  obtain ⟨asks, -⟩ := taken.1 (by simpa [reach] using foreign)
  obtain ⟨call, ⟨e, listed, destination, originator, attempt, body, -⟩, -, written⟩ := asks
    ((timedOut_room d pending).trans_le table) ((timedOut_queue p d s).trans_lt queue)
  exact ⟨call, written, e, listed, destination, originator, attempt, by simpa [reach] using body⟩

end

/-! ### An attempt withdrawn (R179) -/

/-- A request whose attempt has been withdrawn, with its response timeout running. -/
def undue (at' : Nat) (p : Pending) : Pending := { p with deadline := some at', entry := none }

/-- The station once the attempt of a request has been withdrawn. -/
def withdrawn (p : Pending) (s : State) : State :=
  onRequest p.sequence (undue (max s.now p.dropAt + s.cfg.responseTimeout)) ((reach p.dropAt s).setQlc { s.qlc with
    queue := s.qlc.queue.filter fun e => p.entry != some e.id })

/-- Settles O45: the next attempt, TIMED_OUT to each originator, an attempt withdrawn. -/
theorem requestDeadlines : Obligations.RequestDeadlines := by
  refine ⟨fun s n p d up fits pending due => ?_, fun s n p up pending undated => ?_, fun s n l up dated left => ?_⟩
  · have as := postsAsIn_timedOut fits p d
    have here : (reach d s).request? n = some p := pending
    have attempts (more : p.attempt < 3) :
        settled s (deadlineCome p handTimedOut (reach d s)) = nextAttempt p (reach d s) := by
      rw [deadlineCome, if_pos more]
      exact settled_same _ _ (by simp [reach]) (by simp [reach]) (classOf_same _ _ (by simp [reach])) fits
    have ends (last : 3 ≤ p.attempt) : deadlineCome p handTimedOut (reach d s) = handTimedOut p (timedOut p d s) :=
      if_neg (Nat.not_lt.2 last)
    have now : (deadlineCome p handTimedOut (reach d s)).now = max s.now d := by
      unfold deadlineCome
      split <;> simp [reach]
    have requests := timedOut_requests d pending
    have fsc : (timedOut p d s).fsc = s.fsc := by simp [reach]
    refine ⟨_, exec_responseTimeout up pending due, by simp [now], fun more room => ?_, fun more full => ?_,
      fun k st last asked state => ?_, fun m c st berth last asked reads flight => ?_, fun tag l last asked reads => ?_,
      fun id q x last asked reads sale own => ?_, fun id last asked => ?_⟩
    · rw [attempts more]
      obtain ⟨after, queued⟩ := nextAttempt_room here room
      exact ⟨by rw [after]; simp [reach], queued, State.ext_fields _ _ (by simp [reach])⟩
    · rw [attempts more]
      obtain ⟨after, queue, errors⟩ := nextAttempt_full here full
      exact ⟨by rw [after]; simp [reach], queue, errors, State.ext_fields _ _ (by simp [reach])⟩
    · have does : handTimedOut p (timedOut p d s) =
          sendReply (answer k .noAnswer) (report (.officeUncertain st k) (timedOut p d s)) := by
        simp only [handTimedOut, asked]
        exact officeTimedOut_forwarding (by simpa [reach] using state)
      rw [ends last, does, as.settled (by simp) (by simp) (classOf_same _ _ (by simp))]
      exact ⟨by rw [← requests]; simp, by simp [sendReply, Tpc.sending, reach],
        journalled_report _ (by simp [reach]) (by simp [reach]), State.ext_fields _ _ (by simp [sendReply, reach])⟩
    · have does : handTimedOut p (timedOut p d s) = takeTimedOut m (timedOut p d s) := by simp only [handTimedOut, asked]
      rw [ends last, does]
      exact ⟨fun o only => takeTimedOut_finishes fits pending reads flight only,
        fun old o rest offers foreign table queue =>
          takeTimedOut_asks fits pending reads flight offers foreign table queue⟩
    · have does : handTimedOut p (timedOut p d s) =
          deliverAll tag .unknown l.waiting (dropLookup tag (timedOut p d s)) := by
        simp only [handTimedOut, asked]
        exact lookupTimedOut_delivers (by simpa [State.lookup?, reach] using reads)
      rw [ends last, does, as.settled (by simp) (by simp) (classOf_same _ _ (by simp))]
      refine ⟨⟨dropLookup tag (timedOut p d s), rfl, State.ext_fields _ _ (by simp [reach]), by simp [dropLookup, reach]⟩,
        fun g x distinct waits reads => ?_, by rw [deliverAll_lookups]; simp [dropLookup, reach],
        by rw [deliverAll_unknown_qlc, ← requests]; simp, fun g x only reads closed => ?_⟩
      · have stands : (dropLookup tag (timedOut p d s)).gate? g = some x :=
          (congrFun (gate?_same s _ (by simp [reach])) g).trans reads
        rw [deliverAll_gate tag .unknown _ distinct waits stands]
        rfl
      · have stands : (onCounts (countedOnce .unknown) (dropLookup tag (timedOut p d s))).gate? g = some x :=
          (congrFun (gate?_same s _ (by simp [reach, onCounts])) g).trans reads
        obtain ⟨moved, wrote⟩ := deliverGate_moves tag .unknown stands closed
        obtain ⟨after, notes⟩ := gateAfter_unknown (onCounts (countedOnce .unknown) (dropLookup tag (timedOut p d s))) x tag
        rw [only, deliverAll_cons, deliverAll_nil]
        rw [after] at moved
        rw [notes, gate?_number reads] at wrote
        have moved := GateMoved.since (r := s) moved (by simp [reach, onCounts])
        exact ⟨moved.1, moved.2, wrote.1.all⟩
    · have does : handTimedOut p (timedOut p d s) = pumpTimedOut id (timedOut p d s) := by simp only [handTimedOut, asked]
      have there : (timedOut p d s).pump? id.pump = some q := (congrFun (pump?_same _ _ fsc) _).trans reads
      rw [ends last, does, as.settled (by simp) (by simp) (classOf_same _ _ (by simp))]
      refine ⟨fun stage => ?_, fun slot stage free => ?_⟩
      · rw [pumpTimedOut_refuses there sale own stage]
        obtain ⟨moved, written⟩ := refuseSale_leaves (x := x) there .noAnswer
        have moved := moved.since fsc
        refine ⟨?_, moved.only, ?_⟩
        · rw [moved.reads]
          simp [leftPump, sale, Sale.closed, reach]
        · exact written
      · rw [pumpTimedOut_lists there sale own stage]
        obtain ⟨left, others, -, dirty, list, -, -, quiet⟩ := toList_joins there sale
          (by rw [fsc]; exact free)
        rw [fsc] at list
        refine ⟨?_, fun k other => ?_, list, dirty, ?_⟩
        · rw [left]
          simp [leftPump, sale]
        · rw [others k other, pump?_same _ _ fsc]
        · rw [toList_slot there sale (by rw [fsc]; exact free)]
          simp [movedToList, reach]
    · have does : handTimedOut p (timedOut p d s) = listTimedOut id (timedOut p d s) := by simp only [handTimedOut, asked]
      rw [ends last, does, as.settled (by simp) (by simp) (classOf_same _ _ (by simp))]
      refine ⟨?_, State.ext_fields _ _ (by simp [reach])⟩
      simp [listTimedOut, changeListed, updWhere, reach]
  · obtain rfl := request?_sequence pending
    have runs : exec (.attemptDrop p.sequence) s = .next (withdrawn p s) := by
      simp only [exec, execAttemptDrop, whenUp, up, if_true, pending, Option.filter, undated, Option.isNone_none]
      rfl
    refine ⟨_, runs, rfl, ?_, rfl, rfl⟩
    rw [withdrawn, request?_onRequest _ _ (undue (max s.now p.dropAt + s.cfg.responseTimeout)) _ fun _ => rfl]
    rw [State.request?] at pending
    simp [State.request?, pending, undue, reach]
  · refine ⟨(reach l.dropAt s).setQlc { s.qlc with
        queue := s.qlc.queue.filter fun e => e.id != l.entry
        leftovers := s.qlc.leftovers.filter fun x => x.entry != l.entry }, ?_, rfl, rfl, rfl⟩
    have none : (s.request? n).filter (fun p => p.deadline.isNone) = none := by
      cases found : s.request? n with
      | none => rfl
      | some p => simp [dated p found]
    simp only [exec, execAttemptDrop, whenUp, up, if_true, none, dropLeftover, left]
    rfl

end Sys2Proof.Machine
end

section
/-! SUPPORT. Tag Queries, Tag Answers and Tag Revokes (R112, R117, R120 to R124). -/

namespace Sys2Proof.Machine

/-! ### What the lookups depend on -/

theorem localCredential?_same {s t : State} (berths : t.bst.berths = s.bst.berths) (cfg : t.cfg = s.cfg) (tag : Tag) :
    t.localCredential? tag = s.localCredential? tag := by
  simp only [State.localCredential?, State.byTag?, State.liveBookings, State.bookings, berths, cfg]

theorem lookup?_same {s t : State} (lookups : t.acu.lookups = s.acu.lookups) (tag : Tag) : t.lookup? tag = s.lookup? tag := by
  simp only [State.lookup?, lookups]

theorem lookup?_tag {s : State} {tag : Tag} {l : Lookup} (reads : s.lookup? tag = some l) : l.tag = tag := by
  simpa using List.find?_some reads

/-! ### A Tag Query (R121) -/

theorem exec_tagQuery {s : State} (ch : Channel) {source : Nat} (sequence : Num8) (tag : Tag) (hears : s.hears source) :
    exec (.tagQuery ch source sequence tag) s = .next (onTagQuery ch source sequence tag (heardOn ch s)) :=
  congrArg Host.Outcome.next (deliver_quiet ch source (onTagQuery ch source sequence tag) s hears (by simp) (by simp)
    (classOf_same _ _ (by simp)))

theorem onTagQuery_holder {s : State} {tag : Tag} {record : Credential} {d : Nat}
    (holds : s.localCredential? tag = some (record, d)) (c : Channel) (source : Nat) (sequence : Num8) :
    onTagQuery c source sequence tag s = sendAnswer c source sequence (.tagAnswer record d) s := by
  simp only [onTagQuery, holds]

theorem onTagQuery_other {s : State} {tag : Tag} (strange : s.localCredential? tag = none) (c : Channel) (source : Nat)
    (sequence : Num8) : onTagQuery c source sequence tag s = s := by
  simp only [onTagQuery, strange]

/-! ### A result delivered to every reader (R112, R126) -/

theorem deliver_acu (tag : Tag) (r : LookupResult) (reader : Reader) (s : State) :
    (deliver tag r reader (onCounts (countedOnce r) s)).acu = { s.acu with counts := countedOnce r s.acu.counts } := by
  simp [onCounts]

/-- Deliveries count, and leave the rest of ACU. -/
theorem deliverAll_acu (tag : Tag) (r : LookupResult) (readers : List Reader) (s : State) :
    (deliverAll tag r readers s).acu = { s.acu with counts := (deliverAll tag r readers s).acu.counts } := by
  induction readers generalizing s with
  | nil => rfl
  | cons reader rest ih => rw [deliverAll_cons, ih, deliver_acu]

/-- What the result of a lookup given to all its readers comes to, in the words of the statement: the deliveries start from a
station whose lookup of the tag has left. -/
abbrev GivenTo (s t : State) (requests : List Pending) (tag : Tag) (waiting : List Reader) (r : LookupResult) : Prop :=
  (∃ u, t = deliverAll tag r waiting u ∧ u = { s with acu := u.acu, qlc := u.qlc, evj := u.evj } ∧
    u.acu = { s.acu with cache := t.acu.cache, lookups := s.acu.lookups.filter fun x => x.tag != tag } ∧
    u.qlc.requests = requests) ∧
  (∀ x ∈ t.acu.lookups, x.tag ≠ tag) ∧
  ∀ n g, waiting.Nodup → Reader.gate n ∈ waiting → s.gate? n = some g →
    t.gate? n = some (if g.state = .unlocked then g else s.gateAfter g r)

theorem givenTo_deliverAll {s u : State} {requests : List Pending} {tag : Tag} {waiting : List Reader} (r : LookupResult)
    (frame : u = { s with acu := u.acu, qlc := u.qlc, evj := u.evj })
    (acu : u.acu = { s.acu with cache := u.acu.cache, lookups := s.acu.lookups.filter fun x => x.tag != tag })
    (table : u.qlc.requests = requests) : GivenTo s (deliverAll tag r waiting u) requests tag waiting r := by
  have after := deliverAll_acu tag r waiting u
  refine ⟨⟨u, rfl, frame, ?_, table⟩, fun x mem => ?_, fun n g distinct waits reads => ?_⟩
  · rw [after]
    exact acu
  · rw [after, acu] at mem
    simpa using (List.mem_filter.1 mem).2
  · have there : u.gate? n = some g := (congrFun (gate?_same s u (by rw [frame])) n).trans reads
    rw [deliverAll_gate tag r u distinct waits there, gateGiven_same (s := s) g r (by rw [frame]) (by rw [frame]) (by rw [frame])]
    rfl

/-! ### A Tag Answer (R117, R120, R124) -/

section
variable {s : State} {ch : Channel} {source : Nat} {sequence : Num8} {record : Credential} {d : Nat} {p : Pending}

theorem exec_tagAnswer (hears : s.hears source) (matched : s.matching? source sequence (.tagAnswer record d) = some p) :
    exec (.tagAnswer ch source sequence record d) s =
      .next (lookupAnswered record d (closeRequest p (heardOn ch s))) := by
  obtain ⟨q, hands, -⟩ := takeAnswer_closes ch matched fun _ => lookupAnswered record d
  rw [← hands]
  exact congrArg Host.Outcome.next (deliver_quiet ch source (onTagAnswer source sequence record d) s hears (by simp) (by simp)
    (classOf_same _ _ ((takeAnswer_berths (fun _ x => (lookupAnswered_shelf record d x).1) _).trans (by simp))))

end

section
variable {s : State} {record : Credential} {l : Lookup} (d : Nat) (reads : s.lookup? record.tag = some l)
include reads

theorem lookupAnswered_fills (phase : l.phase = .first) (sound : l.marked = false) :
    lookupAnswered record d s =
      deliverAll record.tag (.found record .query) l.waiting (dropLookup record.tag (fillCache record d s)) := by
  simp only [lookupAnswered, reads, phase, sound, lookup?_tag reads]

theorem lookupAnswered_requeried (phase : l.phase = .requery) :
    lookupAnswered record d s =
      deliverAll record.tag (.found record .query) l.waiting (dropLookup record.tag s) := by
  simp only [lookupAnswered, reads, phase, lookup?_tag reads]

theorem lookupAnswered_marked (phase : l.phase = .first) (marked : l.marked = true) :
    lookupAnswered record d s = requery l s := by
  simp only [lookupAnswered, reads, phase, marked]

end

theorem fillCache_only (record : Credential) (d : Nat) (s : State) :
    fillCache record d s = s.setAcu { s.acu with cache := (fillCache record d s).acu.cache } := by
  unfold fillCache
  split <;> rfl

theorem fillCache_cases (record : Credential) (d : Nat) (s : State) :
    (s.fillWay? record.tag = none → (fillCache record d s).acu.cache = s.acu.cache) ∧
    ∀ w, s.fillWay? record.tag = some w →
      (fillCache record d s).acu.cache = ⟨w, record, some (s.fillUntil d), false⟩ :: s.acu.cache.filter fun e =>
        !(e.record.tag.toNat % 64 == record.tag.toNat % 64 && e.way == w) := by
  refine ⟨fun pinned => ?_, fun w fills => ?_⟩
  · simp only [fillCache, pinned]
  · simp only [fillCache, fills]
    rfl

theorem fillWay?_same {s t : State} (acu : t.acu = s.acu) (now : t.now = s.now) (tag : Tag) : t.fillWay? tag = s.fillWay? tag := by
  simp only [State.fillWay?, State.openWay?, State.seconds, acu, now]

theorem fillCache_cache {s t : State} (record : Credential) (d : Nat) (acu : t.acu = s.acu) (now : t.now = s.now)
    (cfg : t.cfg = s.cfg) (dck : t.dck = s.dck) : (fillCache record d t).acu.cache = (fillCache record d s).acu.cache := by
  have until' : t.fillUntil d = s.fillUntil d := by simp only [State.fillUntil, State.seconds, cfg, dck, now]
  have way := fillWay?_same acu now record.tag
  obtain ⟨pinned, fills⟩ := fillCache_cases record d s
  obtain ⟨pinned', fills'⟩ := fillCache_cases record d t
  cases found : s.fillWay? record.tag with
  | none => rw [pinned found, pinned' (way.trans found), acu]
  | some w => rw [fills w found, fills' w (way.trans found), acu, until']

section
variable {s : State} {l : Lookup}

theorem requery_local {own : Credential} {day : Nat} (holds : s.localCredential? l.tag = some (own, day)) :
    requery l s = deliverAll l.tag (.found own .localBooking) l.waiting (dropLookup l.tag s) := by
  simp only [requery, holds]

variable (strange : s.localCredential? l.tag = none)
include strange

theorem requery_asks (table : s.qlc.requests.length < 8) (queue : s.qlc.queue.length < 16) :
    requery l s = changeLookup l.tag (fun x => { x with phase := .requery, marked := false })
      (onCounts (fun c => { c with queries := bumpTop c.queries, requeries := bumpTop c.requeries })
        (ask 0 (.tagQuery l.tag) (.lookup l.tag) s).1) := by
  have taken := congrArg Prod.snd (ask_room (s := s) 0 (.tagQuery l.tag) (.lookup l.tag) table queue)
  simp only [requery, strange, taken, if_true]

theorem requery_busy (queue : 16 ≤ s.qlc.queue.length) :
    requery l s = deliverAll l.tag .noAnswer l.waiting (dropLookup l.tag (ask 0 (.tagQuery l.tag) (.lookup l.tag) s).1) := by
  have refused := (ask_busy (s := s) 0 (.tagQuery l.tag) (.lookup l.tag) (.inr queue)).1
  simp only [requery, strange, refused, Bool.false_eq_true, if_false]

end

theorem requery_cache (l : Lookup) (s : State) : (requery l s).acu.cache = s.acu.cache := by
  unfold requery
  split
  · rw [deliverAll_acu]
    rfl
  · dsimp only
    split
    · simp [changeLookup, onCounts]
    · rw [deliverAll_acu]
      simp [dropLookup]

/-! ### The table and the queue behind an answer -/

section
variable {s : State} {ch : Channel} {source : Nat} {sequence : Num8} {body : FrameBody} {p : Pending}
  (matched : s.matching? source sequence body = some p)
include matched

theorem answered_requests : (closeRequest p (heardOn ch s)).qlc.requests.length < s.qlc.requests.length := by
  obtain ⟨-, requests, -⟩ := closeRequest_heardOn p ch s
  obtain ⟨q, found, same⟩ := matching?_hears ch matched
  have listed : q ∈ s.requestsHeard ch := by
    rw [← (heardOn_moves ch s).2.1]
    exact List.mem_of_find?_eq_some found
  have shorter : ((s.requestsHeard ch).filter fun x => x.sequence != p.sequence).length < (s.requestsHeard ch).length :=
    List.length_filter_lt_length_iff_exists.2 ⟨q, listed, by rw [same]; simp⟩
  rw [requests]
  simpa [State.requestsHeard] using shorter

end

theorem answered_queue (p : Pending) (ch : Channel) (s : State) :
    (closeRequest p (heardOn ch s)).qlc.queue.length ≤ s.qlc.queue.length ∧
    (p.entry = none → (closeRequest p (heardOn ch s)).qlc.queue.length = s.qlc.queue.length) := by
  obtain ⟨-, -, queue, -⟩ := closeRequest_heardOn p ch s
  have heard : (s.queueHeard ch).length = s.qlc.queue.length := by simp [State.queueHeard]
  rw [queue, ← heard]
  exact ⟨List.length_filter_le _ _, fun unsent => by simp [unsent]⟩

/-- A Tag Answer, in the words of the statement: the result is given to the readers of the lookup, or the lookup is taken
again. -/
theorem lookupAnswered_gives {s v : State} {requests : List Pending} {record : Credential} {l : Lookup} (d : Nat)
    (reads : s.lookup? record.tag = some l) (frame : v = { s with qlc := v.qlc, evj := v.evj })
    (table : v.qlc.requests = requests) :
    (l.phase = .first → l.marked = false →
      GivenTo s (lookupAnswered record d v) requests record.tag l.waiting (.found record .query) ∧
      (lookupAnswered record d v).acu.cache = (fillCache record d s).acu.cache) ∧
    (l.phase = .requery →
      GivenTo s (lookupAnswered record d v) requests record.tag l.waiting (.found record .query) ∧
      (lookupAnswered record d v).acu.cache = s.acu.cache) ∧
    (l.phase = .first → l.marked = true → ∀ own day, s.localCredential? record.tag = some (own, day) →
      GivenTo s (lookupAnswered record d v) requests record.tag l.waiting (.found own .localBooking) ∧
      (lookupAnswered record d v).acu.cache = s.acu.cache) ∧
    (l.phase = .first → l.marked = true → s.localCredential? record.tag = none → 16 ≤ v.qlc.queue.length →
      GivenTo s (lookupAnswered record d v) requests record.tag l.waiting .noAnswer ∧
      (lookupAnswered record d v).acu.cache = s.acu.cache) := by
  have acu : v.acu = s.acu := by rw [frame]
  have found : v.lookup? record.tag = some l := (lookup?_same (by rw [acu]) _).trans reads
  have tag := lookup?_tag reads
  have holder : v.localCredential? record.tag = s.localCredential? record.tag :=
    localCredential?_same (by rw [frame]) (by rw [frame]) _
  have drops (r : LookupResult) (u : State) (rest : u = { s with acu := u.acu, qlc := u.qlc, evj := u.evj })
      (whole : u.acu = { s.acu with cache := u.acu.cache }) (same : u.qlc.requests = requests) :
      GivenTo s (deliverAll record.tag r l.waiting (dropLookup record.tag u)) requests record.tag l.waiting r ∧
      (deliverAll record.tag r l.waiting (dropLookup record.tag u)).acu.cache = u.acu.cache := by
    refine ⟨givenTo_deliverAll r ?_ ?_ ?_, ?_⟩
    · rw [rest]
      rfl
    · rw [dropLookup, State.setAcu_acu, whole]
    · rw [← same]
      rfl
    · rw [deliverAll_acu]
      rfl
  refine ⟨fun first sound => ?_, fun again => ?_, fun first marked own day holds => ?_, fun first marked strange full => ?_⟩
  · rw [lookupAnswered_fills d found first sound]
    have only := fillCache_only record d v
    obtain ⟨given, cache⟩ := drops (.found record .query) (fillCache record d v)
      (by rw [only, frame]; rfl) (by rw [only, State.setAcu_acu, acu]) (by rw [only]; exact table)
    exact ⟨given, cache.trans (fillCache_cache record d acu (by rw [frame]) (by rw [frame]) (by rw [frame]))⟩
  · rw [lookupAnswered_requeried d found again]
    obtain ⟨given, cache⟩ := drops (.found record .query) v (by rw [frame]) (by rw [acu]) table
    exact ⟨given, cache.trans (by rw [acu])⟩
  · rw [lookupAnswered_marked d found first marked, requery_local (by rw [tag, holder]; exact holds), tag]
    obtain ⟨given, cache⟩ := drops (.found own .localBooking) v (by rw [frame]) (by rw [acu]) table
    exact ⟨given, cache.trans (by rw [acu])⟩
  · rw [lookupAnswered_marked d found first marked, requery_busy (by rw [tag, holder]; exact strange) full, tag]
    obtain ⟨-, left⟩ := ask_busy (s := v) 0 (.tagQuery record.tag) (.lookup record.tag) (.inr full)
    obtain ⟨given, cache⟩ := drops .noAnswer (ask 0 (.tagQuery record.tag) (.lookup record.tag) v).1 (State.ext_fields _ _ (by
      rw [frame]; simp)) (by simp [acu]) (by
        obtain same | counted := left
        · rw [same]
          exact table
        · rw [counted]
          exact table)
    exact ⟨given, cache.trans (by simp [acu])⟩

/-- Settles O27: the query, the answer, the deliveries, the revoke. -/
theorem tagFramesTaken : Obligations.TagFramesTaken := by
  refine ⟨fun s ch source sequence tag hears => ?_, fun s ch source sequence record d p l hears matched reads => ?_,
    fun s tag r reader rest => ⟨rfl, rfl, fun n g is reads => ?_, fun n p is reads => ?_, ?_⟩,
    fun s ch source owner tags hears => ?_⟩
  · have same := localCredential?_same (s := s) (t := heardOn ch s) (by simp) (by simp) tag
    refine ⟨_, exec_tagQuery ch sequence tag hears, State.ext_fields _ _ (by simp), fun record d holds room => ?_,
      fun strange => ?_⟩
    · rw [onTagQuery_holder (same.trans holds), sendAnswer, heardOn_prefer]
      exact queued_heardOn (enqueueOn_queued ch _ (by simpa using room)).1
    · rw [onTagQuery_other (same.trans strange)]
      simp
  · obtain ⟨frame, requests, queue, next, wrote⟩ := closeRequest_heardOn p ch s
    obtain ⟨fresh, again, own, busy⟩ := lookupAnswered_gives d reads frame (by
      rw [requests, matching?_sequence matched])
    obtain ⟨pinned, fills⟩ := fillCache_cases record d s
    have acu : (closeRequest p (heardOn ch s)).acu = s.acu := by rw [frame]
    have found : (closeRequest p (heardOn ch s)).lookup? record.tag = some l :=
      (lookup?_same (by rw [acu]) _).trans reads
    refine ⟨_, exec_tagAnswer hears matched, State.ext_fields _ _ (by simp), fun first sound => ?_, again,
      fun first marked => ⟨?_, fun own' day holds => (own first marked own' day holds).1, fun strange table room => ?_,
        fun strange unsent full => (busy first marked strange ?_).1⟩⟩
    · obtain ⟨given, cache⟩ := fresh first sound
      refine ⟨given, fun none => cache.trans (pinned none), fun w fill => ⟨?_, cache.trans (fills w fill)⟩⟩
      simp [Acu.entry?, cache.trans (fills w fill)]
    · rw [lookupAnswered_marked d found first marked, requery_cache, acu]
    · have tag := lookup?_tag reads
      have few := (answered_requests (ch := ch) matched).trans_le table
      have short := (answered_queue p ch s).1.trans_lt room
      have holder := localCredential?_same (s := s) (t := closeRequest p (heardOn ch s)) (by simp) (by simp) record.tag
      rw [lookupAnswered_marked d found first marked, requery_asks (by rw [tag, holder]; exact strange) few short, tag]
      obtain ⟨e, listed, asked, wide, originator, attempt, queued⟩ :=
        ask_asks 0 (.tagQuery record.tag) (.lookup record.tag) few short
      refine ⟨by simp, by simp, ?_, e, listed, asked, wide, originator, attempt, ?_⟩
      · simp [changeLookup, onCounts, updWhere, bumpTop, satAdd]
      · have prefers : (ask 0 (.tagQuery record.tag) (.lookup record.tag) (closeRequest p (heardOn ch s))).1.qlc.prefer .a =
            (closeRequest p (heardOn ch s)).qlc.prefer .a := by
          rw [ask_room _ _ _ few short]
          rfl
        rw [State.queued, next, ← prefers] at queued
        exact queued
    · rwa [(answered_queue p ch s).2 unsent]
  · subst is
    exact ⟨deliverGate_delivered (s := onCounts (countedOnce r) s) tag r reads, State.ext_fields _ _ (by simp [deliver])⟩
  · subst is
    exact ⟨deliverPump_delivered (s := onCounts (countedOnce r) s) tag reads r,
      deliverPump_others (s := onCounts (countedOnce r) s) tag reads r, State.ext_fields _ _ (by simp [deliver])⟩
  · exact deliver_acu tag r reader s
  · have runs : exec (.tagRevoke ch source owner tags) s = .next (onTagRevoke tags (heardOn ch s)) :=
      congrArg Host.Outcome.next (deliver_quiet ch source (onTagRevoke tags) s hears (by simp) (by simp)
        (classOf_same _ _ (by simp)))
    refine ⟨_, runs, ?_, State.ext_fields _ _ (by simp)⟩
    simp [onTagRevoke, markLookups, dropTags, updWhere]

end Sys2Proof.Machine
end

section
/-! SUPPORT. A presentation: what is found at once is delivered, what is not starts a lookup (R112 to R116). -/

namespace Sys2Proof.Machine

/-- A station that differs from `s` in ACU's cache and counts and in QLC's error counts. -/
def lookedUp (a : Acu) (errors : ErrorSummary) (s : State) : State := (s.setAcu a).setQlc { s.qlc with errors := errors }

/-- The presentation has come to one result, delivered to its reader. -/
def PresentGives (s t : State) (reader : Reader) (tag : Tag) (r : LookupResult) : Prop :=
  ∃ a errors, t = deliver tag r reader (onCounts (countedOnce r) (lookedUp a errors s)) ∧
    a.lookups = s.acu.lookups ∧ a.counts.presentations = s.acu.counts.presentations

theorem countedOnce_presentations (r : LookupResult) (c : CacheCounts) : (countedOnce r c).presentations = c.presentations := by
  unfold countedOnce
  split <;> rfl

/-- An unpinned entry is valid until its second comes (R115). -/
theorem entryValid_unpinned (s : State) {e : CacheEntry} (unpinned : ¬e.pinned = true) :
    entryValid s.seconds e = e.validUntil.any fun v => s.now / 1000 < v := by
  simp only [entryValid, unpinned, Bool.false_or, State.seconds]
  rfl

/-! ### A reader that waits, a tag that is looked up (R113) -/

section
variable {s : State} {reader : Reader} (tag : Tag)

theorem present_ignored (waits : ∃ l ∈ s.acu.lookups, reader ∈ l.waiting) :
    present reader tag s = onCounts (fun c => { c with ignored := bumpTop c.ignored }) s := by
  have some_waits : (s.acu.lookups.any fun l => l.waiting.contains reader) = true := by simpa using waits
  simp only [present, some_waits, if_true]

variable {tag} (idle : ∀ l ∈ s.acu.lookups, reader ∉ l.waiting)
include idle

theorem none_waits : (s.acu.lookups.any fun l => l.waiting.contains reader) = false := by simpa using idle

theorem present_joins {l : Lookup} (running : s.lookup? tag = some l) :
    present reader tag s = changeLookup tag (fun l => { l with waiting := l.waiting ++ [reader] }) s := by
  simp only [present, none_waits idle, running, Option.isSome_some, Bool.false_eq_true, if_false, if_true]

variable (new : s.lookup? tag = none)
include new

/-- A result that is there at once is delivered (R114, R115). -/
theorem present_found {r : LookupResult} (found : s.foundAtOnce? tag = some r) :
    PresentGives s (present reader tag s) reader tag r := by
  unfold State.foundAtOnce? at found
  simp only [present, none_waits idle, new, Option.isSome_none, Bool.false_eq_true, if_false]
  cases holds : s.localCredential? tag with
  | some held =>
    simp only [holds, Option.some.injEq] at found
    subst found
    exact ⟨s.acu, s.qlc.errors, rfl, rfl, rfl⟩
  | none =>
    simp only [holds] at found
    simp only [cacheStep]
    cases cached : s.acu.entry? tag with
    | none => simp [cached] at found
    | some e =>
      simp only [cached] at found
      by_cases pinned : e.pinned = true
      · simp only [pinned, if_true, Option.some.injEq] at found ⊢
        subst found
        exact ⟨(touchEntry e s).acu, s.qlc.errors, rfl, rfl, rfl⟩
      · have valid := entryValid_unpinned s pinned
        simp only [pinned, Bool.false_eq_true, if_false] at found ⊢
        split at found
        · rw [valid, if_pos ‹_›]
          cases found
          exact ⟨(touchEntry e s).acu, s.qlc.errors, rfl, rfl, rfl⟩
        · cases found

/-- What nothing here knows asks the Quayline (R116). -/
theorem present_misses (unknown : s.foundAtOnce? tag = none) :
    ∃ cache, present reader tag s = missLookup tag reader (s.setAcu { s.acu with cache := cache }) := by
  unfold State.foundAtOnce? at unknown
  simp only [present, none_waits idle, new, Option.isSome_none, Bool.false_eq_true, if_false]
  cases holds : s.localCredential? tag with
  | some held => simp [holds] at unknown
  | none =>
    simp only [holds] at unknown
    simp only [cacheStep]
    cases cached : s.acu.entry? tag with
    | none => exact ⟨s.acu.cache, rfl⟩
    | some e =>
      simp only [cached] at unknown
      by_cases pinned : e.pinned = true
      · simp [pinned] at unknown
      · have valid := entryValid_unpinned s pinned
        simp only [pinned, Bool.false_eq_true, if_false] at unknown ⊢
        split at unknown
        · cases unknown
        · rw [valid, if_neg ‹_›]
          exact ⟨_, rfl⟩

end

/-! ### A miss (R116) -/

/-- A miss counted. -/
abbrev missed (s : State) : State := onCounts (fun c => { c with misses := bumpTop c.misses }) s

theorem missLookup_asks (tag : Tag) (reader : Reader) {s : State} (table : s.qlc.requests.length < 8)
    (queue : s.qlc.queue.length < 16) :
    missLookup tag reader s =
      let s1 := onCounts (fun c => { c with queries := bumpTop c.queries }) (ask 0 (.tagQuery tag) (.lookup tag) (missed s)).1
      s1.setAcu { s1.acu with lookups := s1.acu.lookups ++ [⟨tag, [reader], .first, false⟩] } := by
  have taken := congrArg Prod.snd (ask_room (s := missed s) 0 (.tagQuery tag) (.lookup tag) table queue)
  simp only [missLookup, taken, if_true]

theorem missLookup_busy (tag : Tag) (reader : Reader) {s : State}
    (full : 8 ≤ s.qlc.requests.length ∨ 16 ≤ s.qlc.queue.length) :
    PresentGives s (missLookup tag reader s) reader tag .noAnswer := by
  obtain ⟨refused, left⟩ := ask_busy (s := missed s) 0 (.tagQuery tag) (.lookup tag) full
  simp only [missLookup, refused, Bool.false_eq_true, if_false]
  obtain same | counted := left
  · rw [same]
    exact ⟨(missed s).acu, s.qlc.errors, rfl, rfl, rfl⟩
  · rw [counted]
    exact ⟨(missed s).acu, s.qlc.errors.full, rfl, rfl, rfl⟩

/-! ### What a presentation leaves -/

theorem present_gate_keeps (n : Nat) (tag : Tag) (s : State) :
    (present (.gate n) tag s).bst = s.bst ∧ (present (.gate n) tag s).fsc = s.fsc := by
  unfold present cacheStep missLookup
  dsimp only
  (repeat' split) <;> simp [deliverAll_cons, deliverAll_nil, deliver, changeLookup, onCounts, touchEntry, dropTags]

theorem present_pump_keeps (n : Nat) (tag : Tag) (s : State) : (present (.pump n) tag s).gtc = s.gtc := by
  unfold present cacheStep missLookup
  dsimp only
  (repeat' split) <;> simp [deliverAll_cons, deliverAll_nil, deliver, changeLookup, onCounts, touchEntry, dropTags]

theorem present_presentations (reader : Reader) (tag : Tag) (s : State) :
    (present reader tag s).acu.counts.presentations = s.acu.counts.presentations := by
  unfold present cacheStep missLookup
  dsimp only
  (repeat' split) <;>
    simp [deliverAll_cons, deliverAll_nil, changeLookup, onCounts, touchEntry, dropTags, countedOnce_presentations]

theorem PresentGives.others {s t : State} {n : Nat} {p : Pump} {tag : Tag} {r : LookupResult}
    (h : PresentGives s t (.pump n) tag r) (reads : s.pump? n = some p) : s.samePumpsBut t n := by
  obtain ⟨a, errors, rfl, -⟩ := h
  exact deliverPump_others (s := onCounts (countedOnce r) (lookedUp a errors s)) tag reads r

theorem present_others {s : State} {n : Nat} {p : Pump} {tag : Tag} (reads : s.pump? n = some p)
    (idle : ∀ l ∈ s.acu.lookups, Reader.pump n ∉ l.waiting) : s.samePumpsBut (present (.pump n) tag s) n := by
  cases running : s.lookup? tag with
  | some l =>
    rw [present_joins idle running]
    exact samePumpsBut_pumps n rfl
  | none =>
    cases found : s.foundAtOnce? tag with
    | some r => exact (present_found idle running found).others reads
    | none =>
      obtain ⟨cache, misses⟩ := present_misses idle running found
      rw [misses]
      by_cases room : s.qlc.requests.length < 8 ∧ s.qlc.queue.length < 16
      · rw [missLookup_asks tag _ (s := s.setAcu { s.acu with cache := cache }) room.1 room.2]
        exact samePumpsBut_pumps n (by simp [onCounts])
      · exact (missLookup_busy (s := s.setAcu { s.acu with cache := cache }) tag (.pump n) (by
          simp only [State.setAcu_qlc]
          omega)).others reads

/-- A presentation at a reader that is there. -/
theorem exec_presentation {s : State} {reader : Reader} (tag : Tag) (up : s.up = true) (there : s.hasReader reader = true) :
    exec (.presentation reader tag) s =
      .next (present reader tag (onCounts (fun c => { c with presentations := bumpTop c.presentations }) s)) := by
  obtain ⟨accepted, loaded⟩ : s.cfl.load = .accepted ∧ s.cfl.starting = false := by simpa [State.up] using up
  simp only [exec, execPresentation, State.inFault, accepted, loaded, there, if_true, Bool.false_eq_true, if_false]
  rfl

/-! ### In the words of the statement -/

/-- A station with a presentation counted. -/
abbrev presented (s : State) : State := onCounts (fun c => { c with presentations := bumpTop c.presentations }) s

/-- What a presentation whose result is there at once, or that cannot be asked for, gives its reader. -/
theorem present_gives {s : State} {reader : Reader} {tag : Tag} {r : LookupResult}
    (idle : ∀ l ∈ s.acu.lookups, reader ∉ l.waiting) (new : s.lookup? tag = none)
    (gives : s.foundAtOnce? tag = some r ∨
      (s.foundAtOnce? tag = none ∧ r = .noAnswer ∧ (8 ≤ s.qlc.requests.length ∨ 16 ≤ s.qlc.queue.length))) :
    ∃ a errors, present reader tag (presented s) = deliver tag r reader (onCounts (countedOnce r) (lookedUp a errors s)) ∧
      a.lookups = s.acu.lookups := by
  obtain found | ⟨unknown, rfl, full⟩ := gives
  · obtain ⟨a, errors, gives, lookups, -⟩ := present_found (s := presented s) idle new found
    exact ⟨a, errors, gives, lookups⟩
  · obtain ⟨cache, misses⟩ := present_misses (s := presented s) idle new unknown
    obtain ⟨a, errors, gives, lookups, -⟩ := missLookup_busy
      (s := (presented s).setAcu { (presented s).acu with cache := cache }) tag reader full
    exact ⟨a, errors, misses.trans gives, lookups⟩

/-- What a presentation that is asked for leaves. -/
theorem present_asks {s : State} {reader : Reader} {tag : Tag} (idle : ∀ l ∈ s.acu.lookups, reader ∉ l.waiting)
    (new : s.lookup? tag = none) (unknown : s.foundAtOnce? tag = none) (table : s.qlc.requests.length < 8)
    (queue : s.qlc.queue.length < 16) :
    let t := present reader tag (presented s)
    t.gtc = s.gtc ∧ t.fsc = s.fsc ∧ t.evj = s.evj ∧ t.acu.lookups = s.acu.lookups ++ [⟨tag, [reader], .first, false⟩] ∧
      ∃ p ∈ t.qlc.requests, p.body = .tagQuery tag ∧ p.destination = 0 ∧ p.originator = .lookup tag ∧ p.attempt = 1 ∧
        s.queued t (s.qlc.prefer .a) ⟨0, p.sequence, .tagQuery tag⟩ := by
  obtain ⟨cache, misses⟩ := present_misses (s := presented s) idle new unknown
  have asks := missLookup_asks (s := (presented s).setAcu { (presented s).acu with cache := cache }) tag reader table queue
  obtain ⟨e, listed, body, destination, originator, attempt, queued⟩ := ask_asks
    (s := missed ((presented s).setAcu { (presented s).acu with cache := cache })) 0 (.tagQuery tag) (.lookup tag) table queue
  dsimp only
  rw [misses, asks]
  exact ⟨by simp [onCounts], by simp [onCounts], by simp [onCounts], by simp [onCounts], e, listed, body, destination,
    originator, attempt, queued⟩

/-- A resident or a visitor whom no state refuses is let through a LOCKED gate in CARD (R131, R132). -/
theorem gateAfter_admitted {s : State} {g : Gate} {record : Credential} (source : Source) (locked : g.state = .locked)
    (card : g.mode = .card) (grant : stateOutcome s.cfg.station g.cfg.kind record = .grant)
    (boat : record.cls = .resident ∨ record.cls = .visitor) :
    s.gateAfter g (.found record source) = { g with
      state := .released, strike := .released, releaseAt := some (s.now + g.cfg.releaseTime * 1000)
      grants := min top32 (g.grants + 1) } := by
  have decided : decision s.cfg.station g s.dck.clock (.found record source) = .grant := by
    rw [decision_passes source grant nofun]
    obtain cls | cls := boat <;> simp [modeDenies, card, cls]
  simp [State.gateAfter, decided, locked]

/-- Settles O26: what is ignored, joined, asked for and delivered at once, at a gate and at a pump. -/
theorem presentationFindsOrAsks : Obligations.PresentationFindsOrAsks := by
  refine ⟨fun s n g tag up reads => ?_, fun s n p tag up reads idle => ?_⟩
  · have there : s.hasReader (.gate n) = true := by simp [State.hasReader, reads]
    obtain ⟨bst, fsc⟩ := present_gate_keeps n tag (presented s)
    have given (r : LookupResult) (idle : ∀ l ∈ s.acu.lookups, Reader.gate n ∉ l.waiting) (new : s.lookup? tag = none)
        (gives : s.foundAtOnce? tag = some r ∨
          (s.foundAtOnce? tag = none ∧ r = .noAnswer ∧ (8 ≤ s.qlc.requests.length ∨ 16 ≤ s.qlc.queue.length))) :
        (present (.gate n) tag (presented s)).acu.lookups = s.acu.lookups ∧
        s.gateDelivered (present (.gate n) tag (presented s)) n g tag r := by
      obtain ⟨a, errors, does, lookups⟩ := present_gives idle new gives
      rw [does]
      exact ⟨by rw [deliver_acu]; exact lookups,
        deliverGate_delivered (s := onCounts (countedOnce r) (lookedUp a errors s)) tag r reads⟩
    refine ⟨_, exec_presentation tag up there, State.ext_fields _ _ (by simp [bst, fsc]), ?_, fun waits => ?_,
      fun idle => ⟨fun l running => ?_, fun new unknown table queue => ?_, fun r => given r idle,
        fun record d new holds locked card grant boat => ?_⟩⟩
    · rw [present_presentations]
      rfl
    · rw [present_ignored (s := presented s) tag waits]
      rfl
    · rw [present_joins (s := presented s) idle running]
      simp [changeLookup, onCounts, updWhere]
    · obtain ⟨gtc, -, evj, rest⟩ := present_asks idle new unknown table queue
      exact ⟨gtc, evj, rest⟩
    · have found : s.foundAtOnce? tag = some (.found record .localBooking) := by simp [State.foundAtOnce?, holds]
      obtain ⟨-, -, delivered⟩ := given _ idle new (.inl found)
      rw [(delivered (by simp [locked])).1, gateAfter_admitted _ locked card grant boat]
  · have there : s.hasReader (.pump n) = true := by simp [State.hasReader, reads]
    have gtc := present_pump_keeps n tag (presented s)
    refine ⟨_, exec_presentation tag up there, present_others (s := presented s) reads idle,
      State.ext_fields _ _ (by simp [gtc]), ?_, fun l running => ?_, fun new unknown table queue => ?_,
      fun r new gives => ?_⟩
    · rw [present_presentations]
      rfl
    · rw [present_joins (s := presented s) idle running]
      simp [changeLookup, onCounts, updWhere]
    · obtain ⟨-, fsc, -, rest⟩ := present_asks idle new unknown table queue
      exact ⟨fsc, rest⟩
    · obtain ⟨a, errors, does, lookups⟩ := present_gives idle new gives
      rw [does]
      exact ⟨by rw [deliver_acu]; exact lookups,
        deliverPump_delivered (s := onCounts (countedOnce r) (lookedUp a errors s)) tag reads r⟩

end Sys2Proof.Machine
end

section
/-! SUPPORT. Bytes at the terminal (R187): outside a frame, within one, and the one that completes it. -/

namespace Sys2Proof.Machine

/-- A byte that leaves the posts, the feeder and the berths ends its event with itself. -/
theorem exec_terminalByte {s t : State} {b : Byte} (takes : takeByte b s = t) (fits : s.fits) (pbc : t.pbc = s.pbc)
    (lsu : t.lsu = s.lsu) (bst : t.bst = s.bst) : exec (.terminalByte b) s = .next t := by
  have quiet : settled s t = t := settled_same s t pbc (congrArg Lsu.applied lsu) (classOf_same _ _ (by rw [bst])) fits
  simp only [exec, execTerminalByte, event, takes, quiet]

/-- The station with a byte joined to the frame that arrives. -/
def joinedByte (b : Byte) (s : State) : State :=
  s.setTpc { s.tpc with received := s.tpc.received ++ [b], gapAt := some (s.now + 50) }

theorem takeByte_receiving {s : State} (b : Byte) (receiving : s.tpc.state = .receiving) : takeByte b s = frameByte b s := by
  simp only [takeByte, receiving]

theorem frameByte_dropped {s : State} {b : Byte} (first : s.tpc.received = []) (wrong : b = 0 ∨ 233 < b.toNat) :
    frameByte b s = dropFrame (joinedByte b s) :=
  if_pos (by simpa [first] using wrong)

theorem frameByte_joined {s : State} {b : Byte} (joins : ¬(s.tpc.received = [] ∧ (b = 0 ∨ 233 < b.toNat))) :
    frameByte b s = if frameComplete (s.tpc.received ++ [b]) then takeFrame (s.tpc.received ++ [b]) (joinedByte b s)
      else joinedByte b s :=
  if_neg (by simpa [List.isEmpty_iff] using joins)

theorem takeByte_completes {s : State} {b : Byte} (receiving : s.tpc.state = .receiving)
    (joins : ¬(s.tpc.received = [] ∧ (b = 0 ∨ 233 < b.toNat))) (complete : frameComplete (s.tpc.received ++ [b]) = true) :
    takeByte b s = takeFrame (s.tpc.received ++ [b]) (joinedByte b s) := by
  rw [takeByte_receiving b receiving, frameByte_joined joins, if_pos complete]

/-! ### A whole frame -/

theorem takeFrame_starting {s : State} (got : List Byte) (starting : s.cfl.starting = true) :
    takeFrame got s = s.setTpc (s.tpc.sending { code := codeOf (frameCode got), result := .starting }) :=
  if_pos starting

theorem takeFrame_bad {s : State} {got : List Byte} (loaded : s.cfl.starting = false) (bad : frameGood got = false) :
    takeFrame got s = s.setTpc (s.tpc.sending { code := codeOf (frameCode got), result := .badFrame }) := by
  unfold takeFrame
  rw [if_neg (by simp [loaded]), if_pos (by simp [bad])]
  rfl

/-- A command whose frame is good, at a station that takes it (R187). -/
theorem takeCommand_takes {s : State} {c : TermCmd} (length : Nat) (loaded : s.cfl.starting = false)
    (taken : ¬(s.inFault = true ∧ CmdKind.inFault c.kind = false)) : takeCommand length c s = ownRule length c s := by
  have admits : (s.inFault && !CmdKind.inFault c.kind) = false := by simpa using taken
  simp only [takeCommand, loaded, admits, Bool.false_eq_true, if_false]

/-- A good frame taken by a station that has loaded, by the first case of R187 that matches. -/
theorem takeFrame_good {s : State} {got : List Byte} (loaded : s.cfl.starting = false) (good : frameGood got = true) :
    takeFrame got s =
      match codeOf (frameCode got) with
      | .other o => s.setTpc (s.tpc.sending { code := .other o, result := .unknownCommand })
      | .known k =>
        if s.inFault = true ∧ CmdKind.inFault k = false then s.setTpc (s.tpc.sending (answer k .configFault))
        else
          match (Config.readCommand k (framePayload got)).filter (fun c => c.kind == k) with
          | none => s.setTpc (s.tpc.sending (answer k .badLength))
          | some c => ownRule (framePayload got).length c s := by
  unfold takeFrame
  simp only [loaded, good, Bool.not_true, Bool.false_eq_true, if_false, sendReply_eq]
  cases codeOf (frameCode got) with
  | other o => rfl
  | known k =>
    by_cases refused : s.inFault = true ∧ CmdKind.inFault k = false
    · simp [refused, answer]
    · have admits : (s.inFault && !CmdKind.inFault k) = false := by simpa using refused
      simp only [refused, admits, Bool.false_eq_true, if_false]
      cases Config.readCommand k (framePayload got) with
      | none => rfl
      | some c =>
        by_cases kind : c.kind = k
        · subst kind
          simp [Option.filter, takeCommand_takes _ loaded refused]
        · simp [Option.filter, kind, answer]

/-- Settles O47: the gap, a byte outside a frame, within one, and the byte that completes it. -/
theorem terminalBytesMakeFrames : Obligations.TerminalBytesMakeFrames := by
  refine ⟨fun s d receiving gap => ?_, fun s b fits => ⟨fun waiting => ?_, fun deaf => ?_, fun receiving =>
    ⟨fun first wrong => ?_, fun joins => ⟨fun unfinished => ?_, fun complete => ⟨fun starting => ?_, fun loaded bad => ?_,
      fun loaded good => ?_⟩⟩⟩⟩⟩
  · simp only [exec, execFrameGapTimeout, receiving, gap]
    rfl
  · by_cases start : b = startByte
    · rw [if_pos start]
      exact exec_terminalByte (by simp only [takeByte, waiting, start, if_true]) fits rfl rfl rfl
    · rw [if_neg start]
      exact exec_terminalByte (by simp only [takeByte, waiting, start, if_false]) fits rfl rfl rfl
  · have discards : takeByte b s = discard 1 s := by
      cases state : s.tpc.state <;> simp_all [Tpc.listens, takeByte]
    exact exec_terminalByte discards fits rfl rfl rfl
  · exact exec_terminalByte ((takeByte_receiving b receiving).trans (frameByte_dropped first wrong)) fits rfl rfl rfl
  · exact exec_terminalByte (t := joinedByte b s) ((takeByte_receiving b receiving).trans
      ((frameByte_joined joins).trans (if_neg (by simp [unfinished])))) fits rfl rfl rfl
  · exact exec_terminalByte ((takeByte_completes receiving joins complete).trans (takeFrame_starting _ starting)) fits
      rfl rfl rfl
  · exact exec_terminalByte ((takeByte_completes receiving joins complete).trans (takeFrame_bad loaded bad)) fits
      rfl rfl rfl
  · have quiet (tpc : Tpc) : settled s ((joinedByte b s).setTpc tpc) = (joinedByte b s).setTpc tpc :=
      settled_same _ _ rfl rfl rfl fits
    have runs : exec (.terminalByte b) s = .next (settled s (takeFrame (s.tpc.received ++ [b]) (joinedByte b s))) := by
      simp only [exec, execTerminalByte, event, takeByte_completes receiving joins complete]
    rw [runs, takeFrame_good (s := joinedByte b s) loaded good]
    refine congrArg Host.Outcome.next ?_
    cases codeOf (frameCode (s.tpc.received ++ [b])) with
    | other o => exact quiet _
    | known k =>
      dsimp only
      by_cases refused : s.inFault = true ∧ CmdKind.inFault k = false
      · rw [if_pos refused, if_pos (show (joinedByte b s).inFault = true ∧ _ from refused)]
        exact quiet _
      · rw [if_neg refused, if_neg (show ¬((joinedByte b s).inFault = true ∧ _) from refused)]
        cases (Config.readCommand k (framePayload (s.tpc.received ++ [b]))).filter fun c => c.kind == k with
        | none => exact quiet _
        | some c => rfl

end Sys2Proof.Machine
end

section
/-! SUPPORT. Office traffic (R189, R190): a command forwarded, its answer relayed, a request of another station performed. -/

namespace Sys2Proof.Machine

/-! ### A command forwarded (R189) -/

section
variable {i : Instr} {c : TermCmd} {s : State} {st : Nat} (brings : terminalOf i = some c) (names : c.names = some st)
  (ready : s.ready) (fits : s.fits) (low : 1 ≤ st) (high : st ≤ 30) (away : st ≠ s.cfg.station)
include brings names ready low high away

theorem exec_forwards : exec i s = .next (settled s (forward (Config.payloadBytes c) st c s)) := by
  have sound := (ready_up ready.1).2
  have rule : ownRule (Config.payloadBytes c) c s = forward (Config.payloadBytes c) st c s := by
    have range : ¬(st = 0 ∨ 30 < st) := by omega
    unfold ownRule
    split
    · cases names
    · simp only [names, sound, Bool.false_eq_true, if_false, away]
      simp [range]
  rw [exec_terminalOf brings, terminal_ready c s ready, rule]

include fits

/-- A command that names another station, in the words of the statement. -/
theorem exec_forwarded (table : s.qlc.requests.length < 8) (queue : s.qlc.queue.length < 16) :
    if 46 < Config.payloadBytes c then exec i s = .next (s.setTpc (s.tpc.sending (answer c.kind .tooLong)))
    else ∃ t, exec i s = .next t ∧ t.tpc.state = .forwarding c.kind st ∧
      (∃ q ∈ t.qlc.requests, q.destination = st ∧ q.body = .officeRequest (.known c) (min s.tpc.limit 40) ∧
        q.originator = .terminal ∧ q.attempt = 1 ∧
        s.queued t (s.qlc.prefer .a) ⟨st, q.sequence, .officeRequest (.known c) (min s.tpc.limit 40)⟩) ∧
      t = { s with qlc := t.qlc, tpc := t.tpc } := by
  have runs := exec_forwards brings names ready low high away
  split
  case isTrue long =>
    have does : forward (Config.payloadBytes c) st c s = s.setTpc (s.tpc.sending (answer c.kind .tooLong)) := if_pos long
    rw [runs, does, settled_same s (s.setTpc (s.tpc.sending (answer c.kind .tooLong))) rfl rfl rfl fits]
  case isFalse short =>
    have taken := congrArg Prod.snd (ask_room (s := s) st (.officeRequest (.known c) (min s.tpc.limit 40)) .terminal table queue)
    have does : forward (Config.payloadBytes c) st c s = working (.forwarding c.kind st)
        (ask st (.officeRequest (.known c) (min s.tpc.limit 40)) .terminal s).1 := by
      simp only [forward, short, if_false, taken, if_true]
    obtain ⟨e, listed, body, destination, originator, attempt, queued⟩ :=
      ask_asks st (.officeRequest (.known c) (min s.tpc.limit 40)) .terminal table queue
    rw [runs, does, settled_same _ _ (by simp [working]) (by simp [working]) (classOf_same _ _ (by simp [working])) fits]
    exact ⟨_, rfl, rfl, ⟨e, listed, destination, body, originator, attempt, queued⟩,
      State.ext_fields _ _ (by simp [working])⟩

end

/-! ### What a forwarded command does to QLC and TPC -/

namespace Background
variable {R : State → State → Prop} (bg : Background R)
include bg

theorem endBooking (berth : Nat) (b : Booking) (kind : Option EndKind) (s : State) : R s (endBooking berth b kind s) := by
  have revoked {t : State} (qlc : t.qlc = s.qlc) : R s (Machine.revoke b.tags (queueSlot b.slot (onBerth berth
      (fun x => { x with bookings := x.bookings.filter fun k => !(k.live && k.serial == b.serial) }) t))) :=
    bg.afterSame (bg.revoke _ _) (by simp [qlc])
  have ended {t : State} (qlc : t.qlc = s.qlc) (held : Bool) :
      let t1 := Machine.revoke b.tags (queueSlot b.slot (onBerth berth
        (fun x => { x with bookings := x.bookings.filter fun k => !(k.live && k.serial == b.serial) }) t))
      R s (if held then Machine.berthOff berth t1 else t1) :=
    ite (bg.trans _ _ _ (revoked qlc) (bg.berthOff _ _)) (revoked qlc)
  unfold Machine.endBooking
  cases kind with
  | some k => exact bg.report (ended (t := addStatement berth k b s) (by simp) _) _
  | none => exact bg.report (ended rfl _) _

theorem onAddressed {kind : CmdKind} {berth serial : Nat} {f : Booking → State → State × Reply} {s : State}
    (h : ∀ b, R s (f b s).1) : R s (onAddressed kind berth serial f s).1 := by
  unfold Machine.onAddressed
  split
  · exact bg.refl s
  · exact h _

theorem onNamedOutlet {kind : CmdKind} {berth place : Nat} {f : Outlet → State → State × Reply} {s : State}
    (h : ∀ o, R s (f o s).1) : R s (onNamedOutlet kind berth place f s).1 := by
  unfold Machine.onNamedOutlet
  split
  · exact bg.refl s
  · split
    · exact bg.refl s
    · exact h _

theorem barMark (kind : CmdKind) (mark : Bool) (berth serial : Nat) (s : State) :
    R s (doBarMark kind mark berth serial s).1 := by
  refine bg.onAddressed fun b => ?_
  split
  · exact bg.refl s
  · exact bg.report (bg.afterSame (bg.restand _ _ _)) _

/-- A command that another station may ask for sends nothing but revokes and Announces. -/
theorem effect {c : TermCmd} {st : Nat} (names : c.names = some st) (limit : Nat) (s : State) : R s (effect limit c s).1 := by
  cases c with
  | checkOut _ berth serial =>
    refine bg.onAddressed fun b => ?_
    (repeat' split)
    · exact bg.refl s
    · exact bg.refl s
    · exact bg.endBooking berth b (some .checkedOut) s
  | cancel _ berth serial =>
    refine bg.onAddressed fun b => ?_
    split
    · exact bg.refl s
    · exact bg.endBooking berth b none s
  | extend _ berth serial departure =>
    refine bg.onAddressed fun b => bg.same _ _ ?_
    (repeat' split) <;> simp
  | setTags _ berth serial tags =>
    refine bg.onAddressed fun b => ?_
    (repeat' split)
    · exact bg.refl s
    · exact bg.same _ _ (by simp)
    · exact bg.afterSame (bg.revoke _ _)
  | readBooking _ berth serial resume => exact bg.same _ _ (by simp [Machine.effect])
  | credit _ berth serial amount =>
    refine bg.onAddressed fun b => ?_
    (repeat' split)
    · exact bg.refl s
    · exact bg.refl s
    · exact bg.report (bg.afterSame (bg.restand _ _ _)) _
  | bar _ berth serial => exact bg.barMark _ _ _ _ s
  | unbar _ berth serial => exact bg.barMark _ _ _ _ s
  | setMarks _ berth serial low credit =>
    refine bg.onAddressed fun b => ?_
    split
    · exact bg.refl s
    · exact bg.report (bg.afterSame (bg.restand _ _ _)) _
  | dropHold _ berth serial id =>
    refine bg.onAddressed fun b => ?_
    split
    · exact bg.refl s
    · split
      · exact bg.refl s
      · exact bg.report (bg.afterSame (bg.restand _ _ _) (by simp [changeHolds])) _
  | energise _ berth place =>
    refine bg.onNamedOutlet fun o => ?_
    split
    · have asked : R s (requestOutlet o s).1 := by
        unfold requestOutlet
        split
        · exact bg.same _ _ (by simp)
        · exact bg.afterSame (bg.outletWaits _ _)
      dsimp only
      split <;> exact asked
    all_goals exact bg.refl s
  | off _ berth place =>
    refine bg.onNamedOutlet fun o => ?_
    have off : R s (switchOff o s) := bg.afterSame (bg.changeOutlet _ _ _)
    split
    · exact off
    · exact off
    · exact off
    · exact off
    · exact bg.refl s
    · exact bg.refl s
  | resetOutlet _ berth place =>
    refine bg.onNamedOutlet fun o => ?_
    split
    · split
      · exact bg.refl s
      · exact bg.changeOutlet _ _ s
    all_goals exact bg.refl s
  | clearLeak _ berth =>
    refine bg.same _ _ ?_
    simp only [Machine.effect, doClearLeak]
    (repeat' split) <;> simp
  | setGateMode _ gate mode => exact bg.same _ _ (by simp [Machine.effect])
  | gateStatus _ resume => exact bg.same _ _ (by simp [Machine.effect])
  | gateAck _ gate kind => exact bg.same _ _ (by simp [Machine.effect])
  | directAuthorise _ pump amount =>
    refine bg.same _ _ ?_
    simp only [Machine.effect, doDirectAuthorise]
    (repeat' split) <;> simp
  | cancelSale _ pump =>
    refine bg.same _ _ ?_
    simp only [Machine.effect, doCancelSale]
    (repeat' split) <;> simp
  | writeOffSale _ pump sale =>
    refine bg.same _ _ ?_
    simp only [Machine.effect, doWriteOffSale]
    (repeat' split) <;> simp
  | saleStatus _ resume => exact bg.same _ _ (by simp [Machine.effect])
  | selectTariff _ number => exact bg.same _ _ (by simp [Machine.effect])
  | status _ => exact bg.same _ _ (by simp [Machine.effect])
  | _ => cases names

end Background

/-- A command that another station may ask for leaves TPC. -/
theorem effect_tpc {c : TermCmd} {st : Nat} (names : c.names = some st) (limit : Nat) (s : State) :
    (effect limit c s).1.tpc = s.tpc := by
  cases c <;> simp_all [TermCmd.names, effect]

/-! ### The answer relayed (R180, R189) -/

theorem exec_officeAnswer {s : State} (ch : Channel) {source : Nat} {sequence : Num8} {reply : Reply} {p : Pending}
    (hears : s.hears source) (matched : s.matching? source sequence (.officeAnswer reply) = some p) :
    exec (.officeAnswer ch source sequence reply) s = .next (sendReply reply (closeRequest p (heardOn ch s))) := by
  obtain ⟨q, hands, -⟩ := takeAnswer_closes ch matched fun _ => sendReply reply
  rw [← hands]
  exact congrArg Host.Outcome.next (deliver_quiet ch source (onOfficeAnswer source sequence reply) s hears (by simp) (by simp)
    (classOf_same _ _ (by simp)))

/-! ### A request of another station (R190) -/

section
variable {s : State} {ch : Channel} {source limit : Nat} {sequence : Num8} {c : OfficeCommand} (hears : s.hears source)
include hears

theorem exec_officeRequest :
    exec (.officeRequest ch source sequence c limit) s =
      .next (settled s (onOfficeRequest ch source sequence c limit (heardOn ch s))) := by
  simp only [exec, execOfficeRequest, event, receive_hears _ _ _ _ hears]

/-- An answer sent at once, with nothing performed. -/
theorem officeRequest_answers {reply : Reply} (queue : s.qlc.queue.length < 16)
    (does : onOfficeRequest ch source sequence c limit (heardOn ch s) =
      sendAnswer ch source sequence (.officeAnswer reply) (heardOn ch s)) :
    let t := settled s (onOfficeRequest ch source sequence c limit (heardOn ch s))
    s.queued t ch ⟨source, sequence, .officeAnswer reply⟩ ∧ t = { s with qlc := t.qlc, evj := t.evj } := by
  dsimp only
  rw [does, settled_same _ _ (by simp) (by simp) (classOf_same _ _ (by simp)) hears.2.1]
  refine ⟨?_, State.ext_fields _ _ (by simp)⟩
  rw [sendAnswer, heardOn_prefer]
  exact queued_heardOn (enqueueOn_queued ch _ (by simpa using queue)).1

end

/-- A command that is forwarded names a station. -/
theorem forwarded?_names {c : OfficeCommand} {f : TermCmd} (forwards : OfficeCommand.forwarded? c = some f) :
    ∃ st, f.names = some st := by
  cases c with
  | known g =>
    by_cases named : g.names.isSome
    · simp only [OfficeCommand.forwarded?, named, if_true, Option.some.injEq] at forwards
      exact forwards ▸ Option.isSome_iff_exists.1 named
    · simp [OfficeCommand.forwarded?, named] at forwards
  | misfit k payload => cases forwards
  | other o => cases forwards

section
variable {s : State} {ch : Channel} {source limit : Nat} {sequence : Num8} {c : OfficeCommand}

theorem onOfficeRequest_repeat {r : Repeat} (repeated : s.tpc.repeated? source sequence c = some r) :
    onOfficeRequest ch source sequence c limit s = sendAnswer ch source sequence (.officeAnswer r.answer) s := by
  simp only [onOfficeRequest, repeated]

variable (new : s.tpc.repeated? source sequence c = none)
include new

theorem onOfficeRequest_refused (alone : OfficeCommand.forwarded? c = none) :
    onOfficeRequest ch source sequence c limit s =
      sendAnswer ch source sequence (.officeAnswer { code := c.code, result := OfficeCommand.refusal c }) s := by
  simp only [onOfficeRequest, new, alone]

theorem onOfficeRequest_performs {f : TermCmd} (forwards : OfficeCommand.forwarded? c = some f) :
    onOfficeRequest ch source sequence c limit s = sendAnswer ch source sequence (.officeAnswer (perform limit f s).2)
      ((perform limit f s).1.setTpc { s.tpc with
        repeats := (s.tpc.repeats.filter fun x => x.station != source) ++ [⟨source, sequence, c, (perform limit f s).2⟩] }) := by
  obtain ⟨st, names⟩ := forwarded?_names forwards
  have tpc : (perform limit f s).1.tpc = s.tpc := effect_tpc names limit s
  simp only [onOfficeRequest, new, forwards, tpc]

end

/-- A command performed sends nothing but revokes and Announces. -/
theorem perform_sends {c : OfficeCommand} {f : TermCmd} (forwards : OfficeCommand.forwarded? c = some f) (limit : Nat)
    (s : State) : Sends s (perform limit f s).1 := by
  obtain ⟨st, names⟩ := forwarded?_names forwards
  exact sends_background.effect names limit s

/-- What has joined the queue on a channel stays there when the posts and the purses send their own frames. -/
theorem queued_sent {s t u : State} {ch : Channel} {f : Frame} (h : s.queued t ch f) (sends : Sends t u) : s.queued u ch f := by
  obtain ⟨e, mem, frame, new, onA, onB⟩ := h
  obtain ⟨more, queue, -⟩ := sends.queue
  exact ⟨e, queue ▸ List.mem_append_left more mem, frame, new, onA, onB⟩

theorem Sends.prefer {s t : State} (sends : Sends s t) (c : Channel) : t.qlc.prefer c = s.qlc.prefer c := by
  rw [sends.rest]
  cases c <;> rfl

/-- An answer stands in the queue, on the channel of its request, once the event has ended. -/
theorem sendAnswer_heard {b s x : State} {ch : Channel} (sends : Sends (heardOn ch s) x) (room : x.qlc.queue.length < 16)
    (source : Nat) (sequence : Num8) (body : FrameBody) :
    s.queued (settled b (sendAnswer ch source sequence body x)) ch ⟨source, sequence, body⟩ := by
  refine queued_sent ?_ (sends_background.settled b _)
  rw [sendAnswer, sends.prefer, heardOn_prefer]
  obtain ⟨e, listed, frame, later, onA, onB⟩ := (enqueueOn_queued (s := x) ch ⟨source, sequence, body⟩ room).1
  exact queued_heardOn (c := ch) ⟨e, listed, frame, sends.next.trans later, onA, onB⟩

/-- Settles O50: forwarded, relayed, and performed for another station. -/
theorem officeTraffic : Obligations.OfficeTraffic := by
  refine ⟨fun s st a b d e tags id m k n ready fits low high away table queue p mem => ?_,
    fun s ch source sequence reply p hears matched => ?_, fun s ch source limit sequence c hears queue => ?_⟩
  · have brings : terminalOf p.1 = some p.2 ∧ p.2.names = some st := by
      simp only [List.mem_cons, List.not_mem_nil, or_false] at mem
      rcases mem with rfl | rfl | rfl | rfl | rfl | rfl | rfl | rfl | rfl | rfl | rfl |
        rfl | rfl | rfl | rfl | rfl | rfl | rfl | rfl | rfl | rfl | rfl | rfl <;> exact ⟨rfl, rfl⟩
    exact exec_forwarded brings.1 brings.2 ready fits low high away table queue
  · have tpc : (closeRequest p (heardOn ch s)).tpc = s.tpc := by simp
    refine ⟨_, exec_officeAnswer ch hears matched, by rw [sendReply_eq, ← tpc]; rfl, ?_, State.ext_fields _ _ (by simp)⟩
    rw [← matching?_sequence matched]
    exact closeRequest_closes
  · have tpc : (heardOn ch s).tpc = s.tpc := by simp
    refine ⟨_, exec_officeRequest hears, fun r repeated => ?_, fun k payload new is alone => ?_, fun new alone fits => ?_,
      fun f new forwards => ⟨?_, ?_, fun room => ?_⟩⟩
    · exact officeRequest_answers hears queue (onOfficeRequest_repeat (by rw [tpc]; exact repeated))
    · subst is
      have refused := onOfficeRequest_refused (s := heardOn ch s) (ch := ch) (limit := limit) (by rw [tpc]; exact new) rfl
      simp only [OfficeCommand.refusal, alone, if_true] at refused
      exact officeRequest_answers hears queue refused
    · have refused := onOfficeRequest_refused (s := heardOn ch s) (ch := ch) (limit := limit) (by rw [tpc]; exact new) alone
      have result : OfficeCommand.refusal c = .unknownCommand := by
        cases c with
        | misfit k payload => simp [OfficeCommand.refusal, fits k payload rfl]
        | known g => rfl
        | other o => rfl
      rw [result] at refused
      exact officeRequest_answers hears queue refused
    · rw [onOfficeRequest_performs (by rw [tpc]; exact new) forwards, tpc]
    · rw [onOfficeRequest_performs (by rw [tpc]; exact new) forwards, tpc]
      simp
    · rw [onOfficeRequest_performs (by rw [tpc]; exact new) forwards]
      have sent := perform_sends forwards limit (heardOn ch s)
      generalize perform limit f (heardOn ch s) = r at sent room ⊢
      have kept (tpc : Tpc) : Sends (heardOn ch s) (r.1.setTpc tpc) := sent.trans (.same rfl)
      refine sendAnswer_heard (kept _) ?_ source sequence (.officeAnswer r.2)
      exact room

end Sys2Proof.Machine
end

section
/-! SUPPORT. A Hold Request at the owner (R33 to R35): what the standing that follows brings into the queue, and the answer. -/

namespace Sys2Proof.Machine

/-! ### A notice of a booking that was not BARRED (R28, R82) -/

/-- A SUSPENDED outlet. -/
def suspendedOutlet (o : Outlet) : Outlet := { o with state := .suspended, join := none, restAt := none }

theorem outletSuspended_pressure (n : Nat) (s : State) : (outletSuspended n s).pressure ≤ s.pressure :=
  noteLoad_pressure (t := patchOutlet n suspendedOutlet s) rfl rfl
    (demandNow_falls n (fun o => by simp [Pbc.claim, suspendedOutlet]) fun _ => rfl)

section
variable {old : Standing} (live : old ≠ .barred) (new : Standing)
include live

theorem noticeOutlet_pressure (n : Nat) (s : State) : (noticeOutlet old new n s).pressure ≤ s.pressure := by
  have resumes (o : Outlet) : (old == .barred && o.state == .suspended) = false := by simp [live]
  unfold noticeOutlet
  split
  · exact le_refl _
  · rename_i o _
    rw [resumes o]
    split
    · split
      · exact outletSuspended_pressure n s
      · exact le_refl _
    · exact le_refl _

omit live in
theorem noticeTap_pressure (n : Nat) (s : State) : (noticeTap old new n s).pressure = s.pressure := by
  unfold noticeTap
  split
  · rfl
  · split
    · rfl
    · split <;> rfl

theorem postsNotice_pressure (berth serial : Nat) (s : State) :
    (postsNotice berth serial old new s).pressure ≤ s.pressure := by
  have outlets (l : List Nat) (s : State) : (l.foldl (fun x n => noticeOutlet old new n x) s).pressure ≤ s.pressure := by
    induction l generalizing s with
    | nil => exact le_refl _
    | cons n l ih => exact (ih _).trans (noticeOutlet_pressure live new n s)
  unfold postsNotice
  split
  · exact le_refl _
  · rename_i b _
    split
    · dsimp only
      split
      · exact (le_of_eq (noticeTap_pressure new _ _)).trans (outlets b.cfg.outlets s)
      · exact outlets b.cfg.outlets s
    · exact le_refl _

omit live in
/-- A revoke sends one frame at most. -/
theorem revoke_pressure (tags : List Tag) (s : State) : (revoke tags s).pressure ≤ s.pressure + 1 := by
  have sent (t : State) (f : Frame) (a b : Bool) : (enqueue f a b t).1.qlc.queue.length ≤ t.qlc.queue.length + 1 := by
    unfold enqueue
    split
    · simp
    · simp [onErrors]
  have length : (revoke tags s).qlc.queue.length ≤ s.qlc.queue.length + 1 := by
    have either (p : Bool) (x : State) (r : Report) : (if p then x else report r x).qlc = x.qlc := by cases p <;> simp
    cases tags with
    | nil => exact Nat.le_succ _
    | cons first rest =>
      have same : (revoke (first :: rest) s).qlc = (broadcast (.tagRevoke s.cfg.station (first :: rest))
          (markLookups (first :: rest) (dropTags (first :: rest) s))).1.qlc := either _ _ _
      rw [same]
      exact (sent _ _ _ _).trans (by simp)
  unfold State.pressure
  rw [demandNow_same (s := s) (by simp) (by simp)]
  have lsu : (revoke tags s).lsu = s.lsu := by simp
  rw [lsu]
  omega

theorem notice_pressure (berth serial : Nat) (s : State) : (notice berth serial old new s).pressure ≤ s.pressure + 1 := by
  unfold notice
  split
  · omega
  · rename_i b _
    have quiet (r : Report) (u : State) : (report r u).pressure = u.pressure := by
      simp only [State.pressure, demandNow_same (s := u) (t := report r u) (by simp) (by simp)]
      simp
    have moved (u : State) (f : Booking → Booking) : (changeBooking berth serial f u).pressure = u.pressure := by
      simp only [State.pressure, demandNow_same (s := u) (t := changeBooking berth serial f u) (by simp) (by simp)]
      simp
    rw [quiet]
    refine (postsNotice_pressure live new berth serial _).trans ((revoke_pressure b.tags _).trans ?_)
    rw [moved]

end

/-- A standing worked out again, that was not BARRED, brings a revoke and an Announce at most. -/
theorem restand_length {s : State} {berth serial : Nat} {b : Booking} (found : s.booking? berth serial = some b)
    (live : b.purse.standing ≠ .barred) : (restand berth serial s).qlc.queue.length ≤ s.qlc.queue.length + 2 := by
  have most : s.pressure ≤ s.qlc.queue.length + 1 := by
    unfold State.pressure
    split <;> omega
  have least : (restand berth serial s).qlc.queue.length ≤ (restand berth serial s).pressure := Nat.le_add_right _ _
  have bound : (restand berth serial s).pressure ≤ s.pressure + 1 := by
    simp only [restand, found]
    split
    · omega
    · refine (notice_pressure live _ berth serial _).trans (le_of_eq ?_)
      rw [State.pressure, State.pressure, demandNow_same (s := s) (by simp) (by simp)]
      simp
  omega

/-! ### A Hold Request delivered (R33 to R35) -/

theorem holdCheck_passes {minimum amount : Nat} {p : Purse} (passes : holdCheck minimum amount p = none) :
    p.standing ≠ .barred := by
  intro barred
  simp [holdCheck, barred] at passes

section
variable {s : State} {berth serial : Nat} {b : Booking} (found : s.booking? berth serial = some b) (id : HoldId) (amount : Nat)
include found

theorem newHold_refused {r : HoldRefusal} (fails : holdCheck s.cfg.minimumSale amount b.purse = some r) :
    newHold berth serial id amount s = (report (.holdRefused berth id r) s, .refused r) := by
  simp only [newHold, found, fails]

/-- A purse with a new hold. -/
def held (id : HoldId) (granted : Nat) (p : Purse) : Purse := { p with holds := addHold ⟨id, .active, granted, 0, none⟩ p.holds }

theorem newHold_granted (passes : holdCheck s.cfg.minimumSale amount b.purse = none) :
    newHold berth serial id amount s =
      (report (.holdGranted berth id (b.purse.grant amount)) (restand berth serial
        (changeBooking berth serial (Booking.onPurse (held id (b.purse.grant amount))) s)), .granted (b.purse.grant amount)) := by
  simp only [newHold, found, passes]
  rfl

end

/-- A new request changes the booking it is for, and no other. -/
theorem newHold_others (berth serial : Nat) (id : HoldId) (amount : Nat) (s : State) :
    s.sameBookingsBut (newHold berth serial id amount s).1 berth serial := by
  intro n k other
  cases found : s.booking? berth serial with
  | none => simp only [newHold, found]
  | some b =>
    cases checked : holdCheck s.cfg.minimumSale amount b.purse with
    | some r => rw [newHold_refused found id amount checked, report_booking?]
    | none =>
      rw [newHold_granted found id amount checked, report_booking?]
      exact (booking?_repurse found (held id (b.purse.grant amount)) rfl).2 n k other

theorem ownerHold_others {s : State} {berth serial : Nat} {b : Booking} {tag : Tag} (id : HoldId) (amount : Nat)
    (owns : s.holdBooking? serial tag = some (berth, b)) :
    s.sameBookingsBut (ownerHold id tag serial amount s).1 berth serial := by
  simp only [ownerHold, owns]
  split
  · split
    · exact fun _ _ _ => rfl
    · intro n k other
      rw [newHold_others _ _ _ _ _ n k other, changeHolds,
        booking?_changeBooking _ _ _ _ (Booking.onPurse fun p => { p with holds := dropHold id p.holds }) _
          fun _ => ⟨rfl, rfl⟩]
      simp [other]
  · exact newHold_others _ _ _ _ _

theorem holdBooking?_same {s t : State} (berths : t.bst.berths = s.bst.berths) (cfg : t.cfg = s.cfg) (serial : Nat) (tag : Tag) :
    t.holdBooking? serial tag = s.holdBooking? serial tag := by
  simp only [State.holdBooking?, State.bySerial?, State.liveBookings, State.bookings, berths, cfg]

section
variable {s : State} {ch : Channel} {source : Nat} {sequence : Num8} {id : HoldId} {tag : Tag} {serial amount : Nat}
  (hears : s.hears source)
include hears

theorem exec_holdRequest :
    exec (.holdRequest ch source sequence id tag serial amount) s =
      .next (settled s (onHoldRequest ch source sequence id tag serial amount (heardOn ch s))) := by
  simp only [exec, execHoldRequest, event, receive_hears _ _ _ _ hears]

/-- An answer to a request that changes no booking. -/
theorem holdRequest_quiet {x : State} {result : HoldResult} (room : s.qlc.queue.length < 16)
    (does : ownerHold id tag serial amount (heardOn ch s) = (x, result))
    (frame : x = { heardOn ch s with evj := x.evj }) :
    let t := settled s (onHoldRequest ch source sequence id tag serial amount (heardOn ch s))
    s.queued t ch ⟨source, sequence, .holdAnswer id result⟩ ∧ t.bst = s.bst ∧ t.pbc = s.pbc := by
  have whole : onHoldRequest ch source sequence id tag serial amount (heardOn ch s) =
      sendAnswer ch source sequence (.holdAnswer id result) x := by
    simp only [onHoldRequest, does]
  have bst : x.bst = s.bst := by rw [frame]; simp
  have pbc : x.pbc = s.pbc := by rw [frame]; simp
  have lsu : x.lsu = s.lsu := by rw [frame]; simp
  have qlc : x.qlc = (heardOn ch s).qlc := by rw [frame]
  dsimp only
  rw [whole]
  refine ⟨sendAnswer_heard (.same qlc) (by rw [qlc]; simpa using room) source sequence _, ?_⟩
  rw [settled_same _ _ (by simp [pbc]) (by simp [lsu]) (classOf_same _ _ (by simp [bst])) hears.2.1]
  exact ⟨by simp [bst], by simp [pbc]⟩

end

/-- Settles O9: granted, refused, or granted again. -/
theorem holdRequestAnswered : Obligations.HoldRequestAnswered := by
  intro s ch source sequence id tag serial amount berth b hears finds owns few
  have berths : (heardOn ch s).bst.berths = s.bst.berths := by simp
  have cfg : (heardOn ch s).cfg = s.cfg := by simp
  have bookings := booking?_same s (heardOn ch s) berths
  have found : (heardOn ch s).booking? berth serial = some b := by rw [bookings]; exact finds.2.2
  have owner : (heardOn ch s).holdBooking? serial tag = some (berth, b) := (holdBooking?_same berths cfg _ _).trans owns
  refine ⟨_, exec_holdRequest hears, fun n k other => ?_, State.ext_fields _ _ (by simp), fun new passes => ?_,
    fun r new fails => ?_, fun h again active => ?_⟩
  · have kept := ownerHold_others id amount owner n k other
    rw [bookings] at kept
    rw [settled_booking?, onHoldRequest, sendAnswer_booking?]
    exact kept
  · have granted := newHold_granted found id amount (by rw [cfg]; exact passes)
    have does : onHoldRequest ch source sequence id tag serial amount (heardOn ch s) =
        sendAnswer ch source sequence (.holdAnswer id (.granted (b.purse.grant amount)))
          (report (.holdGranted berth id (b.purse.grant amount)) (restand berth serial
            (changeBooking berth serial (Booking.onPurse (held id (b.purse.grant amount))) (heardOn ch s)))) := by
      simp only [onHoldRequest, ownerHold, owner, new, granted]
    obtain ⟨changed, -⟩ := booking?_repurse found (held id (b.purse.grant amount)) rfl
    have stands : (changeBooking berth serial (Booking.onPurse (held id (b.purse.grant amount))) (heardOn ch s)).booking?
        berth serial = some (b.onPurse (held id (b.purse.grant amount))) := by
      rw [booking?_changeBooking _ _ _ _ (Booking.onPurse (held id (b.purse.grant amount))) _ fun _ => ⟨rfl, rfl⟩, found]
      simp
    have live : (b.onPurse (held id (b.purse.grant amount))).purse.standing ≠ .barred :=
      show b.purse.standing ≠ .barred from holdCheck_passes passes
    have length := restand_length stands live
    have sends : Sends (heardOn ch s) (report (.holdGranted berth id (b.purse.grant amount)) (restand berth serial
        (changeBooking berth serial (Booking.onPurse (held id (b.purse.grant amount))) (heardOn ch s)))) :=
      sends_background.report (sends_background.afterSame (sends_background.restand _ _ _)) _
    rw [does]
    refine ⟨sendAnswer_heard sends ?_ source sequence _, ?_⟩
    · simp only [report_frame, changeBooking_frame, heardOn_queue_length] at length ⊢
      omega
    · rw [settled_booking?, sendAnswer_booking?, report_booking?]
      exact changed
  · refine holdRequest_quiet hears (by omega) (x := report (.holdRefused berth id r) (heardOn ch s)) ?_
      (State.ext_fields _ _ (by simp))
    simp only [ownerHold, owner, new]
    exact newHold_refused found id amount (by rw [cfg]; exact fails)
  · refine holdRequest_quiet hears (by omega) (x := heardOn ch s) ?_ rfl
    simp only [ownerHold, owner, again, active, beq_self_eq_true, if_true]

end Sys2Proof.Machine
end

section
/-! SUPPORT. The bookings one by one: the powered minute, and a clock setting (R7, R32, R160, R161). -/

namespace Sys2Proof.Machine

/-! ### One booking among those that are gone through -/

/-- Steps that each keep a view keep it. -/
theorem foldl_same_of_mem {α β : Type} (view : State → β) {f : State → α → State} {l : List α}
    (h : ∀ a ∈ l, ∀ x, view (f x a) = view x) (s : State) : view (l.foldl f s) = view s := by
  induction l generalizing s with
  | nil => rfl
  | cons a l ih =>
    rw [List.foldl_cons, ih fun b mem => h b (List.mem_cons_of_mem a mem)]
    exact h a List.mem_cons_self s

/-- A live booking stands once among the live bookings, and no other one has its serial. -/
theorem liveBookings_split {s : State} {n k : Nat} {b : Booking} (ok : s.bookingsOk) (reads : s.booking? n k = some b) :
    ∃ before after, s.liveBookings = before ++ (n, b) :: after ∧ b.serial = some k ∧
      ∀ p ∈ before ++ after, ∃ j, p.2.serial = some j ∧ j ≠ k := by
  obtain ⟨-, -, -, -, numbered, distinct⟩ := ok
  have serial := booking?_serial reads
  obtain ⟨x, berth, listed⟩ := Option.bind_eq_some_iff.1 reads
  have live : b.live = true := by
    have := List.find?_some listed
    simp only [Bool.and_eq_true] at this
    exact this.1
  have mem : (n, b) ∈ s.liveBookings := by
    refine List.mem_filter.2 ⟨List.mem_flatMap.2 ⟨x, berth?_mem berth, ?_⟩, live⟩
    rw [berth?_number berth]
    exact List.mem_map.2 ⟨b, List.mem_of_find?_eq_some listed, rfl⟩
  obtain ⟨before, after, split⟩ := List.append_of_mem mem
  refine ⟨before, after, split, serial, fun p there => ?_⟩
  have each : p ∈ s.liveBookings := by
    rw [split]
    rcases List.mem_append.1 there with h | h
    · exact List.mem_append_left _ h
    · exact List.mem_append_right _ (List.mem_cons_of_mem _ h)
  obtain ⟨j, has, -⟩ := (Option.any_eq_true _ _).1 (numbered p each)
  refine ⟨j, has, fun same => ?_⟩
  subst same
  rw [State.serials, split, List.filterMap_append, List.filterMap_cons_some (by exact serial)] at distinct
  obtain ⟨-, later, apart⟩ := List.nodup_append.1 distinct
  rcases List.mem_append.1 there with h | h
  · exact apart j (List.mem_filterMap.2 ⟨p, h, has⟩) j List.mem_cons_self rfl
  · exact (List.nodup_cons.1 later).1 (List.mem_filterMap.2 ⟨p, h, has⟩)

/-! ### The powered minute (R32) -/

theorem reportExpired_booking? (n : Nat) (l : List Hold) (s : State) : (reportExpired n l s).booking? = s.booking? :=
  booking?_same _ _ (by simp)

theorem booking?_changeHolds (n k m j : Nat) (f : List Hold → List Hold) (s : State) :
    (changeHolds n k f s).booking? m j = if m = n ∧ j = k then (s.booking? m j).map (Booking.onPurse fun p =>
      { p with holds := f p.holds }) else s.booking? m j :=
  booking?_changeBooking _ _ _ _ (Booking.onPurse fun p => { p with holds := f p.holds }) _ fun _ => ⟨rfl, rfl⟩

/-- Ageing the holds of one booking leaves the others. -/
theorem ageBooking_others {n m j k : Nat} {b : Booking} (serial : b.serial = some j) (other : k ≠ j) (s : State) :
    (ageBooking n b s).booking? m k = s.booking? m k := by
  have apart : ¬(m = n ∧ k = j) := fun h => other h.2
  unfold ageBooking
  simp only [serial, Option.getD_some]
  split
  · split
    · rw [reportExpired_booking?, booking?_changeHolds, if_neg apart]
    · rw [booking?_restand, if_neg apart, reportExpired_booking?, booking?_changeHolds, if_neg apart]
  · rfl

theorem restood_keeps (b : Booking) : (restood b).stay = b.stay ∧ (restood b).tags = b.tags ∧ (restood b).state = b.state ∧
    (restood b).purse.balance = b.purse.balance ∧ (restood b).purse.holds = b.purse.holds := by
  unfold restood
  split <;> exact ⟨rfl, rfl, rfl, rfl, rfl⟩

/-- What a powered minute leaves of a booking (R32). -/
theorem ageBooking_booking? {n k : Nat} {b : Booking} {s : State} (reads : s.booking? n k = some b) :
    ∃ x, (ageBooking n b s).booking? n k = some x ∧ x.stay = b.stay ∧ x.tags = b.tags ∧ x.state = b.state ∧
      x.purse.balance = b.purse.balance ∧ x.purse.holds = b.purse.holds.map (ageHold s.cfg.holdTimeout) := by
  have aged : (changeHolds n k (List.map (ageHold s.cfg.holdTimeout)) s).booking? n k =
      some (b.onPurse fun p => { p with holds := p.holds.map (ageHold s.cfg.holdTimeout) }) := by
    rw [booking?_changeHolds, if_pos ⟨rfl, rfl⟩, reads]
    rfl
  unfold ageBooking
  simp only [booking?_serial reads, Option.getD_some]
  split
  · split
    · rw [reportExpired_booking?]
      exact ⟨_, aged, rfl, rfl, rfl, rfl, rfl⟩
    · rw [booking?_restand, if_pos ⟨rfl, rfl⟩, reportExpired_booking?, aged]
      exact ⟨_, rfl, restood_keeps _⟩
  · rename_i idle
    have same : b.purse.holds.map (ageHold s.cfg.holdTimeout) = b.purse.holds := by
      refine (List.map_congr_left fun h mem => ?_).trans (List.map_id _)
      have inactive : ¬(h.state == .active) = true := fun active => idle (List.any_eq_true.2 ⟨h, mem, active⟩)
      simp only [ageHold, inactive]
      rfl
    exact ⟨b, reads, rfl, rfl, rfl, rfl, same.symm⟩

/-- The station at a minute of power, before the holds age. -/
def minuteDue (s : State) : State := (reach s.minuteAt s).setMinuteAt (s.minuteAt + 60000)

/-- The holds of every live booking aged. -/
def minuteAged (s : State) : State :=
  (minuteDue s).liveBookings.foldl (fun x p => event (ageBooking p.1 p.2) x) (minuteDue s)

theorem minuteAged_booking? {s : State} {n k : Nat} {b : Booking} (ok : s.bookingsOk) (reads : s.booking? n k = some b) :
    ∃ x, (minuteAged s).booking? n k = some x ∧ x.stay = b.stay ∧ x.tags = b.tags ∧ x.state = b.state ∧
      x.purse.balance = b.purse.balance ∧ x.purse.holds = b.purse.holds.map (ageHold s.cfg.holdTimeout) := by
  obtain ⟨before, after, split, -, others⟩ := liveBookings_split (s := minuteDue s) ok reads
  have leaves (l : List (Nat × Booking)) (among : ∀ p ∈ l, p ∈ before ++ after) (u : State) :
      (l.foldl (fun x p => event (ageBooking p.1 p.2) x) u).booking? n k = u.booking? n k := by
    refine foldl_same_of_mem (fun x => x.booking? n k) (fun p mem x => ?_) u
    obtain ⟨j, serial, other⟩ := others p (among p mem)
    rw [event_booking?]
    exact ageBooking_others serial other.symm x
  have cfg (l : List (Nat × Booking)) (u : State) :
      (l.foldl (fun x p => event (ageBooking p.1 p.2) x) u).cfg = u.cfg :=
    foldl_same_of_mem State.cfg (fun p _ x => by simp) u
  have there : (before.foldl (fun x p => event (ageBooking p.1 p.2) x) (minuteDue s)).booking? n k = some b :=
    (leaves before (fun p mem => List.mem_append_left _ mem) _).trans reads
  obtain ⟨x, after', rest⟩ := ageBooking_booking? there
  rw [cfg] at rest
  refine ⟨x, ?_, rest⟩
  rw [minuteAged, split, List.foldl_append, List.foldl_cons,
    leaves after fun p mem => List.mem_append_right _ mem, event_booking?]
  exact after'

/-! ### Becoming CURRENT (R7, R168) -/

/-- A live booking made CURRENT. -/
def nowCurrent (b : Booking) : Booking := if b.live then { b with state := .current } else b

theorem keeps_nowCurrent : Keeps nowCurrent := fun b => by
  unfold nowCurrent
  cases live : b.live
  · exact ⟨rfl, live⟩
  · exact ⟨rfl, rfl⟩

/-- Only live bookings are changed, so what the change would make of the others does not matter. -/
theorem onBooking_congr {f g : Booking → Booking} (n k : Nat) (s : State) (same : ∀ b, b.live = true → f b = g b) :
    onBooking n k f s = onBooking n k g s := by
  have each (l : List Booking) : updWhere (fun x => x.live && x.serial == some k) f l =
      updWhere (fun x => x.live && x.serial == some k) g l := by
    refine List.map_congr_left fun b _ => ?_
    split
    · next meets => exact same b (Bool.and_eq_true _ _ ▸ meets).1
    · rfl
  exact congrArg (fun h => onBerth n h s) (funext fun b => by rw [each])

theorem changeBooking_congr {f g : Booking → Booking} (n k : Nat) (s : State) (same : ∀ b, b.live = true → f b = g b) :
    changeBooking n k f s = changeBooking n k g s := by
  unfold changeBooking
  rw [onBooking_congr n k s same]

theorem makeCurrent_booking? {n j m k : Nat} {b : Booking} {s : State} (live : b.live = true)
    (reads : s.booking? m k = some b) :
    ∃ x, (makeCurrent n j s).booking? m k = some x ∧
      SameButWanted (if m = n ∧ k = j then { b with state := .current } else b) x := by
  have changed : changeBooking n j (fun x => { x with state := .current }) s = changeBooking n j nowCurrent s :=
    changeBooking_congr n j s fun x live => by rw [nowCurrent, if_pos live]
  unfold makeCurrent
  refine afterCurrent_booking? ?_
  rw [report_booking?, changed, booking?_changeBooking _ _ _ _ _ _ keeps_nowCurrent, reads]
  split
  · rw [Option.map_some, nowCurrent, if_pos live]
  · rfl

/-- A booking as its berth's arrivals leave it on a day. -/
def arrived (day : Nat) (b : Booking) : Booking :=
  if b.state = .reserved ∧ b.stay.arrival ≤ day then { b with state := .current } else b

theorem SameButWanted.live {x y : Booking} (h : SameButWanted x y) : y.live = x.live := by rw [h]; rfl

theorem SameButWanted.current {x y : Booking} (h : SameButWanted x y) :
    SameButWanted { x with state := .current } { y with state := .current } := by
  rw [h]
  exact rfl

theorem SameButWanted.arrived {x y : Booking} (day : Nat) (h : SameButWanted x y) :
    SameButWanted (arrived day x) (arrived day y) := by
  have state : y.state = x.state := by rw [h]
  have stay : y.stay = x.stay := by rw [h]
  by_cases due : x.state = .reserved ∧ x.stay.arrival ≤ day
  · have dueY : y.state = .reserved ∧ y.stay.arrival ≤ day := by rwa [state, stay]
    rw [Machine.arrived, Machine.arrived, if_pos due, if_pos dueY]
    exact h.current
  · have notY : ¬(y.state = .reserved ∧ y.stay.arrival ≤ day) := by rwa [state, stay]
    rw [Machine.arrived, Machine.arrived, if_neg due, if_neg notY]
    exact h

theorem arrived_live {day : Nat} {b : Booking} (live : b.live = true) : (arrived day b).live = true := by
  unfold arrived
  split
  · rfl
  · exact live

theorem arrived_arrived (day : Nat) (b : Booking) : arrived day (arrived day b) = arrived day b := by
  by_cases due : b.state = .reserved ∧ b.stay.arrival ≤ day <;> simp [arrived, due]

/-- A change made twice, of what differs in the wanted flags alone, is made once. -/
theorem SameButWanted.steps {f : Booking → Booking} {p q : Prop} [Decidable p] [Decidable q] {x y : Booking}
    (h : SameButWanted (if p then f x else x) y) (mono : ∀ x y, SameButWanted x y → SameButWanted (f x) (f y))
    (twice : ∀ x, f (f x) = f x) : SameButWanted (if p ∨ q then f x else x) (if q then f y else y) := by
  by_cases first : p <;> by_cases second : q <;> simp only [first, second, or_self, or_true, or_false, if_true, if_false] at h ⊢
  · exact twice x ▸ mono _ _ h
  · exact h
  · exact mono _ _ h
  · exact h

/-- Several bookings of a berth made CURRENT, in turn. -/
theorem makeCurrents_booking? {n m k : Nat} (js : List Nat) {b : Booking} {s : State} (live : b.live = true)
    (reads : s.booking? m k = some b) :
    ∃ x, (js.foldl (fun x j => makeCurrent n j x) s).booking? m k = some x ∧
      SameButWanted (if m = n ∧ k ∈ js then { b with state := .current } else b) x := by
  induction js generalizing s b with
  | nil => exact ⟨b, reads, by simp [SameButWanted]⟩
  | cons j js ih =>
    obtain ⟨y, reads', same⟩ := makeCurrent_booking? (n := n) (j := j) live reads
    have liveY : y.live = true := by
      rw [same.live]
      split
      · rfl
      · exact live
    obtain ⟨x, reads'', same'⟩ := ih liveY reads'
    refine ⟨x, reads'', SameButWanted.trans ?_ same'⟩
    simp only [List.mem_cons, and_or_left]
    exact same.steps (fun _ _ => SameButWanted.current) (fun _ => rfl)

/-- Among the entries of its berth a live booking alone has its serial. -/
theorem listed_serial {s : State} {n k : Nat} {b c : Booking} {x : Berth} (ok : s.bookingsOk) (reads : s.booking? n k = some b)
    (berth : s.berth? n = some x) (listed : c ∈ x.bookings) (live : c.live = true) : c = b ∨ ∃ j, c.serial = some j ∧ j ≠ k := by
  obtain ⟨before, after, split, -, others⟩ := liveBookings_split ok reads
  have mem : (n, c) ∈ s.liveBookings := by
    refine List.mem_filter.2 ⟨List.mem_flatMap.2 ⟨x, berth?_mem berth, ?_⟩, live⟩
    rw [berth?_number berth]
    exact List.mem_map.2 ⟨c, listed, rfl⟩
  rw [split, List.mem_append, List.mem_cons] at mem
  rcases mem with mem | mem | mem
  · exact .inr (others _ (List.mem_append_left _ mem))
  · exact .inl (Prod.mk.inj mem).2
  · exact .inr (others _ (List.mem_append_right _ mem))

/-- A booking stands in its berth's list. -/
theorem booking?_listed {s : State} {n k : Nat} {b : Booking} (reads : s.booking? n k = some b) :
    ∃ x, s.berth? n = some x ∧ b ∈ x.bookings ∧ b.live = true := by
  obtain ⟨x, berth, listed⟩ := Option.bind_eq_some_iff.1 reads
  have live := List.find?_some listed
  simp only [Bool.and_eq_true] at live
  exact ⟨x, berth, List.mem_of_find?_eq_some listed, live.1⟩

theorem arrivals_booking? {n m k day : Nat} {b : Booking} {s : State} (ok : s.bookingsOk) (reads : s.booking? m k = some b) :
    ∃ x, (arrivals n day s).booking? m k = some x ∧ SameButWanted (if m = n then arrived day b else b) x := by
  obtain ⟨x, berth, listed, live⟩ := booking?_listed reads
  by_cases here : m = n
  · subst here
    let due : Booking → Bool := fun c => c.state == .reserved && decide (c.stay.arrival ≤ day)
    have among : k ∈ (x.bookings.filter due).map (fun c => c.serial.getD 0) ↔
        b.state = .reserved ∧ b.stay.arrival ≤ day := by
      constructor
      · intro mem
        obtain ⟨c, mem, serial⟩ := List.mem_map.1 mem
        obtain ⟨listed', due'⟩ := List.mem_filter.1 mem
        have isDue : c.state = .reserved ∧ c.stay.arrival ≤ day := by simpa [due] using due'
        rcases listed_serial ok reads berth listed' (by simp [Booking.live, isDue.1]) with same | ⟨j, serial', other⟩
        · exact same ▸ isDue
        · rw [serial'] at serial
          exact absurd serial other
      · intro isDue
        refine List.mem_map.2 ⟨b, List.mem_filter.2 ⟨listed, by simpa [due] using isDue⟩, ?_⟩
        rw [booking?_serial reads]
        rfl
    obtain ⟨y, reads', same⟩ := makeCurrents_booking? (n := m) ((x.bookings.filter due).map fun c => c.serial.getD 0) live reads
    rw [List.foldl_map] at reads'
    refine ⟨y, ?_, ?_⟩
    · unfold arrivals
      rw [berth]
      exact reads'
    · rw [if_pos rfl, arrived]
      simpa only [among, true_and] using same
  · unfold arrivals
    split
    · exact ⟨b, reads, by simp [here, SameButWanted]⟩
    · next c _ =>
      obtain ⟨y, reads', same⟩ := makeCurrents_booking? (n := n) ((c.bookings.filter fun k => k.state == .reserved &&
        k.stay.arrival ≤ day).map fun c => c.serial.getD 0) live reads
      rw [List.foldl_map] at reads'
      exact ⟨y, reads', by simpa only [here, false_and, if_false] using same⟩

/-- The arrivals of several berths, in turn. -/
theorem arrivalsAll_booking? {m k day : Nat} (numbers : List Nat) {b : Booking} {s : State} (ok : s.bookingsOk)
    (reads : s.booking? m k = some b) :
    ∃ x, (numbers.foldl (fun x n => arrivals n day x) s).booking? m k = some x ∧
      SameButWanted (if m ∈ numbers then arrived day b else b) x := by
  induction numbers generalizing s b with
  | nil => exact ⟨b, reads, by simp [SameButWanted]⟩
  | cons n numbers ih =>
    obtain ⟨y, reads', same⟩ := arrivals_booking? (n := n) (day := day) ok reads
    obtain ⟨x, reads'', same'⟩ := ih (kept_arrivals (P := True) n day s ok).1 reads'
    refine ⟨x, reads'', SameButWanted.trans ?_ same'⟩
    simp only [List.mem_cons]
    exact same.steps (fun _ _ => SameButWanted.arrived day) (arrived_arrived day)

/-- The examination after a clock setting makes every RESERVED booking CURRENT whose arrival day has come (R7). -/
theorem examine_booking? {m k day : Nat} {b : Booking} {s : State} (ok : s.bookingsOk) (reads : s.booking? m k = some b) :
    ∃ x, (examine day s).booking? m k = some x ∧ SameButWanted (arrived day b) x := by
  obtain ⟨x, berth, -, -⟩ := booking?_listed reads
  obtain ⟨y, reads', same⟩ := arrivalsAll_booking? (day := day) (s.bst.berths.map fun b => b.cfg.number) ok reads
  have among : m ∈ s.bst.berths.map fun b => b.cfg.number :=
    List.mem_map.2 ⟨x, berth?_mem berth, berth?_number berth⟩
  rw [if_pos among] at same
  exact ⟨y, reads', same⟩

/-! ### The powered minute and the clock settings as events -/

theorem exec_holdMinuteTimer {s : State} (up : s.up = true) : exec .holdMinuteTimer s = .next (minuteAged s) := by
  simp only [exec, execHoldMinuteTimer, whenUp, up, if_true]
  rfl

/-- What a powered minute leaves of the state. -/
theorem minuteAged_frame (s : State) : (minuteAged s).now = max s.now s.minuteAt ∧
    (minuteAged s).minuteAt = s.minuteAt + 60000 ∧
    minuteAged s = { s with
      now := (minuteAged s).now, minuteAt := (minuteAged s).minuteAt, bst := (minuteAged s).bst, acu := (minuteAged s).acu
      pbc := (minuteAged s).pbc, lsu := (minuteAged s).lsu, qlc := (minuteAged s).qlc, evj := (minuteAged s).evj } := by
  have kept {β : Type} (view : State → β) (each : ∀ n b x, view (event (ageBooking n b) x) = view x) :
      view (minuteAged s) = view (minuteDue s) := foldl_same_of_mem view (fun p _ x => each p.1 p.2 x) _
  refine ⟨?_, ?_, ?_⟩
  · exact kept State.now fun n b x => by simp
  · exact kept State.minuteAt fun n b x => by simp
  · have whole := kept (fun x => ({ x with
      now := s.now, minuteAt := s.minuteAt, bst := s.bst, acu := s.acu, pbc := s.pbc, lsu := s.lsu, qlc := s.qlc
      evj := s.evj } : State)) fun n b x => State.ext_fields _ _ (by simp)
    exact State.ext_fields _ _ (by simpa [minuteDue, reach] using whole)

theorem ageHold_eq (timeout : Nat) : ageHold timeout = fun h =>
    if h.state = .active then { h with age := h.age + 1, state := if timeout ≤ h.age + 1 then .expired else .active }
    else h := by
  funext h
  simp only [ageHold, beq_iff_eq]

/-- What a clock setting leaves of a booking. -/
theorem clockSet_bookings {s u : State} {day n k : Nat} {b : Booking} (ok : s.bookingsOk) (bst : u.bst = s.bst)
    (reads : s.booking? n k = some b) : ∃ x, (examine day u).booking? n k = some x ∧ x.stay = b.stay ∧ x.purse = b.purse ∧
      x.tags = b.tags ∧ x.state = (if b.state = .reserved ∧ b.stay.arrival ≤ day then .current else b.state) := by
  have okU : u.bookingsOk := (Kept.same (P := True) (s := s) (t := u) (by simp [bst]) ok).1
  have readsU : u.booking? n k = some b := by rwa [booking?_same s u (by rw [bst])]
  obtain ⟨x, reads', same⟩ := examine_booking? (day := day) okU readsU
  refine ⟨x, reads', ?_⟩
  rw [same, arrived]
  split <;> exact ⟨rfl, rfl, rfl, rfl⟩

/-- What joins the queue after a state, of the posts and the purses, is no frame of another kind. -/
theorem sends_frames {s t : State} (sends : Sends s t) {code : Nat} (other : code ≠ 7 ∧ code ≠ 15) :
    (t.qlc.queue.map Entry.frame).filter (fun f => f.body.code == code) =
      (s.qlc.queue.map Entry.frame).filter (fun f => f.body.code == code) := by
  obtain ⟨more, queue, background⟩ := sends.queue
  have none_joins : (more.map Entry.frame).filter (fun f => f.body.code == code) = [] := by
    refine List.filter_eq_nil_iff.2 fun f mem isCode => ?_
    obtain ⟨e, listed, rfl⟩ := List.mem_map.1 mem
    have is : e.frame.body.code = code := eq_of_beq isCode
    rcases (background e listed).2 with revoke | announce
    · exact other.1 (is.symm.trans revoke)
    · exact other.2 (is.symm.trans announce)
  rw [queue, List.map_append, List.filter_append, none_joins, List.append_nil]

theorem heardOn_queueFrames (c : Channel) (s : State) :
    (heardOn c s).qlc.queue.map Entry.frame = s.qlc.queue.map Entry.frame := by
  have frames : (heardOn c s).qlc.frames = s.qlc.frames := by simp
  simpa [Qlc.frames, Function.comp_def] using congrArg (List.map Prod.snd) frames

theorem effect_setTime {s : State} {day second limit : Nat} (day_ok : day ≤ 65535) (second_ok : second ≤ 86399)
    (room : s.qlc.queue.length < 16) :
    effect limit (.setTime day second) s =
      (report (.clockSet s.cfg.station s.dck.clock ⟨day, second⟩ (some true))
          (examine day (broadcast (.timeNotice day second) (setClock day second s)).1),
        answer .setTime .ok [.clock (some ⟨day, second⟩), .queued true]) := by
  have sent : (broadcast (.timeNotice day second) (setClock day second s)).2 = true := by
    simp [broadcast, enqueue, setClock, room]
  have good : ¬(decide (65535 < day) || decide (86399 < second)) = true := by simp; omega
  show doSetTime day second s = _
  rw [doSetTime, if_neg good]
  dsimp only
  rw [sent]

theorem examined_sends (day : Nat) (r : Report) (v : Tpc) (before s : State) :
    Sends s (settled before ((report r (examine day s)).setTpc v)) := by
  have examined : Sends s (report r (examine day s)) := sends_background.report (sends_background.examine day s) r
  generalize report r (examine day s) = u at examined
  have answered : Sends u (u.setTpc v) := .same rfl
  exact (examined.trans answered).trans (sends_background.settled before _)

/-- Settles O39: one booking among those that a minute of power, or a clock setting, goes through. -/
theorem bookingsAgeAndBecomeCurrent : Obligations.BookingsAgeAndBecomeCurrent := by
  refine ⟨fun s up ok => ?_, fun s day second ok => ⟨fun ready day_ok second_ok room => ?_, fun ch source hears => ?_⟩⟩
  · obtain ⟨now, due, frame⟩ := minuteAged_frame s
    refine ⟨_, exec_holdMinuteTimer up, now, due, fun n k b reads => ?_, frame⟩
    rw [← ageHold_eq]
    exact minuteAged_booking? ok reads
  · obtain ⟨t, runs, state, replies, -, bookings⟩ := exec_here_replies (i := .setTime day second) rfl ready nofun
      (names_none rfl) (effect_setTime day_ok second_ok room)
    refine ⟨t, runs, ⟨?_, fun n k b reads => ?_⟩, ?_, replies, ?_⟩
    · rw [state]
      simp [setClock]
    · rw [bookings, report_booking?]
      exact clockSet_bookings ok (by simp [setClock]) reads
    · have sends : Sends (broadcast (.timeNotice day second) (setClock day second s)).1 t := by
        rw [state]
        exact examined_sends _ _ _ _ _
      exact queuedWide_congr (s := setClock day second s) rfl rfl
        (queuedWide_sends (broadcast_queuedWide _ (by simpa [setClock] using room)) sends)
    · rw [state]
      exact State.ext_fields _ _ (by simp [setClock])
  · have runs : exec (.timeNotice ch source day second) s =
        .next (settled s (adoptTime source day second (heardOn ch s))) := by
      simp only [exec, execTimeNotice, event, receive_hears ch source _ s hears]
    have sends : Sends (heardOn ch s) (settled s (adoptTime source day second (heardOn ch s))) :=
      (((Sends.same (s := heardOn ch s) (t := setClock day second (heardOn ch s)) rfl).trans
        (sends_background.examine day _)).trans (.same (by simp [adoptTime]))).trans (sends_background.settled _ _)
    refine ⟨_, runs, ⟨?_, fun n k b reads => ?_⟩, ?_, ?_⟩
    · simp [adoptTime, setClock]
    · rw [settled_booking?, adoptTime, report_booking?]
      exact clockSet_bookings ok (by simp [setClock]) reads
    · rw [sends_frames sends (by decide), heardOn_queueFrames]
    · exact State.ext_fields _ _ (by simp [adoptTime, setClock])

end Sys2Proof.Machine
end

section
/-! SUPPORT. What the work of a rollover does to the booking store, for every relation of the state before and after that the
changes and the endings of bookings keep (section 9.4, R168). -/

namespace Sys2Proof.Machine

/-- A relation kept by a change of a booking of a berth, of a serial that is allowed, and where BST is as it was. -/
structure ChangeSteps (n : Nat) (allowed : Nat → Prop) (R : State → State → Prop) : Prop where
  same : ∀ s t, t.bst = s.bst → R s t
  trans : ∀ s t u, R s t → R t u → R s u
  change : ∀ k f s, allowed k → Keeps f → R s (changeBooking n k f s)

/-- One that an ending with a statement keeps as well. -/
structure RollSteps (n : Nat) (allowed : Nat → Prop) (R : State → State → Prop) : Prop extends ChangeSteps n allowed R where
  ended : ∀ k b kind s, allowed k → s.booking? n k = some b → R s (endBooking n b (some kind) s)

namespace ChangeSteps
variable {n : Nat} {allowed : Nat → Prop} {R : State → State → Prop} (steps : ChangeSteps n allowed R)
include steps

theorem refl (s : State) : R s s := steps.same s s rfl

theorem report {s t : State} (h : R s t) (r : Report) : R s (Machine.report r t) :=
  steps.trans _ _ _ h (steps.same _ _ (by simp))

theorem notice {k : Nat} (ok : allowed k) (old new : Standing) (s : State) : R s (notice n k old new s) := by
  have advanced := steps.change k (fun b => { b with epoch := b.epoch + 1 }) s ok fun _ => ⟨rfl, rfl⟩
  unfold Machine.notice
  split
  · exact steps.refl s
  · exact steps.report (steps.trans _ _ _ advanced (steps.same _ _ (by simp))) _

theorem restand {k : Nat} (ok : allowed k) (s : State) : R s (restand n k s) := by
  unfold Machine.restand
  split
  · exact steps.refl s
  · exact Background.ite (steps.refl s)
      (steps.trans _ _ _ (steps.change k _ s ok (keeps_onPurse _)) (steps.notice ok _ _ _))

theorem debit {k : Nat} (ok : allowed k) (c : Charge) (d : Nat) (s : State) : R s (debit n k c d s) := by
  have taken := steps.change k _ s ok (keeps_debit c d)
  unfold Machine.debit
  refine Background.ite (steps.refl s) ?_
  split
  · exact steps.refl s
  · exact Background.ite (steps.report taken _) taken

theorem chargeNight {k : Nat} (ok : allowed k) (r : Rollover) {b : Booking} (serial : b.serial = some k) (s : State) :
    R s (chargeNight r n b s) := by
  unfold Machine.chargeNight
  simp only [serial, Option.getD_some]
  exact Background.ite (steps.refl s) (steps.trans _ _ _ (steps.debit ok _ _ s) (steps.restand ok _))

theorem displaced (all : ∀ k, allowed k) (b : Booking) (s : State) : R s (displaced n b s) := by
  have cleared := steps.change (b.serial.getD 0) unwanted s (all _) keeps_unwanted
  rw [displaced_eq]
  exact steps.trans _ _ _ cleared (steps.same _ _ (by simp))

theorem makeCurrent (all : ∀ k, allowed k) (k : Nat) (s : State) : R s (makeCurrent n k s) := by
  have changed : changeBooking n k (fun x => { x with state := .current }) s = changeBooking n k nowCurrent s :=
    changeBooking_congr n k s fun x live => by rw [nowCurrent, if_pos live]
  unfold Machine.makeCurrent
  rw [changed]
  refine steps.trans _ _ _ (steps.report (steps.change k nowCurrent s (all k) keeps_nowCurrent) (.bookingCurrent n k)) ?_
  unfold afterCurrent
  split
  · exact Background.ite (steps.refl _) (steps.displaced all _ _)
  · exact steps.refl _

theorem arrivals (all : ∀ k, allowed k) (day : Nat) (s : State) : R s (arrivals n day s) := by
  unfold Machine.arrivals
  split
  · exact steps.refl s
  · exact foldl_rel steps.refl (fun s t u => steps.trans s t u) (fun x _ => steps.makeCurrent all _ x) _ s

end ChangeSteps

/-! ### The departure of one booking, and of several (R167) -/

section
variable {n : Nat} {allowed : Nat → Prop} {R : State → State → Prop} (steps : RollSteps n allowed R)
include steps

theorem RollSteps.depart {k : Nat} (ok : allowed k) (r : Rollover) (p : State × Nat) : R p.1 (depart r n k p).1 := by
  unfold Machine.depart
  dsimp only
  split
  · exact steps.refl _
  · next b reads =>
    split
    · exact steps.refl _
    · exact steps.ended k b _ p.1 ok reads
    · exact steps.report (steps.change k _ p.1 ok (keeps_departing _)) _

theorem RollSteps.rollBooking {k : Nat} (ok : allowed k) (r : Rollover) {b : Booking} (serial : b.serial = some k)
    (p : State × Nat) : R p.1 (rollBooking r n b p).1 := by
  have flipped := steps.trans _ _ _ (steps.chargeNight ok r serial p.1)
    (steps.change k (flipDay r.closing) _ ok fun _ => ⟨rfl, rfl⟩)
  unfold Machine.rollBooking
  simp only [serial, Option.getD_some]
  exact steps.trans _ _ _ flipped (steps.depart ok r (_, p.2))

theorem RollSteps.rollBookings (r : Rollover) {l : List Booking} (ok : ∀ b ∈ l, ∃ k, b.serial = some k ∧ allowed k)
    (p : State × Nat) : R p.1 (l.foldl (fun x b => Machine.rollBooking r n b x) p).1 := by
  induction l generalizing p with
  | nil => exact steps.refl _
  | cons b l ih =>
    obtain ⟨k, serial, allows⟩ := ok b List.mem_cons_self
    exact steps.trans _ _ _ (steps.rollBooking allows r serial p) (ih (fun c mem => ok c (List.mem_cons_of_mem b mem)) _)

end

/-- One berth of a rollover, where every serial is allowed. -/
theorem RollSteps.rollBerth {n : Nat} {R : State → State → Prop} (steps : RollSteps n (fun _ => True) R) (r : Rollover)
    (p : State × Nat) (ok : p.1.bookingsOk) : R p.1 (rollBerth r n p).1 := by
  unfold Machine.rollBerth
  split
  · exact steps.refl _
  · next b berth =>
    refine steps.trans _ _ _ (steps.rollBookings r (fun c mem => ?_) p) (steps.arrivals (fun _ => trivial) r.newDay _)
    obtain ⟨listed, current⟩ := List.mem_filter.1 mem
    have live : c.live = true := by
      rw [Booking.live, eq_of_beq current]
      rfl
    have numbered := (liveBookings_numbered p.1).1 ok.2.2.2.2.1 b (berth?_mem berth) c listed live
    obtain ⟨k, serial, -⟩ := (Option.any_eq_true _ _).1 numbered
    exact ⟨k, serial, trivial⟩

/-! ### The berths besides one -/

theorem berth?_changeBooking (n k m : Nat) (f : Booking → Booking) (s : State) (other : m ≠ n) :
    (changeBooking n k f s).berth? m = s.berth? m := by
  have on : (onBooking n k f s).berth? m = s.berth? m := by
    rw [onBooking, berth?_onBerth _ _ _ _ (by simp)]
    cases reads : s.berth? m with
    | none => rfl
    | some b => simp [berth?_number reads, other]
  unfold changeBooking
  split
  · rw [berth?_same (onBooking n k f s) _ (by simp), on]
  · rfl

/-- The berths but one are as they were. -/
def BerthsBut (n : Nat) (s t : State) : Prop := ∀ m, m ≠ n → t.berth? m = s.berth? m

theorem berthsBut_steps (n : Nat) : RollSteps n (fun _ => True) (BerthsBut n) where
  same s t bst m _ := congrFun (berth?_same s t (by rw [bst])) m
  trans _ _ _ st tu m other := (tu m other).trans (st m other)
  change k f s _ _ m other := berth?_changeBooking n k m f s other
  ended k b kind s _ _ m other := by
    rw [berth?_same (onBerth n (withoutBooking b.serial) s) _
      (by rw [endBooking_bst, queueSlot_berths]; simp [stated]), berth?_onBerth _ _ _ _ (withoutBooking_cfg b.serial)]
    cases reads : s.berth? m with
    | none => rfl
    | some x => simp [berth?_number reads, other]

/-! ### The bookings besides one -/

theorem bookingStays_steps (n k : Nat) :
    RollSteps n (fun j => j ≠ k) (fun s t => t.booking? n k = s.booking? n k) where
  same s t bst := congrFun (congrFun (booking?_same s t (by rw [bst])) n) k
  trans _ _ _ st tu := tu.trans st
  change j f s other keeps := by rw [booking?_changeBooking _ _ _ _ _ _ keeps, if_neg fun same => other same.2.symm]
  ended j b kind s other reads := by rw [booking?_endBooking reads, if_neg fun same => other same.2.symm]

/-! ### Statements while there is room for all (R10) -/

theorem lowestFree_none {used : List Nat} {lo n : Nat} (full : lowestFree used lo n = none) : List.range' lo n ⊆ used := by
  induction n generalizing lo with
  | zero => exact List.nil_subset _
  | succ n ih =>
    rw [lowestFree] at full
    split at full
    · next taken =>
      rw [List.range'_succ]
      exact List.cons_subset.2 ⟨List.contains_iff_mem.1 taken, ih full⟩
    · exact absurd full (by simp)

/-- A list shorter than the numbers to choose from leaves one free. -/
theorem lowestFree_short {used : List Nat} {lo n : Nat} (short : used.length < n) : (lowestFree used lo n).isSome = true := by
  cases free : lowestFree used lo n with
  | some _ => rfl
  | none =>
    have := (List.subperm_of_subset List.nodup_range' (lowestFree_none free)).length_le
    rw [List.length_range'] at this
    omega

/-- Where a slot is free a statement joins the others. -/
theorem addStatement_perm {berth : Nat} {kind : EndKind} {b : Booking} {s : State} (room : s.bst.statements.length < 8) :
    ∃ x, ((addStatement berth kind b s).bst.statements).Perm (x :: s.bst.statements) := by
  obtain ⟨i, free⟩ := Option.isSome_iff_exists.1 (lowestFree_short (used := s.bst.statements.map Statement.slot) (lo := 1)
    (n := 8) (by simpa using room))
  refine ⟨statementOf (bump32 s.bst.lastEnding) i berth kind b, ?_⟩
  simp only [addStatement, queueRecord_statements, State.setBst_bst, free, Option.isSome_some, if_true, Option.getD_some]
  exact insertBy_perm _ _ _

theorem liveBookings_length (s : State) :
    s.liveBookings.length = (s.bst.berths.map fun b => (b.bookings.filter Booking.live).length).sum := by
  simp only [State.liveBookings, State.bookings]
  induction s.bst.berths with
  | nil => rfl
  | cons b l ih =>
    rw [List.flatMap_cons, List.filter_append, List.length_append, ih, List.map_cons, List.sum_cons]
    congr 1
    simp [List.filter_map, Function.comp_def]

theorem changeBooking_liveBookings (n k : Nat) {f : Booking → Booking} (keeps : Keeps f) (s : State) :
    (changeBooking n k f s).liveBookings.length = s.liveBookings.length := by
  have on : (onBooking n k f s).liveBookings.length = s.liveBookings.length := by
    rw [liveBookings_length, liveBookings_length, onBooking, onBerth_berths, updWhere, List.map_map]
    congr 1
    refine List.map_congr_left fun b _ => ?_
    simp only [Function.comp_apply]
    split
    · have live : Booking.live ∘ (fun x => if x.live && x.serial == some k then f x else x) = Booking.live := by
        funext x
        simp only [Function.comp_apply]
        split
        · exact (keeps x).2
        · rfl
      simp only [updWhere, List.filter_map, live, List.length_map]
    · rfl
  unfold changeBooking
  split
  · rw [← on, liveBookings_length, liveBookings_length, queueSlot_berths]
  · rfl

/-- A live booking fewer when one ends. -/
theorem endBooking_liveBookings {n k : Nat} {b : Booking} {s : State} (reads : s.booking? n k = some b)
    (kind : Option EndKind) : (endBooking n b kind s).liveBookings.length < s.liveBookings.length := by
  obtain ⟨x, berth, listed, live⟩ := booking?_listed reads
  have berths : (stated n b kind s).bst.berths = s.bst.berths := by cases kind <;> simp [stated]
  have fewer (c : Berth) : ((withoutBooking b.serial c).bookings.filter Booking.live).length ≤
      (c.bookings.filter Booking.live).length := (List.filter_sublist.filter _).length_le
  rw [liveBookings_length, liveBookings_length, endBooking_bst, queueSlot_berths, onBerth_berths, berths, updWhere,
    List.map_map]
  refine List.sum_lt_sum _ _ (fun c _ => ?_) ⟨x, berth?_mem berth, ?_⟩
  · simp only [Function.comp_apply]
    split
    · exact fewer c
    · exact le_refl _
  · simp only [Function.comp_apply, berth?_number berth, beq_self_eq_true, if_true]
    refine lt_of_le_of_ne (fewer x) fun same => ?_
    have sub : ((withoutBooking b.serial x).bookings.filter Booking.live).Sublist (x.bookings.filter Booking.live) :=
      List.filter_sublist.filter _
    have mem : b ∈ (withoutBooking b.serial x).bookings.filter Booking.live := by
      rw [sub.eq_of_length same]
      exact List.mem_filter.2 ⟨listed, live⟩
    simpa [live] using (List.mem_filter.1 (List.mem_filter.1 mem).1).2

/-- Where there is room for a statement of every live booking, no statement is lost, and there still is. -/
def KeepsStatements (s t : State) : Prop :=
  s.bst.statements.length + s.liveBookings.length ≤ 8 →
    s.bst.statements ⊆ t.bst.statements ∧ t.bst.statements.length + t.liveBookings.length ≤ 8

theorem keepsStatements_steps (n : Nat) : RollSteps n (fun _ => True) KeepsStatements where
  same s t bst room := by
    rw [liveBookings_length] at room ⊢
    rw [bst]
    exact ⟨List.Subset.refl _, room⟩
  trans _ _ _ st tu room :=
    have ⟨kept, room'⟩ := st room
    have ⟨kept', room''⟩ := tu room'
    ⟨fun _ mem => kept' (kept mem), room''⟩
  change k f s _ keeps room := by
    rw [(changeBooking_statements n k f s).1, changeBooking_liveBookings n k keeps]
    exact ⟨List.Subset.refl _, room⟩
  ended k b kind s _ reads room := by
    have fewer := endBooking_liveBookings reads (some kind)
    obtain ⟨x, perm⟩ := addStatement_perm (berth := n) (kind := kind) (b := b) (s := s) (by omega)
    have statements : (endBooking n b (some kind) s).bst.statements = (addStatement n kind b s).bst.statements := by
      rw [endBooking_bst, queueSlot_statements]
      rfl
    rw [statements]
    have length := perm.length_eq
    rw [List.length_cons] at length
    exact ⟨fun y mem => perm.mem_iff.2 (List.mem_cons_of_mem x mem), by omega⟩

/-! ### The entry behind a booking (R167) -/

/-- The live booking of a serial stands in its berth's list in front of other entries. -/
def StandsBefore (n k : Nat) (rest : List Booking) (s : State) : Prop :=
  ∃ x front b, s.berth? n = some x ∧ x.bookings = front ++ b :: rest ∧ (b.live && b.serial == some k) = true ∧
    ∀ c ∈ front, (c.live && c.serial == some k) = false

theorem StandsBefore.behind? {n k : Nat} {rest : List Booking} {s : State} (h : StandsBefore n k rest s) :
    s.behind? n k = rest.head? := by
  obtain ⟨x, front, b, berth, list, this, earlier⟩ := h
  simp only [State.behind?, berth, Option.bind_some, list]
  clear list
  induction front with
  | nil => rw [List.nil_append, nextEntry, if_pos this]
  | cons c front ih =>
    rw [List.cons_append, nextEntry, earlier c List.mem_cons_self]
    exact ih fun d mem => earlier d (List.mem_cons_of_mem c mem)

theorem standsBefore_change {n k j : Nat} {rest : List Booking} (apart : ∀ c ∈ rest, (c.live && c.serial == some j) = false)
    {f : Booking → Booking} (keeps : Keeps f) {s : State} (h : StandsBefore n k rest s) :
    StandsBefore n k rest (changeBooking n j f s) := by
  have meets (c : Booking) : ((if c.live && c.serial == some j then f c else c).live &&
      (if c.live && c.serial == some j then f c else c).serial == some k) = (c.live && c.serial == some k) := by
    split
    · rw [(keeps c).1, (keeps c).2]
    · rfl
  have on : StandsBefore n k rest (onBooking n j f s) := by
    obtain ⟨x, front, b, berth, list, this, earlier⟩ := h
    refine ⟨{ x with bookings := updWhere (fun c => c.live && c.serial == some j) f x.bookings },
      updWhere (fun c => c.live && c.serial == some j) f front,
      (if b.live && b.serial == some j then f b else b), ?_, ?_, (meets b).trans this, ?_⟩
    · rw [onBooking, berth?_onBerth _ _ _ _ (by simp), berth]
      simp [berth?_number berth]
    · have still : updWhere (fun c => c.live && c.serial == some j) f rest = rest :=
        (List.map_congr_left fun c mem => by simp [apart c mem]).trans (List.map_id _)
      conv_rhs => rw [← still]
      simp only [list, updWhere, List.map_append, List.map_cons]
    · intro c mem
      obtain ⟨d, listed, rfl⟩ := List.mem_map.1 mem
      exact (meets d).trans (earlier d listed)
  unfold changeBooking
  split
  · obtain ⟨x, front, b, berth, others⟩ := on
    exact ⟨x, front, b, (congrFun (berth?_same _ _ (by simp)) n).trans berth, others⟩
  · exact h

/-- What leaves an entry and those behind it where they are. -/
def KeepsBehind (n k : Nat) (rest : List Booking) (s t : State) : Prop := StandsBefore n k rest s → StandsBefore n k rest t

theorem standsBefore_same {n k : Nat} {rest : List Booking} {s t : State} (bst : t.bst = s.bst) :
    KeepsBehind n k rest s t := fun ⟨x, front, b, berth, others⟩ =>
  ⟨x, front, b, (congrFun (berth?_same s t (by rw [bst])) n).trans berth, others⟩

/-- Changes of the booking itself. -/
theorem behind_changes {n k : Nat} {rest : List Booking} (apart : ∀ c ∈ rest, (c.live && c.serial == some k) = false) :
    ChangeSteps n (fun j => j = k) (KeepsBehind n k rest) where
  same _ _ := standsBefore_same
  trans _ _ _ st tu h := tu (st h)
  change _ _ _ same keeps h := standsBefore_change (same ▸ apart) keeps h

/-- Changes and endings of bookings that do not stand behind it. -/
theorem behind_steps {n k : Nat} {rest : List Booking} :
    RollSteps n (fun j => j ≠ k ∧ ∀ c ∈ rest, (c.live && c.serial == some j) = false) (KeepsBehind n k rest) where
  same _ _ := standsBefore_same
  trans _ _ _ st tu h := tu (st h)
  change _ _ _ apart keeps h := standsBefore_change apart.2 keeps h
  ended j b kind s apart reads h := by
    obtain ⟨x, front, y, berth, list, this, earlier⟩ := h
    have serial : y.serial = some k := by
      simp only [Bool.and_eq_true, beq_iff_eq] at this
      exact this.2
    refine ⟨withoutBooking b.serial x, front.filter fun c => !(c.live && c.serial == some j), y, ?_, ?_, this,
      fun c mem => earlier c (List.mem_filter.1 mem).1⟩
    · rw [berth?_same (onBerth n (withoutBooking b.serial) s) _
        (by rw [endBooking_bst, queueSlot_berths]; simp [stated]), berth?_onBerth _ _ _ _ (withoutBooking_cfg b.serial), berth]
      simp [berth?_number berth]
    · have still : rest.filter (fun c => !(c.live && c.serial == some j)) = rest :=
        List.filter_eq_self.2 fun c mem => by simp [apart.2 c mem]
      have other : (!(y.live && y.serial == some j)) = true := by simp [serial, Ne.symm apart.1]
      rw [booking?_serial reads, withoutBooking]
      simp only [list, List.filter_append]
      rw [List.filter_cons_of_pos (by exact other), still]

end Sys2Proof.Machine
end

section
/-! SUPPORT. One booking in a rollover (R165 to R168): what comes before it, its fee, its flip and its departure, what follows. -/

namespace Sys2Proof.Machine

/-! ### The berths of a rollover, one after the other -/

section
variable (r : Rollover) (l : List Nat) (p : State × Nat) (ok : p.1.bookingsOk)
include ok

theorem rollBerths_ok : (l.foldl (fun x m => rollBerth r m x) p).1.bookingsOk := by
  induction l generalizing p with
  | nil => exact ok
  | cons m l ih => exact ih _ (kept_rollBerth (P := True) r m p ok).1

theorem rollBerths_others {n : Nat} (apart : n ∉ l) :
    (l.foldl (fun x m => rollBerth r m x) p).1.berth? n = p.1.berth? n := by
  induction l generalizing p with
  | nil => rfl
  | cons m l ih =>
    obtain ⟨other, others⟩ := List.ne_and_not_mem_of_not_mem_cons apart
    have next := (kept_rollBerth (P := True) r m p ok).1
    exact (ih _ next others).trans ((berthsBut_steps m).rollBerth r p ok n other)

theorem rollBerths_keepsStatements : KeepsStatements p.1 (l.foldl (fun x m => rollBerth r m x) p).1 := by
  induction l generalizing p with
  | nil => exact (keepsStatements_steps 0).refl _
  | cons m l ih =>
    have next := (kept_rollBerth (P := True) r m p ok).1
    exact (keepsStatements_steps m).trans _ _ _ ((keepsStatements_steps m).rollBerth r p ok) (ih _ next)

end

/-! ### The bookings of one berth, with one among them -/

/-- A live booking in its berth's list: the entries before and behind it are others. -/
theorem booking?_splits {s : State} {n k : Nat} {b : Booking} (ok : s.bookingsOk) (reads : s.booking? n k = some b) :
    ∃ x front rest, s.berth? n = some x ∧ x.bookings = front ++ b :: rest ∧ b.serial = some k ∧ StandsBefore n k rest s ∧
      (∀ c ∈ rest, (c.live && c.serial == some k) = false) ∧
      (∀ c ∈ front, c.live = true → ∃ j, c.serial = some j ∧ j ≠ k ∧ ∀ d ∈ rest, (d.live && d.serial == some j) = false) ∧
      ∀ c ∈ rest, c.live = true → ∃ j, c.serial = some j ∧ j ≠ k := by
  obtain ⟨x, berth, found⟩ := Option.bind_eq_some_iff.1 reads
  obtain ⟨this, front, rest, list, earlier⟩ := List.find?_eq_some_iff_append.1 found
  have earlier' : ∀ c ∈ front, (c.live && c.serial == some k) = false := fun c mem =>
    Bool.not_eq_true' _ ▸ earlier c mem
  have live : b.live = true := (Bool.and_eq_true _ _ ▸ this).1
  have numbered (c : Booking) (listed : c ∈ x.bookings) (live : c.live = true) : ∃ j, c.serial = some j := by
    obtain ⟨j, serial, -⟩ := (Option.any_eq_true _ _).1
      ((liveBookings_numbered s).1 ok.2.2.2.2.1 x (berth?_mem berth) c listed live)
    exact ⟨j, serial⟩
  have nodup : (berthSerials x).Nodup := by
    have all := ok.2.2.2.2.2
    rw [serials_eq, List.nodup_flatMap] at all
    exact all.1 x (berth?_mem berth)
  have serial := booking?_serial reads
  rw [berthSerials, list, List.filter_append, List.filterMap_append, List.filter_cons_of_pos live,
    List.filterMap_cons_some serial, List.nodup_append] at nodup
  obtain ⟨-, later, apart⟩ := nodup
  have among {l : List Booking} {c : Booking} {j : Nat} (mem : c ∈ l) (live : c.live = true) (serial : c.serial = some j) :
      j ∈ (l.filter Booking.live).filterMap Booking.serial := List.mem_filterMap.2 ⟨c, List.mem_filter.2 ⟨mem, live⟩, serial⟩
  have notK : ∀ c ∈ rest, (c.live && c.serial == some k) = false := by
    refine fun c mem => Bool.eq_false_iff.2 fun meets => ?_
    simp only [Bool.and_eq_true, beq_iff_eq] at meets
    exact (List.nodup_cons.1 later).1 (among mem meets.1 meets.2)
  refine ⟨x, front, rest, berth, list, serial, ⟨x, front, b, berth, list, this, earlier'⟩, notK, fun c mem live => ?_,
    fun c mem live => ?_⟩
  · obtain ⟨j, has⟩ := numbered c (by rw [list]; exact List.mem_append_left _ mem) live
    refine ⟨j, has, fun same => ?_, fun d listed => Bool.eq_false_iff.2 fun meets => ?_⟩
    · have := earlier' c mem
      rw [live, has, same] at this
      simp at this
    · simp only [Bool.and_eq_true, beq_iff_eq] at meets
      exact apart j (among mem live has) j (List.mem_cons_of_mem k (among listed meets.1 meets.2)) rfl
  · obtain ⟨j, has⟩ := numbered c (by rw [list]; exact List.mem_append_right _ (List.mem_cons_of_mem b mem)) live
    refine ⟨j, has, fun same => ?_⟩
    have := notK c mem
    rw [live, has, same] at this
    simp at this

/-! ### The fee and the flip (R165, R166) -/

/-- A booking charged a night fee, its standing worked out again. -/
def nightCharged (fee : Nat) (b : Booking) : Booking := if fee = 0 then b else restood (b.debit .fee fee)

/-- A CURRENT booking charged its night and with its day flipped. -/
def rolledBooking (r : Rollover) (s : State) (b : Booking) : Booking :=
  flipDay r.closing (nightCharged (nightFee (s.cfg.tariff r.closingSet).nightRate b) b)

theorem chargeNight_booking? {n k : Nat} {b : Booking} (r : Rollover) {s : State} (reads : s.booking? n k = some b) :
    (chargeNight r n b s).booking? n k = some (nightCharged (nightFee (s.cfg.tariff r.closingSet).nightRate b) b) := by
  unfold chargeNight nightCharged
  simp only [booking?_serial reads, Option.getD_some]
  split
  · exact reads
  · next fee =>
    rw [booking?_restand, if_pos ⟨rfl, rfl⟩, booking?_debit _ _ _ _ _ _ (Nat.pos_of_ne_zero fee), if_pos ⟨rfl, rfl⟩, reads]
    rfl

/-- A booking's part of the rollover up to its departure. -/
def beforeDeparture (r : Rollover) (n k : Nat) (b : Booking) (s : State) : State :=
  changeBooking n k (flipDay r.closing) (chargeNight r n b s)

theorem keeps_flipDay (closing : Nat) : Keeps (flipDay closing) := fun _ => ⟨rfl, rfl⟩

section
variable {r : Rollover} {n k : Nat} {b : Booking} {s : State} (reads : s.booking? n k = some b)
include reads

theorem rollBooking_eq (count : Nat) : rollBooking r n b (s, count) = depart r n k (beforeDeparture r n k b s, count) := by
  unfold rollBooking beforeDeparture
  simp only [booking?_serial reads, Option.getD_some]

theorem beforeDeparture_booking? : (beforeDeparture r n k b s).booking? n k = some (rolledBooking r s b) := by
  rw [beforeDeparture, booking?_changeBooking _ _ _ _ _ _ (keeps_flipDay _), if_pos ⟨rfl, rfl⟩, chargeNight_booking? r reads]
  rfl

theorem beforeDeparture_steps {R : State → State → Prop} (steps : ChangeSteps n (fun j => j = k) R) :
    R s (beforeDeparture r n k b s) :=
  steps.trans _ _ _ (steps.chargeNight rfl r (booking?_serial reads) s) (steps.change k _ _ rfl (keeps_flipDay _))

end

/-! ### What follows the departure of a booking -/

/-- What the rest of a rollover leaves of a booking that is not RESERVED, of one that is gone, and of the statements. -/
structure Afterwards (n k : Nat) (s t : State) : Prop where
  kept : ∀ x, s.booking? n k = some x → x.state ≠ .reserved → ∃ y, t.booking? n k = some y ∧ SameButWanted x y
  gone : s.booking? n k = none → t.booking? n k = none
  statements : KeepsStatements s t

theorem Afterwards.trans {n k : Nat} {s t u : State} (st : Afterwards n k s t) (tu : Afterwards n k t u) : Afterwards n k s u where
  kept x reads state := by
    obtain ⟨y, reads', same⟩ := st.kept x reads state
    obtain ⟨z, reads'', same'⟩ := tu.kept y reads' (by rw [same]; exact state)
    exact ⟨z, reads'', same.trans same'⟩
  gone none := tu.gone (st.gone none)
  statements := (keepsStatements_steps n).trans _ _ _ st.statements tu.statements

theorem Afterwards.of_same {n k : Nat} {s t : State} (booking : t.booking? n k = s.booking? n k)
    (statements : KeepsStatements s t) : Afterwards n k s t :=
  ⟨fun x reads _ => ⟨x, booking.trans reads, SameButWanted.refl x⟩, fun none => booking.trans none, statements⟩

theorem bookingGone_steps (n k : Nat) :
    ChangeSteps n (fun _ => True) (fun s t => s.booking? n k = none → t.booking? n k = none) where
  same s t bst gone := (congrFun (congrFun (booking?_same s t (by rw [bst])) n) k).trans gone
  trans _ _ _ st tu gone := tu (st gone)
  change j f s _ keeps gone := by rw [booking?_changeBooking _ _ _ _ _ _ keeps, gone]; simp

theorem arrivals_afterwards {n k day : Nat} {s : State} (ok : s.bookingsOk) : Afterwards n k s (arrivals n day s) where
  kept x reads state := by
    obtain ⟨y, reads', same⟩ := arrivals_booking? (n := n) (day := day) ok reads
    rw [if_pos rfl, arrived, if_neg fun due => state due.1] at same
    exact ⟨y, reads', same⟩
  gone := (bookingGone_steps n k).arrivals (fun _ => trivial) day s
  statements := (keepsStatements_steps n).arrivals (fun _ => trivial) day s

theorem rollBerths_afterwards {n k : Nat} (r : Rollover) {l : List Nat} {p : State × Nat} (ok : p.1.bookingsOk) (apart : n ∉ l) :
    Afterwards n k p.1 (l.foldl (fun x m => rollBerth r m x) p).1 :=
  .of_same (by rw [State.booking?, rollBerths_others r l p ok apart]; rfl) (rollBerths_keepsStatements r l p ok)

theorem rollBookings_ok (r : Rollover) (n : Nat) (l : List Booking) (p : State × Nat) (ok : p.1.bookingsOk) :
    (l.foldl (fun x b => rollBooking r n b x) p).1.bookingsOk := by
  induction l generalizing p with
  | nil => exact ok
  | cons b l ih => exact ih _ (kept_rollBooking (P := True) r n b p ok).1

theorem live_of_current {b : Booking} (current : b.state = .current) : b.live = true := by
  rw [Booking.live, current]
  rfl

theorem rollBerth_eq {r : Rollover} {n : Nat} {p : State × Nat} {x : Berth} (berth : p.1.berth? n = some x) :
    (rollBerth r n p).1 = arrivals n r.newDay
      ((x.bookings.filter fun c => c.state == .current).foldl (fun y c => rollBooking r n c y) p).1 := by
  unfold rollBerth
  rw [berth]

/-- A CURRENT booking in the rollover of its berth: where it stands at its departure, and what follows that. -/
theorem rollBerth_current {r : Rollover} {n k : Nat} {b : Booking} {p : State × Nat} (ok : p.1.bookingsOk)
    (reads : p.1.booking? n k = some b) (current : b.state = .current) :
    ∃ v count, v.booking? n k = some (rolledBooking r p.1 b) ∧ v.behind? n k = p.1.behind? n k ∧ v.cfg = p.1.cfg ∧
      KeepsStatements p.1 v ∧ Afterwards n k (depart r n k (v, count)).1 (rollBerth r n p).1 := by
  obtain ⟨x, front, rest, berth, list, -, stands, notK, fronts, rests⟩ := booking?_splits ok reads
  have split : x.bookings.filter (fun c => c.state == .current) =
      front.filter (fun c => c.state == .current) ++ b :: rest.filter (fun c => c.state == .current) := by
    rw [list, List.filter_append, List.filter_cons_of_pos (by exact beq_iff_eq.2 current)]
  have live {l : List Booking} {c : Booking} (mem : c ∈ l.filter fun c => c.state == .current) : c ∈ l ∧ c.live = true :=
    ⟨(List.mem_filter.1 mem).1, live_of_current (eq_of_beq (List.mem_filter.1 mem).2)⟩
  have first : ∀ c ∈ front.filter (fun c => c.state == .current), ∃ j, c.serial = some j ∧ j ≠ k ∧
      ∀ d ∈ rest, (d.live && d.serial == some j) = false := fun c mem => fronts c (live mem).1 (live mem).2
  have second : ∀ c ∈ rest.filter (fun c => c.state == .current), ∃ j, c.serial = some j ∧ j ≠ k :=
    fun c mem => rests c (live mem).1 (live mem).2
  rw [rollBerth_eq berth, split, List.foldl_append, List.foldl_cons]
  have okU := rollBookings_ok r n (front.filter fun c => c.state == .current) p ok
  have readsU := ((bookingStays_steps n k).rollBookings r (fun c mem =>
    have ⟨j, serial, other, _⟩ := first c mem
    ⟨j, serial, other⟩) p).trans reads
  have standsU := behind_steps.rollBookings r first p stands
  have statementsU := (keepsStatements_steps n).rollBookings r (fun c mem =>
    have ⟨j, serial, _⟩ := first c mem
    ⟨j, serial, trivial⟩) p
  have cfgU : ((front.filter fun c => c.state == .current).foldl (fun y c => rollBooking r n c y) p).1.cfg = p.1.cfg :=
    foldl_pair_same State.cfg _ (fun _ _ => by simp) _ p
  generalize (front.filter fun c => c.state == .current).foldl (fun y c => rollBooking r n c y) p = u at *
  obtain ⟨u, count⟩ := u
  have rolledSame : rolledBooking r u b = rolledBooking r p.1 b := by rw [rolledBooking, rolledBooking, cfgU]
  have okV := (kept_rollBooking (P := True) r n b (u, count) okU).1
  have behindV := beforeDeparture_steps (r := r) readsU (behind_changes notK) standsU
  have statementsV : KeepsStatements u (beforeDeparture r n k b u) :=
    beforeDeparture_steps readsU (R := KeepsStatements) {
      same := (keepsStatements_steps n).same
      trans := (keepsStatements_steps n).trans
      change := fun j f s _ keeps => (keepsStatements_steps n).change j f s trivial keeps }
  refine ⟨beforeDeparture r n k b u, count, rolledSame ▸ beforeDeparture_booking? readsU, ?_, ?_,
    (keepsStatements_steps n).trans _ _ _ statementsU statementsV, ?_⟩
  · rw [behindV.behind?, stands.behind?]
  · rw [← cfgU]
    simp [beforeDeparture]
  · rw [rollBooking_eq readsU] at okV ⊢
    refine Afterwards.trans (.of_same ?_ ?_) (arrivals_afterwards (rollBookings_ok r n _ _ okV))
    · exact (bookingStays_steps n k).rollBookings r second _
    · exact (keepsStatements_steps n).rollBookings r (fun c mem =>
        have ⟨j, serial, _⟩ := second c mem
        ⟨j, serial, trivial⟩) _

/-- A RESERVED booking in the rollover of its berth. -/
theorem rollBerth_reserved {r : Rollover} {n k : Nat} {b : Booking} {p : State × Nat} (ok : p.1.bookingsOk)
    (reads : p.1.booking? n k = some b) (reserved : b.state = .reserved) :
    ∃ y, (rollBerth r n p).1.booking? n k = some y ∧ SameButWanted (arrived r.newDay b) y := by
  obtain ⟨x, berth, -, -⟩ := booking?_listed reads
  have others : ∀ c ∈ x.bookings.filter (fun c => c.state == .current), ∃ j, c.serial = some j ∧ j ≠ k := by
    intro c mem
    have current : c.state = .current := eq_of_beq (List.mem_filter.1 mem).2
    refine (listed_serial ok reads berth (List.mem_filter.1 mem).1 (live_of_current current)).resolve_left fun same => ?_
    rw [same, reserved] at current
    cases current
  rw [rollBerth_eq berth]
  obtain ⟨y, there, same⟩ := arrivals_booking? (n := n) (day := r.newDay) (rollBookings_ok r n _ p ok)
    (((bookingStays_steps n k).rollBookings r others p).trans reads)
  rw [if_pos rfl] at same
  exact ⟨y, there, same⟩

/-! ### A booking charged and flipped (R165, R166) -/

theorem debit_keeps (c : Charge) (d : Nat) (b : Booking) : (b.debit c d).stay = b.stay ∧ (b.debit c d).tags = b.tags ∧
    (b.debit c d).state = b.state ∧ (b.debit c d).purse.holds = b.purse.holds ∧
    (b.debit c d).openDay.energy = b.openDay.energy ∧ (b.debit c d).openDay.water = b.openDay.water := by
  cases c <;> exact ⟨rfl, rfl, rfl, rfl, rfl, rfl⟩

theorem nightCharged_keeps (fee : Nat) (b : Booking) : (nightCharged fee b).stay = b.stay ∧ (nightCharged fee b).tags = b.tags ∧
    (nightCharged fee b).state = b.state ∧ (nightCharged fee b).purse.holds = b.purse.holds ∧
    (nightCharged fee b).openDay.energy = b.openDay.energy ∧ (nightCharged fee b).openDay.water = b.openDay.water := by
  unfold nightCharged
  split
  · exact ⟨rfl, rfl, rfl, rfl, rfl, rfl⟩
  · obtain ⟨stay, tags, state, -, holds⟩ := restood_keeps (b.debit .fee fee)
    obtain ⟨-, day, -, -⟩ := restood_fields (b.debit .fee fee)
    obtain ⟨stay', tags', state', holds', energy, water⟩ := debit_keeps .fee fee b
    exact ⟨stay.trans stay', tags.trans tags', state.trans state', holds.trans holds', by rw [day, energy], by rw [day, water]⟩

/-- A fee above the floor is taken whole (R29, R165). -/
theorem nightCharged_above {fee : Nat} {b : Booking} (above : -(floorCents : Int) ≤ b.purse.balance - fee) :
    (nightCharged fee b).purse.balance = b.purse.balance - fee ∧ (nightCharged fee b).purse.fees = b.purse.fees + fee ∧
      (nightCharged fee b).openDay.charges = b.openDay.charges + fee := by
  unfold nightCharged
  split
  · next free =>
    subst free
    exact ⟨by simp, rfl, rfl⟩
  · obtain ⟨purse, day, -, -⟩ := restood_fields (b.debit .fee fee)
    obtain ⟨balance, charges, -⟩ := debit_above (k := .fee) above
    have applied : b.purse.applies fee = fee := if_pos above
    refine ⟨by rw [purse]; exact balance, ?_, by rw [day]; exact charges⟩
    rw [purse]
    simp [Booking.debit, applied, Purse.take]

theorem rolledBooking_keeps (r : Rollover) (s : State) (b : Booking) : (rolledBooking r s b).stay = b.stay ∧
    ((rolledBooking r s b).tags = b.tags ∧ (rolledBooking r s b).purse.holds = b.purse.holds ∧
      (rolledBooking r s b).openDay = {} ∧ (rolledBooking r s b).closedNumber = some r.closing ∧
      (rolledBooking r s b).closedDay.energy = b.openDay.energy ∧ (rolledBooking r s b).closedDay.water = b.openDay.water) ∧
    (rolledBooking r s b).state = b.state := by
  obtain ⟨stay, tags, state, holds, energy, water⟩ :=
    nightCharged_keeps (nightFee (s.cfg.tariff r.closingSet).nightRate b) b
  exact ⟨stay, ⟨tags, holds, rfl, rfl, energy, water⟩, state⟩

theorem rolledBooking_resident {r : Rollover} {s : State} {b : Booking} (resident : b.stay.kind = .resident) :
    rolledBooking r s b = flipDay r.closing b := by
  have free (rate : Nat) : nightFee rate b = 0 := by simp [nightFee, resident]
  rw [rolledBooking, free, nightCharged, if_pos rfl]

/-! ### The rollover as an event -/

/-- What a rollover goes by. -/
def rolloverOf (day : Nat) (s : State) : Rollover := ⟨day, day + 1, s.dck.inForce⟩

/-- The station on the new day, before its bookings are gone through. -/
def newDay (day second : Nat) (s : State) : State := s.setDck { s.dck with clock := some ⟨day + 1, second⟩ }

/-- The berths in the order of their numbers. -/
def berthOrder (s : State) : List Nat := sortBy (fun x y : Nat => x ≤ y) (s.bst.berths.map fun b => b.cfg.number)

/-- The berths gone through. -/
def berthsRolled (day second : Nat) (s : State) : State :=
  ((berthOrder s).foldl (fun x n => rollBerth (rolloverOf day s) n x) (newDay day second s, 0)).1

theorem rollover_bst (day second : Nat) (s : State) : (rollover day second s).bst = (berthsRolled day second s).bst := by
  unfold rollover
  dsimp only
  rw [(report_frame _ _).2.2.2.2.2.2.2.2.1, (installTariff_frame _).2.2.2.2.2.2.2.2.1]
  rfl

/-- A berth in its place among the others. -/
theorem berthOrder_splits {s : State} {n : Nat} (ok : s.bookingsOk) {x : Berth} (berth : s.berth? n = some x) :
    ∃ before after, berthOrder s = before ++ n :: after ∧ n ∉ before ∧ n ∉ after := by
  have perm : (berthOrder s).Perm (s.bst.berths.map fun b => b.cfg.number) := (sortBy_spec (fun x : Nat => x) _).1
  have nodup : (berthOrder s).Nodup := perm.nodup_iff.2 ok.2.1
  have mem : n ∈ berthOrder s := perm.mem_iff.2 (List.mem_map.2 ⟨x, berth?_mem berth, berth?_number berth⟩)
  obtain ⟨before, after, split⟩ := List.append_of_mem mem
  rw [split, List.nodup_append] at nodup
  obtain ⟨-, later, apart⟩ := nodup
  exact ⟨before, after, split, fun earlier => apart n earlier n List.mem_cons_self rfl, (List.nodup_cons.1 later).1⟩

section
variable {s : State} {n k : Nat} {b : Booking} (ok : s.bookingsOk) (reads : s.booking? n k = some b) (day second : Nat)
include ok reads

/-- The rollover up to the berth of a booking, and from it on. -/
theorem berthsRolled_splits : ∃ (p : State × Nat) (after : List Nat), p.1.bookingsOk ∧ p.1.booking? n k = some b ∧ p.1.behind? n k = s.behind? n k ∧
    p.1.cfg = s.cfg ∧ KeepsStatements s p.1 ∧ n ∉ after ∧
    berthsRolled day second s =
      (after.foldl (fun x m => rollBerth (rolloverOf day s) m x) (rollBerth (rolloverOf day s) n p)).1 := by
  obtain ⟨x, berth, -, -⟩ := booking?_listed reads
  obtain ⟨before, after, split, first, last⟩ := berthOrder_splits ok berth
  have okNew : (newDay day second s).bookingsOk := (Kept.same (P := True) (s := s) ⟨rfl, rfl⟩ ok).1
  have same := rollBerths_others (rolloverOf day s) before (newDay day second s, 0) okNew first
  have statements := rollBerths_keepsStatements (rolloverOf day s) before (newDay day second s, 0) okNew
  have cfg : (before.foldl (fun x m => rollBerth (rolloverOf day s) m x) (newDay day second s, 0)).1.cfg = s.cfg :=
    foldl_pair_same State.cfg _ (fun _ _ => by simp) _ _
  refine ⟨_, after, rollBerths_ok (rolloverOf day s) before _ okNew, ?_, ?_, cfg, fun room => statements room, last, ?_⟩
  · rw [State.booking?, same]
    exact reads
  · rw [State.behind?, same]
    rfl
  · rw [berthsRolled, split, List.foldl_append, List.foldl_cons]

/-- A CURRENT booking in a rollover: where it stands at its departure, and what follows that. -/
theorem berthsRolled_current (current : b.state = .current) :
    ∃ v count, v.booking? n k = some (rolledBooking (rolloverOf day s) s b) ∧ v.behind? n k = s.behind? n k ∧ v.cfg = s.cfg ∧
      KeepsStatements s v ∧ Afterwards n k (depart (rolloverOf day s) n k (v, count)).1 (berthsRolled day second s) := by
  obtain ⟨p, after, okP, readsP, behindP, cfgP, statementsP, last, eq⟩ := berthsRolled_splits ok reads day second
  obtain ⟨v, count, readsV, behindV, cfgV, statementsV, afterwards⟩ := rollBerth_current (r := rolloverOf day s) okP readsP current
  have same : rolledBooking (rolloverOf day s) p.1 b = rolledBooking (rolloverOf day s) s b := by
    rw [rolledBooking, rolledBooking, cfgP]
  refine ⟨v, count, same ▸ readsV, behindV.trans behindP, cfgV.trans cfgP,
    (keepsStatements_steps n).trans _ _ _ statementsP statementsV, ?_⟩
  rw [eq]
  exact afterwards.trans (rollBerths_afterwards _ (kept_rollBerth (P := True) _ n p okP).1 last)

/-- A RESERVED booking in a rollover. -/
theorem berthsRolled_reserved (reserved : b.state = .reserved) :
    ∃ y, (berthsRolled day second s).booking? n k = some y ∧ SameButWanted (arrived (day + 1) b) y := by
  obtain ⟨p, after, okP, readsP, -, -, -, last, eq⟩ := berthsRolled_splits ok reads day second
  obtain ⟨y, there, same⟩ := rollBerth_reserved (r := rolloverOf day s) okP readsP reserved
  rw [eq, State.booking?, rollBerths_others _ after _ (kept_rollBerth (P := True) _ n p okP).1 last]
  exact ⟨y, there, same⟩

end

/-- The departure of a booking that has been charged and flipped, by the booking as it was (R167). -/
theorem departureCase_rolled {s v w : State} {r : Rollover} {n k d : Nat} {b : Booking} (serial : b.serial = some k)
    (behind : v.behind? n k = s.behind? n k) (cfg : v.cfg = s.cfg) :
    departureCase v d n (rolledBooking r w b) =
      if d < b.stay.departure then .goesOn
      else if s.cfg.overstay b.stay.kind = false then .ends .endedAtRollover
      else if (s.behind? n k).any (fun x => x.stay.arrival ≤ d) = true then .ends .forcedEnd
      else if d = 65535 then .ends .endedAtRollover
      else .overstays := by
  have stay : (rolledBooking r w b).stay = b.stay := (nightCharged_keeps _ b).1
  have serialKept : (rolledBooking r w b).serial = some k := by
    rw [← serial, rolledBooking, flipDay, nightCharged, restood, Booking.debit]
    (repeat' split) <;> rfl
  rw [departureCase, stay, serialKept, Option.getD_some, behind, cfg]
  simp only [Bool.not_eq_true']

/-- What the end of a booking in a rollover leaves. -/
theorem ended_afterwards {s v t : State} {r : Rollover} {n k count : Nat} {x : Booking} {kind : EndKind}
    (reads : v.booking? n k = some x) (ends : departureCase v r.newDay n x = .ends kind) (statements : KeepsStatements s v)
    (afterwards : Afterwards n k (depart r n k (v, count)).1 t) :
    t.booking? n k = none ∧ (s.bst.statements.length + s.liveBookings.length ≤ 8 →
      ∃ y ∈ t.bst.statements, y.berth = n ∧ y.serial = k ∧ y.endKind = kind) := by
  have departs : (depart r n k (v, count)).1 = endBooking n x (some kind) v := by
    unfold depart
    simp only [reads, ends]
  rw [departs] at afterwards
  refine ⟨afterwards.gone (endBooking_removes reads _).1, fun room => ?_⟩
  obtain ⟨-, roomV⟩ := statements room
  obtain ⟨-, roomE⟩ := (keepsStatements_steps n).ended k x kind v trivial reads roomV
  obtain ⟨-, ⟨y, mem, is⟩, -⟩ := endBooking_states (s := v) (berth := n) (b := x) kind
  refine ⟨y, (afterwards.statements roomE).1 mem, ?_, ?_, ?_⟩
  · rw [is]
    rfl
  · rw [is, statementOf, booking?_serial reads]
    rfl
  · rw [is]
    rfl

theorem SameButWanted.flipped {x y b : Booking} {day : Nat} (same : SameButWanted x y)
    (h : x.tags = b.tags ∧ x.purse.holds = b.purse.holds ∧ x.openDay = {} ∧ x.closedNumber = some day ∧
      x.closedDay.energy = b.openDay.energy ∧ x.closedDay.water = b.openDay.water) :
    y.tags = b.tags ∧ y.purse.holds = b.purse.holds ∧ y.openDay = {} ∧ y.closedNumber = some day ∧
      y.closedDay.energy = b.openDay.energy ∧ y.closedDay.water = b.openDay.water := by
  rw [same]
  exact h

/-- Settles O41: one booking among those the rollover goes through. -/
theorem rolloverChargesAndFlips : Obligations.RolloverChargesAndFlips := by
  intro s day second n k b up clock more closes ok reads
  generalize started : (reach s.dck.tickAt s).setDck
    { s.dck with clock := some ⟨day, if second = 86399 then 0 else second + 1⟩, tickAt := s.dck.tickAt + 1000 } = u
  have bst : u.bst = s.bst := by simp [← started]
  have cfg : u.cfg = s.cfg := by simp [← started]
  have inForce : u.dck.inForce = s.dck.inForce := by simp [← started]
  have runs : exec .clockSecond s =
      .next (settled s (rollover day (if second = 86399 then 0 else second + 1) u)) := by
    simp only [exec, execClockSecond, event, whenUp, up, if_true, clock, advance, if_pos closes, if_neg more, started]
  have okU : u.bookingsOk := (Kept.same (P := True) (s := s) (by simp [bst]) ok).1
  have readsU : u.booking? n k = some b := by rwa [booking?_same s u (by rw [bst])]
  have behindU : u.behind? n k = s.behind? n k := by rw [State.behind?, State.behind?, berth?_same s u (by rw [bst])]
  have final : (settled s (rollover day (if second = 86399 then 0 else second + 1) u)).bst =
      (berthsRolled day (if second = 86399 then 0 else second + 1) u).bst := by
    rw [← rollover_bst]
    simp
  generalize (if second = 86399 then 0 else second + 1) = next at *
  have bookings := booking?_same _ _ (congrArg Bst.berths final)
  refine ⟨_, runs, fun current => ?_, fun reserved => ?_⟩
  · obtain ⟨v, count, readsV, behindV, cfgV, statementsV, afterwards⟩ := berthsRolled_current okU readsU day next current
    have which := departureCase_rolled (d := day + 1) (r := rolloverOf day u) (w := u) (booking?_serial readsU)
      (behindV.trans behindU) (cfgV.trans cfg)
    have statements : KeepsStatements s v := (keepsStatements_steps n).trans _ _ _ ((keepsStatements_steps n).same s u bst) statementsV
    have ending := afterwards.trans (.of_same (t := settled s (rollover day next u)) (congrFun (congrFun bookings n) k)
      ((keepsStatements_steps n).same _ _ final))
    have ends (kind : EndKind) (case : departureCase v (day + 1) n (rolledBooking (rolloverOf day u) u b) = .ends kind) :=
      ended_afterwards (r := rolloverOf day u) readsV case statements ending
    obtain ⟨stay, flips, state⟩ := rolledBooking_keeps (rolloverOf day u) u b
    have notReserved : (rolledBooking (rolloverOf day u) u b).state ≠ .reserved := by
      rw [state, current]
      nofun
    refine ⟨fun stays_on => ?_, fun due => ⟨fun never => ?_, fun may followed => ?_, fun may free last => ?_,
      fun may free more => ?_⟩⟩
    · rw [if_pos stays_on] at which
      have departs : (depart (rolloverOf day u) n k (v, count)).1 = v := by
        unfold depart
        simp only [readsV]
        rw [show (rolloverOf day u).newDay = day + 1 from rfl, which]
      rw [departs] at ending
      obtain ⟨y, there, same⟩ := ending.kept _ readsV notReserved
      refine ⟨y, there, by rw [same]; exact stay, same.flipped flips, fun resident => ?_, ?_⟩
      · rw [same, rolledBooking_resident resident]
        exact ⟨rfl, rfl⟩
      · intro fee visitor above
        have rate : nightFee (u.cfg.tariff (rolloverOf day u).closingSet).nightRate b = fee := by
          rw [nightFee, if_pos visitor, cfg, rolloverOf, inForce]
        obtain ⟨balance, fees, charges⟩ := nightCharged_above (fee := fee) (b := b) (by exact_mod_cast above)
        rw [same]
        simp only [rolledBooking, rate, flipDay]
        exact ⟨by exact_mod_cast balance, fees, charges⟩
    · rw [if_neg (by omega), if_pos never] at which
      exact ends _ which
    · rw [if_neg (by omega), if_neg (by simp [may]), if_pos followed] at which
      exact ends _ which
    · rw [if_neg (by omega), if_neg (by simp [may]), if_neg (by simp [free]), if_pos last] at which
      exact ends _ which
    · rw [if_neg (by omega), if_neg (by simp [may]), if_neg (by simp [free]), if_neg more] at which
      have departs : (depart (rolloverOf day u) n k (v, count)).1 =
          report (.overstay n k (day + 2)) (changeBooking n k (departing (day + 2)) v) := by
        unfold depart
        simp only [readsV]
        rw [show (rolloverOf day u).newDay = day + 1 from rfl, which]
        rfl
      rw [departs] at ending
      have moved : (report (.overstay n k (day + 2)) (changeBooking n k (departing (day + 2)) v)).booking? n k =
          some (departing (day + 2) (rolledBooking (rolloverOf day u) u b)) := by
        rw [report_booking?, booking?_changeBooking _ _ _ _ _ _ (keeps_departing _), if_pos ⟨rfl, rfl⟩, readsV]
        rfl
      obtain ⟨y, there, same⟩ := ending.kept _ moved notReserved
      refine ⟨y, there, ?_, same.flipped flips⟩
      rw [same]
      exact congrArg (fun x : Stay => { x with departure := day + 2 }) stay
  · obtain ⟨y, there, same⟩ := berthsRolled_reserved okU readsU day next reserved
    refine ⟨y, by rw [bookings, there], ?_⟩
    rw [same, arrived]
    by_cases due : b.stay.arrival ≤ day + 1
    · rw [if_pos ⟨reserved, due⟩, if_pos due]
      exact ⟨rfl, rfl, rfl, rfl⟩
    · rw [if_neg (fun both => due both.2), if_neg due]
      exact ⟨rfl, rfl, rfl, reserved⟩

end Sys2Proof.Machine
end

section
/-! SUPPORT. The timers of the posts, shedding and the restore pass, one outlet at a time (R90, R93, R99 to R103). -/

namespace Sys2Proof.Machine

/-! ### The order of the restore queue (R99) -/

section
variable {α : Type} {le : α → α → Bool} (total : ∀ x y, le x y = true ∨ le y x = true)
  (trans : ∀ x y z, le x y = true → le y z = true → le x z = true)

theorem insertBy_cons (le : α → α → Bool) (x y : α) (ys : List α) :
    insertBy le x (y :: ys) = if le y x = true then y :: insertBy le x ys else x :: y :: ys := rfl

include total trans in
theorem insertBy_pairwise (x : α) {l : List α} (h : l.Pairwise fun a b => le a b = true) :
    (insertBy le x l).Pairwise fun a b => le a b = true := by
  induction l with
  | nil => simp [insertBy]
  | cons y ys ih =>
    obtain ⟨first, rest⟩ := List.pairwise_cons.1 h
    unfold insertBy
    split
    · next behind =>
      refine List.pairwise_cons.2 ⟨fun z mem => ?_, ih rest⟩
      rcases List.mem_cons.1 ((insertBy_perm _ _ _).mem_iff.1 mem) with rfl | mem
      · exact behind
      · exact first z mem
    · next front =>
      have ahead : le x y = true := (total x y).resolve_right front
      refine List.pairwise_cons.2 ⟨fun z mem => ?_, h⟩
      rcases List.mem_cons.1 mem with rfl | mem
      · exact ahead
      · exact trans x y z ahead (first z mem)

include total trans in
theorem sortBy_pairwise (l : List α) : (sortBy le l).Pairwise fun a b => le a b = true := by
  suffices all : ∀ acc : List α, (acc.Pairwise fun a b => le a b = true) →
      (l.foldl (fun acc x => insertBy le x acc) acc).Pairwise fun a b => le a b = true from all [] .nil
  induction l with
  | nil => exact fun _ h => h
  | cons x xs ih => exact fun acc h => ih _ (insertBy_pairwise total trans x h)

theorem sortBy_perm (le : α → α → Bool) (l : List α) : (sortBy le l).Perm l := by
  suffices all : ∀ acc : List α, (l.foldl (fun acc x => insertBy le x acc) acc).Perm (acc ++ l) by simpa [sortBy] using all []
  induction l with
  | nil => simp
  | cons x xs ih =>
    intro acc
    refine (ih _).trans (((insertBy_perm le x acc).append_right xs).trans ?_)
    simpa using (List.perm_middle (l₁ := acc) (l₂ := xs) (a := x)).symm

theorem filter_insertBy_out (p : α → Bool) {x : α} (out : p x = false) (l : List α) :
    (insertBy le x l).filter p = l.filter p := by
  induction l with
  | nil => simp [insertBy, out]
  | cons y ys ih =>
    unfold insertBy
    split
    · simp only [List.filter_cons, ih]
    · rw [List.filter_cons_of_neg (by simp [out])]

include trans in
theorem filter_insertBy_in (p : α → Bool) {x : α} (kept : p x = true) {l : List α} (h : l.Pairwise fun a b => le a b = true) :
    (insertBy le x l).filter p = insertBy le x (l.filter p) := by
  induction l with
  | nil => simp [insertBy, kept]
  | cons y ys ih =>
    obtain ⟨first, rest⟩ := List.pairwise_cons.1 h
    rw [insertBy_cons]
    split
    · next behind =>
      by_cases keeps : p y = true
      · rw [List.filter_cons_of_pos keeps, List.filter_cons_of_pos keeps, ih rest, insertBy_cons, if_pos behind]
      · rw [List.filter_cons_of_neg keeps, List.filter_cons_of_neg keeps, ih rest]
    · next front =>
      rw [List.filter_cons_of_pos kept]
      have ahead : ∀ z ∈ (y :: ys).filter p, le z x = false := by
        intro z mem
        refine Bool.eq_false_iff.2 fun behind => front ?_
        rcases List.mem_cons.1 (List.mem_filter.1 mem).1 with rfl | mem
        · exact behind
        · exact trans y z x (first z mem) behind
      cases list : (y :: ys).filter p with
      | nil => rfl
      | cons z zs =>
        have out := ahead z (by rw [list]; exact List.mem_cons_self)
        rw [insertBy_cons, if_neg (by simp [out])]

include total trans in
/-- What is taken out of a list is taken out of it sorted. -/
theorem sortBy_filter (p : α → Bool) (l : List α) : sortBy le (l.filter p) = (sortBy le l).filter p := by
  suffices all : ∀ acc : List α, (acc.Pairwise fun a b => le a b = true) →
      (l.filter p).foldl (fun acc x => insertBy le x acc) (acc.filter p) =
        (l.foldl (fun acc x => insertBy le x acc) acc).filter p from all [] .nil
  induction l with
  | nil => exact fun _ _ => rfl
  | cons x xs ih =>
    intro acc h
    rw [List.foldl_cons, ← ih _ (insertBy_pairwise total trans x h)]
    by_cases keeps : p x = true
    · rw [List.filter_cons_of_pos keeps, List.foldl_cons, filter_insertBy_in trans p keeps h]
    · rw [List.filter_cons_of_neg keeps, filter_insertBy_out p (Bool.eq_false_iff.2 keeps)]

end

theorem aheadOf_iff {s : State} {x y : Outlet} :
    s.aheadOf x y = true ↔ s.classOf y < s.classOf x ∨ (s.classOf y = s.classOf x ∧ x.key ≤ y.key) := by
  simp only [State.aheadOf, Bool.or_eq_true, decide_eq_true_eq, Bool.and_eq_true, beq_iff_eq]
  constructor <;> rintro (h | ⟨h, k⟩)
  · exact .inl h
  · exact .inr ⟨h.symm, k⟩
  · exact .inl h
  · exact .inr ⟨h.symm, k⟩

theorem aheadOf_total (s : State) (x y : Outlet) : s.aheadOf x y = true ∨ s.aheadOf y x = true := by
  simp only [aheadOf_iff]
  omega

theorem aheadOf_trans (s : State) (x y z : Outlet) (xy : s.aheadOf x y = true) (yz : s.aheadOf y z = true) :
    s.aheadOf x z = true := by
  simp only [aheadOf_iff] at *
  omega

/-- The restore queue: the WAITING and the SHED outlets, the highest class first, then the lowest key (R99). -/
theorem restoreQueue_sorted (s : State) : s.restoreQueue.Perm (s.pbc.outlets.filter Outlet.queued) ∧
    s.restoreQueue.Pairwise fun x y => s.classOf y < s.classOf x ∨ (s.classOf y = s.classOf x ∧ x.key ≤ y.key) :=
  ⟨sortBy_perm _ _, (sortBy_pairwise (aheadOf_total s) (aheadOf_trans s) _).imp aheadOf_iff.1⟩

/-! ### The committed load after a change of one outlet (R93) -/

/-- A change of the one outlet of a number changes the committed load by its claim. -/
theorem committed_change {p q : Pbc} {o : Outlet} {f : Outlet → Outlet} (unique : (p.outlets.map Outlet.number).Nodup)
    (mem : o ∈ p.outlets) (outlets : q.outlets = updWhere (fun x => x.number == o.number) f p.outlets)
    (posts : q.posts = p.posts) : q.committed + p.claim o = p.committed + q.claim (f o) := by
  have claim : q.claim = p.claim := by
    funext x
    simp [Pbc.claim, Pbc.postOffline, posts]
  rw [Pbc.committed, Pbc.committed, outlets, claim]
  obtain ⟨before, after, list⟩ := List.append_of_mem mem
  rw [list, List.map_append, List.map_cons, List.nodup_append] at unique
  obtain ⟨-, later, apart⟩ := unique
  have others (l : List Outlet) (other : ∀ x ∈ l, x.number ≠ o.number) :
      updWhere (fun x => x.number == o.number) f l = l :=
    (List.map_congr_left fun x mem => by simp [other x mem]).trans (List.map_id _)
  have front := others before fun x mem => apart x.number (List.mem_map_of_mem mem) o.number List.mem_cons_self
  have back := others after fun x mem same => (List.nodup_cons.1 later).1 (same ▸ List.mem_map_of_mem mem)
  have whole : updWhere (fun x => x.number == o.number) f (before ++ o :: after) = before ++ f o :: after := by
    conv_rhs => rw [← front, ← back]
    simp [updWhere]
  rw [list, whole]
  simp only [List.map_append, List.map_cons, List.sum_append, List.sum_cons]
  omega

/-! ### Shedding (R100) -/

theorem shedLoop_fits {s : State} (fits : s.fits) (k : Nat) : shedLoop k s = s := by
  cases k with
  | zero => rfl
  | succ k => exact if_pos fits

/-- The outlet that is shed next is the only one of the lowest class and the highest energise number. -/
theorem victim?_eq {s : State} {o : Outlet} (mem : o ∈ s.pbc.outlets) (live : o.state = .live)
    (least : ∀ x ∈ s.pbc.outlets, x.state = .live → x ≠ o → s.classOf o < s.classOf x ∨
      (s.classOf o = s.classOf x ∧ x.energise.getD 0 < o.energise.getD 0)) : s.victim? = some o := by
  cases victim : s.victim? with
  | none =>
    have none := lives_eq_zero victim
    rw [State.lives, List.countP_eq_zero] at none
    exact absurd (beq_iff_eq.2 live) (none o mem)
  | some v =>
    obtain ⟨mem', live', first⟩ := victim?_spec victim
    by_cases same : v = o
    · rw [same]
    · have := first o mem live
      have := least v mem' live' same
      simp only [State.shedBefore, Bool.or_eq_false_iff, Bool.and_eq_false_iff, decide_eq_false_iff_not, beq_eq_false_iff_ne] at *
      omega

/-- An outlet as it is shed: at rest from then on. -/
def shedAt (until_ : Nat) (o : Outlet) : Outlet := { o with state := .shed, join := none, restAt := some until_ }

/-- An outlet as it is switched LIVE: at its start claim. -/
def livenedAt (number : Nat) (o : Outlet) : Outlet :=
  { o with state := .live, smoothed := o.startClaim, overCurrent := 0, energise := some number, join := none, restAt := none }

/-- The outlet of a number, where each number is an outlet's own. -/
theorem outlet?_of_mem {s : State} {o : Outlet} (unique : s.numbered) (mem : o ∈ s.pbc.outlets) :
    s.outlet? o.number = some o := by
  cases reads : s.outlet? o.number with
  | none => simpa using List.find?_eq_none.1 reads o mem
  | some x =>
    have := List.inj_on_of_nodup_map unique (List.mem_of_find?_eq_some reads) mem (outlet?_number reads)
    rw [this]

section
variable (n : Nat) (f : Outlet → Outlet) (s : State) (number : ∀ o, (f o).number = o.number)
include number

theorem outlet?_changeOutlet_self {o : Outlet} (reads : s.outlet? n = some o) :
    (changeOutlet n f s).outlet? n = some (f o) := by
  rw [outlet?_changeOutlet _ _ _ _ number, reads, Option.map_some, if_pos (by simp [outlet?_number reads])]

theorem outlet?_changeOutlet_other {m : Nat} (other : m ≠ n) : (changeOutlet n f s).outlet? m = s.outlet? m := by
  rw [outlet?_changeOutlet _ _ _ _ number]
  cases reads : s.outlet? m with
  | none => rfl
  | some x => simp [outlet?_number reads, other]

end

/-- One outlet shed (R100). -/
theorem shedLoop_step (k : Nat) {s : State} {o : Outlet} (unique : s.numbered) (above : s.lsu.applied < s.pbc.committed)
    (victim : s.victim? = some o) :
    ∃ u, shedLoop (k + 1) s = shedLoop k u ∧
      u.outlet? o.number = some { o with state := .shed, join := none, restAt := some (s.now + s.cfg.restTime * 1000) } ∧
      s.sameOutletsBut u o.number ∧ u.pbc.committed + s.pbc.claim o = s.pbc.committed ∧
      s.noted u (.outletShed o.number (s.pbc.claim o) s.lsu.applied) ∧
      u = { s with pbc := u.pbc, lsu := u.lsu, qlc := u.qlc, evj := u.evj } := by
  obtain ⟨mem, -, -⟩ := victim?_spec victim
  have number (o : Outlet) : (shedAt (s.now + s.cfg.restTime * 1000) o).number = o.number := rfl
  have pbc : (report (.outletShed o.number (s.pbc.claim o) s.lsu.applied) (outletShed o.number s)).pbc =
      (outletShed o.number s).pbc := by simp
  have reads := outlet?_same _ _ pbc
  refine ⟨report (.outletShed o.number (s.pbc.claim o) s.lsu.applied) (outletShed o.number s), ?_, ?_, ⟨?_, fun m other => ?_⟩,
    ?_, Grows.noted (grows_changeOutlet _ _ s) (.refl _), State.ext_fields _ _ (by simp)⟩
  · rw [shedLoop, if_neg (by omega), victim]
  · rw [reads]
    exact outlet?_changeOutlet_self _ (shedAt (s.now + s.cfg.restTime * 1000)) s number (outlet?_of_mem unique mem)
  · rw [pbc, outletShed, changeOutlet_pbc]
  · rw [reads]
    exact outlet?_changeOutlet_other _ (shedAt (s.now + s.cfg.restTime * 1000)) s number other
  · have changed := committed_change (p := s.pbc) (q := (outletShed o.number s).pbc)
      (f := shedAt (s.now + s.cfg.restTime * 1000)) unique mem (outletShed_outlets _ s)
      (by rw [outletShed, changeOutlet_pbc])
    rw [pbc, changed, Pbc.claim, if_neg (by simp [shedAt]), Nat.add_zero]

/-! ### The restore pass (R101) -/

theorem outletLive_eq (n : Nat) (s : State) : outletLive n s = changeOutlet n (livenedAt s.pbc.counter) (takeNumber s).2 := rfl

theorem outletLive_reads {n : Nat} {s : State} {o : Outlet} (reads : s.outlet? n = some o) :
    (outletLive n s).outlet? n = some (livenedAt s.pbc.counter o) :=
  outlet?_changeOutlet_self n (livenedAt s.pbc.counter) (takeNumber s).2 (fun _ => rfl) reads

theorem outletLive_others {n m : Nat} (s : State) (other : m ≠ n) : (outletLive n s).outlet? m = s.outlet? m :=
  outlet?_changeOutlet_other n (livenedAt s.pbc.counter) (takeNumber s).2 (fun _ => rfl) other

theorem outletLive_pbc (n : Nat) (s : State) : (outletLive n s).pbc =
    { s.pbc with outlets := (outletLive n s).pbc.outlets, counter := bump32 s.pbc.counter } := by
  rw [outletLive_eq, changeOutlet_pbc]
  rfl

/-- A start claim joins the committed load rounded up (R93; log entry 82). -/
theorem outletLive_committed {n : Nat} {s : State} {o : Outlet} (unique : s.numbered) (reads : s.outlet? n = some o)
    (queued : o.queued = true) : (outletLive n s).pbc.committed = s.pbc.committed +
      if s.pbc.postOffline o.post then o.rating.rating else (o.startClaim + 9) / 10 * 10 := by
  obtain rfl := outlet?_number reads
  have posts : (outletLive o.number s).pbc.posts = s.pbc.posts := by rw [outletLive_pbc]
  have changed := committed_change (p := s.pbc) (q := (outletLive o.number s).pbc) (f := livenedAt s.pbc.counter) unique
    (List.mem_of_find?_eq_some reads) (outletLive_outlets _ s) posts
  have before : s.pbc.claim o = 0 := by
    rw [Pbc.claim, if_neg]
    intro live
    simp [Outlet.queued, live] at queued
  have after : (outletLive o.number s).pbc.claim (livenedAt s.pbc.counter o) =
      if s.pbc.postOffline o.post then o.rating.rating else (o.startClaim + 9) / 10 * 10 := by
    have rounded : max o.startClaim ((o.startClaim + 9) / 10 * 10) = (o.startClaim + 9) / 10 * 10 := by omega
    have offline : (outletLive o.number s).pbc.postOffline = s.pbc.postOffline := by
      funext m
      rw [Pbc.postOffline, Pbc.postOffline, posts]
    rw [Pbc.claim, if_pos (show (livenedAt s.pbc.counter o).state = .live from rfl), offline]
    show (if s.pbc.postOffline o.post = true then o.rating.rating else max o.startClaim ((o.startClaim + 9) / 10 * 10)) = _
    rw [rounded]
  rw [before, after, Nat.add_zero] at changed
  exact changed

section
variable {s : State} {n : Nat} {o : Outlet} (rest : List Nat) (reads : s.outlet? n = some o)
include reads

theorem restoreWalk_skips (skips : o.restAt ≠ none ∨ (o.state ≠ .waiting ∧ o.state ≠ .shed)) :
    restoreWalk (n :: rest) s = restoreWalk rest s := by
  have skipped : (!o.queued || o.restAt.isSome) = true := by
    rcases skips with rests | ⟨waits, shed⟩
    · simp [Option.isSome_iff_ne_none.2 rests]
    · simp [Outlet.queued, waits, shed]
  rw [restoreWalk, reads]
  exact if_pos skipped

variable (awake : o.restAt = none) (queued : o.queued = true)
include awake queued

theorem restoreWalk_stops (above : s.lsu.applied < s.pbc.committed + s.pbc.energiseClaim o) :
    restoreWalk (n :: rest) s = s := by
  have taken : (!o.queued || o.restAt.isSome) = false := by simp [awake, queued]
  rw [restoreWalk, reads]
  simp only [taken, Bool.false_eq_true, if_false]
  exact if_neg (by omega)

theorem restoreWalk_livens (fits : s.pbc.committed + s.pbc.energiseClaim o ≤ s.lsu.applied) :
    restoreWalk (n :: rest) s = restoreWalk rest (outletLive n s) := by
  have taken : (!o.queued || o.restAt.isSome) = false := by simp [awake, queued]
  rw [restoreWalk, reads]
  simp only [taken, Bool.false_eq_true, if_false]
  exact if_pos fits

end

theorem queued_iff {o : Outlet} : o.queued = true ↔ o.state = .waiting ∨ o.state = .shed := by simp [Outlet.queued]

/-- An outlet switched LIVE leaves the restore queue, and the others stay in their order. -/
theorem outletLive_restoreQueue (n : Nat) (s : State) :
    (outletLive n s).restoreQueue = s.restoreQueue.filter fun o => o.number != n := by
  have classes : (outletLive n s).classOf = s.classOf := classOf_same _ _ (by simp)
  have ahead : (outletLive n s).aheadOf = s.aheadOf := by
    funext x y
    simp [State.aheadOf, classes]
  have outlets : (outletLive n s).pbc.outlets.filter Outlet.queued =
      (s.pbc.outlets.filter Outlet.queued).filter fun o => o.number != n := by
    rw [outletLive_outlets]
    induction s.pbc.outlets with
    | nil => rfl
    | cons x l ih =>
      simp only [updWhere] at ih
      simp only [updWhere, List.map_cons]
      by_cases this : x.number = n
      · rw [if_pos (by simp [this]), List.filter_cons_of_neg (by simp [Outlet.queued]), ih, List.filter_cons]
        split
        · rw [List.filter_cons_of_neg (by simp [this])]
        · rfl
      · rw [if_neg (by simp [this]), List.filter_cons, List.filter_cons (xs := l), ih]
        split
        · rw [List.filter_cons_of_pos (by simp [this])]
        · rfl
  rw [State.restoreQueue, State.restoreQueue, ahead, outlets, sortBy_filter (aheadOf_total s) (aheadOf_trans s)]

/-- After a pass the first outlet of the queue that does not rest has a claim that does not fit. -/
theorem restoreWalk_leaves {s : State} {resting left : List Outlet} (unique : s.numbered)
    (queue : s.restoreQueue = resting ++ left) (rests : ∀ o ∈ resting, o.restAt.isNone = false) {t : State}
    (walk : restoreWalk (left.map Outlet.number) s = t) {o : Outlet}
    (first : (t.restoreQueue.find? fun x => x.restAt.isNone) = some o) :
    t.lsu.applied < t.pbc.committed + t.pbc.energiseClaim o := by
  induction left generalizing s resting with
  | nil =>
    have same : s = t := walk
    rw [← same, queue, List.append_nil, List.find?_eq_none.2 (fun x mem => by simp [rests x mem])] at first
    cases first
  | cons x left ih =>
    have listed : x ∈ s.pbc.outlets.filter Outlet.queued :=
      (sortBy_perm s.aheadOf _).mem_iff.1 (by rw [← State.restoreQueue, queue]; exact List.mem_append_right _ List.mem_cons_self)
    obtain ⟨mem, queued⟩ := List.mem_filter.1 listed
    have reads := outlet?_of_mem unique mem
    rw [List.map_cons] at walk
    cases expiry : x.restAt with
    | some d =>
      rw [restoreWalk_skips _ reads (.inl (by simp [expiry]))] at walk
      refine ih (resting := resting ++ [x]) unique (by simp [queue]) (fun y mem => ?_) walk
      rcases List.mem_append.1 mem with mem | mem
      · exact rests y mem
      · rw [List.mem_singleton.1 mem, expiry]
        rfl
    | none =>
      by_cases fits : s.pbc.committed + s.pbc.energiseClaim x ≤ s.lsu.applied
      · rw [restoreWalk_livens _ reads expiry queued fits] at walk
        have numbers : (outletLive x.number s).pbc.outlets.map Outlet.number = s.pbc.outlets.map Outlet.number := by
          rw [outletLive_outlets]
          exact map_updWhere _ _ _ _ fun _ => rfl
        have nodup : (s.restoreQueue.map Outlet.number).Nodup :=
          ((sortBy_perm s.aheadOf _).map Outlet.number).nodup_iff.2 (unique.sublist (List.filter_sublist.map _))
        rw [queue, List.map_append, List.map_cons, List.nodup_append] at nodup
        obtain ⟨-, later, apart⟩ := nodup
        refine ih (resting := resting) (by rw [State.numbered, numbers]; exact unique) ?_ rests walk
        have front : resting.filter (fun o => o.number != x.number) = resting :=
          List.filter_eq_self.2 fun y mem => bne_iff_ne.2 (apart _ (List.mem_map_of_mem mem) _ List.mem_cons_self)
        have back : left.filter (fun o => o.number != x.number) = left :=
          List.filter_eq_self.2 fun y mem => bne_iff_ne.2 fun same =>
            (List.nodup_cons.1 later).1 (same ▸ List.mem_map_of_mem mem)
        rw [outletLive_restoreQueue, queue, List.filter_append, List.filter_cons_of_neg (by simp), front, back]
      · rw [restoreWalk_stops _ reads expiry queued (by omega)] at walk
        subst walk
        rw [queue, List.find?_append, List.find?_eq_none.2 (fun y mem => by simp [rests y mem]), Option.none_or,
          List.find?_cons_of_pos (by simp [expiry])] at first
        obtain rfl := Option.some.inj first
        omega

theorem numbersAre_closed (numbers : List Nat) : PostsClosed fun s => s.pbc.outlets.map Outlet.number = numbers where
  shed s o r _ same := by
    rw [(report_frame _ _).2.2.2.2.2.2.2.2.2.2.2.1, outletShed_outlets, ← same]
    exact map_updWhere _ _ _ _ fun _ => rfl
  live s n o _ _ _ same := by
    rw [outletLive_outlets, ← same]
    exact map_updWhere _ _ _ _ fun _ => rfl

/-- So it is at the end of an event (R100, R101). -/
theorem settlePosts_leaves {s : State} (unique : s.numbered) {o : Outlet}
    (first : ((settlePosts s).restoreQueue.find? fun x => x.restAt.isNone) = some o) :
    (settlePosts s).lsu.applied < (settlePosts s).pbc.committed + (settlePosts s).pbc.energiseClaim o := by
  obtain ⟨-, u, ends⟩ := settlePosts_ends s unique
  have kept : (settlePosts s).pbc.outlets.map Outlet.number = s.pbc.outlets.map Outlet.number :=
    (numbersAre_closed _).settlePosts s rfl
  have shed : (shedAll u).pbc.outlets.map Outlet.number = u.pbc.outlets.map Outlet.number :=
    (numbersAre_closed _).shedLoop _ u rfl
  have passed : (settlePosts s).pbc.outlets.map Outlet.number = u.pbc.outlets.map Outlet.number := by
    rw [ends]
    exact (numbersAre_closed _).restoreWalk _ _ shed
  have uniqueU : (shedAll u).numbered := by
    rw [State.numbered, shed, ← passed, kept]
    exact unique
  exact restoreWalk_leaves (resting := []) uniqueU rfl (fun _ mem => absurd mem List.not_mem_nil) ends.symm first

theorem settlePosts_passed {s : State} (fits : (restorePass (shedAll s)).fits) : settlePosts s = restorePass (shedAll s) := by
  rw [settlePosts, settleRounds]
  exact if_pos fits

/-- Where a pass leaves K above A, PBC sheds and runs a pass again. -/
theorem settlePosts_again {s : State} (unique : s.numbered) (above : ¬(restorePass (shedAll s)).fits) :
    settlePosts s = settlePosts (restorePass (shedAll s)) := by
  have same : (restorePass (shedAll s)).pbc.outlets.length = s.pbc.outlets.length := by
    simpa using congrArg List.length (round_counts unique).1
  have once : settlePosts s = settleRounds s.pbc.outlets.length (restorePass (shedAll s)) := by
    rw [settlePosts, settleRounds]
    exact if_neg above
  rw [once, ← same, settlePosts]
  exact (settleRounds_ends _ _ (round_numbered unique) above (awake_le _)).2.symm

theorem settled_eq (before s : State) : settled before s =
    if s.fits ∧ s.lsu.applied = before.lsu.applied ∧ s.pbc.committed = before.pbc.committed ∧
        s.restoreQueue.map Outlet.number = before.restoreQueue.map Outlet.number then s
    else settlePosts s := by
  simp only [settled, Bool.and_eq_true, decide_eq_true_eq, beq_iff_eq, and_assoc]

/-! ### The timers (R90, R102, R103) -/

/-- An outlet whose rest timer has ended. -/
def rested (o : Outlet) : Outlet := { o with restAt := none }

/-- An outlet that shows its own lamp pattern again. -/
def outletShown (o : Outlet) : Outlet := { o with refusedUntil := none }

/-- A tap that shows its own lamp pattern again. -/
def tapShown (x : Tap) : Tap := { x with refusedUntil := none }

/-- A tap that has become CLOSED. -/
def tapClosed (x : Tap) : Tap :=
  { x with state := .closed, runAt := none, leakCount := if x.state == .opened then 0 else x.leakCount }

theorem moveTap_closed (n : Nat) : moveTap n .closed none = changeTap n tapClosed := by
  unfold moveTap
  have other : (TapState.closed != TapState.opened) = true := rfl
  refine congrArg (changeTap n) (funext fun x => ?_)
  simp only [other, Bool.and_true, tapClosed]

section
variable {s : State} {n d : Nat} (up : s.up = true)
include up

theorem exec_restTimer {o : Outlet} (reads : s.outlet? n = some o) (rests : o.restAt = some d) :
    exec (.restTimer n) s =
      .next (settlePosts (patchOutlet n rested (reach d s))) := by
  simp only [exec, execRestTimer, whenUp, up, if_true, reads, Option.bind_some, rests]
  rfl

theorem exec_tapRunTimer {p : Tap} (reads : s.tap? n = some p) (runs : p.runAt = some d) :
    exec (.tapRunTimer n) s = .next (changeTap n tapClosed (reach d s)) := by
  simp only [exec, execTapRunTimer, whenUp, up, if_true, reads, Option.bind_some, runs, moveTap_closed]

theorem exec_outletLampExpiry {o : Outlet} (reads : s.outlet? n = some o) (shown : o.refusedUntil = some d) :
    exec (.refusedLampExpiry (.outlet n)) s =
      .next (patchOutlet n outletShown (reach d s)) := by
  simp only [exec, execRefusedLampExpiry, whenUp, up, if_true, reads, Option.bind_some, shown]
  rfl

theorem exec_tapLampExpiry {p : Tap} (reads : s.tap? n = some p) (shown : p.refusedUntil = some d) :
    exec (.refusedLampExpiry (.tap n)) s = .next (changeTap n tapShown (reach d s)) := by
  simp only [exec, execRefusedLampExpiry, whenUp, up, if_true, reads, Option.bind_some, shown]
  rfl

end

/-- Settles O25: shedding, the pass and the timers change one outlet or tap at a time. -/
theorem postTimers : Obligations.PostTimers := by
  refine ⟨fun s n d o up reads rests => ?_, fun s n d p up reads opened runs => ?_, fun s n d o up reads shown => ?_,
    fun s n d p up reads shown => ?_, fun s k fits => shedLoop_fits fits k, fun s k o unique above mem live least => ?_,
    restoreQueue_sorted, fun s n rest o reads => ?_, fun before s => ?_⟩
  · have here : (reach d s).outlet? n = some o := reads
    exact ⟨_, exec_restTimer up reads rests, outlet?_self n rested _ (fun _ => rfl) o here, rfl,
      ⟨rfl, fun m other => outlet?_other n m rested (reach d s) (fun _ => rfl) other⟩, rfl⟩
  · have here : (reach d s).tap? n = some p := reads
    refine ⟨_, exec_tapRunTimer up reads runs, rfl, ?_,
      ⟨rfl, fun m other => tap?_other n m tapClosed (reach d s) (fun _ => rfl) other⟩, rfl⟩
    rw [tap?_self n tapClosed _ (fun _ => rfl) p here, tapClosed]
    simp [opened]
  · have here : (reach d s).outlet? n = some o := reads
    exact ⟨_, exec_outletLampExpiry up reads shown, rfl, outlet?_self n outletShown _ (fun _ => rfl) o here,
      ⟨rfl, fun m other => outlet?_other n m outletShown (reach d s) (fun _ => rfl) other⟩, rfl⟩
  · have here : (reach d s).tap? n = some p := reads
    exact ⟨_, exec_tapLampExpiry up reads shown, rfl, tap?_self n tapShown _ (fun _ => rfl) p here,
      ⟨rfl, fun m other => tap?_other n m tapShown (reach d s) (fun _ => rfl) other⟩, rfl⟩
  · exact shedLoop_step k unique above (victim?_eq mem live least)
  · refine ⟨rfl, restoreWalk_skips rest reads, fun awake waits => ⟨fun above => ?_, fun fits => ?_⟩⟩
    · exact restoreWalk_stops rest reads awake (queued_iff.2 waits) above
    · exact ⟨_, restoreWalk_livens rest reads awake (queued_iff.2 waits) fits, outletLive_reads reads,
        fun m other => outletLive_others s other, outletLive_pbc n s,
        fun unique => outletLive_committed unique reads (queued_iff.2 waits), State.ext_fields _ _ (by simp)⟩
  · refine ⟨fun fits => settlePosts_passed fits, fun unique => ⟨fun above => settlePosts_again unique above,
      (settlePosts_ends s unique).1, fun o first => settlePosts_leaves unique first⟩, settled_eq before s⟩

end Sys2Proof.Machine
end

section
/-! SUPPORT. The commands that read the station: the listings and the status replies (R18, R61, R86, R109, R126, R139, R156, R169,
R186, R188, R191, R194). -/

namespace Sys2Proof.Machine

section
variable {s : State} {i : Instr} {c : TermCmd} (brings : terminalOf i = some c) (ready : s.ready) (fits : s.fits)
  (noCommit : c ≠ .writeConfigCommit) (here : ∀ st, c.names = some st → s.isHere st)
include brings ready fits noCommit here

/-- A command that reads is answered, and changes nothing else. -/
theorem exec_reads {r : Reply} (does : effect s.tpc.limit c s = (s, r)) : exec i s = .next (s.setTpc (s.tpc.answers r)) :=
  exec_here_quiet brings ready fits noCommit here does rfl rfl rfl

/-- A listing fills its reply with whole items (R188). -/
theorem exec_lists {k : CmdKind} {gap : Bool} {items : List (Nat × Item)}
    (does : effect s.tpc.limit c s = (s, packReply k s.tpc.limit gap items)) : s.lists i k gap items := by
  have runs := exec_here_quiet brings ready fits noCommit here does rfl rfl rfl
  rw [within_packReply] at runs
  obtain ⟨carries, more, code, result, gaps⟩ := packReply_carries k s.tpc.limit gap items
  exact ⟨_, runs, code, result, gaps, carries, more⟩

end

/-! ### STATUS (R187, R191) -/

/-- STATUS, with its first two items. -/
def statusReply (s : State) (who load : Item) : Reply := answer .status .ok [who, load, .clock s.dck.clock,
  .store s.bst.fault s.dirty, .journal s.evj.entries.length s.evj.unread s.evj.mark s.evj.next s.evj.overflow s.evj.attention,
  .number s.noticeCount, .port s.tpc.limit s.tpc.dropped s.tpc.discarded, .staging s.cfl.filling s.cfl.staged.length]

theorem effect_status_fault {s : State} {station limit : Nat} {r : ConfigReason} {o : Option Nat} (load : s.cfl.load = .fault r o) :
    effect limit (.status station) s = (s, statusReply s (.identity none none) (.rejected r o)) := by
  have fault : s.inFault = true := by simp [State.inFault, load]
  show doStatus s = _
  simp only [doStatus, fault, load]
  rfl

theorem effect_status_up {s : State} {station limit : Nat} (load : s.cfl.load = .accepted) :
    effect limit (.status station) s = (s, statusReply s (.identity (some s.cfg.station) (some s.cfg.role)) .accepted) := by
  have fault : s.inFault = false := by simp [State.inFault, load]
  show doStatus s = _
  simp only [doStatus, fault, load]
  rfl

/-- A command at a station that listens is taken, and what it does to TPC alone ends the event (R187). -/
theorem exec_taken {s : State} {i : Instr} {c : TermCmd} (brings : terminalOf i = some c) (listens : s.tpc.listens = true)
    (fits : s.fits) {v : Tpc} (takes : takeCommand (Config.payloadBytes c) c s = s.setTpc v) :
    exec i s = .next (s.setTpc v) := by
  have quiet : settled s (s.setTpc v) = s.setTpc v := settled_same s _ rfl rfl (classOf_same _ _ rfl) fits
  rw [exec_terminalOf brings]
  simp only [terminalCommand, event, listens, if_true, takes, quiet]

theorem takeCommand_starting {s : State} (length : Nat) (c : TermCmd) (starting : s.cfl.starting = true) :
    takeCommand length c s = s.setTpc (s.tpc.sending (answer c.kind .starting)) := by
  rw [takeCommand, if_pos starting]
  rfl

section
variable {s : State} {r : ConfigReason} {o : Option Nat} (ended : s.cfl.starting = false) (load : s.cfl.load = .fault r o)
include ended load

theorem takeCommand_dayStatus_fault (length : Nat) :
    takeCommand length .dayStatus s = s.setTpc (s.tpc.sending (answer .dayStatus .configFault)) := by
  simp only [takeCommand, ended, State.inFault, load]
  rfl

theorem takeCommand_status_fault (length station : Nat) : takeCommand length (.status station) s =
    s.setTpc (s.tpc.answers (statusReply s (.identity none none) (.rejected r o))) := by
  have fault : s.inFault = true := by simp [State.inFault, load]
  have taken : takeCommand length (.status station) s = performHere (.status station) s := by
    simp only [takeCommand, ended, fault, TermCmd.kind, CmdKind.inFault, ownRule, TermCmd.names]
    rfl
  rw [taken, performHere_eq, effect_status_fault load]
  rfl

end

/-! ### The cache (R126) -/

/-- How TAG_STATUS shows an entry of the cache. -/
def wayItem (now : Nat) (e : CacheEntry) : Item :=
  if e.pinned then .cacheWay e false none
  else if e.validUntil.any fun v => now / 1000 < v then .cacheWay e false (e.validUntil.map fun v => v - now / 1000)
  else .cacheWay e true none

theorem effect_cacheStatus {s : State} {limit : Nat} : effect limit .cacheStatus s = (s, answer .cacheStatus .ok
    [.cacheCounts s.acu.counts (s.acu.cache.filter fun e => !e.pinned && e.validUntil.any fun v => s.now / 1000 < v).length
      (s.acu.cache.filter fun e => e.pinned).length s.acu.lookups.length]) := by
  have valid : (fun e : CacheEntry => !e.pinned && entryValid s.seconds e) =
      fun e => !e.pinned && e.validUntil.any fun v => decide (s.now / 1000 < v) := by
    funext e
    unfold entryValid State.seconds
    cases e.pinned <;> rfl
  show doCacheStatus s = _
  simp only [doCacheStatus, valid]

theorem effect_tagStatus {s : State} {limit : Nat} (tag : Tag) : effect limit (.tagStatus tag) s = (s, answer .tagStatus .ok
    ([.localTag (if s.cfg.role = .pontoon then (s.byTag? tag).map fun p => (p.1, p.2.serial.getD 0, p.2.epoch) else none),
        .cacheSet (tag.toNat % 64)] ++
      ((s.acu.cache.find? fun e => e.record.tag == tag).map (wayItem s.now)).toList ++
      ((s.acu.lookups.find? fun l => l.tag == tag).map Item.lookup).toList)) := by
  have way : (match s.acu.entry? tag with
      | none => []
      | some e => [Item.cacheWay e (!entryValid s.seconds e)
          (if e.pinned || !entryValid s.seconds e then none else e.validUntil.map fun v => v - s.seconds)]) =
      ((s.acu.cache.find? fun e => e.record.tag == tag).map (wayItem s.now)).toList := by
    rw [Acu.entry?]
    cases s.acu.cache.find? fun e => e.record.tag == tag with
    | none => rfl
    | some e =>
      refine congrArg (fun i => [i]) ?_
      unfold wayItem entryValid State.seconds
      cases e.pinned <;> cases (e.validUntil.any fun v => decide (s.now / 1000 < v)) <;> rfl
  have flight : (match s.lookup? tag with
      | none => []
      | some l => [Item.lookup l]) = ((s.acu.lookups.find? fun l => l.tag == tag).map Item.lookup).toList := by
    rw [State.lookup?]
    cases s.acu.lookups.find? fun l => l.tag == tag <;> rfl
  rw [← way, ← flight]
  rfl

/-! ### JOURNAL_READ (R194) and READ_BOOKING (R13, R18) -/

theorem effect_journalRead {s : State} {limit resume : Nat} (held : (if resume = 0 then s.evj.mark else resume) ≤ s.evj.next) :
    effect limit (.journalRead resume) s = (s, packReply .journalRead limit
      (s.evj.entries.head?.any fun e => decide ((if resume = 0 then s.evj.mark else resume) < e.sequence))
      ((s.evj.entries.filter fun e => (if resume = 0 then s.evj.mark else resume) ≤ e.sequence).map fun e =>
        (e.sequence, Item.entry e))) := by
  show doJournalRead resume limit s = _
  unfold doJournalRead
  generalize (if resume = 0 then s.evj.mark else resume) = start at held ⊢
  dsimp only
  rw [if_neg (by omega)]
  cases s.evj.entries.head? <;> rfl

theorem effect_readBerth {s : State} {station limit resume berth : Nat} {b : Berth} (role : s.cfg.role = .pontoon)
    (reads : s.berth? berth = some b) : effect limit (.readBooking station berth 0 resume) s =
      (s, packReply .readBooking limit false (fromResume resume (summaryItems b))) := by
  show doReadBooking berth 0 resume limit s = _
  simp [doReadBooking, role, reads]

theorem effect_readBooking {s : State} {station limit resume berth serial : Nat} {b : Booking} (finds : s.finds berth serial b) :
    effect limit (.readBooking station berth serial resume) s =
      (s, packReply .readBooking limit false (fromResume resume (bookingItems b))) := by
  show doReadBooking berth serial resume limit s = _
  rw [doReadBooking, if_neg finds.2.1, onAddressed_finds finds]

/-- Settles O48: no reading command has an effect but its reply. -/
theorem readingCommandsChangeNothing : Obligations.ReadingCommandsChangeNothing := by
  intro s station resume fits
  refine ⟨fun r o ended listens load => ⟨?_, ?_⟩, fun starting listens => ?_, fun ready here => ?_⟩
  · exact exec_taken (i := .status station) rfl listens fits (takeCommand_status_fault ended load _ station)
  · exact exec_taken (i := .dayStatus) rfl listens fits (takeCommand_dayStatus_fault ended load _)
  · exact exec_taken (i := .status station) rfl listens fits (takeCommand_starting _ _ starting)
  have load : s.cfl.load = .accepted := by
    have := ready.1
    simp only [State.up, Bool.and_eq_true, beq_iff_eq] at this
    exact this.1
  refine ⟨exec_reads (i := .status station) rfl ready fits nofun (names_here here) (effect_status_up load),
    exec_reads (i := .dayStatus) rfl ready fits nofun (names_none rfl) rfl,
    ⟨exec_reads (i := .cacheStatus) rfl ready fits nofun (names_none rfl) effect_cacheStatus, fun tag => ?_⟩,
    fun n c reads => ?_, ?_, ?_, ?_, ?_, fun gates => ?_, fun pumps => ?_, fun held => ?_, fun berth bb role reads => ?_,
    fun berth serial b finds => ?_⟩
  · exact exec_reads (i := .tagStatus tag) rfl ready fits nofun (names_none rfl) (effect_tagStatus tag)
  · refine exec_reads (i := .callStatus (some n) resume) rfl ready fits nofun (names_none rfl) ?_
    show doCallStatus (some n) resume s.tpc.limit s = _
    simp only [doCallStatus, reads]
  · exact exec_lists (i := .callStatus none resume) rfl ready fits nofun (names_none rfl) rfl
  · exact exec_lists (i := .loadStatus resume) rfl ready fits nofun (names_none rfl) rfl
  · exact exec_lists (i := .postStatus resume) rfl ready fits nofun (names_none rfl) rfl
  · exact exec_lists (i := .linkStatus resume) rfl ready fits nofun (names_none rfl) rfl
  · refine exec_lists (i := .gateStatus station resume) rfl ready fits nofun (names_here here) ?_
    show doGateStatus resume s.tpc.limit s = _
    rw [doGateStatus, if_neg (by simpa using gates)]
  · refine exec_lists (i := .saleStatus station resume) rfl ready fits nofun (names_here here) ?_
    show doSaleStatus resume s.tpc.limit s = _
    rw [doSaleStatus, if_neg (by simpa using pumps)]
  · exact exec_lists (i := .journalRead resume) rfl ready fits nofun (names_none rfl) (effect_journalRead held)
  · exact exec_lists (i := .readBooking station berth 0 resume) rfl ready fits nofun (names_here here)
      (effect_readBerth role reads)
  · exact exec_lists (i := .readBooking station berth serial resume) rfl ready fits nofun (names_here here)
      (effect_readBooking finds)

end Sys2Proof.Machine
end

section
/-! SUPPORT. What the posts' operations keep of PBC: one lemma per operation, for every relation of the state before and after that
the changes of an outlet and of a tap keep. -/

namespace Sys2Proof.Machine

/-- A change of an outlet that is none of its meter. -/
abbrev OutletKept (f : Outlet → Outlet) : Prop := ∀ o, (f o).number = o.number ∧ (f o).energyBase = o.energyBase

/-- A change of a tap that is none of its meter and of its leak mark, and does not open it. -/
abbrev TapKept (f : Tap → Tap) : Prop := ∀ p, (f p).number = p.number ∧ (f p).volumeBase = p.volumeBase ∧
  (f p).leakMark = p.leakMark ∧ (p.state ≠ .opened → (f p).state ≠ .opened ∧ (f p).leakCount = p.leakCount)

/-- An outlet without power, out of the restore queue. -/
def unpowered (state : OutletState) (o : Outlet) : Outlet := { o with state := state, join := none, restAt := none }

/-- An outlet that has tripped. -/
def tripped (o : Outlet) : Outlet := { o with state := .tripped, join := none, restAt := none, overCurrent := 0 }

/-- An outlet that shows a refusal. -/
def refusing (end_ : Nat) (o : Outlet) : Outlet := { o with refusedUntil := some end_ }

theorem outletOff_eq (n : Nat) : outletOff n = changeOutlet n (unpowered .off) := rfl

theorem outletTrips_eq (o : Outlet) (cause : TripCause) (current : Nat) (s : State) : outletTrips o cause current s =
    report (.outletTripped o.number cause current) (setWanted o false (changeOutlet o.number tripped s)) := rfl

theorem outletTrips_pbc (o : Outlet) (cause : TripCause) (current : Nat) (s : State) :
    (outletTrips o cause current s).pbc = (changeOutlet o.number tripped s).pbc := by
  rw [outletTrips_eq]
  simp

/-- A relation that holds where PBC is as it was, and is kept by such changes and by a sequence number taken. -/
structure PbcSteps (R : State → State → Prop) : Prop where
  same : ∀ s t, t.pbc = s.pbc → R s t
  trans : ∀ s t u, R s t → R t u → R s u
  outlet : ∀ n f s, OutletKept f → R s (patchOutlet n f s)
  tap : ∀ n f s, TapKept f → R s (changeTap n f s)
  number : ∀ s, R s (takeNumber s).2

namespace PbcSteps
variable {R : State → State → Prop} (steps : PbcSteps R)
include steps

theorem refl (s : State) : R s s := steps.same s s rfl

/-- A step that leaves PBC, at the end. -/
theorem andSame {s t u : State} (h : R s t) (pbc : u.pbc = t.pbc) : R s u := steps.trans s t u h (steps.same t u pbc)

theorem report {s t : State} (h : R s t) (r : Report) : R s (Machine.report r t) := steps.andSame h (by simp)

theorem foldl {α : Type} {f : State → α → State} (h : ∀ s a, R s (f s a)) (l : List α) (s : State) : R s (l.foldl f s) :=
  foldl_rel steps.refl (fun s t u => steps.trans s t u) h l s

theorem times {f : State → State} (h : ∀ s, R s (f s)) (n : Nat) (s : State) : R s (Machine.times f n s) :=
  times_rel steps.refl (fun s t u => steps.trans s t u) h n s

theorem changeOutlet {n : Nat} {f : Outlet → Outlet} (kept : OutletKept f) (s : State) : R s (changeOutlet n f s) :=
  steps.andSame (steps.outlet n f s kept) (by simp [Machine.changeOutlet])

theorem outletWaits (n : Nat) (s : State) : R s (outletWaits n s) :=
  steps.trans _ _ _ (steps.number s)
    (steps.changeOutlet (n := n) (f := waitingAt s.pbc.counter) (fun _ => ⟨rfl, rfl⟩) (takeNumber s).2)

theorem outletLive (n : Nat) (s : State) : R s (outletLive n s) :=
  steps.trans _ _ _ (steps.number s)
    (steps.changeOutlet (n := n) (f := livenedAt s.pbc.counter) (fun _ => ⟨rfl, rfl⟩) (takeNumber s).2)

theorem outletOff (n : Nat) (s : State) : R s (outletOff n s) :=
  steps.changeOutlet (n := n) (f := unpowered .off) (fun _ => ⟨rfl, rfl⟩) s

theorem outletSuspended (n : Nat) (s : State) : R s (outletSuspended n s) :=
  steps.changeOutlet (n := n) (f := unpowered .suspended) (fun _ => ⟨rfl, rfl⟩) s

theorem outletShed (n : Nat) (s : State) : R s (outletShed n s) :=
  steps.changeOutlet (n := n) (f := shedAt (s.now + s.cfg.restTime * 1000)) (fun _ => ⟨rfl, rfl⟩) s

theorem setWanted (o : Outlet) (v : Bool) (s : State) : R s (setWanted o v s) := steps.same _ _ (by simp)

theorem outletTrips (o : Outlet) (c : TripCause) (m : Nat) (s : State) : R s (outletTrips o c m s) :=
  steps.andSame (steps.changeOutlet (n := o.number) (f := tripped) (fun _ => ⟨rfl, rfl⟩) s) (by rw [outletTrips_pbc])

theorem switchOff (o : Outlet) (s : State) : R s (switchOff o s) :=
  steps.trans _ _ _ (steps.setWanted o false s) (steps.outletOff _ _)

theorem requestOutlet (o : Outlet) (s : State) : R s (requestOutlet o s).1 := by
  unfold Machine.requestOutlet
  split
  · exact steps.report (steps.outlet o.number (refusing s.refusedEnd) s (fun _ => ⟨rfl, rfl⟩)) _
  · exact steps.trans _ _ _ (steps.setWanted o true s) (steps.outletWaits _ _)

theorem pressOutlet (n : Nat) (s : State) : R s (pressOutlet n s) := by
  unfold Machine.pressOutlet
  split
  · exact steps.refl s
  · split
    · exact steps.requestOutlet _ s
    · exact steps.switchOff _ s
    · exact steps.switchOff _ s
    · exact steps.switchOff _ s
    · exact steps.switchOff _ s
    · exact steps.refl s

theorem pressReset (n : Nat) (s : State) : R s (pressReset n s) := by
  unfold Machine.pressReset
  split
  · exact steps.refl s
  · exact Background.ite (steps.outletOff n s) (steps.refl s)

theorem moveTap {target : TapState} (shut : target ≠ .opened) (n : Nat) (runAt : Option Nat) (s : State) :
    R s (moveTap n target runAt s) := by
  refine steps.tap n _ s fun p => ⟨rfl, rfl, rfl, fun notOpen => ⟨shut, ?_⟩⟩
  have : (p.state == .opened) = false := beq_eq_false_iff_ne.2 notOpen
  simp only [this, Bool.false_and, Bool.false_eq_true, if_false]

theorem noticeOutlet (old new : Standing) (n : Nat) (s : State) : R s (noticeOutlet old new n s) := by
  unfold Machine.noticeOutlet
  split
  · exact steps.refl s
  · exact Background.ite (Background.ite (steps.outletSuspended n s) (steps.refl s))
      (Background.ite (steps.outletWaits n s) (steps.refl s))

theorem noticeTap (old new : Standing) (n : Nat) (s : State) : R s (noticeTap old new n s) := by
  have locked : TapState.locked ≠ .opened := nofun
  have closed : TapState.closed ≠ .opened := nofun
  unfold Machine.noticeTap
  split
  · exact steps.refl s
  · exact Background.ite (steps.moveTap locked n none s) (Background.ite (steps.moveTap closed n none s) (steps.refl s))

theorem postsNotice (n k : Nat) (old new : Standing) (s : State) : R s (postsNotice n k old new s) := by
  have outlets (l : List Nat) : R s (l.foldl (fun x n => Machine.noticeOutlet old new n x) s) :=
    steps.foldl (f := fun x n => Machine.noticeOutlet old new n x) (fun x n => steps.noticeOutlet old new n x) l s
  unfold Machine.postsNotice
  split
  · exact steps.refl s
  · next b _ =>
    refine Background.ite ?_ (steps.refl s)
    dsimp only
    split
    · exact steps.trans _ _ _ (outlets b.cfg.outlets) (steps.noticeTap old new _ _)
    · exact outlets _

theorem notice (n k : Nat) (old new : Standing) (s : State) : R s (notice n k old new s) := by
  unfold Machine.notice
  split
  · exact steps.refl s
  · exact steps.report (steps.trans _ _ _ (steps.same s _ (by simp)) (steps.postsNotice n k old new _)) _

theorem restand (n k : Nat) (s : State) : R s (restand n k s) := by
  unfold Machine.restand
  split
  · exact steps.refl s
  · exact Background.ite (steps.refl s) (steps.trans _ _ _ (steps.same s _ (by simp)) (steps.notice n k _ _ _))

theorem meterCharge (n k : Nat) (c : Charge) (u r : Nat) (s : State) : R s (meterCharge n k c u r s) := by
  unfold Machine.meterCharge
  split
  · exact steps.refl s
  · exact Background.ite (steps.same s _ (by simp)) (steps.trans _ _ _ (steps.same s _ (by simp)) (steps.restand n k _))

theorem settlePosts (s : State) : R s (settlePosts s) :=
  PostsClosed.settlePosts (P := R s)
    { shed := fun t _ r _ h => steps.report (steps.trans _ _ _ h (steps.outletShed _ t)) r
      live := fun t n _ _ _ _ h => steps.trans _ _ _ h (steps.outletLive n t) } s (steps.refl s)

theorem settled (before s : State) : R s (settled before s) := by
  unfold Machine.settled
  exact Background.ite (steps.refl s) (steps.settlePosts s)

end PbcSteps

/-! ### The meters' baselines and the leak marks -/

theorem patchOutlet_energyBase {n m : Nat} {f : Outlet → Outlet} {s : State} (kept : OutletKept f) :
    ((patchOutlet n f s).outlet? m).map Outlet.energyBase = (s.outlet? m).map Outlet.energyBase := by
  rw [outlet?_patchOutlet _ _ _ _ fun o => (kept o).1]
  cases s.outlet? m with
  | none => rfl
  | some o =>
    simp only [Option.map_some]
    split
    · rw [(kept o).2]
    · rfl

theorem energyBase_steps (m : Nat) :
    PbcSteps fun s t => (t.outlet? m).map Outlet.energyBase = (s.outlet? m).map Outlet.energyBase where
  same s t pbc := by rw [outlet?_same s t pbc]
  trans _ _ _ st tu := tu.trans st
  outlet _ _ _ kept := patchOutlet_energyBase kept
  tap _ _ _ _ := rfl
  number _ := rfl

/-- What is kept of a tap by whatever does not measure it and does not open it. -/
def SameMeter (p q : Tap) : Prop :=
  q.volumeBase = p.volumeBase ∧ q.leakMark = p.leakMark ∧ (p.state ≠ .opened → q.state ≠ .opened ∧ q.leakCount = p.leakCount)

theorem SameMeter.trans {p q r : Tap} (pq : SameMeter p q) (qr : SameMeter q r) : SameMeter p r := by
  obtain ⟨base, mark, shut⟩ := pq
  obtain ⟨base', mark', shut'⟩ := qr
  refine ⟨base'.trans base, mark'.trans mark, fun notOpen => ?_⟩
  obtain ⟨still, count⟩ := shut notOpen
  obtain ⟨still', count'⟩ := shut' still
  exact ⟨still', count'.trans count⟩

theorem sameMeter_steps (m : Nat) :
    PbcSteps fun s t => ∀ p, s.tap? m = some p → ∃ q, t.tap? m = some q ∧ SameMeter p q where
  same s t pbc p reads := ⟨p, by rw [tap?_same s t pbc, reads], rfl, rfl, fun shut => ⟨shut, rfl⟩⟩
  trans _ _ _ st tu p reads := by
    obtain ⟨q, reads', same⟩ := st p reads
    obtain ⟨r, reads'', same'⟩ := tu q reads'
    exact ⟨r, reads'', same.trans same'⟩
  outlet _ _ _ _ p reads := ⟨p, reads, rfl, rfl, fun shut => ⟨shut, rfl⟩⟩
  tap n f s kept p reads := by
    rw [tap?_changeTap _ _ _ _ fun x => (kept x).1, reads]
    refine ⟨_, rfl, ?_⟩
    dsimp only
    split
    · exact (kept p).2
    · exact ⟨rfl, rfl, fun shut => ⟨shut, rfl⟩⟩
  number _ p reads := ⟨p, reads, rfl, rfl, fun shut => ⟨shut, rfl⟩⟩

/-! ### The posts and the poll round -/

/-- The posts and the poll round are as they were. -/
def RoundAs (s t : State) : Prop := t.pbc = { s.pbc with
  outlets := t.pbc.outlets, taps := t.pbc.taps, counter := t.pbc.counter, unassignedEnergy := t.pbc.unassignedEnergy
  unassignedWater := t.pbc.unassignedWater }

theorem roundAs_steps : PbcSteps RoundAs where
  same s t pbc := by rw [RoundAs, pbc]
  trans _ _ _ st tu := by
    unfold RoundAs at *
    rw [tu, st]
  outlet _ _ _ _ := rfl
  tap _ _ _ _ := rfl
  number _ := rfl

theorem RoundAs.posts {s t : State} (h : RoundAs s t) : t.pbc.posts = s.pbc.posts := by rw [h]

theorem RoundAs.toPoll {s t : State} (h : RoundAs s t) : t.pbc.toPoll = s.pbc.toPoll := by rw [h]

end Sys2Proof.Machine
end

section
/-! SUPPORT. The meters of the posts: baselines, jumps, leaks, charges and unassigned usage (R104 to R107). -/

namespace Sys2Proof.Machine

/-! ### A metered charge of a booking (R106) -/

/-- A booking after a metered charge. -/
def meteredBooking (c : Charge) (milli : Nat) (b : Booking) : Booking :=
  let kept := b.onPurse fun p => { p with remainder := (b.purse.remainder + milli) % 1000 }
  if (b.purse.remainder + milli) / 1000 = 0 then kept else restood (kept.debit c ((b.purse.remainder + milli) / 1000))

theorem restood_usage (b : Booking) : (restood b).energy = b.energy ∧ (restood b).water = b.water := by
  unfold restood
  split <;> exact ⟨rfl, rfl⟩

theorem meteredBooking_usage (c : Charge) (milli : Nat) (b : Booking) :
    (meteredBooking c milli b).energy = b.energy ∧ (meteredBooking c milli b).water = b.water ∧
    (meteredBooking c milli b).openDay.energy = b.openDay.energy ∧ (meteredBooking c milli b).openDay.water = b.openDay.water := by
  unfold meteredBooking
  dsimp only
  split
  · exact ⟨rfl, rfl, rfl, rfl⟩
  · obtain ⟨energy, water⟩ := restood_usage ((b.onPurse fun p =>
      { p with remainder := (b.purse.remainder + milli) % 1000 }).debit c ((b.purse.remainder + milli) / 1000))
    obtain ⟨-, day, -, -⟩ := restood_fields ((b.onPurse fun p =>
      { p with remainder := (b.purse.remainder + milli) % 1000 }).debit c ((b.purse.remainder + milli) / 1000))
    rw [energy, water, day]
    exact ⟨rfl, rfl, rfl, rfl⟩

/-- The total a charge is added to. -/
def Purse.total (p : Purse) : Charge → Nat
  | .power => p.power
  | .water => p.water
  | .fuel => p.fuel
  | .fee => p.fees

/-- Above the floor a metered charge loses nothing. -/
theorem meteredBooking_whole {c : Charge} {milli : Nat} {b : Booking}
    (above : b.purse.balance - ((b.purse.remainder + milli) / 1000 : Nat) ≥ -(floorCents : Int)) :
    1000 * (meteredBooking c milli b).purse.balance - (meteredBooking c milli b).purse.remainder =
      1000 * b.purse.balance - b.purse.remainder - milli ∧
    Purse.total (meteredBooking c milli b).purse c + (meteredBooking c milli b).purse.balance =
      Purse.total b.purse c + b.purse.balance ∧
    (meteredBooking c milli b).purse.remainder ≤ 999 := by
  have parts : (b.purse.remainder + milli) / 1000 * 1000 + (b.purse.remainder + milli) % 1000 = b.purse.remainder + milli :=
    Nat.div_add_mod' _ _
  have small : (b.purse.remainder + milli) % 1000 < 1000 := Nat.mod_lt _ (by decide)
  unfold meteredBooking
  generalize cents : (b.purse.remainder + milli) / 1000 = d at *
  generalize (b.purse.remainder + milli) % 1000 = rest at *
  dsimp only
  split
  · refine ⟨by simp only [Booking.onPurse]; omega, ?_, Nat.le_of_lt_succ small⟩
    cases c <;> rfl
  · have applied : ({ b.purse with remainder := rest } : Purse).applies d = d := if_pos above
    obtain ⟨purse, -, -, -⟩ := restood_fields ((b.onPurse fun p => { p with remainder := rest }).debit c d)
    rw [purse]
    simp only [Booking.debit, Booking.onPurse, applied]
    cases c <;> simp only [Purse.take, Purse.total] <;> exact ⟨by omega, by push_cast; omega, by omega⟩

/-- The booking after a metered charge, its usage added first (R106). -/
theorem chargeUnits_booking? {m : Meter} {berth : Option Nat} {d n serial : Nat} {k : Booking} {s : State} (positive : 0 < d)
    (holder : s.holder? berth = some (n, k)) (numbered : k.serial = some serial) (reads : s.booking? n serial = some k) :
    (chargeUnits m berth d s).booking? n serial =
      some (meteredBooking (meterKind m) (d * s.meterRate m) (addUsage m d k)) := by
  have keeps : Keeps (addUsage m d) := by cases m <;> exact fun _ => ⟨rfl, rfl⟩
  have purse : (addUsage m d k).purse = k.purse := by cases m <;> rfl
  have added : (changeBooking n serial (addUsage m d) s).booking? n serial = some (addUsage m d k) := by
    rw [booking?_changeBooking _ _ _ _ _ _ keeps, if_pos ⟨rfl, rfl⟩, reads]
    rfl
  rw [chargeUnits, if_neg (by omega)]
  simp only [holder, numbered, Option.getD_some]
  exact booking?_meterCharge added (meterKind m) d (s.meterRate m)

theorem chargeUnits_none {m : Meter} {berth : Option Nat} {d : Nat} {s : State} (positive : 0 < d)
    (holder : s.holder? berth = none) : chargeUnits m berth d s = report (.usageUnassigned m d) (addUnassigned m d s) := by
  rw [chargeUnits, if_neg (by omega)]
  simp only [holder]

theorem chargeUnits_zero (m : Meter) (berth : Option Nat) (s : State) : chargeUnits m berth 0 s = s := if_pos rfl

/-- A charge leaves the baselines, the leak marks, and of a tap that is not OPEN the leak count. -/
theorem chargeUnits_steps {R : State → State → Prop} (steps : PbcSteps R)
    (unassigned : ∀ (m : Meter) (d : Nat) (s : State), R s (addUnassigned m d s)) (m : Meter) (berth : Option Nat) (d : Nat)
    (s : State) : R s (chargeUnits m berth d s) := by
  unfold chargeUnits
  refine Background.ite (steps.refl s) ?_
  split
  · exact steps.trans _ _ _ (steps.same s _ (by simp)) (steps.meterCharge _ _ _ _ _ _)
  · exact steps.report (unassigned m d s) _

theorem holder?_same {s t : State} (berths : t.bst.berths = s.bst.berths) : t.holder? = s.holder? := by
  funext berth
  simp only [State.holder?, State.holding?, berth?_same s t berths]

/-! ### An outlet's energy counter (R105) -/

/-- An outlet with a new baseline. -/
def energyBased (sample : Count16) (o : Outlet) : Outlet := { o with energyBase := some sample }

/-- A tap with a new baseline. -/
def volumeBased (sample : Count16) (p : Tap) : Tap := { p with volumeBase := some sample }

theorem takeSample_fresh {m : Meter} {restarted : Bool} {elapsed : Nat} {base : Option Count16} {sample : Count16}
    (fresh : base = none ∨ restarted = true) : takeSample m restarted elapsed base sample = .fresh := by
  rcases fresh with rfl | rfl
  · rfl
  · cases base <;> rfl

theorem takeSample_base (m : Meter) (elapsed : Nat) (b sample : Count16) : takeSample m false elapsed (some b) sample =
    if (sample - b).toNat ≤ Meter.perSecond m * elapsed then .good (sample - b).toNat else .jump b := rfl

theorem energyBase_others {n m : Nat} {sample : Count16} {s : State} (other : m ≠ n) :
    ((patchOutlet n (energyBased sample) s).outlet? m).map Outlet.energyBase = (s.outlet? m).map Outlet.energyBase := by
  rw [outlet?_other n m (energyBased sample) s (fun _ => rfl) other]

theorem chargeUnits_energyBase (m : Meter) (berth : Option Nat) (d n : Nat) (s : State) :
    ((chargeUnits m berth d s).outlet? n).map Outlet.energyBase = (s.outlet? n).map Outlet.energyBase :=
  chargeUnits_steps (energyBase_steps n) (fun m _ _ => by cases m <;> rfl) m berth d s

section
variable {s : State} {elapsed n : Nat} {sample : Count16} {o : Outlet} (reads : s.outlet? n = some o)
include reads

theorem meterOutlet_fresh {restarted : Bool} (fresh : o.energyBase = none ∨ restarted = true) :
    meterOutlet restarted elapsed n sample s = patchOutlet n (energyBased sample) s := by
  unfold meterOutlet
  simp only [reads, takeSample_fresh fresh]
  rfl

section
variable {b : Count16} (base : o.energyBase = some b)
include base

theorem meterOutlet_jump (above : 5 * elapsed < (sample - b).toNat) : meterOutlet false elapsed n sample s =
    report (.meterJump (.outlet n) b sample) (patchOutlet n (energyBased sample) s) := by
  have many : ¬(sample - b).toNat ≤ Meter.perSecond (.outlet n) * elapsed := Nat.not_le.2 above
  unfold meterOutlet
  simp only [reads, base, takeSample_base, if_neg many]
  rfl

theorem meterOutlet_good (good : (sample - b).toNat ≤ 5 * elapsed) : meterOutlet false elapsed n sample s =
    chargeUnits (.outlet n) o.berth (sample - b).toNat (patchOutlet n (energyBased sample) s) := by
  have few : (sample - b).toNat ≤ Meter.perSecond (.outlet n) * elapsed := good
  unfold meterOutlet
  simp only [reads, base, takeSample_base, if_pos few]
  rfl

end

/-- The other outlets keep their baselines. -/
theorem meterOutlet_others (restarted : Bool) {m : Nat} (other : m ≠ n) :
    ((s.outlet? m).map Outlet.energyBase) = ((meterOutlet restarted elapsed n sample s).outlet? m).map Outlet.energyBase := by
  cases base : o.energyBase with
  | none => rw [meterOutlet_fresh reads (.inl base), energyBase_others other]
  | some b =>
    cases restarted with
    | true => rw [meterOutlet_fresh reads (.inr rfl), energyBase_others other]
    | false =>
      by_cases good : (sample - b).toNat ≤ 5 * elapsed
      · rw [meterOutlet_good reads base good, chargeUnits_energyBase, energyBase_others other]
      · rw [meterOutlet_jump reads base (Nat.not_le.1 good), outlet?_same _ _ (report_frame _ _).2.2.2.2.2.2.2.2.2.2.2.1,
          energyBase_others other]

end

/-- What PollRoundsMissesAndAnswers says of an outlet's energy counter. -/
theorem meterOutlet_measures (s : State) (restarted : Bool) (elapsed n : Nat) (sample : Count16) (o : Outlet)
    (reads : s.outlet? n = some o) :
    let t := meterOutlet restarted elapsed n sample s
    let based : Outlet := { o with energyBase := some sample }
    (∀ m, m ≠ n → ((s.outlet? m).map Outlet.energyBase) = ((t.outlet? m).map Outlet.energyBase)) ∧
    (o.energyBase = none ∨ restarted = true →
      t.outlet? n = some based ∧ s.sameOutletsBut t n ∧ t = { s with pbc := t.pbc }) ∧
    (∀ b, o.energyBase = some b → restarted = false →
      let d := (sample - b).toNat
      (5 * elapsed < d → t.outlet? n = some based ∧ s.sameOutletsBut t n ∧ s.journalled t (.meterJump (.outlet n) b sample) ∧
        t = { s with pbc := t.pbc, evj := t.evj }) ∧
      (d = 0 → t.outlet? n = some based ∧ s.sameOutletsBut t n ∧ t = { s with pbc := t.pbc }) ∧
      (0 < d → d ≤ 5 * elapsed → s.holder? o.berth = none →
        t.outlet? n = some based ∧ s.journalled t (.usageUnassigned (.outlet n) d) ∧
        t.pbc = { s.pbc with
          outlets := t.pbc.outlets, unassignedEnergy := min top32 (s.pbc.unassignedEnergy + d) } ∧
        t = { s with pbc := t.pbc, evj := t.evj }) ∧
      (∀ berth serial k, 0 < d → d ≤ 5 * elapsed → s.holder? o.berth = some (berth, k) → k.serial = some serial →
        s.booking? berth serial = some k →
        let rate := (s.cfg.tariff s.dck.inForce).energyRate
        k.purse.balance - ((k.purse.remainder + d * rate) / 1000 : Nat) ≥ -(floorCents : Int) →
        (∃ x, t.outlet? n = some x ∧ x.energyBase = some sample) ∧
        ∃ x, t.booking? berth serial = some x ∧ x.energy = min top32 (k.energy + d) ∧
          x.openDay.energy = min top32 (k.openDay.energy + d) ∧ x.water = k.water ∧
          1000 * x.purse.balance - x.purse.remainder = 1000 * k.purse.balance - k.purse.remainder - d * rate ∧
          x.purse.power + x.purse.balance = k.purse.power + k.purse.balance ∧ x.purse.remainder ≤ 999)) := by
  have based : (patchOutlet n (energyBased sample) s).outlet? n = some (energyBased sample o) :=
    outlet?_self n (energyBased sample) s (fun _ => rfl) o reads
  have others (m : Nat) (other : m ≠ n) : (patchOutlet n (energyBased sample) s).outlet? m = s.outlet? m :=
    outlet?_other n m (energyBased sample) s (fun _ => rfl) other
  have holders : (patchOutlet n (energyBased sample) s).holder? = s.holder? := holder?_same rfl
  refine ⟨fun m other => meterOutlet_others reads restarted other, fun fresh => ?_, fun b base started => ?_⟩
  · rw [meterOutlet_fresh reads fresh]
    exact ⟨based, ⟨rfl, others⟩, rfl⟩
  · subst started
    refine ⟨fun above => ?_, fun zero => ?_, fun positive few free => ?_, fun berth serial k positive few holder numbered there => ?_⟩
    · rw [meterOutlet_jump reads base above]
      exact ⟨based, ⟨rfl, others⟩, journalled_report _ rfl rfl, rfl⟩
    · rw [meterOutlet_good reads base (by omega), zero, chargeUnits_zero]
      exact ⟨based, ⟨rfl, others⟩, rfl⟩
    · rw [meterOutlet_good reads base few, chargeUnits_none positive ((congrFun holders o.berth).trans free)]
      exact ⟨based, journalled_report _ rfl rfl, rfl, rfl⟩
    · intro rate above
      rw [meterOutlet_good reads base few]
      constructor
      · have kept := chargeUnits_energyBase (.outlet n) o.berth (sample - b).toNat n (patchOutlet n (energyBased sample) s)
        rw [based] at kept
        obtain ⟨x, there, same⟩ := Option.map_eq_some_iff.1 kept
        exact ⟨x, there, same⟩
      · have charged := chargeUnits_booking? (m := .outlet n) positive ((congrFun holders o.berth).trans holder) numbered
          (by exact there)
        obtain ⟨energy, water, dayEnergy, -⟩ := meteredBooking_usage .power ((sample - b).toNat * rate)
          (addUsage (.outlet n) (sample - b).toNat k)
        obtain ⟨whole, total, rest⟩ := meteredBooking_whole (c := .power) (milli := (sample - b).toNat * rate)
          (b := addUsage (.outlet n) (sample - b).toNat k) above
        exact ⟨_, charged, energy, dayEnergy, water, by exact_mod_cast whole, total, rest⟩

/-! ### A tap's volume counter (R104, R105) -/

theorem chargeUnits_tap {m : Meter} {berth : Option Nat} {d n : Nat} {s : State} {p : Tap} (reads : s.tap? n = some p) :
    ∃ q, (chargeUnits m berth d s).tap? n = some q ∧ SameMeter p q :=
  chargeUnits_steps (sameMeter_steps n) (fun m _ s p reads => ⟨p, by cases m <;> exact reads, rfl, rfl, fun shut => ⟨shut, rfl⟩⟩)
    m berth d s p reads

/-- A tap that is not OPEN with litres counted (R104). -/
def leaked (count : Nat) (p : Tap) : Tap := { p with leakCount := count, leakMark := p.leakMark || decide (5 < count) }

theorem countLeak_opened {p : Tap} (opened : p.state = .opened) (d : Nat) (s : State) : countLeak p d s = s :=
  if_pos (beq_iff_eq.2 opened)

/-- A tap with another leak count. -/
def tapCounted (count : Nat) (p : Tap) : Tap := { p with leakCount := count }

/-- The tap after its litres have been counted while it is not OPEN, and the entry where its mark is new. -/
theorem countLeak_counts {n : Nat} {s : State} {p x : Tap} (number : p.number = n) (shut : p.state ≠ .opened)
    (reads : s.tap? n = some x) (mark : x.leakMark = p.leakMark) (d : Nat) :
    (countLeak p d s).tap? n = some (leaked (min top16 (p.leakCount + d)) x) ∧
    Wrote s (countLeak p d s)
      (if 5 < min top16 (p.leakCount + d) ∧ p.leakMark = false then [.leak n (min top16 (p.leakCount + d)) p.berth] else []) ∧
    (countLeak p d s).pbc = { s.pbc with taps := (countLeak p d s).pbc.taps } ∧
    countLeak p d s = { s with pbc := (countLeak p d s).pbc, evj := (countLeak p d s).evj } := by
  subst number
  have notOpen : ¬(p.state == .opened) = true := fun same => shut (eq_of_beq same)
  rw [countLeak, if_neg notOpen]
  dsimp only
  rw [show satAdd top16 p.leakCount d = min top16 (p.leakCount + d) from rfl]
  generalize min top16 (p.leakCount + d) = count
  by_cases fresh : 5 < count ∧ p.leakMark = false
  · rw [if_pos (by simp [fresh]), if_pos fresh]
    refine ⟨?_, (Wrote.same rfl rfl).trans (wrote_report _ _), rfl, rfl⟩
    rw [tap?_same _ _ (report_frame _ _).2.2.2.2.2.2.2.2.2.2.2.1,
      tap?_self p.number (fun x => { x with leakCount := count, leakMark := true }) s (fun _ => rfl) x reads, leaked]
    simp [fresh.1]
  · have stands : (p.leakMark || decide (5 < count)) = p.leakMark := by
      cases marked : p.leakMark with
      | true => rfl
      | false => simpa [marked] using fresh
    rw [if_neg (by simpa using fresh), if_neg fresh]
    refine ⟨?_, .same rfl rfl, rfl, rfl⟩
    refine (tap?_self p.number (tapCounted count) s (fun _ => rfl) x reads).trans ?_
    rw [leaked, mark, stands, ← mark]
    rfl

section
variable {s : State} {elapsed n : Nat} {sample : Count16} {p : Tap} (reads : s.tap? n = some p)
include reads

theorem meterTap_fresh {restarted : Bool} (fresh : p.volumeBase = none ∨ restarted = true) :
    meterTap restarted elapsed n sample s = changeTap n (volumeBased sample) s := by
  unfold meterTap
  simp only [reads, takeSample_fresh fresh]
  rfl

variable {b : Count16} (base : p.volumeBase = some b)
include base

theorem meterTap_jump (above : 2 * elapsed < (sample - b).toNat) : meterTap false elapsed n sample s =
    report (.meterJump (.tap n) b sample) (changeTap n (volumeBased sample) s) := by
  have many : ¬(sample - b).toNat ≤ Meter.perSecond (.tap n) * elapsed := Nat.not_le.2 above
  unfold meterTap
  simp only [reads, base, takeSample_base, if_neg many]
  rfl

theorem meterTap_good (good : (sample - b).toNat ≤ 2 * elapsed) : meterTap false elapsed n sample s =
    chargeUnits (.tap n) p.berth (sample - b).toNat (countLeak p (sample - b).toNat (changeTap n (volumeBased sample) s)) := by
  have few : (sample - b).toNat ≤ Meter.perSecond (.tap n) * elapsed := good
  unfold meterTap
  simp only [reads, base, takeSample_base, if_pos few]
  rfl

end

/-- What PollRoundsMissesAndAnswers says of a tap's volume counter. -/
theorem meterTap_measures (s : State) (restarted : Bool) (elapsed n : Nat) (sample : Count16) (p : Tap)
    (reads : s.tap? n = some p) :
    let t := meterTap restarted elapsed n sample s
    let based : Tap := { p with volumeBase := some sample }
    (p.volumeBase = none ∨ restarted = true →
      t.tap? n = some based ∧ s.sameTapsBut t n ∧ t = { s with pbc := t.pbc }) ∧
    (∀ b, p.volumeBase = some b → restarted = false →
      let d := (sample - b).toNat
      let count := min top16 (p.leakCount + d)
      (2 * elapsed < d → t.tap? n = some based ∧ s.sameTapsBut t n ∧ s.journalled t (.meterJump (.tap n) b sample) ∧
        t = { s with pbc := t.pbc, evj := t.evj }) ∧
      (d ≤ 2 * elapsed → p.state = .opened → ∃ x, t.tap? n = some x ∧ x.volumeBase = some sample ∧
        x.leakMark = p.leakMark) ∧
      (d ≤ 2 * elapsed → p.state ≠ .opened → ∃ x, t.tap? n = some x ∧ x.volumeBase = some sample ∧ x.leakCount = count ∧
        x.leakMark = (p.leakMark || decide (5 < count))) ∧
      (0 < d → d ≤ 2 * elapsed → s.holder? p.berth = none →
        t.pbc = { s.pbc with taps := t.pbc.taps, unassignedWater := min top32 (s.pbc.unassignedWater + d) } ∧
        s.journalledAll t ((if p.state ≠ .opened ∧ 5 < count ∧ p.leakMark = false then [.leak n count p.berth] else []) ++
          [.usageUnassigned (.tap n) d]) ∧
        t = { s with pbc := t.pbc, evj := t.evj }) ∧
      (∀ berth serial k, 0 < d → d ≤ 2 * elapsed → s.holder? p.berth = some (berth, k) → k.serial = some serial →
        s.booking? berth serial = some k →
        let rate := (s.cfg.tariff s.dck.inForce).waterRate
        k.purse.balance - ((k.purse.remainder + d * rate) / 1000 : Nat) ≥ -(floorCents : Int) →
        ∃ x, t.booking? berth serial = some x ∧ x.water = min top32 (k.water + d) ∧
          x.openDay.water = min top32 (k.openDay.water + d) ∧ x.energy = k.energy ∧
          1000 * x.purse.balance - x.purse.remainder = 1000 * k.purse.balance - k.purse.remainder - d * rate ∧
          x.purse.water + x.purse.balance = k.purse.water + k.purse.balance ∧ x.purse.remainder ≤ 999)) := by
  have based : (changeTap n (volumeBased sample) s).tap? n = some (volumeBased sample p) :=
    tap?_self n (volumeBased sample) s (fun _ => rfl) p reads
  have others (m : Nat) (other : m ≠ n) : (changeTap n (volumeBased sample) s).tap? m = s.tap? m :=
    tap?_other n m (volumeBased sample) s (fun _ => rfl) other
  refine ⟨fun fresh => ?_, fun b base started => ?_⟩
  · rw [meterTap_fresh reads fresh]
    exact ⟨based, ⟨rfl, others⟩, rfl⟩
  subst started
  have shutCounts (shut : p.state ≠ .opened) := countLeak_counts (tap?_number reads) shut based rfl (sample - b).toNat
  refine ⟨fun above => ?_, fun few opened => ?_, fun few shut => ?_, fun positive few free => ?_,
    fun berth serial k positive few holder numbered there => ?_⟩
  · rw [meterTap_jump reads base above]
    exact ⟨based, ⟨rfl, others⟩, journalled_report _ rfl rfl, rfl⟩
  · rw [meterTap_good reads base few, countLeak_opened opened]
    obtain ⟨q, there, same, mark, -⟩ := chargeUnits_tap (m := .tap n) (berth := p.berth) (d := (sample - b).toNat) based
    exact ⟨q, there, same, mark⟩
  · rw [meterTap_good reads base few]
    obtain ⟨counted, -⟩ := shutCounts shut
    obtain ⟨q, there, same, mark, still⟩ := chargeUnits_tap (m := .tap n) (berth := p.berth) (d := (sample - b).toNat) counted
    exact ⟨q, there, same, (still shut).2, mark⟩
  · rw [meterTap_good reads base few]
    by_cases opened : p.state = .opened
    · have holders : (changeTap n (volumeBased sample) s).holder? = s.holder? := holder?_same rfl
      rw [countLeak_opened opened, chargeUnits_none positive ((congrFun holders p.berth).trans free), if_neg (by simp [opened])]
      exact ⟨rfl, journalled_report _ rfl rfl, rfl⟩
    · obtain ⟨-, wrote, pbc, frame⟩ := shutCounts opened
      have holders : (countLeak p (sample - b).toNat (changeTap n (volumeBased sample) s)).holder? = s.holder? := by
        rw [frame]
        exact holder?_same rfl
      rw [chargeUnits_none positive ((congrFun holders p.berth).trans free)]
      have all := (((Wrote.same rfl rfl : Wrote s (changeTap n (volumeBased sample) s) []).trans wrote).trans
        (.same rfl rfl : Wrote _ (addUnassigned (.tap n) (sample - b).toNat
          (countLeak p (sample - b).toNat (changeTap n (volumeBased sample) s))) [])).trans
        (wrote_report (.usageUnassigned (.tap n) (sample - b).toNat) _)
      refine ⟨?_, by simpa [opened] using all.all, ?_⟩
      · rw [(report_frame _ _).2.2.2.2.2.2.2.2.2.2.2.1, addUnassigned, State.setPbc_pbc, pbc]
        rfl
      · generalize countLeak p (sample - b).toNat (changeTap n (volumeBased sample) s) = u at frame ⊢
        rw [frame]
        rfl
  · intro rate above
    rw [meterTap_good reads base few]
    have same : ∃ v w, countLeak p (sample - b).toNat (changeTap n (volumeBased sample) s) = (s.setPbc v).setEvj w := by
      by_cases opened : p.state = .opened
      · rw [countLeak_opened opened]
        exact ⟨(changeTap n (volumeBased sample) s).pbc, s.evj, rfl⟩
      · obtain ⟨-, -, -, frame⟩ := shutCounts opened
        generalize countLeak p (sample - b).toNat (changeTap n (volumeBased sample) s) = u at frame ⊢
        exact ⟨u.pbc, u.evj, frame.trans rfl⟩
    obtain ⟨v, w, counted⟩ := same
    rw [counted]
    have charged := chargeUnits_booking? (m := .tap n) (berth := p.berth) positive (s := (s.setPbc v).setEvj w)
      ((congrFun (holder?_same (s := s) rfl) p.berth).trans holder) numbered (by exact there)
    obtain ⟨energy, water, -, dayWater⟩ := meteredBooking_usage .water ((sample - b).toNat * rate)
      (addUsage (.tap n) (sample - b).toNat k)
    obtain ⟨whole, total, rest⟩ := meteredBooking_whole (c := .water) (milli := (sample - b).toNat * rate)
      (b := addUsage (.tap n) (sample - b).toNat k) above
    exact ⟨_, charged, water, dayWater, energy, by exact_mod_cast whole, total, rest⟩

end Sys2Proof.Machine
end

section
/-! SUPPORT. The currentRead current of an outlet (R93, R97), and the presses of its button and reset key (R94 to R97). -/

namespace Sys2Proof.Machine

/-! ### One outlet changed, its wanted flag with it -/

/-- The outlet of a number has become `x`, and all else at the posts stands. -/
def OutletMoved (s t : State) (n : Nat) (x : Outlet) : Prop := t.outlet? n = some x ∧ s.sameOutletsBut t n

namespace OutletMoved
variable {s t u : State} {n : Nat} {x : Outlet}

theorem start (reads : s.outlet? n = some x) : OutletMoved s s n x := ⟨reads, rfl, fun _ _ => rfl⟩

theorem same (h : OutletMoved s t n x) (pbc : u.pbc = t.pbc) : OutletMoved s u n x := by
  obtain ⟨reads, rest, others⟩ := h
  refine ⟨?_, by rw [pbc]; exact rest, ?_⟩ <;> rw [outlet?_same t u pbc]
  · exact reads
  · exact others

theorem report (h : OutletMoved s t n x) (r : Report) : OutletMoved s (report r t) n x := h.same (by simp)

theorem setWanted (h : OutletMoved s t n x) (o : Outlet) (v : Bool) : OutletMoved s (setWanted o v t) n x := h.same (by simp)

theorem patch (h : OutletMoved s t n x) (f : Outlet → Outlet) (number : ∀ o, (f o).number = o.number) :
    OutletMoved s (patchOutlet n f t) n (f x) := by
  obtain ⟨reads, rest, others⟩ := h
  refine ⟨outlet?_self n f t number x reads, ?_, fun m other => (outlet?_other n m f t number other).trans (others m other)⟩
  rw [patchOutlet, State.setPbc_pbc, rest]

theorem change (h : OutletMoved s t n x) (f : Outlet → Outlet) (number : ∀ o, (f o).number = o.number) :
    OutletMoved s (changeOutlet n f t) n (f x) := (h.patch f number).same (by simp [changeOutlet])

theorem trips (h : OutletMoved s t n x) {o : Outlet} (number : o.number = n) (cause : TripCause) (m : Nat) :
    OutletMoved s (outletTrips o cause m t) n (tripped x) := by
  subst number
  rw [outletTrips_eq]
  exact ((h.change tripped fun _ => rfl).setWanted o false).report _

end OutletMoved

/-- The outlet's wanted flag in its holding booking reads `v` (R95 to R97). -/
def Wants (s t : State) (o : Outlet) (v : Bool) : Prop :=
  ∀ berth serial k, s.holder? o.berth = some (berth, k) → k.serial = some serial → s.booking? berth serial = some k →
    t.booking? berth serial = some (k.setWanted (s.placeIn berth o.number) v)

theorem Wants.same {s t u : State} {o : Outlet} {v : Bool} (h : Wants s t o v) (bst : u.bst = t.bst) : Wants s u o v := by
  intro berth serial k holder numbered reads
  rw [booking?_same t u (by rw [bst])]
  exact h berth serial k holder numbered reads

theorem holder?_eq {s : State} {own : Option Nat} {berth : Nat} {k : Booking} (h : s.holder? own = some (berth, k)) :
    own = some berth ∧ s.holding? berth = some k := by
  unfold State.holder? at h
  obtain ⟨m, listed, holds⟩ := Option.bind_eq_some_iff.1 h
  obtain ⟨b, held, same⟩ := Option.map_eq_some_iff.1 holds
  cases same
  exact ⟨listed, held⟩

theorem wants_setWanted {s t : State} (bst : t.bst = s.bst) (o : Outlet) (v : Bool) : Wants s (setWanted o v t) o v := by
  intro berth serial k holder numbered reads
  obtain ⟨own, holds⟩ := holder?_eq holder
  have berths : t.berth? = s.berth? := berth?_same s t (by rw [bst])
  have holds' : t.holding? berth = some k := by
    rw [← holds]
    simp only [State.holding?, berths]
  have place : t.placeIn berth o.number = s.placeIn berth o.number := by simp only [State.placeIn, berths]
  have reads' : t.booking? berth (k.serial.getD 0) = some k := by
    rw [numbered, Option.getD_some, booking?_same s t (by rw [bst]), reads]
  have wanted := booking?_setWanted own holds' reads' v
  rwa [numbered, Option.getD_some, place] at wanted

theorem outletTrips_wants {s t : State} (bst : t.bst = s.bst) (o : Outlet) (cause : TripCause) (m : Nat) :
    Wants s (outletTrips o cause m t) o false := by
  rw [outletTrips_eq]
  exact (wants_setWanted (s := s) (t := changeOutlet o.number tripped t) (by simp [bst]) o false).same (by simp)

/-! ### The currentRead current (R93, R97) -/

/-- An outlet whose reported fault has been read. -/
def faultRead (fault : Bool) (o : Outlet) : Outlet := { o with faultSeen := fault }

/-- An outlet with its current smoothed and its over-current count (R93, R97). -/
def currentRead (m count : Nat) (o : Outlet) : Outlet := { o with smoothed := (3 * o.smoothed + m + 2) / 4, overCurrent := count }

/-- The over-current count after a reading (R97). -/
def Outlet.overs (o : Outlet) (m : Nat) : Nat := if o.rating.limit < m then o.overCurrent + 1 else 0

section
variable {s : State} {n : Nat} {r : OutletReading} {o : Outlet} (reads : s.outlet? n = some o)
include reads

theorem currentOutlet_live (live : o.state = .live) : currentOutlet n r s =
    (let m := min 1000 r.current
     let s2 := changeOutlet n (currentRead m (o.overs m)) (patchOutlet n (faultRead r.fault) s)
     if r.fault then outletTrips o .fault m s2 else if 3 ≤ o.overs m then outletTrips o .overCurrent m s2 else s2) := by
  unfold currentOutlet
  simp only [reads, live, beq_self_eq_true, if_true]
  rfl

theorem currentOutlet_dead (dead : o.state ≠ .live) : currentOutlet n r s =
    (if r.fault = true ∧ o.state ≠ .tripped then
      outletTrips o .fault (min 1000 r.current) (patchOutlet n (faultRead r.fault) s)
     else patchOutlet n (faultRead r.fault) s) := by
  unfold currentOutlet
  simp only [reads, beq_eq_false_iff_ne.2 dead, Bool.false_eq_true, if_false, Bool.and_eq_true, bne_iff_ne]
  rfl

/-- The outlet after its current has been smoothed. -/
theorem measured_moves (m : Nat) : OutletMoved s (changeOutlet n (currentRead m (o.overs m)) (patchOutlet n (faultRead r.fault) s)) n
    (currentRead m (o.overs m) (faultRead r.fault o)) :=
  ((OutletMoved.start reads).patch (faultRead r.fault) fun _ => rfl).change (currentRead m (o.overs m)) fun _ => rfl

end

/-- What PollRoundsMissesAndAnswers says of an outlet's current and fault. -/
theorem currentOutlet_measures (s : State) (n : Nat) (r : OutletReading) (o : Outlet) (reads : s.outlet? n = some o) :
    let t := currentOutlet n r s
    let m := min 1000 r.current
    let above := o.rating.limit < m
    let seen : Outlet := { o with faultSeen := r.fault }
    let smooth : Outlet := { seen with smoothed := (3 * o.smoothed + m + 2) / 4 }
    let trips (before : Outlet) (cause : TripCause) : Prop :=
      t.outlet? n = some { before with state := .tripped, join := none, restAt := none, overCurrent := 0 } ∧
        t.lastReport = some (.outletTripped n cause m) ∧
        ∀ berth serial k, s.holder? o.berth = some (berth, k) → k.serial = some serial → s.booking? berth serial = some k →
          t.booking? berth serial = some (k.setWanted (s.placeIn berth n) false)
    (o.state = .live → r.fault = true → trips smooth .fault) ∧
    (o.state = .live → r.fault = false → above → 2 ≤ o.overCurrent → trips smooth .overCurrent) ∧
    (o.state = .live → r.fault = false → (above → o.overCurrent < 2) →
      t.outlet? n = some { smooth with overCurrent := if above then o.overCurrent + 1 else 0 } ∧ t.bst = s.bst) ∧
    (o.state ≠ .live → r.fault = true → o.state ≠ .tripped → trips seen .fault) ∧
    (o.state ≠ .live → r.fault = false ∨ o.state = .tripped → t.outlet? n = some seen ∧ t = { s with pbc := t.pbc }) ∧
    s.sameOutletsBut t n ∧ t = { s with bst := t.bst, pbc := t.pbc, lsu := t.lsu, qlc := t.qlc, evj := t.evj } := by
  have number : o.number = n := outlet?_number reads
  have seen := (OutletMoved.start reads).patch (faultRead r.fault) fun _ => rfl
  have smooth := measured_moves (r := r) reads (min 1000 r.current)
  have trip (cause : TripCause) (m : Nat) {t : State} {x : Outlet} (moved : OutletMoved s t n x) (bst : t.bst = s.bst) :
      (outletTrips o cause m t).outlet? n = some (tripped x) ∧
      (outletTrips o cause m t).lastReport = some (.outletTripped n cause m) ∧
      ∀ berth serial k, s.holder? o.berth = some (berth, k) → k.serial = some serial → s.booking? berth serial = some k →
        (outletTrips o cause m t).booking? berth serial = some (k.setWanted (s.placeIn berth n) false) := by
    refine ⟨(moved.trips number cause m).1, ?_, ?_⟩
    · rw [outletTrips_eq, lastReport_report, number]
    · have wants := outletTrips_wants bst o cause m
      rwa [Wants, number] at wants
  refine ⟨fun live fault => ?_, fun live noFault above twice => ?_, fun live noFault few => ?_, fun dead fault up => ?_,
    fun dead quiet => ?_, ?_, ?_⟩
  · rw [currentOutlet_live reads live]
    simp only [fault, if_true]
    rw [fault] at smooth
    exact trip .fault _ smooth (by simp)
  · have third : 3 ≤ o.overs (min 1000 r.current) := by rw [Outlet.overs, if_pos above]; omega
    rw [currentOutlet_live reads live]
    simp only [noFault, Bool.false_eq_true, if_false, if_pos third]
    rw [noFault] at smooth
    exact trip .overCurrent _ smooth (by simp)
  · have less : ¬3 ≤ o.overs (min 1000 r.current) := by
      unfold Outlet.overs
      split
      · next above => have := few above; omega
      · decide
    rw [currentOutlet_live reads live]
    simp only [noFault, Bool.false_eq_true, if_false, if_neg less]
    rw [noFault] at smooth
    exact ⟨smooth.1, by simp⟩
  · rw [currentOutlet_dead reads dead, if_pos ⟨fault, up⟩]
    exact trip .fault _ seen (by simp)
  · have still : ¬(r.fault = true ∧ o.state ≠ .tripped) := by
      rintro ⟨fault, up⟩
      rcases quiet with none | trippedAlready
      · rw [none] at fault; cases fault
      · exact up trippedAlready
    rw [currentOutlet_dead reads dead, if_neg still]
    exact ⟨seen.1, rfl⟩
  · by_cases live : o.state = .live
    · rw [currentOutlet_live reads live]
      dsimp only
      split
      · exact (smooth.trips number _ _).2
      · split
        · exact (smooth.trips number _ _).2
        · exact smooth.2
    · rw [currentOutlet_dead reads live]
      split
      · exact (seen.trips number _ _).2
      · exact seen.2
  · exact State.ext_fields _ _ (by simp)

end Sys2Proof.Machine
end

section
/-! SUPPORT. The presses of an outlet's button and reset key and of a tap's button (R94 to R97, R103). -/

namespace Sys2Proof.Machine

/-! ### How many presses a reading holds (R94) -/

theorem pressDelta_eq (fresh : Bool) (base : Option Num8) (count : Num8) :
    (if fresh then 0 else (base.map fun b => (count - b).toNat).getD 0) = pressDelta fresh base count := by
  cases base with
  | none => cases fresh <;> rfl
  | some b => rfl

theorem pressesOutlet_presses (s : State) (fresh : Bool) (n : Nat) (r : OutletReading) (o : Outlet) (reads : s.outlet? n = some o) :
    let delta (base : Option Num8) (count : Num8) : Nat :=
      if fresh then 0 else (base.map fun b => (count - b).toNat).getD 0
    pressesOutlet fresh n r s = times (pressOutlet n) (delta o.pressBase r.presses)
      (times (pressReset n) (delta o.resetBase r.resets)
        (patchOutlet n (fun x => { x with resetBase := some r.resets, pressBase := some r.presses }) s)) := by
  simp only [pressDelta_eq, pressesOutlet, reads]

theorem pressesTap_presses (s : State) (fresh : Bool) (n : Nat) (r : TapReading) (p : Tap) (reads : s.tap? n = some p) :
    pressesTap fresh n r s =
      times (pressTap n) (if fresh then 0 else (p.pressBase.map fun b => (r.presses - b).toNat).getD 0)
        (changeTap n (fun x => { x with pressBase := some r.presses }) s) := by
  simp only [pressDelta_eq, pressesTap, reads]

/-! ### The outlet's button (R95, R96) -/

section
variable {s : State} {n : Nat} {o : Outlet} (reads : s.outlet? n = some o)
include reads

theorem pressOutlet_off (off : o.state = .off) : pressOutlet n s = (requestOutlet o s).1 := by
  simp only [pressOutlet, reads, off]

theorem pressOutlet_on (on : o.state = .waiting ∨ o.state = .shed ∨ o.state = .live ∨ o.state = .suspended) :
    pressOutlet n s = switchOff o s := by
  rcases on with on | on | on | on <;> simp only [pressOutlet, reads, on]

theorem pressOutlet_tripped (trips : o.state = .tripped) : pressOutlet n s = s := by simp only [pressOutlet, reads, trips]

/-- A refused request to energise (R95). -/
theorem requestOutlet_refused {why : ServiceRefusal} (refusal : s.energiseRefusal o = some why) :
    OutletMoved s (requestOutlet o s).1 n { o with refusedUntil := some (s.now + 5000) } ∧
    s.journalled (requestOutlet o s).1 (.outletRefused n why o.berth) ∧
    (requestOutlet o s).1 = { s with pbc := (requestOutlet o s).1.pbc, evj := (requestOutlet o s).1.evj } := by
  have number := outlet?_number reads
  subst number
  simp only [requestOutlet, refusal]
  exact ⟨((OutletMoved.start reads).patch (refusing (s.now + 5000)) fun _ => rfl).report _, journalled_report _ rfl rfl, rfl⟩

omit reads in
theorem energiseRefusal_standing {h : Nat × Booking} (holder : s.holder? o.berth = some h)
    (bad : h.2.purse.standing = .arrears ∨ h.2.purse.standing = .barred) : s.energiseRefusal o = some .standing := by
  rcases bad with bad | bad <;> simp [State.energiseRefusal, holder, bad]

/-- A request to energise that is allowed (R95, R99). -/
theorem requestOutlet_waits {h : Nat × Booking} (holder : s.holder? o.berth = some h)
    (good : h.2.purse.standing = .good ∨ h.2.purse.standing = .low) :
    Wants s (requestOutlet o s).1 o true ∧
    (requestOutlet o s).1.outlet? n = some (waitingAt s.pbc.counter o) ∧
    (requestOutlet o s).1.pbc =
      { s.pbc with outlets := (requestOutlet o s).1.pbc.outlets, counter := bump32 s.pbc.counter } := by
  obtain ⟨own, holds⟩ := holder?_eq (k := h.2) (berth := h.1) holder
  have number := outlet?_number reads
  subst number
  rw [requestOutlet_good own holds good]
  have taken : (takeNumber (setWanted o true s)).2.pbc = { s.pbc with counter := bump32 s.pbc.counter } := by
    simp [takeNumber]
  have pbc : (setWanted o true s).pbc = s.pbc := by simp
  refine ⟨(wants_setWanted rfl o true).same (by simp), ?_, ?_⟩
  · rw [← pbc]
    refine outlet?_changeOutlet_self _ (waitingAt (setWanted o true s).pbc.counter) (takeNumber (setWanted o true s)).2
      (fun _ => rfl) ?_
    exact (congrFun (outlet?_same s _ pbc) o.number).trans reads
  · unfold outletWaits
    dsimp only
    rw [changeOutlet_pbc, taken]

/-- The outlet switched off (R96). -/
theorem switchOff_moves : OutletMoved s (switchOff o s) n (unpowered .off o) ∧ Wants s (switchOff o s) o false := by
  have number := outlet?_number reads
  subst number
  constructor
  · exact ((OutletMoved.start reads).setWanted o false).change (unpowered .off) fun _ => rfl
  · exact (wants_setWanted rfl o false).same (by simp [switchOff])

/-! ### The reset key (R97) -/

theorem pressReset_resets (trips : o.state = .tripped) (clear : o.faultSeen = false) :
    pressReset n s = outletOff n s := by
  simp only [pressReset, reads]
  rw [if_pos (by simp [trips, clear])]

theorem pressReset_stays (stays : o.state ≠ .tripped ∨ o.faultSeen = true) : pressReset n s = s := by
  have : ¬(o.state == .tripped && !o.faultSeen) = true := by
    rcases stays with stays | stays <;> simp [stays]
  simp only [pressReset, reads]
  rw [if_neg this]

end

/-- What PollRoundsMissesAndAnswers says of a press at an outlet. -/
theorem pressOutlet_presses (s : State) (n : Nat) (o : Outlet) (reads : s.outlet? n = some o) :
    let t := pressOutlet n s
    let refused (why : ServiceRefusal) : Prop :=
      t.outlet? n = some { o with refusedUntil := some (s.now + 5000) } ∧ s.sameOutletsBut t n ∧
        s.journalled t (.outletRefused n why o.berth) ∧ t = { s with pbc := t.pbc, evj := t.evj }
    let wants (v : Bool) : Prop :=
      ∀ berth serial k, s.holder? o.berth = some (berth, k) → k.serial = some serial → s.booking? berth serial = some k →
        t.booking? berth serial = some (k.setWanted (s.placeIn berth n) v)
    (o.state = .off →
      (s.holder? o.berth = none → refused .noBooking) ∧
      (∀ h, s.holder? o.berth = some h →
        (h.2.purse.standing = .arrears ∨ h.2.purse.standing = .barred → refused .standing) ∧
        (h.2.purse.standing = .good ∨ h.2.purse.standing = .low → wants true ∧
          t.outlet? n = some { o with state := .waiting, join := some s.pbc.counter, restAt := none } ∧
          t.pbc = { s.pbc with outlets := t.pbc.outlets, counter := bump32 s.pbc.counter }))) ∧
    (o.state = .waiting ∨ o.state = .shed ∨ o.state = .live ∨ o.state = .suspended → wants false ∧
      t.outlet? n = some { o with state := .off, join := none, restAt := none } ∧ s.sameOutletsBut t n) ∧
    (o.state = .tripped → t = s) ∧
    (let u := pressReset n s
     (o.state = .tripped → o.faultSeen = false →
        u.outlet? n = some { o with state := .off, join := none, restAt := none } ∧ s.sameOutletsBut u n ∧ u.bst = s.bst) ∧
     (o.state ≠ .tripped ∨ o.faultSeen = true → u = s)) := by
  have number : o.number = n := outlet?_number reads
  refine ⟨fun off => ⟨fun free => ?_, fun h holder => ⟨fun bad => ?_, fun good => ?_⟩⟩, fun on => ?_, pressOutlet_tripped reads,
    fun trips clear => ?_, pressReset_stays reads⟩
  · have refusal : s.energiseRefusal o = some .noBooking := by simp [State.energiseRefusal, free]
    rw [pressOutlet_off reads off]
    obtain ⟨⟨read, rest⟩, wrote, frame⟩ := requestOutlet_refused reads refusal
    exact ⟨read, rest, wrote, frame⟩
  · rw [pressOutlet_off reads off]
    obtain ⟨⟨read, rest⟩, wrote, frame⟩ := requestOutlet_refused reads (energiseRefusal_standing holder bad)
    exact ⟨read, rest, wrote, frame⟩
  · rw [pressOutlet_off reads off]
    obtain ⟨wants, read, pbc⟩ := requestOutlet_waits reads holder good
    rw [Wants, number] at wants
    exact ⟨wants, read, pbc⟩
  · rw [pressOutlet_on reads on]
    obtain ⟨⟨read, rest⟩, wants⟩ := switchOff_moves reads
    rw [Wants, number] at wants
    exact ⟨wants, read, rest⟩
  · rw [pressReset_resets reads trips clear]
    obtain ⟨read, rest⟩ := (OutletMoved.start reads).change (unpowered .off) fun _ => rfl
    exact ⟨read, rest, by simp⟩

/-! ### The tap's button (R103) -/

/-- A tap that shows a refusal. -/
def tapRefusing (end_ : Nat) (p : Tap) : Tap := { p with refusedUntil := some end_ }

/-- A tap that has become OPEN. -/
def tapOpened (end_ : Nat) (p : Tap) : Tap := { p with state := .opened, runAt := some end_ }

theorem moveTap_opened (n end_ : Nat) : moveTap n .opened (some end_) = changeTap n (tapOpened end_) := by
  unfold moveTap
  refine congrArg (changeTap n) (funext fun p => ?_)
  simp only [bne_self_eq_false, Bool.and_false, Bool.false_eq_true, if_false, tapOpened]

/-- The tap of a number has become `x`, and all else at the posts stands. -/
theorem changeTap_moves {s : State} {n : Nat} {p : Tap} (reads : s.tap? n = some p) (f : Tap → Tap)
    (number : ∀ p, (f p).number = p.number) : (changeTap n f s).tap? n = some (f p) ∧ s.sameTapsBut (changeTap n f s) n :=
  ⟨tap?_self n f s number p reads, rfl, fun m other => tap?_other n m f s number other⟩

section
variable {s : State} {n : Nat} {p : Tap} (reads : s.tap? n = some p)
include reads

/-- A refused press of a tap's button. -/
theorem tapRefused_moves (why : ServiceRefusal) :
    let t := report (.tapRefused n why) (changeTap n (tapRefusing (s.now + 5000)) s)
    (t.tap? n = some { p with refusedUntil := some (s.now + 5000) } ∧ s.journalled t (.tapRefused n why)) ∧
    s.sameTapsBut t n ∧ t = { s with pbc := t.pbc, evj := t.evj } := by
  obtain ⟨read, rest, others⟩ := changeTap_moves reads (tapRefusing (s.now + 5000)) fun _ => rfl
  exact ⟨⟨read, journalled_report _ rfl rfl⟩, ⟨rest, others⟩, rfl⟩

theorem pressTap_locked (locked : p.state = .locked) :
    pressTap n s = report (.tapRefused n .standing) (changeTap n (tapRefusing (s.now + 5000)) s) := by
  simp only [pressTap, reads, locked]
  rfl

theorem pressTap_opened (opened : p.state = .opened) : pressTap n s = changeTap n tapClosed s := by
  simp only [pressTap, reads, opened, moveTap_closed]

variable (closed : p.state = .closed)
include closed

theorem pressTap_leaking (marked : p.leakMark = true) :
    pressTap n s = report (.tapRefused n .leak) (changeTap n (tapRefusing (s.now + 5000)) s) := by
  simp only [pressTap, reads, closed, marked, if_true]
  rfl

variable (sound : p.leakMark = false)
include sound

theorem pressTap_unheld (free : s.holder? p.berth = none) :
    pressTap n s = report (.tapRefused n .noBooking) (changeTap n (tapRefusing (s.now + 5000)) s) := by
  simp only [pressTap, reads, closed, sound, Bool.false_eq_true, if_false, free]
  rfl

variable {h : Nat × Booking} (holder : s.holder? p.berth = some h)
include holder

theorem pressTap_barred (barred : h.2.purse.standing = .barred) :
    pressTap n s = report (.tapRefused n .standing) (changeTap n (tapRefusing (s.now + 5000)) s) := by
  simp only [pressTap, reads, closed, sound, Bool.false_eq_true, if_false, holder, barred, beq_self_eq_true, if_true]
  rfl

theorem pressTap_opens (allowed : h.2.purse.standing ≠ .barred) :
    pressTap n s = changeTap n (tapOpened (s.now + s.cfg.runLimit * 60000)) s := by
  simp only [pressTap, reads, closed, sound, Bool.false_eq_true, if_false, holder, beq_eq_false_iff_ne.2 allowed, moveTap_opened]

end

/-- A press of a tap's button changes that tap alone. -/
theorem pressTap_changes {s : State} {n : Nat} {p : Tap} (reads : s.tap? n = some p) :
    (∃ why, pressTap n s = report (.tapRefused n why) (changeTap n (tapRefusing (s.now + 5000)) s)) ∨
    pressTap n s = changeTap n tapClosed s ∨ pressTap n s = changeTap n (tapOpened (s.now + s.cfg.runLimit * 60000)) s := by
  cases state : p.state with
  | opened => exact .inr (.inl (pressTap_opened reads state))
  | locked => exact .inl ⟨_, pressTap_locked reads state⟩
  | closed =>
    cases marked : p.leakMark with
    | true => exact .inl ⟨_, pressTap_leaking reads state marked⟩
    | false =>
      cases holder : s.holder? p.berth with
      | none => exact .inl ⟨_, pressTap_unheld reads state marked holder⟩
      | some h =>
        by_cases barred : h.2.purse.standing = .barred
        · exact .inl ⟨_, pressTap_barred reads state marked holder barred⟩
        · exact .inr (.inr (pressTap_opens reads state marked holder barred))

/-- What PollRoundsMissesAndAnswers says of a press at a tap. -/
theorem pressTap_presses (s : State) (n : Nat) (p : Tap) (reads : s.tap? n = some p) :
    let t := pressTap n s
    let refused (why : ServiceRefusal) : Prop :=
      t.tap? n = some { p with refusedUntil := some (s.now + 5000) } ∧ s.journalled t (.tapRefused n why)
    (p.state = .opened → t.tap? n = some { p with state := .closed, runAt := none, leakCount := 0 } ∧ t.evj = s.evj) ∧
    (p.state = .locked → refused .standing) ∧
    (p.state = .closed → p.leakMark = true → refused .leak) ∧
    (p.state = .closed → p.leakMark = false → s.holder? p.berth = none → refused .noBooking) ∧
    (∀ h, p.state = .closed → p.leakMark = false → s.holder? p.berth = some h →
      (h.2.purse.standing = .barred → refused .standing) ∧
      (h.2.purse.standing ≠ .barred → t.evj = s.evj ∧
        t.tap? n = some { p with state := .opened, runAt := some (s.now + s.cfg.runLimit * 60000) })) ∧
    s.sameTapsBut t n ∧ t = { s with pbc := t.pbc, evj := t.evj } := by
  have refused := tapRefused_moves reads
  have closes := changeTap_moves reads tapClosed fun _ => rfl
  have opens := changeTap_moves reads (tapOpened (s.now + s.cfg.runLimit * 60000)) fun _ => rfl
  refine ⟨fun opened => ?_, fun locked => ?_, fun closed marked => ?_, fun closed sound free => ?_,
    fun h closed sound holder => ⟨fun barred => ?_, fun allowed => ?_⟩, ?_⟩
  · rw [pressTap_opened reads opened]
    refine ⟨closes.1.trans ?_, rfl⟩
    simp only [tapClosed, opened, beq_self_eq_true, if_true]
  · rw [pressTap_locked reads locked]
    exact (refused .standing).1
  · rw [pressTap_leaking reads closed marked]
    exact (refused .leak).1
  · rw [pressTap_unheld reads closed sound free]
    exact (refused .noBooking).1
  · rw [pressTap_barred reads closed sound holder barred]
    exact (refused .standing).1
  · rw [pressTap_opens reads closed sound holder allowed]
    exact ⟨rfl, opens.1⟩
  · rcases pressTap_changes reads with ⟨why, pressed⟩ | pressed | pressed <;> rw [pressed]
    · exact (refused why).2
    · exact ⟨closes.2, rfl⟩
    · exact ⟨opens.2, rfl⟩

end Sys2Proof.Machine
end

section
/-! SUPPORT. The poll round: rounds, misses and good Answers (R89, R91, R92). -/

namespace Sys2Proof.Machine

/-! ### What a good Answer leaves of the posts and of the round -/

theorem post?_same {s t : State} (posts : t.pbc.posts = s.pbc.posts) : t.post? = s.post? := by
  funext n
  simp only [State.post?, posts]

theorem roundAs_meterOutlet (restarted : Bool) (elapsed n : Nat) (sample : Count16) (s : State) :
    RoundAs s (meterOutlet restarted elapsed n sample s) := by
  have charged (m : Meter) (berth : Option Nat) (d : Nat) (s : State) :=
    chargeUnits_steps roundAs_steps (fun m _ _ => by cases m <;> rfl) m berth d s
  unfold meterOutlet
  split
  · rfl
  · next o _ =>
    have based : RoundAs s (patchOutlet n (energyBased sample) s) := rfl
    dsimp only
    split
    · exact based
    · exact roundAs_steps.trans _ _ _ based (charged _ _ _ _)
    · exact roundAs_steps.report based _

theorem roundAs_countLeak (p : Tap) (litres : Nat) (s : State) : RoundAs s (countLeak p litres s) := by
  unfold countLeak
  refine Background.ite rfl ?_
  dsimp only
  split
  · exact roundAs_steps.report (t := changeTap p.number _ s) rfl _
  · rfl

theorem roundAs_meterTap (restarted : Bool) (elapsed n : Nat) (sample : Count16) (s : State) :
    RoundAs s (meterTap restarted elapsed n sample s) := by
  unfold meterTap
  split
  · rfl
  · next p _ =>
    have based : RoundAs s (changeTap n (volumeBased sample) s) := rfl
    dsimp only
    split
    · exact based
    · next d _ =>
      refine roundAs_steps.trans _ _ _ (roundAs_steps.trans _ _ _ based (roundAs_countLeak p d _)) ?_
      exact chargeUnits_steps roundAs_steps (fun m _ _ => by cases m <;> rfl) _ _ _ _
    · exact roundAs_steps.report based _

theorem roundAs_currentOutlet (n : Nat) (r : OutletReading) (s : State) : RoundAs s (currentOutlet n r s) := by
  cases reads : s.outlet? n with
  | none =>
    simp only [currentOutlet, reads]
    rfl
  | some o =>
    obtain ⟨-, -, -, -, -, ⟨rest, -⟩, -⟩ := currentOutlet_measures s n r o reads
    rw [RoundAs, rest]

/-- An outlet with new baselines of its presses. -/
def pressBased (r : OutletReading) (o : Outlet) : Outlet := { o with resetBase := some r.resets, pressBase := some r.presses }

/-- A tap with a new baseline of its presses. -/
def tapPressBased (r : TapReading) (p : Tap) : Tap := { p with pressBase := some r.presses }

theorem roundAs_pressesOutlet (fresh : Bool) (n : Nat) (r : OutletReading) (s : State) :
    RoundAs s (pressesOutlet fresh n r s) := by
  unfold pressesOutlet
  split
  · rfl
  · have based : RoundAs s (patchOutlet n (pressBased r) s) := rfl
    exact roundAs_steps.trans _ _ _ (roundAs_steps.trans _ _ _ based (roundAs_steps.times (roundAs_steps.pressReset n) _ _))
      (roundAs_steps.times (roundAs_steps.pressOutlet n) _ _)

theorem roundAs_pressTap (n : Nat) (s : State) : RoundAs s (pressTap n s) := by
  cases reads : s.tap? n with
  | none =>
    simp only [pressTap, reads]
    rfl
  | some p =>
    obtain ⟨-, -, -, -, -, ⟨rest, -⟩, -⟩ := pressTap_presses s n p reads
    rw [RoundAs, rest]

theorem roundAs_pressesTap (fresh : Bool) (n : Nat) (r : TapReading) (s : State) : RoundAs s (pressesTap fresh n r s) := by
  unfold pressesTap
  split
  · rfl
  · have based : RoundAs s (changeTap n (tapPressBased r) s) := rfl
    exact roundAs_steps.trans _ _ _ based (roundAs_steps.times (roundAs_pressTap n) _ _)

/-- After its post is heard, an Answer leaves the posts and the round. -/
theorem answerSteps_round (p : Post) (a : PostAnswer) (s : State) :
    RoundAs (postHeard p a.restart s) (answerSteps p a s) := by
  have fold {α : Type} (f : State → α → State) (h : ∀ s a, RoundAs s (f s a)) (l : List α) {s t : State} (round : RoundAs s t) :
      RoundAs s (l.foldl f t) := roundAs_steps.trans _ _ _ round (roundAs_steps.foldl h l t)
  unfold answerSteps
  dsimp only
  exact fold _ (fun x r => roundAs_pressesTap _ _ _ x) _ (fold _ (fun x r => roundAs_pressesOutlet _ _ _ x) _
    (fold _ (fun x r => roundAs_currentOutlet _ _ x) _ (fold _ (fun x r => roundAs_meterTap _ _ _ _ x) _
      (fold _ (fun x r => roundAs_meterOutlet _ _ _ _ x) _ (roundAs_steps.refl _)))))

/-! ### A post heard, or postMissed (R91, R92) -/

/-- A post that has answered. -/
def postOnline (restart : Num8) (p : Post) : Post := { p with misses := 0, state := .online, restart := some restart }

/-- A post with its last good time. -/
def postAnswered (at_ : Nat) (p : Post) : Post := { p with lastGood := some at_ }

/-- A post after a miss. -/
def postMissed (p : Post) : Post := { p with misses := p.misses + 1 }

/-- A post after its third miss. -/
def postLost (p : Post) : Post := { p with misses := 3, state := .offline }

theorem post?_changed {s : State} {n : Nat} {p : Post} (reads : s.post? n = some p) (f : Post → Post)
    (keeps : ∀ p, (f p).cfg = p.cfg) : (changePost n f s).post? n = some (f p) := by
  rw [post?_changePost _ _ _ _ keeps, reads, Option.map_some, if_pos (by simp [post?_number reads])]

/-- Hearing a post changes no other part of PBC than the posts. -/
theorem postHeard_pbc (p : Post) (restart : Num8) (s : State) :
    (postHeard p restart s).pbc = (changePost p.cfg.number (postOnline restart) s).pbc := by
  have back : (if p.state == .offline then
        report (.postOnline p.cfg.number (p.lastGood.map fun t => s.seconds - t))
          (noteLoad (changePost p.cfg.number (postOnline restart) s))
      else changePost p.cfg.number (postOnline restart) s).pbc = (changePost p.cfg.number (postOnline restart) s).pbc := by
    split
    · simp
    · rfl
  refine Eq.trans ?_ back
  unfold postHeard
  dsimp only
  split
  · split
    · rfl
    · rw [(report_frame _ _).2.2.2.2.2.2.2.2.2.2.2.1]
      rfl
  · rfl

theorem missPost_pbc {s : State} {n : Nat} {p : Post} (reads : s.post? n = some p) (known : p.state ≠ .offline) :
    (missPost n s).pbc = (changePost n (if 2 ≤ p.misses then postLost else postMissed) s).pbc := by
  simp only [missPost, reads, beq_eq_false_iff_ne.2 known, Bool.false_eq_true, if_false]
  split
  · simp
    rfl
  · rfl

/-! ### The next post of the round (R89) -/

/-- An event whose changes leave PBC leaves the posts and the round. -/
theorem roundAs_event {f : State → State} {s : State} (keeps : (f s).pbc = s.pbc) : RoundAs s (event f s) :=
  roundAs_steps.trans _ _ _ (roundAs_steps.same s (f s) keeps) (roundAs_steps.settled s _)

theorem firstRoundDone_ends (s : State) : (firstRoundDone s).pbc.firstRound = true ∧
    (firstRoundDone s).pbc.polling = s.pbc.polling ∧ (firstRoundDone s).pbc.posts = s.pbc.posts := by
  have ends {t : State} (round : RoundAs (s.setPbc { s.pbc with firstRound := true }) t) :
      t.pbc.firstRound = true ∧ t.pbc.polling = s.pbc.polling ∧ t.pbc.posts = s.pbc.posts := by
    rw [RoundAs] at round
    rw [round]
    exact ⟨rfl, rfl, rfl⟩
  unfold firstRoundDone
  split
  · next done => exact ⟨done, rfl, rfl⟩
  · exact ends (roundAs_event (by simp))

theorem nextPoll_posts (s : State) : (nextPoll s).pbc.posts = s.pbc.posts := by
  unfold nextPoll
  split
  · exact (firstRoundDone_ends _).2.2
  · split <;> rfl

theorem nextPoll_goesOn {s : State} {m : Nat} {rest : List Nat} (waits : s.pbc.toPoll = m :: rest) :
    (nextPoll s).pbc.polling = some m ∧ (nextPoll s).pbc.toPoll = rest := by
  simp only [nextPoll, waits]
  split <;> exact ⟨rfl, rfl⟩

theorem nextPoll_ends {s : State} (done : s.pbc.toPoll = []) :
    (nextPoll s).pbc.polling = none ∧ (nextPoll s).pbc.firstRound = true := by
  have last : nextPoll s = firstRoundDone (s.setPbc { s.pbc with polling := none }) := by
    unfold nextPoll
    split
    · rfl
    · next waits => exact nomatch done.symm.trans waits
  rw [last]
  obtain ⟨first, polling, -⟩ := firstRoundDone_ends (s.setPbc { s.pbc with polling := none })
  exact ⟨polling, first⟩

/-! ### The three commands -/

theorem exec_pollRoundTimer_polls (s : State) (p : Post) (rest : List Post) (up : s.up = true)
    (posts : s.pbc.posts = p :: rest) :
    ∃ t, exec .pollRoundTimer s = .next t ∧ t.now = max s.now s.pbc.roundAt ∧
      t.pbc = { s.pbc with
        roundAt := s.pbc.roundAt + 1000, polling := some p.cfg.number, toPoll := rest.map fun x => x.cfg.number,
        poll := some (t.pollOf p) } ∧
      t = { s with now := t.now, pbc := t.pbc } := by
  have first : s.post? p.cfg.number = some p := by
    rw [State.post?, posts, List.find?_cons_of_pos (by simp)]
  have polls : exec .pollRoundTimer s = .next (nextPoll ((reach s.pbc.roundAt s).setPbc { s.pbc with
      roundAt := s.pbc.roundAt + 1000, toPoll := p.cfg.number :: rest.map fun x => x.cfg.number })) := by
    simp only [exec, execPollRoundTimer, whenUp, up, if_true]
    rw [if_neg (by simp [posts])]
    simp only [reach_frame, posts, List.map_cons]
  refine ⟨_, polls, ?_⟩
  have next : ((reach s.pbc.roundAt s).setPbc { s.pbc with
      roundAt := s.pbc.roundAt + 1000, toPoll := p.cfg.number :: rest.map fun x => x.cfg.number }).post? p.cfg.number =
      some p := first
  simp only [nextPoll, State.setPbc_pbc, next]
  exact ⟨rfl, rfl, rfl⟩

theorem exec_postMiss_counts (s : State) (n : Nat) (p : Post) (up : s.up = true) (polled : s.pbc.polling = some n)
    (reads : s.post? n = some p) (known : p.state ≠ .offline) :
    ∃ t, exec .postMiss s = .next t ∧
      t.post? n = some (if 2 ≤ p.misses then { p with misses := 3, state := .offline }
        else { p with misses := p.misses + 1 }) ∧
      (∀ m rest, s.pbc.toPoll = m :: rest → t.pbc.polling = some m ∧ t.pbc.toPoll = rest) ∧
      (s.pbc.toPoll = [] → t.pbc.polling = none ∧ t.pbc.firstRound = true) ∧
      t = { s with pbc := t.pbc, lsu := t.lsu, qlc := t.qlc, evj := t.evj } := by
  have miss : exec .postMiss s = .next (nextPoll (event (missPost n) s)) := by
    simp only [exec, execPostMiss, whenUp, up, if_true, polled]
  have pbc := missPost_pbc reads known
  have round : RoundAs (missPost n s) (event (missPost n) s) := roundAs_steps.settled s _
  have posts : (event (missPost n) s).pbc.posts =
      (changePost n (if 2 ≤ p.misses then postLost else postMissed) s).pbc.posts := by rw [round.posts, pbc]
  have toPoll : (event (missPost n) s).pbc.toPoll = s.pbc.toPoll := by
    rw [round.toPoll, pbc]
    rfl
  refine ⟨_, miss, ?_, fun m rest waits => nextPoll_goesOn (toPoll.trans waits), fun done => nextPoll_ends (toPoll.trans done),
    State.ext_fields _ _ (by simp)⟩
  rw [post?_same ((nextPoll_posts _).trans posts), post?_changed reads _ fun _ => by split <;> rfl]
  split <;> rfl

theorem exec_postAnswer_takes (s : State) (n : Nat) (p : Post) (a : PostAnswer) (up : s.up = true)
    (polled : s.pbc.polling = some n) (reads : s.post? n = some p) :
    ∃ t, exec (.postAnswer n a) s = .next t ∧
      (let restarted := p.restart != some a.restart
       let elapsed := max 1 (s.seconds - p.lastGood.getD s.seconds)
       let fresh := restarted || p.state == .offline
       let outlets := (p.cfg.outlets.map OutletCfg.number).zip a.outlets
       let taps := p.cfg.taps.zip a.taps
       let energies := outlets.foldl (fun x r => meterOutlet restarted elapsed r.1 r.2.energy x) (postHeard p a.restart s)
       let volumes := taps.foldl (fun x r => meterTap restarted elapsed r.1 r.2.volume x) energies
       let currents := outlets.foldl (fun x r => currentOutlet r.1 r.2 x) volumes
       let buttons := outlets.foldl (fun x r => pressesOutlet fresh r.1 r.2 x) currents
       let answered := settlePosts (taps.foldl (fun x r => pressesTap fresh r.1 r.2 x) buttons)
       t = nextPoll (changePost n (fun x => { x with lastGood := some s.seconds }) answered)) ∧
      t.post? n = some { p with misses := 0, state := .online, restart := some a.restart, lastGood := some s.seconds } ∧
      (∀ m rest, s.pbc.toPoll = m :: rest → t.pbc.polling = some m ∧ t.pbc.toPoll = rest) ∧
      t = { s with bst := t.bst, acu := t.acu, pbc := t.pbc, lsu := t.lsu, qlc := t.qlc, evj := t.evj } := by
  have number : p.cfg.number = n := post?_number reads
  have taken : exec (.postAnswer n a) s = .next (nextPoll (takePostAnswer p a s)) := by
    simp only [exec, execPostAnswer, whenUp, up, if_true, polled, reads]
  have heard := postHeard_pbc p a.restart s
  have round : RoundAs (postHeard p a.restart s) (settlePosts (answerSteps p a s)) :=
    roundAs_steps.trans _ _ _ (answerSteps_round p a s) (roundAs_steps.settlePosts _)
  have toPoll : (takePostAnswer p a s).pbc.toPoll = s.pbc.toPoll := by
    refine (round.toPoll.trans ?_ : (settlePosts (answerSteps p a s)).pbc.toPoll = _)
    rw [heard]
    rfl
  have online : (settlePosts (answerSteps p a s)).post? n = some (postOnline a.restart p) := by
    have posts : (settlePosts (answerSteps p a s)).pbc.posts = (changePost n (postOnline a.restart) s).pbc.posts := by
      rw [round.posts, heard, number]
    rw [post?_same posts, post?_changed reads (postOnline a.restart) fun _ => rfl]
  refine ⟨_, taken, ?_, ?_, fun m rest waits => nextPoll_goesOn (toPoll.trans waits), State.ext_fields _ _ (by simp)⟩
  · subst number
    rfl
  · rw [post?_same (nextPoll_posts _), takePostAnswer, number]
    exact post?_changed online (postAnswered s.seconds) fun _ => rfl

/-- Settles O24: the poll round by its three commands, and each part of an Answer by the records it changes. -/
theorem pollRoundsMissesAndAnswers : Obligations.PollRoundsMissesAndAnswers :=
  ⟨exec_pollRoundTimer_polls, exec_postMiss_counts, exec_postAnswer_takes, meterOutlet_measures, meterTap_measures,
    currentOutlet_measures, pressesOutlet_presses, pressOutlet_presses, pressesTap_presses, pressTap_presses⟩

end Sys2Proof.Machine
end

section
/-! SUPPORT. BST loads its slots: the statements, the station record and the bookings (R23). -/

namespace Sys2Proof.Machine

/-- A record lost: queued for writing, with these entries, and nothing else (R23). -/
def Freed (s u : State) (id : RecordId) (notes : List Report) : Prop :=
  u.dirtyRecord id ∧ s.journalledAll u notes ∧
    u.bst = { s.bst with queue := u.bst.queue, inFlight := u.bst.inFlight } ∧ u = { s with bst := u.bst, evj := u.evj }

/-- A record queued behind entries written. -/
theorem freed_queueRecord {s t : State} {notes : List Report} (wrote : Wrote s t notes) (frame : t = { s with evj := t.evj })
    (id : RecordId) : Freed s (queueRecord id t) id notes := by
  have only : queueRecord id t = t.setBst { t.bst with
      queue := (queueRecord id t).bst.queue, inFlight := (queueRecord id t).bst.inFlight } := queueRecord_only id t
  have dirty := queueRecord_dirty id t
  generalize queueRecord id t = u at only dirty ⊢
  refine ⟨dirty, (wrote.trans (.same (by rw [only]; rfl) (by rw [only]; rfl) : Wrote t u [])).all.trans (by simp), ?_, ?_⟩ <;>
    rw [only, frame] <;> rfl

theorem loseRecord_frees (s : State) (id : RecordId) (berth : Option Nat) :
    Freed s (loseRecord id berth s) id [.recordLost id berth] :=
  freed_queueRecord (wrote_report _ s) rfl id

/-- A sound record of a slot, by its content. -/
theorem record_eq {r : StoredRecord} {id : RecordId} {c : Content} :
    r = ⟨true, id, c⟩ ↔ soundRecord id r = true ∧ r.content = c := by
  obtain ⟨good, own, content⟩ := r
  simp [soundRecord, and_assoc]

/-! ### Statements -/

section
variable {s : State} {n : Nat}

theorem loadStatement_empty (r : storedAt (.statement n) s.store = ⟨true, .statement n, .empty⟩) : loadStatement n s = s := by
  obtain ⟨sound, content⟩ := record_eq.1 r
  simp only [loadStatement, sound, content, if_true]

theorem loadStatement_statement {x : Statement} (r : storedAt (.statement n) s.store = ⟨true, .statement n, .statement x⟩) :
    loadStatement n s = s.setBst { s.bst with
      statements := insertBy (fun x y => x.ending ≤ y.ending) { x with slot := n } s.bst.statements } := by
  obtain ⟨sound, content⟩ := record_eq.1 r
  simp only [loadStatement, sound, content, if_true]

theorem loadStatement_lost (notEmpty : storedAt (.statement n) s.store ≠ ⟨true, .statement n, .empty⟩)
    (other : ∀ x, storedAt (.statement n) s.store ≠ ⟨true, .statement n, .statement x⟩) :
    loadStatement n s = loseRecord (.statement n) none s := by
  unfold loadStatement
  dsimp only
  split
  · next sound =>
    split
    · next x content => exact absurd (record_eq.2 ⟨sound, content⟩) (other x)
    · next content => exact absurd (record_eq.2 ⟨sound, content⟩) notEmpty
    · rfl
  · rfl

end

/-- What ResetsAndTheEndOfTheLoad says of a statement slot. -/
theorem loadStatement_loads (s : State) (n : Nat) :
    let r := storedAt (.statement n) s.store
    let u := loadStatement n s
    (r = ⟨true, .statement n, .empty⟩ → u = s) ∧
    (∀ x, r = ⟨true, .statement n, .statement x⟩ →
      u.bst.statements.Perm ({ x with slot := n } :: s.bst.statements) ∧
      (s.bst.statements.Pairwise (fun x y => x.ending ≤ y.ending) →
        u.bst.statements.Pairwise fun x y => x.ending ≤ y.ending) ∧
      u = s.setBst { s.bst with statements := u.bst.statements }) ∧
    (r ≠ ⟨true, .statement n, .empty⟩ → (∀ x, r ≠ ⟨true, .statement n, .statement x⟩) →
      Freed s u (.statement n) [.recordLost (.statement n) none]) := by
  refine ⟨loadStatement_empty, fun x r => ?_, fun notEmpty other => ?_⟩
  · rw [loadStatement_statement r]
    exact ⟨insertBy_perm _ _ _, insertBy_sorted Statement.ending _ _, rfl⟩
  · rw [loadStatement_lost notEmpty other]
    exact loseRecord_frees s _ _

/-! ### The station record -/

theorem stationRecord?_some {r : StoredRecord} {next last : Nat} : stationRecord? r = some (next, last) ↔
    r = ⟨true, .station, .station next last⟩ ∧ 1 ≤ next ∧ next ≤ 65535 ∧ last ≤ 4294967295 := by
  unfold stationRecord?
  rw [record_eq]
  split
  · next a b content =>
    rw [content]
    constructor
    · intro h
      split at h
      · next ok =>
        cases h
        simp only [Bool.and_eq_true, within, decide_eq_true_eq, top32] at ok
        obtain ⟨⟨sound, low, high⟩, last⟩ := ok
        exact ⟨⟨sound, rfl⟩, low, high, last⟩
      · cases h
    · rintro ⟨⟨sound, same⟩, low, high, last⟩
      cases same
      exact if_pos (by simp [sound, within, low, high, top32, last])
  · next other =>
    constructor
    · exact nofun
    · rintro ⟨⟨-, content⟩, -⟩
      exact absurd content (other _ _)

theorem foldl_max_top {l : List Nat} {k : Nat} (mem : k ∈ l) (top : ∀ j ∈ l, j ≤ k) : l.foldl max 0 = k := by
  obtain ⟨-, above, among⟩ := foldl_max l 0
  have := above k mem
  rcases among with zero | among
  · omega
  · have := top _ among
    omega

/-- What ResetsAndTheEndOfTheLoad says of the station record. -/
theorem loadStation_loads (s : State) :
    let r := storedAt .station s.store
    let u := loadStation s
    let v := rebuildStation s
    let sound (next last : Nat) : Prop :=
      r = ⟨true, .station, .station next last⟩ ∧ 1 ≤ next ∧ next ≤ 65535 ∧ last ≤ 4294967295
    (∀ next last, sound next last → u = (s.setBst { s.bst with nextSerial := next, lastEnding := last }, true)) ∧
    ((∀ next last, ¬sound next last) →
      u.2 = false ∧ s.journalled u.1 (.recordLost .station none) ∧ u.1 = { s with evj := u.1.evj }) ∧
    v.dirtyRecord .station ∧
    (∀ x ∈ s.bst.statements, x.ending ≤ v.bst.lastEnding) ∧
    (v.bst.lastEnding = 0 ∨ ∃ x ∈ s.bst.statements, x.ending = v.bst.lastEnding) ∧
    (s.serials = [] → v.bst.nextSerial = 1) ∧
    (∀ k ∈ s.serials, (∀ j ∈ s.serials, j ≤ k) → v.bst.nextSerial = if k < 65535 then k + 1 else 1) ∧
    v = s.setBst { s.bst with
      lastEnding := v.bst.lastEnding, nextSerial := v.bst.nextSerial, queue := v.bst.queue, inFlight := v.bst.inFlight } := by
  have only : QueueOnly _ (rebuildStation s) := queueRecord_only .station (s.setBst { s.bst with
    lastEnding := (s.bst.statements.map Statement.ending).foldl max 0, nextSerial := serialAfter (s.serials.foldl max 0) })
  have last : (rebuildStation s).bst.lastEnding = (s.bst.statements.map Statement.ending).foldl max 0 := by rw [only]; rfl
  have next : (rebuildStation s).bst.nextSerial = serialAfter (s.serials.foldl max 0) := by rw [only]; rfl
  obtain ⟨-, above, among⟩ := foldl_max (s.bst.statements.map Statement.ending) 0
  refine ⟨fun next last sound => ?_, fun none => ?_, queueRecord_dirty _ _, fun x mem => ?_, ?_, fun empty => ?_,
    fun k mem top => ?_, ?_⟩
  · rw [loadStation, stationRecord?_some.2 sound]
  · have lost : stationRecord? (storedAt .station s.store) = Option.none := by
      refine Option.eq_none_iff_forall_ne_some.2 fun p found => none p.1 p.2 (stationRecord?_some.1 found)
    rw [loadStation, lost]
    exact ⟨rfl, journalled_report _ rfl rfl, rfl⟩
  · rw [last]
    exact above _ (List.mem_map_of_mem mem)
  · rw [last]
    rcases among with zero | among
    · exact .inl zero
    · exact .inr (by simpa using among)
  · rw [next, empty]
    rfl
  · rw [next, foldl_max_top mem top]
    rfl
  · rw [only]
    rfl

/-! ### Bookings -/

theorem roomFor_iff {s : State} {berth : Nat} {b : Booking} : s.roomFor berth b = true ↔
    ∃ x, s.berth? berth = some x ∧ canInsert x.bookings b.stay.arrival b.stay.departure = true ∧
      b.serial.getD 0 ∉ s.serials := by
  unfold State.roomFor
  cases s.berth? berth with
  | none => simp
  | some x => simp

theorem fieldsOk_stored {b : Booking} (ok : b.fieldsOk = true) : b.state ≠ .tentative ∧ b.stay.arrival < b.stay.departure := by
  simp only [Booking.fieldsOk, Bool.and_eq_true, decide_eq_true_eq, bne_iff_ne] at ok
  tauto

/-- The entries for the tags of a stored booking that other bookings hold (R23). -/
def clashNotes (s : State) (b : Booking) : List Report :=
  (b.tags.filter fun t => s.liveBookings.any fun p => p.2.tags.contains t).map fun t => .tagClash t none none

/-- The state in which a stored booking's tag clashes have been written. -/
def clashed (s : State) (b : Booking) : State :=
  (b.tags.filter fun t => s.liveBookings.any fun p => p.2.tags.contains t).foldl
    (fun x t => report (.tagClash t none none) x) s

/-- A berth with a booking entered. -/
def berthWith (b : Booking) (x : Berth) : Berth := { x with bookings := insertBooking b x.bookings }

theorem berth?_entered (n m : Nat) (b : Booking) (s : State) : (onBerth n (berthWith b) s).berth? m =
    (s.berth? m).map fun x => if x.cfg.number == n then berthWith b x else x := berth?_onBerth n m (berthWith b) s fun _ => rfl

theorem clashed_wrote (s : State) (b : Booking) :
    Wrote s (clashed s b) (clashNotes s b) ∧ clashed s b = { s with evj := (clashed s b).evj } :=
  wrote_reports (fun t => .tagClash t none none) _ s

theorem freeTags_filter (s : State) (b : Booking) : (b.tags.filter fun t => !(s.freeTags b.tags).contains t) =
    b.tags.filter fun t => s.liveBookings.any fun p => p.2.tags.contains t := by
  refine List.filter_congr fun t mem => ?_
  rw [Bool.eq_iff_iff]
  simp [State.freeTags, mem]

theorem hasEnded_iff {s : State} {berth : Nat} {b : Booking} : s.hasEnded berth b = true ↔
    ∃ y ∈ s.bst.statements, y.berth = berth ∧ some y.serial = b.serial ∧ y.arrival = b.stay.arrival := by
  simp [State.hasEnded, and_assoc]

section
variable {s : State} {n berth : Nat} {b : Booking}

theorem enterBooking_eq : enterBooking n berth b s =
    if s.freeTags b.tags = [] then loseRecord (.booking n) (some berth) (clashed s b)
    else if s.hasEnded berth b then queueRecord (.booking n) (report (.endedRecovered (b.serial.getD 0)) (clashed s b))
    else onBerth berth (berthWith { b with tags := s.freeTags b.tags, slot := some n, expiry := none }) (clashed s b) := by
  have ended : (clashed s b).hasEnded berth b = s.hasEnded berth b := by
    rw [(clashed_wrote s b).2]
    rfl
  unfold enterBooking
  dsimp only
  rw [freeTags_filter]
  change (if _ then _ else if (clashed s b).hasEnded berth b = true then _ else _) = _
  rw [ended]
  simp only [List.isEmpty_iff]
  rfl

theorem loadBooking_empty (r : storedAt (.booking n) s.store = ⟨true, .booking n, .empty⟩) : loadBooking n s = s := by
  obtain ⟨sound, content⟩ := record_eq.1 r
  simp only [loadBooking, sound, content, if_true]

variable (r : storedAt (.booking n) s.store = ⟨true, .booking n, .booking berth b⟩)
include r

theorem loadBooking_booking : loadBooking n s =
    if b.fieldsOk = true ∧ s.roomFor berth b = true then enterBooking n berth b s
    else loseRecord (.booking n) (some berth) s := by
  obtain ⟨sound, content⟩ := record_eq.1 r
  simp only [loadBooking, sound, content, Bool.not_true, Bool.false_eq_true, if_false]
  by_cases ok : b.fieldsOk = true ∧ s.roomFor berth b = true
  · rw [if_pos ok, if_neg (by simp [ok])]
  · rw [if_neg ok, if_pos (by simpa [imp_iff_not_or] using ok)]

end

/-- A booking slot that holds no sound booking and no sound EMPTY is lost. -/
theorem loadBooking_lost {s : State} {n : Nat} (notEmpty : storedAt (.booking n) s.store ≠ ⟨true, .booking n, .empty⟩)
    (other : ∀ berth b, storedAt (.booking n) s.store ≠ ⟨true, .booking n, .booking berth b⟩) :
    ∃ place, loadBooking n s = loseRecord (.booking n) place s ∧
      (place = none ∨ ∃ berth b, (storedAt (.booking n) s.store).content = .booking berth b ∧ place = some berth) := by
  unfold loadBooking
  dsimp only
  split
  · next content =>
    have unsound : ¬soundRecord (.booking n) (storedAt (.booking n) s.store) = true := fun sound =>
      notEmpty (record_eq.2 ⟨sound, content⟩)
    exact ⟨none, if_neg unsound, .inl rfl⟩
  · next berth b content =>
    have unsound : ¬soundRecord (.booking n) (storedAt (.booking n) s.store) = true := fun sound =>
      other berth b (record_eq.2 ⟨sound, content⟩)
    refine ⟨_, if_pos (by simpa using unsound), ?_⟩
    split
    · exact .inr ⟨berth, b, content, rfl⟩
    · exact .inl rfl
  · exact ⟨none, rfl, .inl rfl⟩

/-- What ResetsAndTheEndOfTheLoad says of a booking slot. -/
theorem loadBooking_loads (s : State) (n : Nat) :
    let id : RecordId := .booking n
    let r := storedAt id s.store
    let u := loadBooking n s
    (r = ⟨true, id, .empty⟩ → u = s) ∧
    (∀ berth b, r = ⟨true, id, .booking berth b⟩ →
      b.fieldsOk = false ∨ b.state = .tentative ∨ b.stay.departure ≤ b.stay.arrival ∨ s.berth? berth = none ∨
        (∃ x, s.berth? berth = some x ∧ canInsert x.bookings b.stay.arrival b.stay.departure = false) ∨
        b.serial.getD 0 ∈ s.serials →
      Freed s u id [.recordLost id (some berth)]) ∧
    (∀ berth b x, r = ⟨true, id, .booking berth b⟩ → b.fieldsOk = true → s.berth? berth = some x →
      canInsert x.bookings b.stay.arrival b.stay.departure = true → b.serial.getD 0 ∉ s.serials →
      let held (t : Tag) : Bool := s.liveBookings.any fun p => p.2.tags.contains t
      let kept := b.tags.filter fun t => !held t
      let clashes : List Report := (b.tags.filter held).map fun t => .tagClash t none none
      let ended := ∃ y ∈ s.bst.statements, y.berth = berth ∧ some y.serial = b.serial ∧ y.arrival = b.stay.arrival
      (kept = [] → Freed s u id (clashes ++ [.recordLost id (some berth)])) ∧
      (kept ≠ [] → ended → Freed s u id (clashes ++ [.endedRecovered (b.serial.getD 0)])) ∧
      (kept ≠ [] → ¬ended →
        u.berth? berth = some { x with
          bookings := insertBooking { b with tags := kept, slot := some n, expiry := none } x.bookings } ∧
        (∀ m, m ≠ berth → u.berth? m = s.berth? m) ∧ s.journalledAll u clashes ∧
        u.bst = { s.bst with berths := u.bst.berths } ∧ u = { s with bst := u.bst, evj := u.evj })) ∧
    (r ≠ ⟨true, id, .empty⟩ → (∀ berth b, r ≠ ⟨true, id, .booking berth b⟩) →
      ∃ place, Freed s u id [.recordLost id place] ∧
        (place = none ∨ ∃ berth b, r.content = .booking berth b ∧ place = some berth)) := by
  refine ⟨loadBooking_empty, fun berth b r bad => ?_, fun berth b x r ok reads fits fresh => ?_, fun notEmpty other => ?_⟩
  · have refused : ¬(b.fieldsOk = true ∧ s.roomFor berth b = true) := by
      rintro ⟨ok, room⟩
      obtain ⟨x, reads, fits, fresh⟩ := roomFor_iff.1 room
      obtain ⟨stored, ordered⟩ := fieldsOk_stored ok
      rcases bad with bad | bad | bad | bad | ⟨y, reads', full⟩ | bad
      · simp [ok] at bad
      · exact stored bad
      · omega
      · simp [reads] at bad
      · cases reads.symm.trans reads'
        simp [fits] at full
      · exact fresh bad
    rw [loadBooking_booking r, if_neg refused]
    exact loseRecord_frees s _ _
  · obtain ⟨wrote, frame⟩ := clashed_wrote s b
    have entered : loadBooking n s = enterBooking n berth b s := by
      rw [loadBooking_booking r, if_pos ⟨ok, roomFor_iff.2 ⟨x, reads, fits, fresh⟩⟩]
    rw [entered, enterBooking_eq]
    refine ⟨fun none => ?_, fun some_left ended => ?_, fun some_left going => ?_⟩
    · rw [if_pos (show s.freeTags b.tags = [] from none)]
      exact freed_queueRecord (wrote.trans (wrote_report _ _)) (by rw [frame]; rfl) _
    · rw [if_neg (show ¬s.freeTags b.tags = [] from some_left), if_pos (hasEnded_iff.2 ended)]
      exact freed_queueRecord (wrote.trans (wrote_report _ _)) (by rw [frame]; rfl) _
    · rw [if_neg (show ¬s.freeTags b.tags = [] from some_left), if_neg fun ended => going (hasEnded_iff.1 ended)]
      have berths : (clashed s b).berth? = s.berth? := berth?_same _ _ (by rw [frame])
      refine ⟨?_, fun m other => ?_, ?_, ?_, ?_⟩
      · rw [berth?_entered, berths, reads, Option.map_some, if_pos (by simp [berth?_number reads])]
        rfl
      · rw [berth?_entered, berths]
        cases found : s.berth? m with
        | none => rfl
        | some y => simp [berth?_number found, other]
      · exact wrote.all
      · rw [frame]
        rfl
      · rw [frame]
        rfl
  · obtain ⟨place, lost, named⟩ := loadBooking_lost notEmpty other
    refine ⟨place, ?_, named⟩
    rw [lost]
    exact loseRecord_frees s _ _

end Sys2Proof.Machine
end

section
/-! SUPPORT. PRS deals with the loaded bookings (R45). -/

namespace Sys2Proof.Machine

/-- The holds of a list that are over age, EXPIRED. -/
def expireOver (timeout : Nat) : List Hold → List Hold := updWhere (overAge timeout) fun h => { h with state := .expired }

/-- A booking with its over-age holds expired. -/
def overExpired (timeout : Nat) : Booking → Booking := Booking.onPurse fun p => { p with holds := expireOver timeout p.holds }

/-- A booking with a standing stored. -/
def withStanding (standing : Standing) : Booking → Booking := Booking.onPurse fun p => { p with standing := standing }

theorem expireOver_none {timeout : Nat} {holds : List Hold} (none : holds.filter (overAge timeout) = []) :
    expireOver timeout holds = holds := by
  refine (List.map_congr_left fun h mem => ?_).trans (List.map_id _)
  exact if_neg (List.filter_eq_nil_iff.1 none h mem)

/-- The state in which a loaded booking's over-age holds have expired. -/
def holdsReloaded (berth : Nat) (b : Booking) (s : State) : State :=
  if (b.purse.holds.filter (overAge s.cfg.holdTimeout)).isEmpty then s
  else reportExpired berth (b.purse.holds.filter (overAge s.cfg.holdTimeout))
    (changeHolds berth (b.serial.getD 0) (expireOver s.cfg.holdTimeout) s)

/-- A loaded booking's new standing stored, and its notice kept for the end of the load. -/
def standingReloaded (berth serial : Nat) (old new : Standing) (t : State) : State :=
  (changeBooking berth serial (withStanding new) t).setCfl
    { t.cfl with notices := t.cfl.notices ++ [(berth, serial, old, new)] }

/-- The standing of a loaded booking worked out. -/
def restandLoaded (berth serial : Nat) (t : State) : State :=
  match t.booking? berth serial with
  | none => t
  | some k =>
    let new := k.purse.standingNow
    if k.purse.standing == new then t
    else
      let s2 := changeBooking berth serial (Booking.onPurse fun p => { p with standing := new }) t
      s2.setCfl { s2.cfl with notices := s2.cfl.notices ++ [(berth, serial, k.purse.standing, new)] }

theorem reloadPurse_split (berth : Nat) (b : Booking) (s : State) :
    reloadPurse berth b s = restandLoaded berth (b.serial.getD 0) (holdsReloaded berth b s) := rfl

theorem restandLoaded_eq {berth serial : Nat} {t : State} {k : Booking} (reads : t.booking? berth serial = some k) :
    restandLoaded berth serial t = if k.purse.standing = k.purse.standingNow then t
      else standingReloaded berth serial k.purse.standing k.purse.standingNow t := by
  have cfl (f : Booking → Booking) : (changeBooking berth serial f t).cfl = t.cfl := by simp
  simp only [restandLoaded, reads, beq_iff_eq, cfl]
  rfl

theorem booking?_standingReloaded (berth serial : Nat) (old new : Standing) (t : State) (n k : Nat) :
    (standingReloaded berth serial old new t).booking? n k =
      if n = berth ∧ k = serial then (t.booking? n k).map (withStanding new) else t.booking? n k :=
  booking?_changeBooking _ _ _ _ (withStanding new) t fun _ => ⟨rfl, rfl⟩

section
variable {s : State} {berth serial : Nat} {b : Booking} (reads : s.booking? berth serial = some b)
include reads

theorem holdsReloaded_expires :
    (holdsReloaded berth b s).booking? berth serial = some (overExpired s.cfg.holdTimeout b) ∧
    s.sameBookingsBut (holdsReloaded berth b s) berth serial ∧
    Wrote s (holdsReloaded berth b s)
      ((b.purse.holds.filter (overAge s.cfg.holdTimeout)).map fun h => .holdExpired berth h.id h.granted) ∧
    (b.purse.holds.filter (overAge s.cfg.holdTimeout) ≠ [] →
      ∀ n, b.slot = some n → (holdsReloaded berth b s).dirtyRecord (.booking n)) ∧
    holdsReloaded berth b s = { s with bst := (holdsReloaded berth b s).bst, evj := (holdsReloaded berth b s).evj } := by
  have number := booking?_serial reads
  unfold holdsReloaded
  simp only [number, Option.getD_some]
  split
  · next empty =>
    have none := List.isEmpty_iff.1 empty
    refine ⟨?_, fun _ _ _ => rfl, ?_, fun some_gone => absurd none some_gone, rfl⟩
    · rw [reads, overExpired, Booking.onPurse, expireOver_none none]
    · rw [none]
      exact .same rfl rfl
  · obtain ⟨wrote, frame⟩ := wrote_reports (fun h : Hold => .holdExpired berth h.id h.granted)
      (b.purse.holds.filter (overAge s.cfg.holdTimeout)) (changeHolds berth serial (expireOver s.cfg.holdTimeout) s)
    refine ⟨?_, fun n k other => ?_, ?_, fun _ n slot => ?_, State.ext_fields _ _ (by simp)⟩
    · rw [reportExpired_booking?, booking?_changeHolds, if_pos ⟨rfl, rfl⟩, reads]
      rfl
    · rw [reportExpired_booking?, booking?_changeHolds, if_neg other]
    · exact (Wrote.same (by simp [changeHolds]) (by simp [changeHolds])).trans wrote
    · refine dirtyRecord_same ?_ (changeBooking_dirty reads (overExpired s.cfg.holdTimeout) slot)
      simp [changeHolds, overExpired]

theorem reloadPurse_eq : reloadPurse berth b s =
    (let t := holdsReloaded berth b s
     let k := overExpired s.cfg.holdTimeout b
     if b.purse.standing = k.purse.standingNow then t else standingReloaded berth serial b.purse.standing k.purse.standingNow t) := by
  obtain ⟨expired, -⟩ := holdsReloaded_expires reads
  rw [reloadPurse_split, booking?_serial reads, Option.getD_some, restandLoaded_eq expired]
  rfl

end

/-- What ResetsAndTheEndOfTheLoad says of the purses. -/
theorem reloadPurses_reloads (s : State) :
    (∃ order : List (Nat × Booking), order.Perm s.liveBookings ∧
      order.Pairwise (fun x y => x.2.slot.getD 0 ≤ y.2.slot.getD 0) ∧
      reloadPurses s = order.foldl (fun x p => reloadPurse p.1 p.2 x) s) ∧
    ∀ berth serial b, s.booking? berth serial = some b →
      let overdue (h : Hold) : Bool := h.state == .active && decide (s.cfg.holdTimeout ≤ h.age)
      let gone := b.purse.holds.filter overdue
      let aged : Purse := { b.purse with
        holds := b.purse.holds.map fun h => if overdue h then { h with state := .expired } else h }
      let u := reloadPurse berth b s
      u.booking? berth serial = some { b with purse := { aged with standing := aged.standingNow } } ∧
      s.sameBookingsBut u berth serial ∧ s.journalledAll u (gone.map fun h => .holdExpired berth h.id h.granted) ∧
      u.cfl = { s.cfl with notices := s.cfl.notices ++
        (if b.purse.standing = aged.standingNow then [] else [(berth, serial, b.purse.standing, aged.standingNow)]) } ∧
      (gone ≠ [] ∨ b.purse.standing ≠ aged.standingNow → ∀ n, b.slot = some n → u.dirtyRecord (.booking n)) ∧
      u = { s with bst := u.bst, evj := u.evj, cfl := u.cfl } := by
  refine ⟨?_, fun berth serial b reads => ?_⟩
  · obtain ⟨perm, sorted⟩ := sortBy_spec (fun p : Nat × Booking => p.2.slot.getD 0) s.liveBookings
    exact ⟨_, perm, sorted, rfl⟩
  obtain ⟨expired, others, wrote, dirty, frame⟩ := holdsReloaded_expires reads
  have cfl : (holdsReloaded berth b s).cfl = s.cfl := by rw [frame]
  intro overdue gone aged u
  have purse : (overExpired s.cfg.holdTimeout b).purse = aged := rfl
  by_cases stands : b.purse.standing = aged.standingNow
  · have same : u = holdsReloaded berth b s := (reloadPurse_eq reads).trans (if_pos stands)
    have kept : (overExpired s.cfg.holdTimeout b) = { b with purse := { aged with standing := aged.standingNow } } := by
      rw [← stands]
      rfl
    rw [same, if_pos stands, List.append_nil, ← kept]
    refine ⟨expired, others, wrote.all, cfl, fun changed => ?_, frame.trans (by rw [cfl])⟩
    exact dirty (changed.resolve_right fun differs => differs stands)
  · have moved : u = standingReloaded berth serial b.purse.standing aged.standingNow (holdsReloaded berth b s) :=
      (reloadPurse_eq reads).trans (if_neg stands)
    rw [moved, if_neg stands]
    refine ⟨?_, fun n k other => ?_, ?_, by rw [← cfl]; rfl, fun _ n slot => ?_, ?_⟩
    · rw [booking?_standingReloaded, if_pos ⟨rfl, rfl⟩, expired]
      rfl
    · rw [booking?_standingReloaded, if_neg other, others n k other]
    · have all := wrote.trans (Wrote.same (t := standingReloaded berth serial b.purse.standing aged.standingNow
        (holdsReloaded berth b s)) (by simp [standingReloaded]) (by simp [standingReloaded]))
      rw [List.append_nil] at all
      exact all.all
    · exact dirtyRecord_same rfl (changeBooking_dirty expired (withStanding aged.standingNow) slot)
    · generalize holdsReloaded berth b s = t at frame ⊢
      refine State.ext_fields _ _ ?_
      rw [frame]
      simp [standingReloaded]

end Sys2Proof.Machine
end

section
/-! SUPPORT. PBC builds its records at the load (R88, R93, R103, R110). -/

namespace Sys2Proof.Machine

/-! ### The records as the image gives them -/

/-- What ResetsAndTheEndOfTheLoad says of PBC's records. -/
theorem buildPosts_builds (s : State) :
    let f := freshPbc s.cfg
    let one := f.outlets.foldl (fun x o => startOutlet o x) (s.setPbc f)
    let two := one.bst.berths.foldl (fun x b => clearStrayWanted b x) one
    buildPosts s = settlePosts (two.pbc.taps.foldl (fun x t => startTap t x) two) ∧
    (f.posts.map Post.cfg).Perm s.cfg.posts ∧ (f.posts.map fun p => p.cfg.number).Pairwise (· ≤ ·) ∧
    (∀ p ∈ f.posts, p = { cfg := p.cfg, state := .unknown }) ∧
    (f.outlets.map fun o => (o.number, o.post, o.position, o.rating)).Perm
      (s.cfg.posts.flatMap fun p => p.outlets.zipIdx.map fun c => (c.1.number, p.number, c.2 + 1, c.1.rating)) ∧
    (f.outlets.map Outlet.number).Pairwise (· ≤ ·) ∧
    (∀ o ∈ f.outlets, o = {
      number := o.number, post := o.post, position := o.position, rating := o.rating, state := .off
      berth := (s.cfg.berths.find? fun b => b.outlets.contains o.number).map BerthCfg.number
      startClaim := s.cfg.startClaim o.rating }) ∧
    (f.taps.map fun p => (p.number, p.post, p.position)).Perm
      (s.cfg.posts.flatMap fun p => p.taps.zipIdx.map fun c => (c.1, p.number, c.2 + 1)) ∧
    (f.taps.map Tap.number).Pairwise (· ≤ ·) ∧
    (∀ p ∈ f.taps, p = {
      number := p.number, post := p.post, position := p.position, state := .closed
      berth := (s.cfg.berths.find? fun b => b.tap == some p.number).map BerthCfg.number }) ∧
    f = { posts := f.posts, outlets := f.outlets, taps := f.taps, firstRound := s.cfg.posts.isEmpty } := by
  intro f one two
  obtain ⟨posts, postsUp⟩ := sortBy_spec PostCfg.number s.cfg.posts
  obtain ⟨outlets, outletsUp⟩ := sortBy_spec Outlet.number (s.cfg.posts.flatMap fun p => p.outlets.zipIdx.map fun c =>
    ({ number := c.1.number, post := p.number, position := c.2 + 1, rating := c.1.rating,
       berth := Image.berthOfOutlet s.cfg c.1.number, startClaim := s.cfg.startClaim c.1.rating } : Outlet))
  obtain ⟨taps, tapsUp⟩ := sortBy_spec Tap.number (s.cfg.posts.flatMap fun p => p.taps.zipIdx.map fun c =>
    ({ number := c.1, post := p.number, position := c.2 + 1, berth := Image.berthOfTap s.cfg c.1 } : Tap))
  refine ⟨rfl, ?_, ?_, ?_, ?_, List.pairwise_map.2 outletsUp, fun o mem => ?_, ?_, List.pairwise_map.2 tapsUp, fun p mem => ?_, rfl⟩
  · simpa only [f, freshPbc, postsInOrder, List.map_map, Function.comp_def, List.map_id'] using posts
  · exact List.pairwise_map.2 (List.pairwise_map.2 postsUp)
  · intro p mem
    obtain ⟨c, -, rfl⟩ := List.mem_map.1 mem
    rfl
  · refine (outlets.map fun o => (o.number, o.post, o.position, o.rating)).trans (.of_eq ?_)
    simp only [List.map_flatMap, List.map_map, Function.comp_def]
  · obtain ⟨p, -, listed⟩ := List.mem_flatMap.1 (outlets.mem_iff.1 mem)
    obtain ⟨c, -, rfl⟩ := List.mem_map.1 listed
    rfl
  · refine (taps.map fun p => (p.number, p.post, p.position)).trans (.of_eq ?_)
    simp only [List.map_flatMap, List.map_map, Function.comp_def]
  · obtain ⟨p, -, listed⟩ := List.mem_flatMap.1 (taps.mem_iff.1 mem)
    obtain ⟨c, -, rfl⟩ := List.mem_map.1 listed
    rfl

/-! ### Outlets and taps by their holding booking (R110) -/

/-- Before the first poll round is complete LSU is told of no load. -/
theorem changeOutlet_early {s : State} (early : s.pbc.firstRound = false) (n : Nat) (f : Outlet → Outlet) :
    changeOutlet n f s = patchOutlet n f s := by
  have : ¬((patchOutlet n f s).cfg.role = .pontoon ∧ (patchOutlet n f s).pbc.firstRound = true) := by
    simp [patchOutlet, early]
  rw [changeOutlet, noteLoad, if_neg (by simpa using this)]

section
variable {s : State} {o : Outlet}

theorem startOutlet_still (still : ∀ h, s.holder? o.berth = some h → h.2.wantedAt (s.placeIn h.1 o.number) = false) :
    startOutlet o s = s := by
  unfold startOutlet
  split
  · rfl
  · next n b holder => exact if_pos (by simp [still _ holder])

variable {h : Nat × Booking} (holder : s.holder? o.berth = some h) (wanted : h.2.wantedAt (s.placeIn h.1 o.number) = true)
include holder wanted

theorem startOutlet_barred (barred : h.2.purse.standing = .barred) : startOutlet o s = outletSuspended o.number s := by
  simp only [startOutlet, holder, wanted, Bool.not_true, Bool.false_eq_true, if_false, barred, beq_self_eq_true, if_true]

theorem startOutlet_wanted (allowed : h.2.purse.standing ≠ .barred) : startOutlet o s = outletWaits o.number s := by
  simp only [startOutlet, holder, wanted, Bool.not_true, Bool.false_eq_true, if_false, beq_eq_false_iff_ne.2 allowed]

end

/-- What ResetsAndTheEndOfTheLoad says of an outlet at the load. -/
theorem startOutlet_starts (s : State) (o : Outlet) (early : s.pbc.firstRound = false) (reads : s.outlet? o.number = some o) :
    let u := startOutlet o s
    let wanted (h : Nat × Booking) : Bool := h.2.wantedAt (s.placeIn h.1 o.number)
    (s.holder? o.berth = none → u = s) ∧
    (∀ h, s.holder? o.berth = some h →
      (wanted h = false → u = s) ∧
      (wanted h = true → h.2.purse.standing = .barred →
        u.outlet? o.number = some { o with state := .suspended, join := none, restAt := none } ∧
        u.pbc = { s.pbc with outlets := u.pbc.outlets }) ∧
      (wanted h = true → h.2.purse.standing ≠ .barred →
        u.outlet? o.number = some { o with state := .waiting, join := some s.pbc.counter, restAt := none } ∧
        u.pbc = { s.pbc with outlets := u.pbc.outlets, counter := bump32 s.pbc.counter })) ∧
    (∀ m, m ≠ o.number → u.outlet? m = s.outlet? m) ∧ u = { s with pbc := u.pbc } := by
  have suspends : outletSuspended o.number s = patchOutlet o.number (unpowered .suspended) s :=
    changeOutlet_early early o.number (unpowered .suspended)
  have waits : outletWaits o.number s = patchOutlet o.number (waitingAt s.pbc.counter) (takeNumber s).2 :=
    changeOutlet_early (s := (takeNumber s).2) early o.number (waitingAt s.pbc.counter)
  have others (m : Nat) (other : m ≠ o.number) :
      (patchOutlet o.number (unpowered .suspended) s).outlet? m = s.outlet? m ∧
      (patchOutlet o.number (waitingAt s.pbc.counter) (takeNumber s).2).outlet? m = s.outlet? m :=
    ⟨outlet?_other _ _ (unpowered .suspended) s (fun _ => rfl) other,
      outlet?_other _ _ (waitingAt s.pbc.counter) (takeNumber s).2 (fun _ => rfl) other⟩
  have cases : startOutlet o s = s ∨ startOutlet o s = patchOutlet o.number (unpowered .suspended) s ∨
      startOutlet o s = patchOutlet o.number (waitingAt s.pbc.counter) (takeNumber s).2 := by
    rw [← suspends, ← waits]
    unfold startOutlet
    split
    · exact .inl rfl
    · split
      · exact .inl rfl
      · split
        · exact .inr (.inl rfl)
        · exact .inr (.inr rfl)
  refine ⟨fun free => startOutlet_still fun h holder => by simp [free] at holder, fun h holder => ⟨fun still => ?_,
    fun wanted barred => ?_, fun wanted allowed => ?_⟩, fun m other => ?_, ?_⟩
  · refine startOutlet_still fun k own => ?_
    cases holder.symm.trans own
    exact still
  · rw [startOutlet_barred holder wanted barred, suspends]
    exact ⟨outlet?_self _ (unpowered .suspended) s (fun _ => rfl) o reads, rfl⟩
  · rw [startOutlet_wanted holder wanted allowed, waits]
    exact ⟨outlet?_self _ (waitingAt s.pbc.counter) (takeNumber s).2 (fun _ => rfl) o reads, rfl⟩
  · rcases cases with same | same | same <;> rw [same]
    · exact (others m other).1
    · exact (others m other).2
  · rcases cases with same | same | same <;> rw [same] <;> rfl

/-- A tap that has become LOCKED. -/
def tapLocked (p : Tap) : Tap :=
  { p with state := .locked, runAt := none, leakCount := if p.state == .opened then 0 else p.leakCount }

theorem moveTap_locked (n : Nat) : moveTap n .locked none = changeTap n tapLocked := by
  unfold moveTap
  have other : (TapState.locked != TapState.opened) = true := rfl
  refine congrArg (changeTap n) (funext fun x => ?_)
  simp only [other, Bool.and_true, tapLocked]

/-- What ResetsAndTheEndOfTheLoad says of a tap at the load. -/
theorem startTap_starts (s : State) (p : Tap) (reads : s.tap? p.number = some p) :
    let u := startTap p s
    let barred := ∃ h, s.holder? p.berth = some h ∧ h.2.purse.standing = .barred
    (barred → u.tap? p.number = some { p with
      state := .locked, runAt := none, leakCount := if p.state = .opened then 0 else p.leakCount }) ∧
    (¬barred → u = s) ∧ s.sameTapsBut u p.number ∧ u = { s with pbc := u.pbc } := by
  have locks := changeTap_moves reads tapLocked fun _ => rfl
  by_cases barred : ∃ h, s.holder? p.berth = some h ∧ h.2.purse.standing = .barred
  · have moved : startTap p s = changeTap p.number tapLocked s := by
      rw [← moveTap_locked]
      refine if_pos ?_
      simpa [Option.any_eq_true] using barred
    rw [moved]
    refine ⟨fun _ => locks.1.trans ?_, fun free => absurd barred free, locks.2, rfl⟩
    simp only [tapLocked, beq_iff_eq]
  · have still : startTap p s = s := by
      refine if_neg ?_
      simpa [Option.any_eq_true] using barred
    rw [still]
    exact ⟨fun is => absurd is barred, fun _ => rfl, ⟨rfl, fun _ _ => rfl⟩, rfl⟩

/-! ### Stray wanted flags (R110) -/

/-- A booking without wanted flags. -/
def unwanting (k : Booking) : Booking := { k with wantedFirst := false, wantedSecond := false }

theorem unwanting_bare {k : Booking} (first : k.wantedFirst = false) (second : k.wantedSecond = false) : unwanting k = k := by
  obtain ⟨⟩ := k
  cases first
  cases second
  rfl

/-- The wanted flags of these bookings of a berth cleared. -/
def clearWanted (n : Nat) (l : List Booking) (s : State) : State :=
  l.foldl (fun x k => changeBooking n (k.serial.getD 0) unwanting x) s

/-- The wanted flags of a booking cleared, where its serial is listed. -/
theorem clearWanted_booking? (n : Nat) (l : List Booking) (s : State) (m j : Nat) :
    (clearWanted n l s).booking? m j =
      if m = n ∧ ∃ k ∈ l, k.serial.getD 0 = j then (s.booking? m j).map unwanting else s.booking? m j := by
  have once (k : Nat) (s : State) : (changeBooking n k unwanting s).booking? m j =
      if m = n ∧ j = k then (s.booking? m j).map unwanting else s.booking? m j :=
    booking?_changeBooking _ _ _ _ unwanting s fun _ => ⟨rfl, rfl⟩
  induction l generalizing s with
  | nil => simp [clearWanted]
  | cons k l ih =>
    have next : clearWanted n (k :: l) s = clearWanted n l (changeBooking n (k.serial.getD 0) unwanting s) := rfl
    rw [next, ih, once]
    by_cases here : m = n
    · subst here
      by_cases first : j = k.serial.getD 0
      · subst first
        simp only [true_and, if_true, List.mem_cons, exists_eq_or_imp, true_or]
        split
        · cases s.booking? m (k.serial.getD 0) <;> rfl
        · rfl
      · simp only [true_and, first, if_false, List.mem_cons, exists_eq_or_imp, Ne.symm first, false_or]
    · simp [here]

theorem clearWanted_frame (n : Nat) (l : List Booking) (s : State) :
    clearWanted n l s = { s with bst := (clearWanted n l s).bst } ∧
    ∀ m, m ≠ n → (clearWanted n l s).berth? m = s.berth? m := by
  induction l generalizing s with
  | nil => exact ⟨rfl, fun _ _ => rfl⟩
  | cons k l ih =>
    obtain ⟨frame, others⟩ := ih (changeBooking n (k.serial.getD 0) unwanting s)
    refine ⟨frame.trans (State.ext_fields _ _ (by simp; rfl)), fun m other => (others m other).trans ?_⟩
    exact berth?_changeBooking n _ m unwanting s other

theorem clearWanted_dirty_kept {n : Nat} {s : State} {id : RecordId} (l : List Booking) (dirty : s.dirtyRecord id) :
    (clearWanted n l s).dirtyRecord id := by
  induction l generalizing s with
  | nil => exact dirty
  | cons k l ih => exact ih (dirtyRecord_changeBooking n (k.serial.getD 0) unwanting dirty)

theorem clearWanted_dirty {n serial slot : Nat} {s : State} {k : Booking} {l : List Booking} (reads : s.booking? n serial = some k)
    (at_ : k.slot = some slot) (listed : ∃ x ∈ l, x.serial.getD 0 = serial) :
    (clearWanted n l s).dirtyRecord (.booking slot) := by
  induction l generalizing s k with
  | nil => simp at listed
  | cons x l ih =>
    have next : clearWanted n (x :: l) s = clearWanted n l (changeBooking n (x.serial.getD 0) unwanting s) := rfl
    rw [next]
    by_cases this : x.serial.getD 0 = serial
    · rw [this]
      exact clearWanted_dirty_kept l (changeBooking_dirty reads unwanting at_)
    · have later : ∃ y ∈ l, y.serial.getD 0 = serial := by simpa [this] using listed
      refine ih (k := k) ?_ at_ later
      rw [booking?_changeBooking _ _ _ _ unwanting s fun _ => ⟨rfl, rfl⟩, if_neg fun h => this h.2.symm, reads]

/-- A live booking with a wanted flag whose serial is not the holding booking's is among those whose flags are cleared. -/
theorem stray_listed {x : Berth} {k : Booking} {serial : Nat} (mem : k ∈ x.bookings) (live : k.live = true)
    (serialIs : k.serial = some serial) (flagged : k.wantedFirst = true ∨ k.wantedSecond = true)
    (free : ¬∃ h, x.holding? = some h ∧ h.serial = some serial) :
    k ∈ x.bookings.filter fun k =>
      k.live && (k.wantedFirst || k.wantedSecond) && !(x.holding?.any fun h => h.serial == k.serial) := by
  refine List.mem_filter.2 ⟨mem, ?_⟩
  have other : (x.holding?.any fun h => h.serial == k.serial) = false := by
    rw [Bool.eq_false_iff, Ne, Option.any_eq_true]
    rintro ⟨h, first, same⟩
    exact free ⟨h, first, (eq_of_beq same).trans serialIs⟩
  simpa [live, other] using flagged

/-- What ResetsAndTheEndOfTheLoad says of stray wanted flags. -/
theorem clearStrayWanted_clears (s : State) (berth serial : Nat) (x : Berth) (k : Booking) (there : s.berth? berth = some x)
    (positive : 1 ≤ serial) (reads : s.booking? berth serial = some k) :
    let u := clearStrayWanted x s
    let holds := ∃ h, s.holding? berth = some h ∧ h.serial = some serial
    (holds → u.booking? berth serial = some k) ∧
    (¬holds → u.booking? berth serial = some { k with wantedFirst := false, wantedSecond := false } ∧
      (k.wantedFirst = true ∨ k.wantedSecond = true → ∀ n, k.slot = some n → u.dirtyRecord (.booking n))) ∧
    (∀ m, m ≠ berth → u.berth? m = s.berth? m) ∧ u = { s with bst := u.bst } := by
  have number : x.cfg.number = berth := berth?_number there
  have holding : s.holding? berth = x.holding? := by simp only [State.holding?, there, Option.bind_some]
  have found : x.live? serial = some k := by simpa only [State.booking?, there, Option.bind_some] using reads
  have mem : k ∈ x.bookings := List.mem_of_find?_eq_some found
  have serialIs : k.serial = some serial := booking?_serial reads
  have live : k.live = true := by
    have := List.find?_some found
    simp only [Bool.and_eq_true] at this
    exact this.1
  have cleared : clearStrayWanted x s = clearWanted berth (x.bookings.filter fun k =>
      k.live && (k.wantedFirst || k.wantedSecond) && !(x.holding?.any fun h => h.serial == k.serial)) s := by
    rw [← number]
    rfl
  rw [holding]
  obtain ⟨frame, others⟩ := clearWanted_frame berth (x.bookings.filter fun k =>
    k.live && (k.wantedFirst || k.wantedSecond) && !(x.holding?.any fun h => h.serial == k.serial)) s
  intro u holds
  have same : u = _ := cleared
  rw [same]
  refine ⟨fun held => ?_, fun free => ⟨?_, fun flagged n at_ => ?_⟩, others, frame⟩
  · obtain ⟨h, first, own⟩ := held
    rw [clearWanted_booking?, if_neg, reads]
    rintro ⟨-, y, listed, same⟩
    obtain ⟨-, stray⟩ := List.mem_filter.1 listed
    have numbered : y.serial = some serial := by
      cases serial' : y.serial with
      | none =>
        rw [serial', Option.getD_none] at same
        omega
      | some j =>
        rw [serial', Option.getD_some] at same
        rw [same]
    simp [first, own, numbered] at stray
  · rw [clearWanted_booking?, reads]
    split
    · rfl
    · next unlisted =>
      have bare : ¬(k.wantedFirst = true ∨ k.wantedSecond = true) := fun flagged =>
        unlisted ⟨rfl, k, stray_listed mem live serialIs flagged free, by rw [serialIs]; rfl⟩
      obtain ⟨first, second⟩ := not_or.1 bare
      rw [Bool.not_eq_true] at first second
      exact congrArg some (unwanting_bare first second).symm
  · exact clearWanted_dirty reads at_ ⟨k, stray_listed mem live serialIs flagged free, by rw [serialIs]; rfl⟩

end Sys2Proof.Machine
end

section
/-! SUPPORT. ACU pins its tags and GTC sets its gates at the load (R119, R128, R140). -/

namespace Sys2Proof.Machine

/-! ### Pinned tags -/

/-- The entry a pinned tag takes in a way of its set. -/
def pinnedEntry (p : PinCfg) (w : Nat) (s : State) : CacheEntry where
  way := w
  validUntil := none
  pinned := true
  record := { tag := p.tag, owner := s.cfg.station, cls := if p.contractor then .contractor else .staff
              window := if p.contractor then p.window else none }

/-- A pinned tag finds no way: its set has 3 pinned ones, or the tag is pinned already (R119). -/
def PinTurnedAway (p : PinCfg) (s : State) : Prop :=
  3 ≤ (s.acu.cache.filter fun e => cacheSetOf e.record.tag == cacheSetOf p.tag && e.pinned).length ∨
    ((s.acu.cache.filter fun e => cacheSetOf e.record.tag == cacheSetOf p.tag && e.pinned).any fun e =>
      e.record.tag == p.tag) = true

theorem pinTag_turned {p : PinCfg} {s : State} (turned : PinTurnedAway p s) :
    pinTag p s = report (.pinSkipped p.tag (cacheSetOf p.tag)) s := by
  unfold pinTag
  exact if_pos (by simpa [PinTurnedAway] using turned)

theorem pinTag_enters {p : PinCfg} {s : State} {w : Nat} (room : ¬PinTurnedAway p s)
    (way : [0, 1, 2, 3].find? (fun w => (s.acu.wayOf (cacheSetOf p.tag) w).isNone) = some w) :
    pinTag p s = s.setAcu { s.acu with cache := pinnedEntry p w s :: s.acu.cache } := by
  unfold pinTag
  refine (if_neg (by simpa [PinTurnedAway] using room)).trans ?_
  rw [way]
  rfl

/-- The first way of a set that holds no entry. -/
theorem firstWay {free : Nat → Bool} {w : Nat} (small : w < 4) (here : free w = true) (least : ∀ v, v < w → free v = false) :
    [0, 1, 2, 3].find? free = some w := by
  have zero := least 0
  have one := least 1
  have two := least 2
  obtain rfl | rfl | rfl | rfl : w = 0 ∨ w = 1 ∨ w = 2 ∨ w = 3 := by omega
  · simp [here]
  · simp [here, zero]
  · simp [here, zero, one]
  · simp [here, zero, one, two]

/-- What ResetsAndTheEndOfTheLoad says of a pinned tag. -/
theorem pinTag_pins (s : State) (p : PinCfg) :
    let set := p.tag.toNat % 64
    let mine := s.acu.cache.filter fun e => e.record.tag.toNat % 64 == set
    let turnedAway := 3 ≤ (mine.filter fun e => e.pinned).length ∨ ∃ e ∈ mine, e.pinned = true ∧ e.record.tag = p.tag
    let u := pinTag p s
    (turnedAway → s.journalled u (.pinSkipped p.tag set) ∧ u = { s with evj := u.evj }) ∧
    (∀ w, ¬turnedAway → w < 4 → (∀ e ∈ mine, e.way ≠ w) → (∀ v, v < w → ∃ e ∈ mine, e.way = v) →
      u = s.setAcu { s.acu with cache := {
        way := w, validUntil := none, pinned := true
        record := { tag := p.tag, owner := s.cfg.station, cls := if p.contractor then .contractor else .staff
                    window := if p.contractor then p.window else none } } :: s.acu.cache }) := by
  intro set mine turnedAway u
  have turned : turnedAway ↔ PinTurnedAway p s := by
    refine or_congr ?_ ?_
    · rw [show (mine.filter fun e => e.pinned) = s.acu.cache.filter fun e =>
        cacheSetOf e.record.tag == cacheSetOf p.tag && e.pinned from (List.filter_filter ..).trans
          (List.filter_congr fun e _ => Bool.and_comm _ _)]
    · simp [mine, cacheSetOf, set, and_assoc, and_left_comm]
  have free (w : Nat) : (s.acu.wayOf (cacheSetOf p.tag) w).isNone = true ↔ ∀ e ∈ mine, e.way ≠ w := by
    simp [Acu.wayOf, mine, cacheSetOf, set, List.find?_eq_none]
  refine ⟨fun away => ?_, fun w room small empty taken => ?_⟩
  · have same : u = _ := pinTag_turned (turned.1 away)
    rw [same]
    exact ⟨journalled_report _ rfl rfl, rfl⟩
  · refine pinTag_enters (w := w) (fun away => room (turned.2 away)) (firstWay small ((free w).2 empty) fun v below => ?_)
    obtain ⟨e, mem, way⟩ := taken v below
    exact Bool.eq_false_iff.2 fun none => (free v).1 none e mem way

/-! ### Gates -/

/-- A gate with the notice of a door found open. -/
def ajarFound (g : Gate) : Gate := { g with ajar := some ⟨none⟩ }

/-- The entry of a gate found ajar. -/
def ajarNote (g : Gate) : Report := .gateAjar g.cfg.number g.cfg.heldOpenLimit

/-- The gates found ajar, one after the other. -/
theorem raiseAjars_raise (l : List Gate) (untimed : ∀ g ∈ l, g.openedTime = none) (s : State) :
    let u := l.foldl (fun x g => raiseAjar g x) s
    (∀ n, u.gate? n = (s.gate? n).map fun g => if l.any fun x => x.cfg.number == n then ajarFound g else g) ∧
    u.gtc.gates.map Gate.cfg = s.gtc.gates.map Gate.cfg ∧ Wrote s u (l.map ajarNote) ∧ u = { s with gtc := u.gtc, evj := u.evj } := by
  induction l generalizing s with
  | nil => exact ⟨fun n => by simp, rfl, .same rfl rfl, rfl⟩
  | cons g l ih =>
    have time := untimed g List.mem_cons_self
    have raised : raiseAjar g s = report (ajarNote g) (changeGate g.cfg.number ajarFound s) := by
      rw [raiseAjar, time]
      rfl
    obtain ⟨gates, cfgs, wrote, frame⟩ := ih (fun x mem => untimed x (List.mem_cons_of_mem g mem)) (raiseAjar g s)
    intro u
    have step : u = l.foldl (fun x g => raiseAjar g x) (raiseAjar g s) := rfl
    rw [step]
    refine ⟨fun n => ?_, cfgs.trans ?_, ?_, frame.trans ?_⟩
    · have one : (raiseAjar g s).gate? n = (s.gate? n).map fun x => if x.cfg.number == g.cfg.number then ajarFound x else x := by
        rw [raised, gate?_same (changeGate g.cfg.number ajarFound s) _ (by simp)]
        exact gate?_changeGate _ _ ajarFound s fun _ => rfl
      rw [gates n, one]
      cases reads : s.gate? n with
      | none => rfl
      | some x =>
        have number := gate?_number reads
        simp only [Option.map_some, List.any_cons, number]
        rw [Bool.beq_comm (a := n)]
        by_cases later : (l.any fun x => x.cfg.number == n) = true
        · simp only [later, Bool.or_true, if_true]
          split <;> rfl
        · simp only [later, Bool.or_false, Bool.false_eq_true, if_false]
    · rw [raised]
      simp only [report_frame, changeGate, State.setGtc_gtc, updWhere, List.map_map]
      refine List.map_congr_left fun x _ => ?_
      simp only [Function.comp_apply]
      split <;> rfl
    · rw [raised]
      exact ((Wrote.same rfl rfl : Wrote s (changeGate g.cfg.number ajarFound s) []).trans (wrote_report _ _)).trans
        (raised ▸ wrote)
    · rw [raised]
      rfl

/-- A gate's record at the load, before its notice. -/
theorem startGate_eq (c : GateCfg) (line : Door) : startGate c line = {
    cfg := c, mode := c.startMode, door := line
    state := if c.startMode = .opened then .unlocked else if line = .opened then .ajar else .locked
    strike := if c.startMode = .opened then .released else .held
    openedAt := if line = .opened then some 0 else none } := by
  unfold startGate
  cases line <;> cases c.startMode <;> rfl

theorem startGate_ajar (c : GateCfg) (line : Door) :
    ((startGate c line).state == .ajar) = (c.startMode != .opened && line == .opened) := by
  rw [startGate_eq]
  cases line <;> cases c.startMode <;> rfl

/-- The element of a key, where each key is an element's own. -/
theorem find?_key_of_mem {α : Type} {f : α → Nat} {l : List α} (unique : (l.map f).Nodup) {x : α} (mem : x ∈ l) :
    l.find? (fun y => f y == f x) = some x := by
  cases found : l.find? (fun y => f y == f x) with
  | none => simpa using List.find?_eq_none.1 found x mem
  | some y =>
    have same : f y = f x := by simpa using List.find?_some found
    rw [List.inj_on_of_nodup_map unique (List.mem_of_find?_eq_some found) mem same]

/-- The gates set, in this order, before the notices of those found ajar. -/
def gatesSet (order : List GateCfg) (s : State) : State :=
  s.setGtc { gates := order.map fun c => startGate c (s.doorLine c.number) }

/-- What ResetsAndTheEndOfTheLoad says of the gates. -/
theorem buildGates_builds (s : State) (unique : (s.cfg.gates.map GateCfg.number).Nodup) :
    let line (c : GateCfg) : Door := if c.number = 2 then s.door2 else s.door1
    let ajar (c : GateCfg) : Bool := c.startMode != .opened && line c == .opened
    let u := buildGates s
    (∀ c ∈ s.cfg.gates, u.gate? c.number = some {
      cfg := c, mode := c.startMode, door := line c
      state := if c.startMode = .opened then .unlocked else if line c = .opened then .ajar else .locked
      strike := if c.startMode = .opened then .released else .held
      openedAt := if line c = .opened then some 0 else none
      ajar := if ajar c then some ⟨none⟩ else none }) ∧
    (u.gtc.gates.map Gate.cfg).Perm s.cfg.gates ∧
    (∃ order : List GateCfg, order.Perm s.cfg.gates ∧ order.Pairwise (fun x y => x.number ≤ y.number) ∧
      s.journalledAll u ((order.filter ajar).map fun c => .gateAjar c.number c.heldOpenLimit)) ∧
    u = { s with gtc := u.gtc, evj := u.evj } := by
  obtain ⟨perm, sorted⟩ := sortBy_spec GateCfg.number s.cfg.gates
  intro line ajar u
  generalize order_eq : sortBy (fun a b : GateCfg => a.number ≤ b.number) s.cfg.gates = order at perm sorted
  have started (c : GateCfg) : startGate c (s.doorLine c.number) = startGate c (line c) := rfl
  have ajars : (order.map fun c => startGate c (s.doorLine c.number)).filter (fun g => g.state == .ajar) =
      (order.filter ajar).map fun c => startGate c (line c) := by
    rw [List.filter_map]
    refine congrArg (List.map _) (List.filter_congr fun c _ => ?_)
    exact startGate_ajar c (line c)
  have built : u = ((order.filter ajar).map fun c => startGate c (line c)).foldl (fun x g => raiseAjar g x)
      (gatesSet order s) := by
    rw [← ajars, ← order_eq]
    rfl
  have cfg (c : GateCfg) (d : Door) : (startGate c d).cfg = c := by rw [startGate_eq]
  obtain ⟨gates, cfgs, wrote, frame⟩ := raiseAjars_raise ((order.filter ajar).map fun c => startGate c (line c))
    (fun g mem => by
      obtain ⟨c, -, rfl⟩ := List.mem_map.1 mem
      rw [startGate_eq])
    (gatesSet order s)
  rw [built]
  refine ⟨fun c mem => ?_, ?_, ⟨order, perm, sorted, ?_⟩, frame.trans rfl⟩
  · have listed : c ∈ order := perm.mem_iff.2 mem
    have nodup : (order.map GateCfg.number).Nodup := (perm.map GateCfg.number).nodup_iff.2 unique
    have reads : (gatesSet order s).gate? c.number = some (startGate c (line c)) := by
      have found : order.find? (fun x => x.number == c.number) = some c := find?_key_of_mem nodup listed
      rw [State.gate?, gatesSet, State.setGtc_gtc, List.find?_map, ← started]
      simp only [Function.comp_def, cfg, found, Option.map_some]
    have any : (((order.filter ajar).map fun c => startGate c (line c)).any fun x => x.cfg.number == c.number) = ajar c := by
      rw [Bool.eq_iff_iff, List.any_eq_true]
      constructor
      · rintro ⟨g, there, same⟩
        obtain ⟨d, kept, rfl⟩ := List.mem_map.1 there
        obtain ⟨mem', is⟩ := List.mem_filter.1 kept
        rw [cfg, beq_iff_eq] at same
        rwa [← List.inj_on_of_nodup_map nodup mem' listed same]
      · intro is
        exact ⟨_, List.mem_map_of_mem (List.mem_filter.2 ⟨listed, is⟩), by rw [cfg]; exact beq_self_eq_true _⟩
    rw [gates, reads, Option.map_some, any, startGate_eq]
    cases ajar c <;> rfl
  · rw [cfgs]
    refine .trans (.of_eq ?_) perm
    rw [gatesSet, State.setGtc_gtc, List.map_map]
    exact (List.map_congr_left fun c _ => cfg c _).trans (List.map_id _)
  · have all := ((Wrote.same rfl rfl : Wrote s (gatesSet order s) []).trans wrote).all
    rw [List.nil_append, List.map_map] at all
    have notes : (ajarNote ∘ fun c => startGate c (line c)) = fun c : GateCfg => .gateAjar c.number c.heldOpenLimit := by
      funext c
      simp only [Function.comp_apply, ajarNote, cfg]
    rwa [notes] at all

end Sys2Proof.Machine
end

section
/-! SUPPORT. FSC loads its sale slots at the load (R141, R144, R152, R158). -/

namespace Sys2Proof.Machine

/-! ### What a sale slot holds -/

section
variable {s : State} {n : Nat}

theorem pump?_isSome (m : Nat) : (s.pump? m).isSome = s.fsc.pumps.any fun p => p.cfg.number == m := by
  rw [Bool.eq_iff_iff, State.pump?, List.find?_isSome, List.any_eq_true]

theorem saleAt?_some {x : Sale} {e : Option (Nat × Nat)} : s.saleAt? n = some (x, e) ↔
    storedAt (.sale n) s.store = ⟨true, .sale n, .sale x e⟩ ∧ (s.pump? x.id.pump).isSome = true := by
  rw [record_eq, pump?_isSome]
  unfold State.saleAt?
  dsimp only
  split
  · next y f content =>
    rw [content]
    constructor
    · intro h
      split at h
      · next ok =>
        cases h
        rw [Bool.and_eq_true] at ok
        exact ⟨⟨ok.1, rfl⟩, ok.2⟩
      · cases h
    · rintro ⟨⟨sound, same⟩, there⟩
      cases same
      rw [if_pos (by rw [sound, there]; rfl)]
  · next other =>
    constructor
    · exact nofun
    · rintro ⟨⟨-, content⟩, -⟩
      exact absurd content (other _ _)

theorem saleAt?_none : s.saleAt? n = none ↔ ∀ x,
    ¬((∃ e, storedAt (.sale n) s.store = ⟨true, .sale n, .sale x e⟩) ∧ (s.pump? x.id.pump).isSome = true) := by
  constructor
  · rintro none x ⟨⟨e, r⟩, there⟩
    rw [saleAt?_some.2 ⟨r, there⟩] at none
    cases none
  · intro none
    refine Option.eq_none_iff_forall_ne_some.2 fun p found => ?_
    obtain ⟨r, there⟩ := saleAt?_some.1 (show s.saleAt? n = some (p.1, p.2) from found)
    exact none p.1 ⟨⟨p.2, r⟩, there⟩

theorem saleLostAt_iff : s.saleLostAt n = true ↔
    s.saleAt? n = none ∧ storedAt (.sale n) s.store ≠ ⟨true, .sale n, .empty⟩ := by
  unfold State.saleLostAt
  dsimp only
  rw [Bool.and_eq_true, Option.isNone_iff_eq_none, Bool.not_eq_true', ← Bool.not_eq_true, Bool.and_eq_true, beq_iff_eq,
    Ne, record_eq]

theorem saleAt?_empty (r : storedAt (.sale n) s.store = ⟨true, .sale n, .empty⟩) : s.saleAt? n = none := by
  refine saleAt?_none.2 ?_
  rintro x ⟨⟨e, sale⟩, -⟩
  cases r.symm.trans sale

theorem saleLostAt_held {p : Sale × Option (Nat × Nat)} (held : s.saleAt? n = some p) : s.saleLostAt n = false := by
  rw [Bool.eq_false_iff, Ne, saleLostAt_iff, held]
  exact fun h => nomatch h.1

theorem saleLostAt_empty (r : storedAt (.sale n) s.store = ⟨true, .sale n, .empty⟩) : s.saleLostAt n = false := by
  rw [Bool.eq_false_iff, Ne, saleLostAt_iff]
  exact fun h => h.2 r

/-! ### The list slots (R152) -/

theorem loadListSlot_empty (r : storedAt (.sale n) s.store = ⟨true, .sale n, .empty⟩) : loadListSlot n s = s := by
  simp only [loadListSlot, saleAt?_empty r, saleLostAt_empty r, Bool.false_eq_true, if_false]

theorem loadListSlot_listed {x : Sale} {order attempts : Nat} (listed : s.saleAt? n = some (x, some (order, attempts))) :
    loadListSlot n s = s.setFsc { s.fsc with
      unsettled := insertBy (fun a b => a.order ≤ b.order) ⟨x, order, attempts, false, n⟩ s.fsc.unsettled } := by
  simp only [loadListSlot, listed]

theorem loadListSlot_lost (notEmpty : storedAt (.sale n) s.store ≠ ⟨true, .sale n, .empty⟩)
    (other : ∀ x order attempts, s.saleAt? n ≠ some (x, some (order, attempts))) :
    loadListSlot n s = loseRecord (.sale n) none s := by
  unfold loadListSlot
  split
  · next x order attempts listed => exact absurd listed (other _ _ _)
  · rfl
  · next none => exact if_pos (saleLostAt_iff.2 ⟨none, notEmpty⟩)

end

/-- What ResetsAndTheEndOfTheLoad says of a list slot. -/
theorem loadListSlot_loads (s : State) (n : Nat) :
    let r := storedAt (.sale n) s.store
    let u := loadListSlot n s
    let ours (x : Sale) : Prop := (s.pump? x.id.pump).isSome = true
    let listed (x : Sale) (order attempts : Nat) : Prop := r = ⟨true, .sale n, .sale x (some (order, attempts))⟩ ∧ ours x
    (r = ⟨true, .sale n, .empty⟩ → u = s) ∧
    (∀ x order attempts, listed x order attempts →
      u.fsc.unsettled.Perm (⟨x, order, attempts, false, n⟩ :: s.fsc.unsettled) ∧
      (s.fsc.unsettled.Pairwise (fun a b => a.order ≤ b.order) → u.fsc.unsettled.Pairwise fun a b => a.order ≤ b.order) ∧
      u = s.setFsc { s.fsc with unsettled := u.fsc.unsettled }) ∧
    (r ≠ ⟨true, .sale n, .empty⟩ → (∀ x order attempts, ¬listed x order attempts) →
      Freed s u (.sale n) [.recordLost (.sale n) none]) := by
  refine ⟨loadListSlot_empty, fun x order attempts listed => ?_, fun notEmpty other => ?_⟩
  · rw [loadListSlot_listed (saleAt?_some.2 listed)]
    exact ⟨insertBy_perm _ _ _, insertBy_sorted Unsettled.order _ _, rfl⟩
  · rw [loadListSlot_lost notEmpty fun x order attempts found => other x order attempts (saleAt?_some.1 found)]
    exact loseRecord_frees s _ _

/-! ### The pumps' slots (R158) -/

/-- One pump has become `x`, these entries were written, records may have been queued, and nothing else. -/
structure PumpLoaded (s u : State) (n : Nat) (x : Pump) (notes : List Report) : Prop where
  reads : u.pump? n = some x
  only : s.onlyPump u n
  wrote : Wrote s u notes
  bst : u.bst = { s.bst with queue := u.bst.queue, inFlight := u.bst.inFlight }
  frame : u = { s with bst := u.bst, fsc := u.fsc, evj := u.evj }

namespace PumpLoaded
variable {s t : State} {n : Nat} {x : Pump} {notes : List Report}

theorem start (reads : s.pump? n = some x) : PumpLoaded s s n x [] :=
  ⟨reads, ⟨rfl, fun _ _ => rfl⟩, .same rfl rfl, rfl, rfl⟩

theorem change (h : PumpLoaded s t n x notes) (f : Pump → Pump) (keeps : ∀ p, (f p).cfg = p.cfg) :
    PumpLoaded s (changePump n f t) n (f x) notes := by
  obtain ⟨reads, ⟨rest, others⟩, wrote, bst, frame⟩ := h
  refine ⟨pump?_self n f t keeps x reads, ⟨?_, fun m other => (pump?_other n m f t keeps other).trans (others m other)⟩, ?_, bst,
    ?_⟩
  · rw [changePump, State.setFsc_fsc, rest]
  · have all := wrote.trans (.same rfl rfl : Wrote t (changePump n f t) [])
    rwa [List.append_nil] at all
  · refine State.ext_fields _ _ ?_
    rw [frame]
    simp [changePump]

theorem queue (h : PumpLoaded s t n x notes) (id : RecordId) : PumpLoaded s (queueRecord id t) n x notes := by
  obtain ⟨reads, ⟨rest, others⟩, wrote, bst, frame⟩ := h
  have only : queueRecord id t = t.setBst { t.bst with
      queue := (queueRecord id t).bst.queue, inFlight := (queueRecord id t).bst.inFlight } := queueRecord_only id t
  generalize queueRecord id t = u at only ⊢
  have all := wrote.trans (.same (by rw [only]; rfl) (by rw [only]; rfl) : Wrote t u [])
  rw [List.append_nil] at all
  have fsc : u.fsc = t.fsc := by rw [only]; rfl
  have pumps : u.pump? = t.pump? := by
    funext m
    simp only [State.pump?, fsc]
  refine ⟨by rw [pumps]; exact reads, ⟨by rw [fsc]; exact rest, fun m other => ?_⟩, all, ?_, ?_⟩
  · rw [pumps]
    exact others m other
  · rw [only, State.setBst_bst, bst]
  · rw [only, frame]
    rfl

theorem note (h : PumpLoaded s t n x notes) (r : Report) : PumpLoaded s (report r t) n x (notes ++ [r]) := by
  obtain ⟨reads, only, wrote, bst, frame⟩ := h
  refine ⟨reads, only, wrote.trans (wrote_report r t), bst, ?_⟩
  rw [frame]
  rfl

/-- The words of the statements. -/
theorem becomes (h : PumpLoaded s t n x notes) : t.pump? n = some x ∧ s.onlyPump t n ∧ s.journalledAll t notes ∧
    t.bst = { s.bst with queue := t.bst.queue, inFlight := t.bst.inFlight } ∧
    t = { s with bst := t.bst, fsc := t.fsc, evj := t.evj } :=
  ⟨h.reads, h.only, h.wrote.all, h.bst, h.frame⟩

end PumpLoaded

/-- A pump with its next sale number. -/
def saleNumbered (next : Num8) (p : Pump) : Pump := { p with nextSale := next }

/-- A pump with the sale of its slot. -/
def lastHeld (x : Sale) (p : Pump) : Pump := { p with last := some x }

/-- A pump that has taken up a sale that awaits its end reading. -/
def takenUp (x : Sale) (p : Pump) : Pump := { p with state := .settling, sale := some x, recovered := true }

section
variable {s : State} {n : Nat}

theorem loadPumpSlot_empty (r : storedAt (.sale n) s.store = ⟨true, .sale n, .empty⟩) :
    loadPumpSlot n s = changePump n (saleNumbered (s.fsc.startNumber n none)) s := by
  simp only [loadPumpSlot, saleAt?_empty r, saleLostAt_empty r, Option.map_none, Bool.false_eq_true, if_false]
  rfl

theorem loadPumpSlot_lost (notEmpty : storedAt (.sale n) s.store ≠ ⟨true, .sale n, .empty⟩) (lost : s.saleAt? n = none) :
    loadPumpSlot n s = changePump n (saleNumbered (s.fsc.startNumber n none)) (loseRecord (.sale n) none s) := by
  simp only [loadPumpSlot, lost, saleLostAt_iff.2 ⟨lost, notEmpty⟩, Option.map_none, if_true]
  rfl

variable {x : Sale} {e : Option (Nat × Nat)} (held : s.saleAt? n = some (x, e))
include held

theorem loadPumpSlot_kept (stage : x.stage = .closed ∨ x.stage = .listed) :
    loadPumpSlot n s = changePump n (lastHeld x) (changePump n (saleNumbered (s.fsc.startNumber n (some x))) s) := by
  rcases stage with stage | stage <;>
    (simp only [loadPumpSlot, held, saleLostAt_held held, Option.map_some, stage, Bool.false_eq_true, if_false]; rfl)

theorem loadPumpSlot_abandoned (stage : x.stage = .authorising) :
    loadPumpSlot n s = report (.saleAbandoned x.id x.faultMark) (queueRecord (.sale n)
      (changePump n (lastHeld (x.closed .abandoned)) (changePump n (saleNumbered (s.fsc.startNumber n (some x))) s))) := by
  simp only [loadPumpSlot, held, saleLostAt_held held, Option.map_some, stage, Bool.false_eq_true, if_false]
  rfl

theorem loadPumpSlot_taken (stage : x.stage = .ready ∨ x.stage = .delivering ∨ x.stage = .settling) :
    loadPumpSlot n s =
      (let t := changePump n (takenUp (Sale.awaitingEnd x)) (changePump n (saleNumbered (s.fsc.startNumber n (some x))) s)
       if Sale.awaitingEnd x = x then t else queueRecord (.sale n) t) := by
  rcases stage with stage | stage | stage <;>
    (simp only [loadPumpSlot, held, saleLostAt_held held, Option.map_some, stage, Bool.false_eq_true, if_false]; rfl)

end

/-- What ResetsAndTheEndOfTheLoad says of a pump's slot. -/
theorem loadPumpSlot_loads (s : State) (n : Nat) (q : Pump) (reads : s.pump? n = some q) :
    let r := storedAt (.sale n) s.store
    let u := loadPumpSlot n s
    let used := s.fsc.numbersListed n
    let held (x : Sale) : Prop := (∃ e, r = ⟨true, .sale n, .sale x e⟩) ∧ (s.pump? x.id.pump).isSome = true
    let first : Num8 := match used with
      | [] => 0
      | k :: rest => (rest.foldl (fun a b => if a.toNat < b.toNat then b else a) k) + 1
    let becomes (x : Pump) (notes : List Report) : Prop :=
      u.pump? n = some x ∧ s.onlyPump u n ∧ s.journalledAll u notes ∧
        u.bst = { s.bst with queue := u.bst.queue, inFlight := u.bst.inFlight } ∧
        u = { s with bst := u.bst, fsc := u.fsc, evj := u.evj }
    (r = ⟨true, .sale n, .empty⟩ → becomes { q with nextSale := freeNumber used first 16 } [] ∧ u.bst = s.bst) ∧
    (r ≠ ⟨true, .sale n, .empty⟩ → (∀ x, ¬held x) →
      becomes { q with nextSale := freeNumber used first 16 } [.recordLost (.sale n) none] ∧ u.dirtyRecord (.sale n)) ∧
    (∀ x, held x →
      let next := freeNumber used (x.id.sale + 1) 16
      (x.stage = .closed ∨ x.stage = .listed → becomes { q with nextSale := next, last := some x } [] ∧ u.bst = s.bst) ∧
      (x.stage = .authorising →
        becomes { q with nextSale := next, last := some { x with stage := .closed, outcome := some .abandoned } }
          [.saleAbandoned x.id x.faultMark] ∧ u.dirtyRecord (.sale n)) ∧
      (x.stage = .ready ∨ x.stage = .delivering ∨ x.stage = .settling →
        let y : Sale := { x with stage := .settling, endTotal := none, volume := none, amount := none }
        becomes { q with nextSale := next, state := .settling, sale := some y, recovered := true } [] ∧
        (y ≠ x → u.dirtyRecord (.sale n)))) := by
  have lost : PumpLoaded s (loseRecord (.sale n) none s) n q [.recordLost (.sale n) none] :=
    ((PumpLoaded.start reads).note (.recordLost (.sale n) none)).queue (.sale n)
  have numbered (next : Num8) : PumpLoaded s (changePump n (saleNumbered next) s) n (saleNumbered next q) [] :=
    (PumpLoaded.start reads).change (saleNumbered next) fun _ => rfl
  refine ⟨fun r => ?_, fun notEmpty none => ?_, fun x held => ?_⟩
  · rw [loadPumpSlot_empty r]
    exact ⟨(numbered _).becomes, rfl⟩
  · rw [loadPumpSlot_lost notEmpty (saleAt?_none.2 none)]
    refine ⟨(lost.change (saleNumbered (s.fsc.startNumber n Option.none)) fun _ => rfl).becomes, ?_⟩
    exact dirtyRecord_same rfl (queueRecord_dirty (.sale n) (report (.recordLost (.sale n) Option.none) s))
  · obtain ⟨⟨e, r⟩, there⟩ := held
    have at_ : s.saleAt? n = some (x, e) := saleAt?_some.2 ⟨r, there⟩
    refine ⟨fun stage => ?_, fun stage => ?_, fun stage => ?_⟩
    · rw [loadPumpSlot_kept at_ stage]
      exact ⟨((numbered _).change (lastHeld x) fun _ => rfl).becomes, rfl⟩
    · rw [loadPumpSlot_abandoned at_ stage]
      refine ⟨((((numbered _).change (lastHeld (x.closed .abandoned)) fun _ => rfl).queue (.sale n)).note _).becomes, ?_⟩
      refine dirtyRecord_same ?_ (queueRecord_dirty (.sale n) (changePump n (lastHeld (x.closed .abandoned))
        (changePump n (saleNumbered (s.fsc.startNumber n (some x))) s)))
      simp
    · rw [loadPumpSlot_taken at_ stage]
      have taken := (numbered (s.fsc.startNumber n (some x))).change (takenUp (Sale.awaitingEnd x)) fun _ => rfl
      dsimp only
      split
      · next same => exact ⟨taken.becomes, fun differs => absurd same differs⟩
      · exact ⟨(taken.queue (.sale n)).becomes, fun _ => queueRecord_dirty _ _⟩

/-- The pump records of a table, as after each reset. -/
def freshPumps (order : List PumpCfg) : List Pump := order.map fun c => { cfg := c }

theorem foldl_freshPumps (order : List PumpCfg) (s : State) :
    ((freshPumps order).map fun p => p.cfg.number).foldl (fun x n => loadPumpSlot n x) s =
      order.foldl (fun x c => loadPumpSlot c.number x) s := by
  rw [freshPumps, List.map_map, List.foldl_map]
  rfl

theorem any_freshPumps (order : List PumpCfg) :
    (fun n => !(freshPumps order).any fun p => p.cfg.number == n) = fun n => !order.any fun c => c.number == n := by
  funext n
  rw [freshPumps, List.any_map]
  rfl

/-- The list slots loaded, before the pumps' slots. -/
def listLoaded (s : State) : State :=
  (List.range 16).foldl (fun x i => loadListSlot (i + 5) x)
    (s.setFsc { pumps := freshPumps (sortBy (fun x y : PumpCfg => x.number ≤ y.number) s.cfg.pumps) })

/-- The retry timer and the last order number set after the list slots. -/
def listTimed (t : State) : State :=
  t.setFsc { t.fsc with
    lastOrder := (t.fsc.unsettled.map Unsettled.order).foldl max 0
    retryAt := if t.fsc.unsettled.isEmpty then none else some 30000 }

theorem buildPumps_fuel {s : State} (fuel : s.cfg.role = .fuel) : buildPumps s =
    ([1, 2, 3, 4].filter fun n =>
        !(freshPumps (sortBy (fun x y : PumpCfg => x.number ≤ y.number) s.cfg.pumps)).any fun p => p.cfg.number == n).foldl
      (fun x n => if x.saleLostAt n then loseRecord (.sale n) none x else x)
      (((freshPumps (sortBy (fun x y : PumpCfg => x.number ≤ y.number) s.cfg.pumps)).map fun p => p.cfg.number).foldl
        (fun x n => loadPumpSlot n x) (listTimed (listLoaded s))) := by
  unfold buildPumps
  rw [if_pos fuel]
  unfold listTimed listLoaded freshPumps
  rfl

/-- What ResetsAndTheEndOfTheLoad says of the pumps. -/
theorem buildPumps_builds (s : State) : (s.cfg.role ≠ .fuel → buildPumps s = s) ∧
    (s.cfg.role = .fuel → ∃ order : List PumpCfg, order.Perm s.cfg.pumps ∧ order.Pairwise (fun x y => x.number ≤ y.number) ∧
      let listed := (List.range 16).foldl (fun x i => loadListSlot (i + 5) x)
        (s.setFsc { pumps := order.map fun c => { cfg := c } })
      ∃ last, (∀ e ∈ listed.fsc.unsettled, e.order ≤ last) ∧
        (last = 0 ∨ ∃ e ∈ listed.fsc.unsettled, e.order = last) ∧
        buildPumps s = ([1, 2, 3, 4].filter fun n => !order.any fun c => c.number == n).foldl
          (fun x n => if x.saleLostAt n then loseRecord (.sale n) none x else x)
          (order.foldl (fun x c => loadPumpSlot c.number x) (listed.setFsc { listed.fsc with
            lastOrder := last, retryAt := if listed.fsc.unsettled = [] then none else some 30000 }))) := by
  refine ⟨fun other => if_neg other, fun fuel => ?_⟩
  obtain ⟨perm, sorted⟩ := sortBy_spec PumpCfg.number s.cfg.pumps
  refine ⟨_, perm, sorted, ?_⟩
  intro listed
  have same : listed = listLoaded s := rfl
  rw [same]
  clear_value listed
  obtain ⟨-, above, among⟩ := foldl_max ((listLoaded s).fsc.unsettled.map Unsettled.order) 0
  refine ⟨((listLoaded s).fsc.unsettled.map Unsettled.order).foldl max 0, fun e mem => above _ (List.mem_map_of_mem mem), ?_, ?_⟩
  · rcases among with zero | among
    · exact .inl zero
    · exact .inr (by simpa using among)
  · have timer : (if (listLoaded s).fsc.unsettled = [] then none else some 30000) =
        if (listLoaded s).fsc.unsettled.isEmpty then none else some 30000 := by
      cases (listLoaded s).fsc.unsettled <;> rfl
    rw [timer, ← foldl_freshPumps, ← any_freshPumps, buildPumps_fuel fuel, listTimed]

end Sys2Proof.Machine
end

section
/-! SUPPORT. A standing-change notice: the epoch, the copies revoked, the outlets and the tap the booking holds (R6, R28, R94,
R122). -/

namespace Sys2Proof.Machine

/-! ### An outlet's and a tap's part -/

/-- An outlet after a standing change: `j` is the join number it takes where it waits. -/
def noticed (old new : Standing) (j : Nat) (o : Outlet) : Outlet :=
  if new = .barred then if o.state = .live ∨ o.queued = true then unpowered .suspended o else o
  else if old = .barred ∧ o.state = .suspended then waitingAt j o else o

theorem noticed_noticed (old new : Standing) (i j : Nat) (o : Outlet) :
    noticed old new j (noticed old new i o) = noticed old new i o := by
  unfold noticed
  by_cases barred : new = .barred
  · simp only [barred, if_true]
    by_cases on : o.state = .live ∨ o.queued = true
    · rw [if_pos on]
      exact if_neg (by simp [unpowered, Outlet.queued])
    · rw [if_neg on, if_neg on]
  · simp only [barred, if_false]
    by_cases off : old = .barred ∧ o.state = .suspended
    · rw [if_pos off]
      exact if_neg (by simp [waitingAt])
    · rw [if_neg off, if_neg off]

theorem noticeOutlet_notices {old new : Standing} {n : Nat} {s : State} {o : Outlet} (reads : s.outlet? n = some o) :
    ∃ j, (noticeOutlet old new n s).outlet? n = some (noticed old new j o) := by
  have suspends : (outletSuspended n s).outlet? n = some (unpowered .suspended o) :=
    outlet?_changeOutlet_self n (unpowered .suspended) s (fun _ => rfl) reads
  have waits : (outletWaits n s).outlet? n = some (waitingAt s.pbc.counter o) :=
    outlet?_changeOutlet_self n (waitingAt s.pbc.counter) (takeNumber s).2 (fun _ => rfl) reads
  refine ⟨s.pbc.counter, ?_⟩
  simp only [noticeOutlet, reads, noticed, beq_iff_eq, Bool.or_eq_true, Bool.and_eq_true]
  (repeat' split) <;> assumption

theorem noticeOutlet_others (old new : Standing) {n m : Nat} (s : State) (other : m ≠ n) :
    (noticeOutlet old new n s).outlet? m = s.outlet? m := by
  have suspends : (outletSuspended n s).outlet? m = s.outlet? m :=
    outlet?_changeOutlet_other n (unpowered .suspended) s (fun _ => rfl) other
  have waits : (outletWaits n s).outlet? m = s.outlet? m :=
    outlet?_changeOutlet_other n (waitingAt s.pbc.counter) (takeNumber s).2 (fun _ => rfl) other
  unfold noticeOutlet
  (repeat' split) <;> first | rfl | assumption

theorem noticeOutlet_taps (old new : Standing) (n : Nat) (s : State) : (noticeOutlet old new n s).pbc.taps = s.pbc.taps := by
  have changed (f : Outlet → Outlet) (t : State) (taps : t.pbc.taps = s.pbc.taps) : (changeOutlet n f t).pbc.taps = s.pbc.taps := by
    rw [changeOutlet_pbc]
    exact taps
  have suspends : (outletSuspended n s).pbc.taps = s.pbc.taps := changed _ s rfl
  have waits : (outletWaits n s).pbc.taps = s.pbc.taps := changed _ (takeNumber s).2 rfl
  unfold noticeOutlet
  (repeat' split) <;> first | rfl | assumption

/-- The outlets of a berth, one after the other. -/
def noticeOutlets (old new : Standing) (l : List Nat) (s : State) : State := l.foldl (fun x n => noticeOutlet old new n x) s

theorem noticeOutlets_others (old new : Standing) {l : List Nat} {m : Nat} (s : State) (unlisted : m ∉ l) :
    (noticeOutlets old new l s).outlet? m = s.outlet? m := by
  induction l generalizing s with
  | nil => rfl
  | cons n l ih =>
    rw [List.mem_cons, not_or] at unlisted
    exact (ih (noticeOutlet old new n s) unlisted.2).trans (noticeOutlet_others old new s unlisted.1)

theorem noticeOutlets_notice {old new : Standing} {l : List Nat} {m : Nat} {s : State} {o : Outlet} (listed : m ∈ l)
    (reads : s.outlet? m = some o) : ∃ j, (noticeOutlets old new l s).outlet? m = some (noticed old new j o) := by
  induction l generalizing s o with
  | nil => cases listed
  | cons n l ih =>
    have next : noticeOutlets old new (n :: l) s = noticeOutlets old new l (noticeOutlet old new n s) := rfl
    by_cases first : m = n
    · subst first
      obtain ⟨i, noticed_⟩ := noticeOutlet_notices (old := old) (new := new) reads
      by_cases again : m ∈ l
      · obtain ⟨j, final⟩ := ih again noticed_
        exact ⟨i, by rw [next, final, noticed_noticed]⟩
      · exact ⟨i, by rw [next, noticeOutlets_others old new _ again, noticed_]⟩
    · rw [next]
      exact ih ((List.mem_cons.1 listed).resolve_left first) ((noticeOutlet_others old new s first).trans reads)

theorem noticeOutlets_taps (old new : Standing) (l : List Nat) (s : State) :
    (noticeOutlets old new l s).tap? = s.tap? := by
  have taps : (noticeOutlets old new l s).pbc.taps = s.pbc.taps := by
    induction l generalizing s with
    | nil => rfl
    | cons n l ih => exact (ih (noticeOutlet old new n s)).trans (noticeOutlet_taps old new n s)
  funext n
  simp only [State.tap?, taps]

/-- A tap after a standing change. -/
def tapNoticed (old new : Standing) (p : Tap) : Tap :=
  if new = .barred then tapLocked p else if old = .barred ∧ p.state = .locked then tapClosed p else p

theorem noticeTap_notices {old new : Standing} {n : Nat} {s : State} {p : Tap} (reads : s.tap? n = some p) :
    (noticeTap old new n s).tap? n = some (tapNoticed old new p) := by
  have locks := (changeTap_moves reads tapLocked fun _ => rfl).1
  have closes := (changeTap_moves reads tapClosed fun _ => rfl).1
  simp only [noticeTap, reads, tapNoticed, beq_iff_eq, Bool.and_eq_true, moveTap_locked, moveTap_closed]
  (repeat' split) <;> assumption

theorem noticeTap_others (old new : Standing) {n m : Nat} (s : State) (other : m ≠ n) :
    (noticeTap old new n s).tap? m = s.tap? m := by
  have locks := tap?_other n m tapLocked s (fun _ => rfl) other
  have closes := tap?_other n m tapClosed s (fun _ => rfl) other
  unfold noticeTap
  rw [moveTap_locked, moveTap_closed]
  (repeat' split) <;> first | rfl | assumption

theorem noticeTap_outlet? (old new : Standing) (n : Nat) (s : State) : (noticeTap old new n s).outlet? = s.outlet? := by
  unfold noticeTap
  (repeat' split) <;> rfl

/-! ### The posts' part -/

section
variable {old new : Standing} {n k : Nat} {s : State} {x : Berth} (there : s.berth? n = some x)
include there

/-- The notice reaches the posts where its booking holds the berth's outlets and tap (R94). -/
theorem postsNotice_holds (holds : ∃ h, s.holding? n = some h ∧ h.serial = some k) : postsNotice n k old new s =
    match x.cfg.tap with
    | some t => noticeTap old new t (noticeOutlets old new x.cfg.outlets s)
    | none => noticeOutlets old new x.cfg.outlets s := by
  obtain ⟨h, first, own⟩ := holds
  have holding : x.holding? = some h := by simpa only [State.holding?, there, Option.bind_some] using first
  simp only [postsNotice, there, holding, Option.any_some, own, beq_self_eq_true, if_true]
  rfl

theorem postsNotice_free (free : ¬∃ h, s.holding? n = some h ∧ h.serial = some k) : postsNotice n k old new s = s := by
  have other : (x.holding?.any fun h => h.serial == some k) = false := by
    rw [Bool.eq_false_iff, Ne, Option.any_eq_true]
    rintro ⟨h, first, same⟩
    exact free ⟨h, by rw [State.holding?, there]; exact first, eq_of_beq same⟩
  simp only [postsNotice, there, other, Bool.false_eq_true, if_false]

end

/-! ### The notice -/

/-- A booking with its epoch one on. -/
def epochOn (k : Booking) : Booking := { k with epoch := k.epoch + 1 }

/-- A berth with one live booking changed. -/
def bookingChanged (k : Nat) (f : Booking → Booking) (x : Berth) : Berth :=
  { x with bookings := updWhere (fun b => b.live && b.serial == some k) f x.bookings }

theorem berth?_changeBooking_self {n k : Nat} {s : State} {b : Booking} {x : Berth} (there : s.berth? n = some x)
    (reads : s.booking? n k = some b) (f : Booking → Booking) :
    (changeBooking n k f s).berth? n = some (bookingChanged k f x) := by
  have on : (onBooking n k f s).berth? n = some (bookingChanged k f x) := by
    refine (berth?_onBerth n n (bookingChanged k f) s fun _ => rfl).trans ?_
    rw [there, Option.map_some, if_pos (by simp [berth?_number there])]
  simp only [changeBooking, reads]
  rw [berth?_same (onBooking n k f s) _ (by simp)]
  exact on

/-- A booking's epoch leaves whose booking holds the berth. -/
theorem bookingChanged_holding? (k j : Nat) (x : Berth) : (∃ h, (bookingChanged k epochOn x).holding? = some h ∧ h.serial = some j) ↔
    ∃ h, x.holding? = some h ∧ h.serial = some j := by
  have found : (bookingChanged k epochOn x).holding? = x.holding?.map fun b =>
      if (b.live && b.serial == some k) = true then epochOn b else b := find?_updWhere _ _ _ _ fun _ _ => rfl
  rw [found]
  cases x.holding? with
  | none => simp
  | some h =>
    simp only [Option.map_some, Option.some.injEq, exists_eq_left']
    split <;> rfl

section
variable {berth serial : Nat} {s : State} {b : Booking} (reads : s.booking? berth serial = some b)

/-- The station in the middle of a notice: the epoch has advanced and the copies are revoked. -/
def noticeRevoked (berth serial : Nat) (b : Booking) (s : State) : State := revoke b.tags (changeBooking berth serial epochOn s)

include reads in
theorem notice_eq (old new : Standing) : notice berth serial old new s =
    report (.standingChanged berth old new serial) (postsNotice berth serial old new (noticeRevoked berth serial b s)) := by
  simp only [notice, reads]
  rfl

theorem revoke_acu_eq (tags : List Tag) (t : State) : (revoke tags t).acu = { t.acu with
    cache := t.acu.cache.filter fun e => e.pinned || !tags.contains e.record.tag
    lookups := t.acu.lookups.map fun l => if tags.contains l.tag then { l with marked := true } else l } := by
  cases tags with
  | nil =>
    have all : (fun e : CacheEntry => e.pinned || !([] : List Tag).contains e.record.tag) = fun _ => true := by
      funext e
      simp
    rw [all]
    simp [revoke]
  | cons first rest =>
    have either (p : Bool) (x : State) (r : Report) : (if p then x else report r x).acu = x.acu := by cases p <;> simp
    simp only [revoke]
    rw [either, broadcast, (enqueue_frame ..).2.2.2.2.2.2.2.2.2.2.2.2.1]
    rfl

theorem revoke_lost {t : State} {first : Tag} {rest : List Tag} (full : 16 ≤ t.qlc.queue.length) :
    ∃ u, Grows t u ∧ revoke (first :: rest) t = report (.revokeLost first (first :: rest).length) u := by
  have refused : (broadcast (.tagRevoke t.cfg.station (first :: rest))
      (markLookups (first :: rest) (dropTags (first :: rest) t))).2 = false := by
    simp [broadcast, enqueue, markLookups, dropTags, Nat.not_lt.2 full]
  refine ⟨(broadcast (.tagRevoke t.cfg.station (first :: rest)) (markLookups (first :: rest) (dropTags (first :: rest) t))).1,
    .same (by simp) (by simp), ?_⟩
  simp only [revoke, refused, Bool.false_eq_true, if_false]

end

/-- A frame that has joined the queue stays there while frames of the background join it. -/
theorem Sends.queuedWide {s t u : State} {f : Frame} (sends : Sends t u) (h : s.queuedWide t f) : s.queuedWide u f := by
  obtain ⟨e, mem, frame, new, onA, onB⟩ := h
  obtain ⟨more, queue, -⟩ := sends.queue
  have usable (c : Channel) : u.qlc.usable c = t.qlc.usable c := by
    rw [sends.rest]
    cases c <;> rfl
  exact ⟨e, by rw [queue]; exact List.mem_append_left _ mem, frame, new, by rw [usable]; exact onA, by rw [usable]; exact onB⟩

/-- What ResetsAndTheEndOfTheLoad says of a standing-change notice. -/
theorem notice_notices (s : State) (berth serial : Nat) (old new : Standing) (b : Booking) (x : Berth)
    (there : s.berth? berth = some x) (reads : s.booking? berth serial = some b) :
    let u := notice berth serial old new s
    let holds := ∃ h, s.holding? berth = some h ∧ h.serial = some serial
    u.booking? berth serial = some { b with epoch := b.epoch + 1 } ∧ s.sameBookingsBut u berth serial ∧
    (∀ n, b.slot = some n → u.dirtyRecord (.booking n)) ∧
    u.acu = { s.acu with
      cache := s.acu.cache.filter fun e => e.pinned || !b.tags.contains e.record.tag
      lookups := s.acu.lookups.map fun l => if b.tags.contains l.tag then { l with marked := true } else l } ∧
    (b.tags ≠ [] → s.qlc.queue.length < 16 → s.queuedWide u ⟨0, 0, .tagRevoke s.cfg.station b.tags⟩) ∧
    (∀ t rest, b.tags = t :: rest → 16 ≤ s.qlc.queue.length → s.noted u (.revokeLost t b.tags.length)) ∧
    u.lastReport = some (.standingChanged berth old new serial) ∧
    (¬holds → u.pbc = s.pbc) ∧
    (∀ n, n ∉ x.cfg.outlets → u.outlet? n = s.outlet? n) ∧ (∀ n, x.cfg.tap ≠ some n → u.tap? n = s.tap? n) ∧
    (∀ n o, holds → n ∈ x.cfg.outlets → s.outlet? n = some o →
      (new = .barred → o.state = .live ∨ o.state = .waiting ∨ o.state = .shed →
        u.outlet? n = some { o with state := .suspended, join := none, restAt := none }) ∧
      (old = .barred → new ≠ .barred → o.state = .suspended →
        ∃ j, u.outlet? n = some { o with state := .waiting, join := some j, restAt := none }) ∧
      ((new = .barred → o.state = .suspended ∨ o.state = .off ∨ o.state = .tripped) →
        (new ≠ .barred → old = .barred → o.state ≠ .suspended) → u.outlet? n = some o)) ∧
    (∀ n p, holds → x.cfg.tap = some n → s.tap? n = some p →
      let moved (v : TapState) : Prop := u.tap? n = some { p with
        state := v, runAt := none, leakCount := if p.state = .opened then 0 else p.leakCount }
      (new = .barred → moved .locked) ∧
      (old = .barred → new ≠ .barred → p.state = .locked → moved .closed) ∧
      (new ≠ .barred → old ≠ .barred ∨ p.state ≠ .locked → u.tap? n = some p)) ∧
    u = { s with bst := u.bst, acu := u.acu, pbc := u.pbc, lsu := u.lsu, qlc := u.qlc, evj := u.evj } := by
  intro u holds
  have is : u = report (.standingChanged berth old new serial)
      (postsNotice berth serial old new (noticeRevoked berth serial b s)) := notice_eq reads old new
  have bst : u.bst = (changeBooking berth serial epochOn s).bst := by
    rw [is]
    simp [noticeRevoked]
  have bookings : u.booking? = (changeBooking berth serial epochOn s).booking? := booking?_same _ _ (by rw [bst])
  have keeps : Keeps epochOn := fun _ => ⟨rfl, rfl⟩
  have grows : Grows (noticeRevoked berth serial b s) u := by
    rw [is]
    exact (grows_postsNotice _ _ _ _ _).trans (grows_report _ _)
  have sends : Sends (noticeRevoked berth serial b s) u := by
    rw [is]
    exact sends_background.report (sends_background.postsNotice _ _ _ _ _) _
  have pbc : (noticeRevoked berth serial b s).pbc = s.pbc := by simp [noticeRevoked]
  have changed : (noticeRevoked berth serial b s).berth? berth = some (bookingChanged serial epochOn x) := by
    rw [berth?_same (changeBooking berth serial epochOn s) _ (by simp [noticeRevoked])]
    exact berth?_changeBooking_self there reads epochOn
  have holding : (∃ h, (noticeRevoked berth serial b s).holding? berth = some h ∧ h.serial = some serial) ↔ holds := by
    simp only [holds, State.holding?, changed, there, Option.bind_some]
    exact bookingChanged_holding? serial serial x
  have outlets : (noticeRevoked berth serial b s).outlet? = s.outlet? := outlet?_same _ _ pbc
  have taps : (noticeRevoked berth serial b s).tap? = s.tap? := tap?_same _ _ pbc
  have outletsAfter : u.outlet? = (postsNotice berth serial old new (noticeRevoked berth serial b s)).outlet? := by
    rw [is]
    exact outlet?_same _ _ (by simp)
  have tapsAfter : u.tap? = (postsNotice berth serial old new (noticeRevoked berth serial b s)).tap? := by
    rw [is]
    exact tap?_same _ _ (by simp)
  have free_pbc (free : ¬holds) : u.pbc = s.pbc := by
    rw [is, postsNotice_free changed fun h => free (holding.1 h)]
    simp [pbc]
  have heldOutlets (held : holds) :
      u.outlet? = (noticeOutlets old new x.cfg.outlets (noticeRevoked berth serial b s)).outlet? := by
    rw [outletsAfter, postsNotice_holds changed (holding.2 held)]
    split
    · exact noticeTap_outlet? old new _ _
    · rfl
  have heldTap (held : holds) {n : Nat} (own : x.cfg.tap = some n) : u.tap? =
      (noticeTap old new n (noticeOutlets old new x.cfg.outlets (noticeRevoked berth serial b s))).tap? := by
    have same : (bookingChanged serial epochOn x).cfg.tap = some n := own
    rw [tapsAfter, postsNotice_holds changed (holding.2 held), same]
    rfl
  have tapsThrough : (noticeOutlets old new x.cfg.outlets (noticeRevoked berth serial b s)).tap? = s.tap? :=
    (noticeOutlets_taps old new _ _).trans taps
  refine ⟨?_, fun n k other => ?_, fun n slot => ?_, ?_, fun some_tag room => ?_, fun t rest listed full => ?_, ?_,
    free_pbc, fun n unlisted => ?_, fun n other => ?_, fun n o held listed found => ?_, fun n p held own found => ?_, ?_⟩
  · rw [bookings, booking?_changeBooking _ _ _ _ epochOn s keeps, if_pos ⟨rfl, rfl⟩, reads]
    rfl
  · rw [bookings, booking?_changeBooking _ _ _ _ epochOn s keeps, if_neg other]
  · exact dirtyRecord_same bst (changeBooking_dirty reads epochOn slot)
  · have acu : u.acu = (noticeRevoked berth serial b s).acu := by
      rw [is]
      simp
    rw [acu, noticeRevoked, revoke_acu_eq]
    simp
  · refine sends.queuedWide ?_
    rw [noticeRevoked, revoke_room some_tag (by simpa using room)]
    exact queuedWide_congr (by simp) (by simp) (broadcast_queuedWide
      (s := markLookups b.tags (dropTags b.tags (changeBooking berth serial epochOn s))) (.tagRevoke s.cfg.station b.tags)
      (by simpa using room))
  · obtain ⟨v, before, lost⟩ := revoke_lost (t := changeBooking berth serial epochOn s) (first := t) (rest := rest)
      (by simpa using full)
    rw [noticeRevoked, listed, lost] at grows
    rw [listed]
    exact (before.after (by simp) (by simp)).noted grows
  · rw [is, lastReport_report]
  · by_cases held : holds
    · rw [heldOutlets held, noticeOutlets_others old new _ unlisted, outlets]
    · rw [outlet?_same s u (free_pbc held)]
  · by_cases held : holds
    · cases own : x.cfg.tap with
      | some m =>
        rw [heldTap held own, noticeTap_others old new _ fun same => other (own.trans (congrArg some same.symm)), tapsThrough]
      | none =>
        have same : (bookingChanged serial epochOn x).cfg.tap = none := own
        rw [tapsAfter, postsNotice_holds changed (holding.2 held), same]
        exact congrFun tapsThrough n
    · rw [tap?_same s u (free_pbc held)]
  · obtain ⟨j, seen⟩ := noticeOutlets_notice (old := old) (new := new) listed ((congrFun outlets n).trans found)
    rw [heldOutlets held, seen]
    refine ⟨fun barred on => ?_, fun was now off => ⟨j, ?_⟩, fun stays waits => ?_⟩
    · rw [noticed, if_pos barred, if_pos (by rwa [queued_iff])]
      rfl
    · rw [noticed, if_neg now, if_pos ⟨was, off⟩]
      rfl
    · unfold noticed
      split
      · next barred =>
        rw [if_neg]
        rcases stays barred with state | state | state <;> simp [Outlet.queued, state]
      · next now => rw [if_neg fun both => waits now both.1 both.2]
  · have seen := noticeTap_notices (old := old) (new := new) ((congrFun tapsThrough n).trans found)
    rw [heldTap held own, seen]
    intro moved
    refine ⟨fun barred => ?_, fun was now locked => ?_, fun now rest => ?_⟩
    · simp only [moved, tapNoticed, if_pos barred, tapLocked, beq_iff_eq]
    · simp only [moved, tapNoticed, if_neg now, if_pos (And.intro was locked), tapClosed, beq_iff_eq]
    · rw [tapNoticed, if_neg now, if_neg]
      rintro ⟨was, locked⟩
      rcases rest with other | other
      · exact other was
      · exact other locked
  · rw [is]
    exact State.ext_fields _ _ (by simp [noticeRevoked])

end Sys2Proof.Machine
end

section
/-! SUPPORT. CFL hands out the values of an accepted image (R66, R196), and what the load keeps of the state (R45, R110, R196). -/

namespace Sys2Proof.Machine

/-! ### The values handed out -/

theorem reportClamp_wrote (clamp : Bool) (offset value : Nat) (s : State) :
    Wrote s (reportClamp clamp offset value s) (if clamp then [.configClamped offset value] else []) ∧
    reportClamp clamp offset value s = { s with evj := (reportClamp clamp offset value s).evj } := by
  cases clamp
  · exact ⟨.same rfl rfl, rfl⟩
  · exact ⟨wrote_report _ _, rfl⟩

/-- The values of an image in the blocks, once the clamps have been reported. -/
def valuesSet (i : Image) (s : State) : State :=
  ((((((s.setCfg i).setCfl { s.cfl with load := .accepted }).setBst { s.bst with
    berths := (sortBy (fun x y : BerthCfg => x.number ≤ y.number) i.berths).map fun b => { cfg := b } }).setLsu
    (freshLsu i)).setQlc { s.qlc with peers := freshPeers i.station }).setDck { s.dck with inForce := i.startSet })

theorem handValues_eq (body : List Byte) (read : Image) (s : State) : handValues body read s =
    valuesSet read.clamped (reportClamp (min read.ceiling read.feederLimit < read.floor) (Config.fieldOffset body floorField) read.floor
      (reportClamp (read.feederLimit < read.ceiling) (Config.fieldOffset body ceilingField) read.ceiling s)) := rfl

theorem freshLsu_eq (i : Image) : freshLsu i = {
    demand := if i.role = .pontoon then 0 else i.floor, declared := i.floor, computed := i.floor, applied := i.floor
    held := decide (i.role = .pontoon ∧ i.posts ≠ []) } := by
  have held : (decide (i.role = .pontoon) && !i.posts.isEmpty) = decide (i.role = .pontoon ∧ i.posts ≠ []) := by
    rw [Bool.decide_and]
    cases i.posts <;> rfl
  rw [← held]
  rfl

theorem mem_freshPeers {station : Nat} {p : Peer} : p ∈ freshPeers station ↔
    ∃ n, 1 ≤ n ∧ n ≤ 30 ∧ n ≠ station ∧ p = { number := n } := by
  simp only [freshPeers, List.mem_map, List.mem_filter, List.mem_range, bne_iff_ne]
  constructor
  · rintro ⟨n, ⟨below, other⟩, rfl⟩
    exact ⟨n + 1, by omega, by omega, other, rfl⟩
  · rintro ⟨n, low, high, other, rfl⟩
    exact ⟨n - 1, ⟨by omega, by rwa [Nat.sub_add_cancel low]⟩, by rw [Nat.sub_add_cancel low]⟩

/-- What ResetsAndTheEndOfTheLoad says of the values handed out. -/
theorem handValues_hands (s : State) (body : List Byte) (read : Image) :
    let i := read.clamped
    let c := min read.ceiling read.feederLimit
    let u := handValues body read s
    u.cfg = i ∧ u.cfl = { s.cfl with load := .accepted } ∧
    i = { read with
      floor := min read.floor c, ceiling := if read.role = .pontoon then c else min read.floor c } ∧
    s.journalledAll u (
      (if read.feederLimit < read.ceiling then
        [.configClamped (Config.fieldOffset body ceilingField) read.ceiling] else []) ++
      (if c < read.floor then [.configClamped (Config.fieldOffset body floorField) read.floor] else [])) ∧
    u.bst = { s.bst with berths := u.bst.berths } ∧ (u.bst.berths.map Berth.cfg).Perm i.berths ∧
    (∀ b ∈ u.bst.berths, b.bookings = []) ∧
    u.lsu = { demand := if i.role = .pontoon then 0 else i.floor, declared := i.floor, computed := i.floor, applied := i.floor
              held := decide (i.role = .pontoon ∧ i.posts ≠ []) } ∧
    u.qlc = { s.qlc with peers := u.qlc.peers } ∧ u.dck = { s.dck with inForce := i.startSet } ∧
    (∀ p ∈ u.qlc.peers, p = { number := p.number }) ∧
    (∀ n, n ∈ u.qlc.peers.map Peer.number ↔ 1 ≤ n ∧ n ≤ 30 ∧ n ≠ i.station) ∧
    u = { s with cfg := u.cfg, bst := u.bst, lsu := u.lsu, qlc := u.qlc, dck := u.dck, evj := u.evj, cfl := u.cfl } := by
  intro i c u
  obtain ⟨wrote, frame⟩ := reportClamp_wrote (decide (read.feederLimit < read.ceiling)) (Config.fieldOffset body ceilingField)
    read.ceiling s
  obtain ⟨wrote', frame'⟩ := reportClamp_wrote (decide (c < read.floor)) (Config.fieldOffset body floorField) read.floor
    (reportClamp (read.feederLimit < read.ceiling) (Config.fieldOffset body ceilingField) read.ceiling s)
  have both := (wrote.trans wrote').all
  simp only [decide_eq_true_eq] at both
  have is : u = valuesSet i (reportClamp (c < read.floor) (Config.fieldOffset body floorField) read.floor
      (reportClamp (read.feederLimit < read.ceiling) (Config.fieldOffset body ceilingField) read.ceiling s)) := handValues_eq body read s
  generalize reportClamp (read.feederLimit < read.ceiling) (Config.fieldOffset body ceilingField) read.ceiling s = v at *
  generalize reportClamp (c < read.floor) (Config.fieldOffset body floorField) read.floor v = w at *
  have plain : w = { s with evj := w.evj } := by
    rw [frame']
    rw [frame]
  obtain ⟨perm, -⟩ := sortBy_spec BerthCfg.number i.berths
  rw [is]
  refine ⟨rfl, ?_, ?_, both, ?_, ?_, fun b mem => ?_, freshLsu_eq i, ?_, ?_, fun p mem => ?_, fun n => ?_, ?_⟩
  · rw [plain]
    rfl
  · rfl
  · rw [plain]
    rfl
  · refine .trans (.of_eq ?_) perm
    exact (List.map_map ..).trans (List.map_id _)
  · obtain ⟨x, -, rfl⟩ := List.mem_map.1 mem
    rfl
  · rw [plain]
    rfl
  · rw [plain]
    rfl
  · obtain ⟨n, -, -, -, rfl⟩ := mem_freshPeers.1 mem
    rfl
  · rw [List.mem_map]
    constructor
    · rintro ⟨p, mem, rfl⟩
      obtain ⟨m, low, high, other, rfl⟩ := mem_freshPeers.1 mem
      exact ⟨low, high, other⟩
    · rintro ⟨low, high, other⟩
      exact ⟨{ number := n }, mem_freshPeers.2 ⟨n, low, high, other, rfl⟩, rfl⟩
  · rw [plain]
    rfl

/-! ### What the load keeps -/

/-- What a load leaves as it was, but for the values CFL hands out. -/
structure LoadKeeps (s t : State) : Prop where
  frame : t = { s with
    bst := t.bst, lsu := t.lsu, pbc := t.pbc, acu := t.acu, gtc := t.gtc, fsc := t.fsc, qlc := t.qlc, evj := t.evj, cfl := t.cfl }
  lookups : t.acu.lookups = s.acu.lookups
  cfl : t.cfl = { s.cfl with notices := t.cfl.notices }
  sends : Sends s t
  fault : t.bst.fault = s.bst.fault
  flight : s.bst.inFlight = none → t.bst.inFlight = none

/-- A step of the load that leaves BST, ACU's lookups and CFL. -/
theorem loadKeeps_of {s t : State} (sends : Sends s t) (frame : t = { s with
    bst := t.bst, lsu := t.lsu, pbc := t.pbc, acu := t.acu, gtc := t.gtc, fsc := t.fsc, qlc := t.qlc, evj := t.evj, cfl := t.cfl })
    (bst : t.bst = s.bst) (acu : t.acu = s.acu) (cfl : t.cfl = s.cfl) : LoadKeeps s t :=
  ⟨frame, by rw [acu], by rw [cfl], sends, by rw [bst], by rw [bst]; exact fun none => none⟩

theorem LoadKeeps.refl (s : State) : LoadKeeps s s := loadKeeps_of (.same rfl) rfl rfl rfl rfl

theorem LoadKeeps.trans {s t u : State} (st : LoadKeeps s t) (tu : LoadKeeps t u) : LoadKeeps s u where
  frame := by
    refine tu.frame.trans ?_
    rw [st.frame]
  lookups := tu.lookups.trans st.lookups
  cfl := by rw [tu.cfl, st.cfl]
  sends := st.sends.trans tu.sends
  fault := tu.fault.trans st.fault
  flight none := tu.flight (st.flight none)

theorem LoadKeeps.cfg_eq {s t : State} (h : LoadKeeps s t) : t.cfg = s.cfg := by
  rw [h.frame]

theorem loadKeeps_report (r : Report) (s : State) : LoadKeeps s (report r s) :=
  loadKeeps_of (.same (by simp)) rfl (by simp) (by simp) (by simp)

theorem loadKeeps_buildGates (s : State) : LoadKeeps s (buildGates s) := by
  have raised (u : State) (g : Gate) : LoadKeeps u (raiseAjar g u) :=
    loadKeeps_of (.same (by simp)) rfl (by simp) (by simp) (by simp)
  have set (v : Gtc) : LoadKeeps s (s.setGtc v) := loadKeeps_of (.same rfl) rfl rfl rfl rfl
  exact (set _).trans (foldl_rel (R := LoadKeeps) .refl (fun _ _ _ => LoadKeeps.trans) raised _ _)

theorem sends_settlePosts (s : State) : Sends s (settlePosts s) :=
  PostsClosed.settlePosts (P := Sends s)
    { shed := fun t _ r _ h => sends_background.report (h.trans (sends_background.changeOutlet _ _ t)) r
      live := fun t n _ _ _ _ h => h.trans (sends_background.outletLive n t) } s (.same rfl)

theorem loadKeeps_load : LoadClosed LoadKeeps where
  refl := .refl
  trans _ _ _ := LoadKeeps.trans
  report := loadKeeps_report
  bst s v fault flight := ⟨rfl, rfl, rfl, .same rfl, fault, flight⟩
  pbc s v := loadKeeps_of (.same rfl) rfl rfl rfl rfl
  acu s v := ⟨rfl, rfl, rfl, .same rfl, rfl, fun none => none⟩
  fsc s v := loadKeeps_of (.same rfl) rfl rfl rfl rfl
  notices s v := ⟨rfl, rfl, rfl, .same rfl, rfl, fun none => none⟩
  waits n s := loadKeeps_of (sends_background.outletWaits n s) (State.ext_fields _ _ (by simp)) (by simp) (by simp) (by simp)
  suspended n s :=
    loadKeeps_of (sends_background.changeOutlet n _ s) (State.ext_fields _ _ (by simp)) (by simp) (by simp) (by simp)
  settle s := loadKeeps_of (sends_settlePosts s) (State.ext_fields _ _ (by simp)) (by simp) (by simp) (by simp)
  gates := loadKeeps_buildGates

/-- What ResetsAndTheEndOfTheLoad says of the order of the load. -/
theorem loadImage_loads (s : State) (body : List Byte) (read : Image) :
    let built := buildPosts (reloadPurses (loadRecords (handValues body read s)))
    loadImage body read s = buildPumps (buildGates (read.clamped.pins.foldl (fun x p => pinTag p x) built)) := by
  have kept := (loadKeeps_load.loadRecords (handValues body read s)).trans
    ((loadKeeps_load.reloadPurses _).trans (loadKeeps_load.buildPosts _))
  have cfg := kept.cfg_eq.trans (handValues_hands s body read).1
  intro built
  rw [← cfg]
  rfl

/-- What ResetsAndTheEndOfTheLoad says of the records. -/
theorem loadRecords_loads (s : State) :
    let ended := (List.range 8).foldl (fun x i => loadStatement (i + 1) x) s
    let r := loadStation ended
    let booked := if s.cfg.role = .pontoon then (List.range 256).foldl (fun x i => loadBooking (i + 1) x) r.1 else r.1
    let whole := if r.2 then booked else rebuildStation booked
    loadRecords s = if s.cfg.role = .pontoon then whole else whole.setBst { whole.bst with statements := [] } := by
  have statements := loadKeeps_load.foldl (fun x i => loadKeeps_load.loadStatement (i + 1) x) (List.range 8) s
  have station := loadKeeps_load.loadStation ((List.range 8).foldl (fun x i => loadStatement (i + 1) x) s)
  have bookings := loadKeeps_load.loadBookings (loadStation ((List.range 8).foldl (fun x i => loadStatement (i + 1) x) s)).1
    (s.cfg.role = .pontoon)
  have loaded := (statements.trans station).trans bookings
  intro ended r booked whole
  have kept : LoadKeeps s whole := by
    simp only [whole]
    split
    · exact loaded
    · exact loaded.trans (loadKeeps_load.rebuildStation _)
  have keeps : loadRecords s = keepStatements whole := rfl
  rw [keeps, keepStatements, kept.cfg_eq]

end Sys2Proof.Machine
end

section
/-! SUPPORT. A reset and the end of the load (R22, R192, R195, R196, R197, R198). -/

namespace Sys2Proof.Machine

/-! ### What a reset leaves of the record store -/

/-- The record store after a reset has cut off its writes. -/
theorem cutWrites_cuts {s : State} (form : s.store.wf) :
    (∀ id, (∀ w, s.bst.inFlight = some w → placeOf id ≠ placeOf w.id) →
      storedAt id (cutWrites s).store = storedAt id s.store) ∧
    (∀ w, s.bst.inFlight = some w → storedAt w.id (cutWrites s).store = storedAt w.id s.store ∨
      (storedAt w.id (cutWrites s).store).good = false) ∧
    (s.cfl.phase ≠ .writing → ∀ k, regionByte (cutWrites s).store k = regionByte s.store k) ∧
    (s.cfl.phase = .writing → s.cfl.staged ≠ [] → ∃ e, checkImage (imageBytes (cutWrites s).store) = .error e) := by
  have image (t : State) (id : RecordId) : storedAt id (breakImage t).store = storedAt id t.store := by
    simp [storedAt, breakImage, takeFree]
  have broken (t : State) (wf : t.store.wf) (some_byte : t.cfl.staged ≠ []) :
      ∃ e, checkImage (imageBytes (breakImage t).store) = .error e :=
    checkImage_breakRegion _ _ _ wf (List.length_pos_iff.2 some_byte)
  cases flight : s.bst.inFlight with
  | none =>
    have cut : cutWrites s = if s.cfl.phase == .writing then breakImage s else s := by simp only [cutWrites, flight]
    rw [cut]
    by_cases writing : s.cfl.phase = .writing
    · rw [if_pos (by rw [writing]; rfl)]
      refine ⟨fun id _ => image s id, fun w same => ?_, fun other => absurd writing other, fun _ => broken s form⟩
      cases same
    · rw [if_neg (by simpa using writing)]
      refine ⟨fun _ _ => rfl, fun w same => ?_, fun _ _ => rfl, fun is => absurd is writing⟩
      cases same
  | some w =>
    have cfl : (breakSlot w.id s).cfl = s.cfl := by simp
    have cut : cutWrites s = if s.cfl.phase == .writing then breakImage (breakSlot w.id s) else breakSlot w.id s := by
      simp only [cutWrites, flight, cfl]
    have others (id : RecordId) (apart : ∀ v, some w = some v → placeOf id ≠ placeOf v.id) :
        storedAt id (breakSlot w.id s).store = storedAt id s.store := storedAt_breakSlot_other _ _ _ (apart w rfl)
    have own (v : WriteInFlight) (same : some w = some v) : storedAt v.id (breakSlot w.id s).store = storedAt v.id s.store ∨
        (storedAt v.id (breakSlot w.id s).store).good = false := by
      cases same
      exact storedAt_breakSlot _ _ form
    rw [cut]
    by_cases writing : s.cfl.phase = .writing
    · rw [if_pos (by rw [writing]; rfl)]
      refine ⟨fun id apart => (image _ id).trans (others id apart), fun v same => ?_, fun other => absurd writing other,
        fun _ some_byte => broken _ (breakSlot_wf _ _ form) (by rwa [cfl])⟩
      rw [image]
      exact own v same
    · rw [if_neg (by simpa using writing)]
      exact ⟨others, own, fun _ _ => rfl, fun is => absurd is writing⟩

theorem cutWrites_idle {s : State} (noRecord : s.bst.inFlight = none) (noImage : s.cfl.phase ≠ .writing) : cutWrites s = s := by
  simp only [cutWrites, noRecord, beq_iff_eq, if_neg noImage]

/-! ### The station after a reset -/

/-- The station after a reset, the image refused. -/
def refusedLoad (cause : ResetCause) (r : ConfigReason) (o : Option Nat) (s : State) : State :=
  (cleared cause s).setCfl { (cleared cause s).cfl with load := .fault r o }

theorem resetWith_unread (cause : ResetCause) (s : State) :
    resetWith cause false s = refusedLoad cause .store none (cutWrites s) := rfl

section
variable (cause : ResetCause) {s : State}

theorem resetWith_refused {r : ConfigReason} {o : Option Nat} (bad : checkImage (imageBytes (cutWrites s).store) = .error (r, o)) :
    resetWith cause true s = refusedLoad cause r o (cutWrites s) := by
  have same : (cleared cause (cutWrites s)).store = (cutWrites s).store := rfl
  simp only [resetWith, if_true, same, bad]
  rfl

theorem resetWith_accepted {image : Image} (good : checkImage (imageBytes (cutWrites s).store) = .ok image) :
    resetWith cause true s = loadImage (imageBody (imageBytes (cutWrites s).store)) image (cleared cause (cutWrites s)) := by
  have same : (cleared cause (cutWrites s)).store = (cutWrites s).store := rfl
  simp only [resetWith, if_true, same, good]

end

theorem afreshAt_refusedLoad (cause : ResetCause) (r : ConfigReason) (o : Option Nat) (s : State) :
    (refusedLoad cause r o s).afreshAt := ⟨rfl, rfl, rfl, rfl, rfl, rfl, rfl, rfl, rfl, rfl, rfl, rfl, rfl, rfl, rfl⟩

/-- What a load behind a reset keeps of it. -/
theorem loadImage_keeps (body : List Byte) (read : Image) (s : State) :
    LoadKeeps (handValues body read s) (loadImage body read s) := loadKeeps_load.load _

theorem afreshAt_loadImage (cause : ResetCause) (body : List Byte) (read : Image) (s : State) :
    (loadImage body read (cleared cause s)).afreshAt := by
  have kept := loadImage_keeps body read (cleared cause s)
  obtain ⟨-, cfl, -, -, bst, -, -, -, qlc, dck, -, -, frame⟩ := handValues_hands (cleared cause s) body read
  have flight : (handValues body read (cleared cause s)).bst.inFlight = none := by
    rw [bst]
    rfl
  have fault : (handValues body read (cleared cause s)).bst.fault = false := by
    rw [bst]
    rfl
  have lookups : (handValues body read (cleared cause s)).acu.lookups = [] := by
    rw [frame]
    rfl
  generalize handValues body read (cleared cause s) = u at *
  generalize loadImage body read (cleared cause s) = t at *
  have plain := kept.frame
  have queue := kept.sends.rest
  have values := kept.cfl
  rw [cfl] at values
  rw [qlc] at queue
  refine ⟨?_, ?_, ?_, ?_, kept.lookups.trans lookups, ?_, ?_, ?_, ?_, ?_, ?_, ?_, ?_, kept.fault.trans fault, kept.flight flight⟩
  · rw [plain, frame]
    rfl
  · rw [plain, dck]
    rfl
  · rw [plain, dck]
    rfl
  · rw [plain, frame]
    rfl
  · rw [plain, frame]
    rfl
  · rw [queue]
    rfl
  · rw [queue]
    rfl
  · rw [queue]
    rfl
  · rw [queue]
    rfl
  · rw [values]
    rfl
  · rw [values]
    rfl
  · rw [values]
    rfl

/-- Whatever a reset finds in the store, nothing of what ran is left (R198). -/
theorem afreshAt_resetWith (cause : ResetCause) (ready : Bool) (s : State) : (resetWith cause ready s).afreshAt := by
  cases ready with
  | false => exact afreshAt_refusedLoad _ _ _ _
  | true =>
    cases checked : checkImage (imageBytes (cutWrites s).store) with
    | error e =>
      rw [resetWith_refused cause (r := e.1) (o := e.2) checked]
      exact afreshAt_refusedLoad _ _ _ _
    | ok image =>
      rw [resetWith_accepted cause checked]
      exact afreshAt_loadImage _ _ _ _

/-! ### The commands -/

theorem exec_resets {s : State} {ready : Bool} {cause : ResetCause} {i : Instr}
    (runs : cause = .powerOn ∧ i = .powerOnReset ready ∨
      cause = .command ∧ i = .replySent ready ∧ s.tpc.state = .replying ∧ s.tpc.reply = some (answer .restart .ok)) :
    exec i s = .next (resetWith cause ready s) := by
  rcases runs with ⟨rfl, rfl⟩ | ⟨rfl, rfl, replying, reply⟩
  · rfl
  · simp only [exec, execReplySent, replying, reply]
    rfl

/-- What ResetsAndTheEndOfTheLoad says of a reset that cuts off no write. -/
theorem reset_leaves (s : State) (ready : Bool) (cause : ResetCause) (i : Instr) (noRecord : s.bst.inFlight = none)
    (noImage : s.cfl.phase ≠ .writing) (runs : cause = .powerOn ∧ i = .powerOnReset ready ∨
      cause = .command ∧ i = .replySent ready ∧ s.tpc.state = .replying ∧ s.tpc.reply = some (answer .restart .ok)) :
    ∃ t, exec i s = .next t ∧ t.afreshAt ∧ t.pending = s.pending ∧ t.free = s.free ∧ t.door1 = s.door1 ∧
      t.door2 = s.door2 ∧ t.store = s.store ∧
      (let without (r : ConfigReason) (o : Option Nat) : Prop :=
        t.cfl.load = .fault r o ∧ t.cfg = blankImage ∧ t.bst = {} ∧ t.gtc = {} ∧ t.fsc = {} ∧
          (∀ n, t.pumpLine n = .disabled) ∧ (∀ berth serial, t.addressed berth serial = .error .noBerth) ∧
          t.evj = { entries := [⟨1, none, .restart cause⟩], next := 2, mark := 1 }
       if ready then
        match checkImage (imageBytes s.store) with
        | .ok image => t.cfl.load = .accepted ∧ t.cfg = image.clamped ∧
          t = loadImage (imageBody (imageBytes s.store)) image { State.reset with
            pending := s.pending, free := s.free, door1 := s.door1, door2 := s.door2, store := s.store
            evj := { entries := [⟨1, none, .restart cause⟩], next := 2, mark := 1 } }
        | .error (r, o) => without r o
       else without .store none) := by
  have cut := cutWrites_idle noRecord noImage
  refine ⟨_, exec_resets runs, afreshAt_resetWith _ _ _, ?_⟩
  cases ready with
  | false =>
    rw [resetWith_unread, cut]
    exact ⟨rfl, rfl, rfl, rfl, rfl, rfl, rfl, rfl, rfl, rfl, fun _ => rfl, fun _ _ => rfl, rfl⟩
  | true =>
    simp only [if_true]
    cases checked : checkImage (imageBytes s.store) with
    | error e =>
      rw [resetWith_refused cause (r := e.1) (o := e.2) (by rw [cut]; exact checked), cut]
      exact ⟨rfl, rfl, rfl, rfl, rfl, rfl, rfl, rfl, rfl, rfl, fun _ => rfl, fun _ _ => rfl, rfl⟩
    | ok image =>
      rw [resetWith_accepted cause (by rw [cut]; exact checked), cut]
      have kept := loadImage_keeps (imageBody (imageBytes s.store)) image (cleared cause s)
      obtain ⟨cfg, cfl, -, -, -, -, -, -, -, -, -, -, frame⟩ :=
        handValues_hands (cleared cause s) (imageBody (imageBytes s.store)) image
      have load : (loadImage (imageBody (imageBytes s.store)) image (cleared cause s)).cfl.load = .accepted := by
        rw [kept.cfl, cfl]
      have configured := kept.cfg_eq.trans cfg
      have plain := kept.frame
      refine ⟨?_, ?_, ?_, ?_, ?_, load, configured, rfl⟩ <;> rw [plain, frame] <;> rfl

/-- What ResetsAndTheEndOfTheLoad says of a reset that may cut off writes. -/
theorem reset_cuts (s : State) (ready : Bool) (i : Instr) (form : s.store.wf) (runs : i = .powerOnReset ready ∨
      i = .replySent ready ∧ s.tpc.state = .replying ∧ s.tpc.reply = some (answer .restart .ok)) :
    ∃ t, exec i s = .next t ∧ t.afreshAt ∧
      (∀ id, (∀ w, s.bst.inFlight = some w → placeOf id ≠ placeOf w.id) → storedAt id t.store = storedAt id s.store) ∧
      (∀ w, s.bst.inFlight = some w →
        storedAt w.id t.store = storedAt w.id s.store ∨ (storedAt w.id t.store).good = false) ∧
      (s.cfl.phase ≠ .writing → ∀ k, regionByte t.store k = regionByte s.store k) ∧
      (s.cfl.phase = .writing → s.cfl.staged ≠ [] → ∃ r o, t.cfl.load = .fault r o) := by
  obtain ⟨cause, resets⟩ : ∃ cause, exec i s = .next (resetWith cause ready s) := by
    rcases runs with power | command
    · exact ⟨.powerOn, exec_resets (.inl ⟨rfl, power⟩)⟩
    · exact ⟨.command, exec_resets (.inr ⟨rfl, command⟩)⟩
  obtain ⟨others, own, region, broken⟩ := cutWrites_cuts form
  refine ⟨_, resets, afreshAt_resetWith _ _ _, ?_⟩
  rw [(resetWith_stays cause ready s).2]
  refine ⟨others, own, region, fun writing some_byte => ?_⟩
  cases ready with
  | false => exact ⟨_, _, rfl⟩
  | true =>
    obtain ⟨e, bad⟩ := broken writing some_byte
    rw [resetWith_refused cause (r := e.1) (o := e.2) bad]
    exact ⟨_, _, rfl⟩

/-- What ResetsAndTheEndOfTheLoad says of the end of any other reply. -/
theorem replySent_waits (s : State) (ready : Bool) (r : Reply) (replying : s.tpc.state = .replying) (reply : s.tpc.reply = some r)
    (other : ¬(r.code = .known .restart ∧ r.result = .ok)) :
    exec (.replySent ready) s = .next (s.setTpc { s.tpc with state := .waiting, reply := none }) := by
  have same : ¬(r.code == .known .restart && r.result == .ok) = true := by simpa using other
  simp only [exec, execReplySent, replying, reply]
  rw [if_neg same]

/-- The state in which the load has ended, before its outcome is written. -/
def loadOver (s : State) : State := s.setCfl { s.cfl with starting := false, notices := [] }

theorem exec_loadEnd {s : State} (starting : s.cfl.starting = true) : exec .loadEnd s = .next (settled s (endLoad s)) := by
  simp only [exec, execLoadEnd, starting, if_true]
  rfl

theorem endLoad_fault {s : State} {r : ConfigReason} {o : Option Nat} (fault : s.cfl.load = .fault r o) :
    endLoad s = report (.configRejected r o) (loadOver s) := by
  unfold endLoad
  split
  · next accepted => exact nomatch fault.symm.trans accepted
  · next other =>
    cases fault.symm.trans other
    rfl

/-- The entry of an accepted image. -/
def loadedNote (s : State) : Report :=
  .configLoaded (imageLength (regionBytes s.store 0 6)) (imageCheck (regionBytes s.store 0 6)).toNat

theorem endLoad_accepted {s : State} (accepted : s.cfl.load = .accepted) : endLoad s =
    report (loadedNote s) (s.cfl.notices.foldl (fun x n => notice n.1 n.2.1 n.2.2.1 n.2.2.2 x) (loadOver s)) := by
  unfold endLoad
  split
  · rfl
  · next other => exact nomatch accepted.symm.trans other

/-- The outcome alone written: nothing for the posts to do (R100, R101). -/
theorem settled_outcome {s : State} (fits : s.fits) (r : Report) :
    settled s (report r (loadOver s)) = report r (loadOver s) :=
  settled_same _ _ (by simp [loadOver]) (by simp [loadOver]) (classOf_same _ _ (by simp [loadOver])) fits

/-- What ResetsAndTheEndOfTheLoad says of the end of the load. -/
theorem loadEnd_ends (s : State) (starting : s.cfl.starting = true) :
    ∃ t, exec .loadEnd s = .next t ∧ t.cfl = { s.cfl with starting := false, notices := [] } ∧
      (∀ r o, s.cfl.load = .fault r o → s.fits → s.journalled t (.configRejected r o) ∧ t.evj.attention = true ∧
        t = { s with cfl := t.cfl, evj := t.evj }) ∧
      (s.cfl.load = .accepted →
        (∃ u, t = settled s u ∧ u = report
          (.configLoaded (imageLength (regionBytes s.store 0 6)) (imageCheck (regionBytes s.store 0 6)).toNat)
          (s.cfl.notices.foldl (fun x n => notice n.1 n.2.1 n.2.2.1 n.2.2.2 x)
            (s.setCfl { s.cfl with starting := false, notices := [] }))) ∧
        (s.fits → s.cfl.notices = [] →
          s.journalled t (.configLoaded (imageLength (regionBytes s.store 0 6)) (imageCheck (regionBytes s.store 0 6)).toNat) ∧
          t = { s with cfl := t.cfl, evj := t.evj })) := by
  refine ⟨_, exec_loadEnd starting, ?_, fun r o fault fits => ?_, fun accepted => ⟨⟨_, rfl, endLoad_accepted accepted⟩,
    fun fits none => ?_⟩⟩
  · have cfl : (endLoad s).cfl = (loadOver s).cfl := by
      cases load : s.cfl.load with
      | fault r o =>
        rw [endLoad_fault load]
        simp
      | accepted =>
        have noticed : (s.cfl.notices.foldl (fun x n => notice n.1 n.2.1 n.2.2.1 n.2.2.2 x) (loadOver s)).cfl = (loadOver s).cfl :=
          foldl_same State.cfl _ (fun _ _ => by simp) _ _
        rw [endLoad_accepted load, ← noticed]
        simp
    rw [← show (loadOver s).cfl = { s.cfl with starting := false, notices := [] } from rfl, ← cfl]
    simp
  · rw [endLoad_fault fault, settled_outcome fits]
    refine ⟨journalled_report _ rfl rfl, ?_, rfl⟩
    have faulty : (report (.configRejected r o) (loadOver s)).evj.attention =
        (!false && (decide (128 ≤ (report (.configRejected r o) (loadOver s)).evj.unread) ||
          (report (.configRejected r o) (loadOver s)).anyNotice || s.cfl.load != .accepted)) := rfl
    rw [faulty, fault]
    simp
  · rw [endLoad_accepted accepted, none, List.foldl_nil, settled_outcome fits]
    exact ⟨journalled_report _ rfl rfl, rfl⟩

/-- Settles O52: a reset by the store its writes leave, the load stage by stage, its end by its notices. -/
theorem resetsAndTheEndOfTheLoad : Obligations.ResetsAndTheEndOfTheLoad :=
  ⟨reset_leaves, reset_cuts, replySent_waits, loadEnd_ends, loadImage_loads, handValues_hands, loadRecords_loads,
    loadStatement_loads, loadStation_loads, loadBooking_loads, reloadPurses_reloads, buildPosts_builds, startOutlet_starts,
    startTap_starts, clearStrayWanted_clears, pinTag_pins, buildGates_builds, buildPumps_builds, loadListSlot_loads,
    loadPumpSlot_loads, notice_notices⟩

end Sys2Proof.Machine
end
